-- ==== Sys2Proof/Word.lean ====
section
/-! DEFINITION. The word type of the block, its identifiers (pages, requesters, severities) and the
plainest arithmetic over them. -/
namespace Sys2Proof

/-- Contents of one 32-bit register (02_control_model.md: every register is 32 bits). -/
abbrev Word := BitVec 32

/-- Contents of one byte of an addressed memory. -/
abbrev Byte := BitVec 8

/-- A page of the register space (R616). An instance number is the page's global index (R618). -/
inductive Page where
  | chip | task | irq | pwr | therm | time | chain | ptp | nw | mon | scan | emit | code | cal | sky
  | stream | comp | host | net (i : Nat) | sec | alm | res | flash
  | lane (n : Nat) | qtr (q : Nat) | pool (q : Nat) | clu (k : Nat) | bay (b : Nat)
  deriving DecidableEq, Repr

/-- The requesters of R43. -/
inductive Requester where
  | firmware | pcie | net0 | net1 | chain | debug
  deriving DecidableEq, Repr

/-- The 4-bit requester code of R43. -/
def Requester.code : Requester → Nat
  | .firmware => 0 | .pcie => 1 | .net0 => 2 | .net1 => 3 | .chain => 4 | .debug => 5

/-- The severities of R77, in rising order. -/
inductive Severity where
  | info | degraded | dataLost | unsafeSev
  deriving DecidableEq, Repr

/-- The numeric value of a severity (R77). -/
def Severity.val : Severity → Nat
  | .info => 0 | .degraded => 1 | .dataLost => 2 | .unsafeSev => 3

/-- Source number s of a page (R81). It is also the page's number n among the chip pages (R616). -/
def Page.num : Page → Nat
  | .chip => 0x00 | .task => 0x01 | .irq => 0x02 | .pwr => 0x03 | .therm => 0x04 | .time => 0x05
  | .chain => 0x06 | .ptp => 0x07 | .nw => 0x08 | .mon => 0x09 | .scan => 0x0A | .emit => 0x0B
  | .code => 0x0C | .cal => 0x0D | .sky => 0x0E | .stream => 0x0F | .comp => 0x10 | .host => 0x11
  | .net i => 0x12 + i % 2 | .sec => 0x14 | .alm => 0x15 | .res => 0x16 | .flash => 0x17
  | .lane n => 0x20 + n % 12 | .qtr q => 64 + q % 4 | .pool q => 68 + q % 4
  | .clu k => 96 + k % 32 | .bay b => 128 + b % 48

/-- Key of the register at offset `off` of page `g` in the register file. -/
def regKey (g : Page) (off : Nat) : Nat := g.num * 4096 + off

end Sys2Proof
end

