-- ==== Sys2Proof/Msg.lean ====
section
/-! DEFINITION. The operands of the commands that are more than a number: packets, messages and what a command
finds outside the block (measurements and the outside world's answers). -/
namespace Sys2Proof

/-- What a task step finds outside the block (R71): whether the step's own work succeeded, its measured numbers
(counts of a code-density run, estimates, a BIST unit's failures, the kernel IDs of a section) and, where a signature was checked, its outcome. -/
structure StepEnv where
  ok : Bool := true
  code : Nat := 0
  vals : List (List Int) := []
  deriving DecidableEq, Repr

/-- A fault with no row of its own that a page detects (R28, R78): the page, the cause bit and the reporting unit. -/
structure FoundFault where
  page : Page
  bit : Nat
  unit : Nat
  deriving DecidableEq, Repr

/-- The header of a register-access packet (R86) with its source address and its UDP ports. -/
structure RaHeader where
  version : Nat
  unit : Nat
  seq : Nat
  count : Nat
  srcIp : Nat
  dstPort : Nat
  srcPort : Nat := 0
  deriving DecidableEq, Repr

/-- What a self-check or a release check of one channel measured (R106, R108): which comparator stayed silent or did not
release, which converter delivered its TEST word, the leading time from the injection (none: the channel's stored reference
delay) and the time over threshold, both in ticks. -/
structure CheckResult where
  bay : Fin 48
  c : Fin 8
  armSilent : Bool := false
  valSilent : Bool := false
  armHeld : Bool := false
  valHeld : Bool := false
  leadWord : Bool := true
  trailWord : Bool := true
  lead : Option Int := none
  tot : Int := 2048
  deriving DecidableEq, Repr

/-- What one control cycle of the scan engine finds at the encoder (R209, R213, R215): the count within the facet, the timestamp
of its last edge and the time from the edge before, ns, and an illegal transition. -/
structure ScanEnv where
  count : Nat := 0
  edgeAt : Nat := 0
  edgeStep : Nat := 0
  encFault : Bool := false
  deriving DecidableEq, Repr

/-- The content of a TRAIN block (R417): ACK, SPARE, the logical lane and the port it names. -/
structure TrainMsg where
  ack : Bool
  spare : Bool
  logical : Nat
  port : Nat
  deriving DecidableEq, Repr

/-- The engine that runs a kernel and the stage of its chain that posts (R289, R292 to R295). -/
structure EngStage where
  e : Fin 512
  stage : Fin 8
  deriving DecidableEq, Repr

/-- The place of a value that the block works out itself, so that the command carries none. -/
abbrev Own := Unit

/-- A Krylink message as it arrives (R440, R442): sender, destination, the payload's fields in the order of R442, and for
REG_REQ, REG_RESP and STREAM_FWD the payload itself as words. Times of DELAY messages are in ticks. -/
structure ChainMsg where
  src : Nat
  dst : Nat
  args : List Nat := []
  words : List Word := []
  deriving DecidableEq, Repr

/-- A gPTP message (R464) at Ethernet port `port`: its domain and its content. Sync: the origin's TAI, the correction, the
Meridian time of its arrival, all ns, and its log2 interval. Announce: priority1, clockClass, clockAccuracy, variance,
priority2, clockIdentity, stepsRemoved, currentUtcOffset, its validity. Pdelay_Req: its number and its arrival, ns.
Pdelay_Resp with its Follow_Up: its number and the times t1 to t4, ns. -/
structure PtpMsg where
  port : Fin 2
  domain : Nat
  args : List Int
  deriving DecidableEq, Repr

/-- What a sample of a monitor channel is made of (R511, R513): the modulator's words of its output period, the first of them
first, and whether the channel's excitation source is in compliance (R525). -/
structure MonIn where
  words : List Int := []
  compliance : Bool := false
  deriving DecidableEq, Repr

/-- What one thermal model sample measures (R544, R545): each node's temperature after the model's step, 0.1 C; the valid
diode readings; the current monitors, mA; the power estimates of the device and of each region, mW. The model's
coefficients are the firmware's and not in the spec. -/
structure ThermEnv where
  nodes : List Int := []
  diodes : List (Option Int) := []
  imon : List Nat := []
  power : Nat := 0
  regions : List Nat := []
  deriving DecidableEq, Repr

/-- What the boot ROM finds in the flash's JESD216 table (R584, R603): whether it takes 8D-8D-8D, and its size as a power
of 2. -/
structure BootEnv where
  octal : Bool
  sizeLog2 : Nat
  deriving DecidableEq, Repr

/-- What firmware initialisation finds (R605): the numbers of pages whose domain does not wake, the kernel IDs of the recorded
bundle (R608), and the time it took, ms. -/
structure InitEnv where
  fails : List Nat := []
  ids : List Nat := []
  ms : Nat := 38
  deriving DecidableEq, Repr

end Sys2Proof
end

