-- ==== Sys2Proof/Syntax.lean ====
section
/-! DEFINITION. The commands of the block: one constructor per row of spec/opcode_table.json, in its order,
with the operands the row's rule names. -/
namespace Sys2Proof

/-- A command: a register access by a requester, a message or an edge from outside, or an event of one of the
block's own units at the instant the spec gives it. -/
inductive Instr where
  /-- PAGE_ENABLE: a PAGE_CTRL write that sets EN. -/
  | pageEnable (g : Page) (req : Requester)
  /-- PAGE_DISABLE: a PAGE_CTRL write that clears EN. -/
  | pageDisable (g : Page) (req : Requester)
  /-- PAGE_QUIESCE: a PAGE_CTRL write that sets QUIESCE. -/
  | pageQuiesce (g : Page) (req : Requester)
  /-- DRAIN_REQ: a PAGE_CTRL write that sets DRAIN_REQ. -/
  | drainReq (g : Page) (req : Requester)
  /-- PAGE_RESUME: a PAGE_CTRL write that sets RESUME. -/
  | pageResume (g : Page) (req : Requester)
  /-- PAGE_RESET: a PAGE_CTRL write that sets PAGE_RESET, with its RESET_KEY and EN. -/
  | pageReset (g : Page) (req : Requester) (key : BitVec 8) (en : Bool)
  /-- DRAIN_COMPLETE: the page's drain ends. -/
  | drainComplete (g : Page)
  /-- WAKE_COMPLETE: the page's wake ends. -/
  | wakeComplete (g : Page)
  /-- QUIESCE_DONE: the page's work in flight has ended. -/
  | quiesceDone (g : Page)
  /-- WAKE_FAIL: a domain that does not wake. -/
  | wakeFail (g : Page)
  /-- ERR_STATUS_CLEAR: a W1C write of ERR_STATUS. -/
  | errStatusClear (g : Page) (req : Requester) (mask : Word)
  /-- ERR_FIRST_CLEAR: a write of 1 to ERR_FIRST.VALID. -/
  | errFirstClear (g : Page) (req : Requester)
  /-- IRQ_STATUS_ACK: a W1C write of IRQ_STATUS. -/
  | irqStatusAck (g : Page) (req : Requester) (mask : Word)
  /-- SEQ_APPLIED_TAG: a write of SEQ_APPLIED.TAG. -/
  | seqAppliedTag (g : Page) (req : Requester) (tag : BitVec 28)
  /-- SHADOW_ARM: a SHADOW_CTRL write that sets ARM, with its MODE. -/
  | shadowArm (g : Page) (req : Requester) (mode : BitVec 2)
  /-- SHADOW_COMMIT: a SHADOW_CTRL write that sets COMMIT, with its MODE. -/
  | shadowCommit (g : Page) (req : Requester) (mode : BitVec 2)
  /-- SHADOW_DISCARD: a SHADOW_CTRL write that sets DISCARD, with its MODE. -/
  | shadowDiscard (g : Page) (req : Requester) (mode : BitVec 2)
  /-- REGISTER_WRITE: a write of one register. -/
  | registerWrite (req : Requester) (addr : Word) (data : Word)
  /-- FENCE: a write of CHIP.FENCE. -/
  | fence (req : Requester) (token : BitVec 16)
  /-- FENCE_COMPLETE: the requester's oldest fence completes. -/
  | fenceComplete (req : Requester)
  /-- TASK_CANCEL: a write of CTRL.CANCEL. -/
  | taskCancel (slot : Fin 16) (req : Requester)
  /-- TASK_RELEASE: a write of CTRL.RELEASE. -/
  | taskRelease (slot : Fin 16) (req : Requester)
  /-- TASK_START: the oldest queued task starts. -/
  | taskStart
  /-- TASK_STEP: the next step of a running task, with what the step finds outside the block. -/
  | taskStep (slot : Fin 16) (env : StepEnv)
  /-- FAULT_REPORT: the oldest report reaches the level above, or a fault with no row of its own is detected and contained. -/
  | faultReport (found : Option FoundFault)
  /-- RA_READ: a READ register-access packet. -/
  | raRead (port : Fin 2) (h : RaHeader) (addrs : List Word)
  /-- RA_WRITE: a WRITE register-access packet. -/
  | raWrite (port : Fin 2) (h : RaHeader) (entries : List (Word × Word))
  /-- RA_FENCE: a FENCE register-access packet. -/
  | raFence (port : Fin 2) (h : RaHeader)
  /-- REMOTE_ACCESS_TIMEOUT: the requester's remote access meets its time limit. -/
  | remoteAccessTimeout (req : Requester)
  /-- CAL_TDC: GO on a slot whose OP.CODE is 0x01. -/
  | calTdc (slot : Fin 16) (req : Requester)
  /-- CAL_WAVE: GO on a slot whose OP.CODE is 0x02. -/
  | calWave (slot : Fin 16) (req : Requester)
  /-- BIST: GO on a slot whose OP.CODE is 0x10. -/
  | bist (slot : Fin 16) (req : Requester)
  /-- MRAM_WRITE: GO on a slot whose OP.CODE is 0x20. -/
  | mramWrite (slot : Fin 16) (req : Requester)
  /-- IMAGE_VERIFY: GO on a slot whose OP.CODE is 0x21. -/
  | imageVerify (slot : Fin 16) (req : Requester)
  /-- RESERVE_SWAP: GO on a slot whose OP.CODE is 0x30. -/
  | reserveSwap (slot : Fin 16) (req : Requester)
  /-- SNAPSHOT_EXPORT: GO on a slot whose OP.CODE is 0x40. -/
  | snapshotExport (slot : Fin 16) (req : Requester)
  /-- TASK_BAD_CODE: GO on a slot whose OP.CODE is none of R69. -/
  | taskBadCode (slot : Fin 16) (req : Requester)
  /-- LEADING_EDGE: an arming edge at time t, in ticks. -/
  | leadingEdge (bay : Fin 48) (c : Fin 8) (t : Nat)
  /-- VALIDATING_ASSERT: the validating comparator asserts at time t, in ticks. -/
  | validatingAssert (bay : Fin 48) (c : Fin 8) (t : Nat)
  /-- TRAILING_EDGE: the arming comparator deasserts at time t, in ticks. -/
  | trailingEdge (bay : Fin 48) (c : Fin 8) (t : Nat)
  /-- EVENT_EMIT: the channel's closed event leaves for the builder. -/
  | eventEmit (bay : Fin 48) (c : Fin 8)
  /-- TOT_MAX_EXPIRY: TOT_MAX has passed since the leading edge. -/
  | totMaxExpiry (bay : Fin 48) (c : Fin 8)
  /-- TIMEOUT_MARKER: CH cell timeout after a start without an event. -/
  | timeoutMarker (bay : Fin 48) (c : Fin 8)
  /-- MISSED_WORD: the channel emits its missed-edge word. -/
  | missedWord (bay : Fin 48) (c : Fin 8)
  /-- COMP_STUCK_HIGH: a comparator has stayed asserted for the stuck time. -/
  | compStuckHigh (bay : Fin 48) (c : Fin 8) (validating : Bool)
  /-- CH_RELEASE: a write of BAY.CH_RELEASE. -/
  | chRelease (bay : Fin 48) (req : Requester) (mask : BitVec 8)
  /-- REF_LOST: no reference edge within the loss time. -/
  | refLost
  /-- REF_PRESENT: the reference has had edges for the presence time. -/
  | refPresent
  /-- PLL_LOCKED: the PLL locks; phase error left to slew, in ticks. -/
  | pllLocked (phaseErr : Int)
  /-- PLL_UNLOCK: the PLL loses lock. -/
  | pllUnlock
  /-- SLEW_END: the slew after a holdover ends. -/
  | slewEnd
  /-- QUAL_GATE: one qualifier gate ends, with its count. -/
  | qualGate (cycles : Nat)
  /-- VERNIER_MEASURE: a vernier visit, with the counts of the two rings. -/
  | vernierMeasure (bay : Fin 48) (conv : Fin 17) (fast slow : Nat)
  /-- CAL_RUN_DONE: one code-density run ends with its 256 counts. -/
  | calRunDone (bay : Fin 48) (conv : Fin 17) (counts : List Nat)
  /-- AUTO_CAL_SUBMIT: automatic calibration submits a CAL_TDC. -/
  | autoCalSubmit (bay : Fin 48) (convMask : BitVec 17)
  /-- RZ_RESEED: a write of CAL.CTRL.RZ_RESEED. -/
  | rzReseed (req : Requester)
  /-- WAVE_ESTIMATE: a new correction estimate of one slice. -/
  | waveEstimate (bay : Fin 48) (slice : Fin 5) (offset gain skew : Int)
  /-- BURST_LAUNCH: the port's next planned burst reaches its launch instant. -/
  | burstLaunch (port : Fin 48)
  /-- LEDGER_CHARGE: Nightwatch charges the port's last launched burst. -/
  | ledgerCharge (port : Fin 48)
  /-- HALO_WINDOW_CLOSE: the port's Halo window closes. -/
  | haloWindowClose (port : Fin 48)
  /-- PROOF_BURST: a proof burst of an UNVERIFIED port is due. -/
  | proofBurst (port : Fin 48)
  /-- RESUME_PROOF: a proof burst of a resume check is due. -/
  | resumeProof (port : Fin 48)
  /-- PORT_CLEAR: a write of EMIT.PORT_CLEAR. -/
  | portClear (req : Requester) (mask : BitVec 48)
  /-- DWELL_REQUEST: the engine's oldest posted dwell request reaches the shot scheduler. -/
  | dwellRequest (e : Fin 512)
  /-- STARLINE_TRANSFER_DONE: a Starline transfer ends. -/
  | starlineTransferDone (wire : Fin 4)
  /-- APPLY_PULSE: the apply pulse goes out on every wire. -/
  | applyPulse
  /-- TEMP_SOURCE_TIMEOUT: a group's temperature source has given no valid sample for 1 s. -/
  | tempSourceTimeout (group : Fin 4)
  /-- CODE_BANK_FILLED: the generator has filled the inactive code bank. -/
  | codeBankFilled
  /-- CONTROL_CYCLE: one cycle of the scan control loop. -/
  | controlCycle (env : ScanEnv)
  /-- HALF_PERIOD: a fast-axis half period ends with its measurement. -/
  | halfPeriod (amp phase freq : Int)
  /-- ENCODER_INDEX: the encoder index, with the counts since the last. -/
  | encoderIndex (count : Nat)
  /-- FACET_END: a polygon facet ends, with its rate. -/
  | facetEnd (rate : Nat)
  /-- START_TIMEOUT: START_CFG's time has passed in STARTING. -/
  | startTimeout
  /-- FAST_EN_SET: a write that sets SCAN.CTRL.FAST_EN. -/
  | fastEnSet (req : Requester)
  /-- FAST_EN_CLEAR: a write that clears SCAN.CTRL.FAST_EN. -/
  | fastEnClear (req : Requester)
  /-- FRAME_EN_SET: a write that sets SCAN.CTRL.FRAME_EN. -/
  | frameEnSet (req : Requester)
  /-- FRAME_EN_CLEAR: a write that clears SCAN.CTRL.FRAME_EN. -/
  | frameEnClear (req : Requester)
  /-- SCAN_CLEAR: a write of SCAN.CTRL.CLEAR. -/
  | scanClear (req : Requester)
  /-- MOTION_DONE: the slow-axis motion or drive ramp ends. -/
  | motionDone
  /-- FRAME_START: the frame start instant. -/
  | frameStart
  /-- SYNC0_EDGE: a SYNC0 edge at Meridian time t, ns. -/
  | sync0Edge (t : Nat)
  /-- SYNC_WINDOW_EXPIRY: the SYNC0 window closes without an edge. -/
  | syncWindowExpiry
  /-- FLYBACK: F + FRAME_ACTIVE, with what the self-checks of each channel measured. -/
  | flyback (checks : List CheckResult)
  /-- COLUMN_PLAN: 1 us before the crossing of boundary k in direction dir; the block's own model predicts it and its column. -/
  | columnPlan (k : Nat) (dir : Bool) (predicted dur : Own)
  /-- BOUNDARY_CROSSING: the crossing fixed ahead takes place, at the time fixed for it. -/
  | boundaryCrossing (t : Own)
  /-- COLUMN_OVERRUN: the open column ends at its start plus twice its predicted duration. -/
  | columnOverrun
  /-- EVENT_ARRIVAL: the oldest event of the bay reaches the builder. -/
  | eventArrival (bay : Fin 48)
  /-- THINNING_INTERVAL_END: one thinning interval ends. -/
  | thinningIntervalEnd (bay : Fin 48)
  /-- POOL_GRANT: the first request in priority order is granted. -/
  | poolGrant (q : Fin 4)
  /-- POOL_REFUSAL: the oldest request past WAIT_LIMIT is refused. -/
  | poolRefusal (q : Fin 4)
  /-- HISTOGRAM_CLOSE: the bay's next histogram closes. -/
  | histogramClose (bay : Fin 48)
  /-- DESCRIPTOR_ENQUEUE: a held descriptor enters the bay's dispatch queue. -/
  | descriptorEnqueue (bay : Fin 48)
  /-- DISPATCH: the region dispatches the next descriptor to an idle engine. -/
  | dispatch (q : Fin 4)
  /-- ENGINE_LATE: the oldest queued descriptor passes DISPATCH_LIMIT. -/
  | engineLate (q : Fin 4)
  /-- SCRUB_PERIOD_END: a scrub period ends, with the corrections found by bank. -/
  | scrubPeriodEnd (q : Fin 4) (corrections : List Nat)
  /-- POOL_ECC_ERROR: an uncorrectable error in one bank, at a word of one chunk. -/
  | poolEccError (q : Fin 4) (bank : Fin 33) (chunk : Fin 4096)
  /-- POST_RECORD: a kernel posts a return record. -/
  | postRecord (e : Fin 512) (stage : Fin 8) (w : List Word)
  /-- POST_DWELL: a kernel posts a dwell request. -/
  | postDwell (e : EngStage) (w0 w1 : Word)
  /-- POST_CAPTURE: a kernel posts a capture request. -/
  | postCapture (e : EngStage) (w : List Word)
  /-- POST_CONSUMED: a kernel posts CONSUMED. -/
  | postConsumed (e : EngStage)
  /-- POST_ASSERT: a kernel posts ASSERT. -/
  | postAssert (e : Fin 512) (stage : Fin 8) (val : Word)
  /-- CHAIN_END: a kernel chain ends after so many cycles. -/
  | chainEnd (e : Fin 512) (cycles : Nat)
  /-- KERNEL_TRAP: a trap of R298. -/
  | kernelTrap (e : Fin 512) (stage : Fin 8) (cause : Fin 7)
  /-- CYCLE_LIMIT: the chain has used its cycle budget. -/
  | cycleLimit (e : Fin 512) (stage : Fin 8)
  /-- KUNBLOCK: a write of KUNBLOCK. -/
  | kunblock (q : Fin 4) (req : Requester) (id : BitVec 8)
  /-- ENG_RELEASE: a write of ENG_RELEASE. -/
  | engRelease (k : Fin 32) (req : Requester) (mask : BitVec 16)
  /-- ENGINE_SELF_TEST_DONE: an engine's self-test ends. -/
  | engineSelfTestDone (e : Fin 512) (pass : Bool)
  /-- STATS_CLEAR: a write of CLU.CTRL.STATS_CLEAR. -/
  | statsClear (k : Fin 32) (req : Requester)
  /-- BAR2_ACCESS: a read or write of the engine memory window. -/
  | bar2Access (off : BitVec 26) (write : Option Word)
  /-- CAPTURE_WRITTEN: a capture's samples have reached its chunk. -/
  | captureWritten (bay : Fin 48) (samples : List Int)
  /-- CAL_IDLE_CAPTURE: the digitiser is idle and takes a calibration capture. -/
  | calIdleCapture (bay : Fin 48)
  /-- WAVE_HOST_GO: a write of WAVE_HOST_REQ1 with GO. -/
  | waveHostGo (bay : Fin 48) (req : Requester) (data : Word)
  /-- HOST_CAPTURE_DELIVERED: a host-requested capture has been delivered. -/
  | hostCaptureDelivered (bay : Fin 48)
  /-- WAVE_DISABLE: a write that clears WAVE_CTRL.EN. -/
  | waveDisable (bay : Fin 48) (req : Requester)
  /-- WAVE_ENABLE: a write that sets WAVE_CTRL.EN. -/
  | waveEnable (bay : Fin 48) (req : Requester)
  /-- WAVE_DRAIN_COMPLETE: the digitiser's drain ends. -/
  | waveDrainComplete (bay : Fin 48)
  /-- WAVE_WAKE_COMPLETE: the digitiser's wake ends. -/
  | waveWakeComplete (bay : Fin 48)
  /-- STATS_PUBLISH: every SKYGLOW descriptor of the oldest frame has ended. -/
  | statsPublish
  /-- EXPO_COMMIT: a write of SKY.EXPO_COMMIT.GO. -/
  | expoCommit (req : Requester)
  /-- BLOCK_FLUSH_TIMEOUT: an open block meets its flush time. -/
  | blockFlushTimeout (source : Fin 5) (frame : Nat)
  /-- FRAME_CLOSE: everything of the oldest open frame has ended. -/
  | frameClose
  /-- FRAME_CLOSE_DEADLINE: the oldest open frame meets its close deadline. -/
  | frameCloseDeadline
  /-- SIGNATURE_EMIT: the signature record of a closed frame is ready. -/
  | signatureEmit
  /-- STREAM_FENCE: a write of STREAM.FENCE. -/
  | streamFence (req : Requester) (token : BitVec 16)
  /-- FENCE_PACKET_EMIT: the oldest stream fence of the requester is emitted. -/
  | fencePacketEmit (req : Requester)
  /-- STREAM_ENABLE: a write that sets STREAM.CTRL.EN. -/
  | streamEnable (req : Requester)
  /-- STREAM_DISABLE: a write that clears STREAM.CTRL.EN. -/
  | streamDisable (req : Requester)
  /-- STREAM_STOPPED: everything accepted has left. -/
  | streamStopped
  /-- RING_WRITE: the oldest packet is written to the host ring. -/
  | ringWrite
  /-- RING_RPTR_WRITE: a write of RING_RPTR. -/
  | ringRptrWrite (req : Requester) (val : Word)
  /-- RING_COALESCE_TIMEOUT: the coalescing time has passed. -/
  | ringCoalesceTimeout
  /-- UDP_AGG_TIMEOUT: the aggregation time of a UDP datagram has passed. -/
  | udpAggTimeout (port : Fin 2)
  /-- LOS_DETECT: loss of signal. -/
  | losDetect (lane : Fin 12)
  /-- SIGNAL_DETECT: signal present. -/
  | signalDetect (lane : Fin 12)
  /-- SLIP_POSITION: one alignment position has been tried, with its invalid sync headers of 64. -/
  | slipPosition (lane : Fin 12) (bad : Nat)
  /-- ALIGN_FAIL: every position has failed. -/
  | alignFail (lane : Fin 12)
  /-- BLOCK_LOCK_LOST: block lock is lost. -/
  | blockLockLost (lane : Fin 12)
  /-- TRAIN: a TRAIN block arrives. -/
  | train (lane : Fin 12) (msg : TrainMsg)
  /-- LANE_MARK: a LANE_MARK block with its count arrives at t, ns. -/
  | laneMark (lane : Fin 12) (count : BitVec 16) (t : Nat)
  /-- ATTEMPT_TIMEOUT: the attempt has met its time limit. -/
  | attemptTimeout (lane : Fin 12)
  /-- BACKOFF_EXPIRY: the backoff wait has passed. -/
  | backoffExpiry (lane : Fin 12)
  /-- SLEEP_NOTICE: the partner announces that its transmitter sleeps or wakes. -/
  | sleepNotice (lane : Fin 12) (sleep : Bool)
  /-- TX_SLEEP: a write of LANE_CTRL.TX_SLEEP. -/
  | txSleep (lane : Fin 12) (req : Requester) (on : Bool)
  /-- RX_SLEEP: a write of LANE_CTRL.RX_SLEEP. -/
  | rxSleep (lane : Fin 12) (req : Requester) (on : Bool)
  /-- LANE_WAKE_DONE: a lane half has woken. -/
  | laneWakeDone (lane : Fin 12) (tx : Bool)
  /-- RETRAIN: a write of LANE_CTRL.RETRAIN. -/
  | retrain (lane : Fin 12) (req : Requester)
  /-- SLIP: a write of LANE_CTRL.SLIP. -/
  | slip (lane : Fin 12) (req : Requester)
  /-- TEST: a write of LANE_CTRL.TEST. -/
  | test (lane : Fin 12) (req : Requester) (on : Bool)
  /-- INJECT: a write of PRBS_CTRL.INJECT. -/
  | inject (lane : Fin 12) (req : Requester)
  /-- EYE_MEASURE: an eye measurement. -/
  | eyeMeasure (lane : Fin 12) (width height : Nat)
  /-- SPARE_LANE_TRAIN: the spare lane's test training ends. -/
  | spareLaneTrain (port : Fin 2) (ok : Bool)
  /-- PCIE_LINK_DOWN: the PCIe link goes down. -/
  | pcieLinkDown
  /-- PCIE_LINK_UP: the PCIe link comes up. -/
  | pcieLinkUp (speed : Fin 4) (width : Fin 5)
  /-- FLR: a function-level reset. -/
  | flr
  /-- LINK_RETRAIN: a write of HOST.LINK_CTRL.RETRAIN. -/
  | linkRetrain (req : Requester)
  /-- NET_LINK_DOWN: the Ethernet link goes down. -/
  | netLinkDown (port : Fin 2)
  /-- NET_LINK_UP: the Ethernet link comes up. -/
  | netLinkUp (port : Fin 2)
  /-- ARP_REQUEST: an ARP request or neighbour solicitation for an address. -/
  | arpRequest (port : Fin 2) (addr : List Word)
  /-- PAUSE: an 802.3x PAUSE frame. -/
  | pause (port : Fin 2) (quanta : BitVec 16)
  /-- ENUM_GO: a write of CHAIN.CTRL.ENUM_GO. -/
  | enumGo (req : Requester)
  /-- ENUM: an ENUM message. -/
  | enum (port : Fin 2) (m : ChainMsg)
  /-- ENUM_END: an ENUM_END message. -/
  | enumEnd (port : Fin 2) (m : ChainMsg)
  /-- ENUM_TIMEOUT: the enumeration time has passed. -/
  | enumTimeout
  /-- TOPOLOGY: a TOPOLOGY message. -/
  | topology (port : Fin 2) (m : ChainMsg)
  /-- JOIN: a JOIN message. -/
  | join (port : Fin 2) (m : ChainMsg)
  /-- LINK_EVENT: a LINK_EVENT message. -/
  | linkEvent (port : Fin 2) (m : ChainMsg)
  /-- CONFIG_PUSH: a write of CHAIN.CTRL.CONFIG_PUSH. -/
  | configPush (req : Requester)
  /-- CONFIG: a CONFIG message. -/
  | config (port : Fin 2) (m : ChainMsg)
  /-- SYNC_INTERVAL: a synchronisation interval ends. -/
  | syncInterval
  /-- DELAY_REQ: a DELAY_REQ message received at t2. -/
  | delayReq (port : Fin 2) (m : ChainMsg) (t2 : Nat)
  /-- DELAY_RESP: a DELAY_RESP message received at t4. -/
  | delayResp (port : Fin 2) (m : ChainMsg) (t4 : Nat)
  /-- CAL_TIME_BROADCAST: the Pole unit's CAL_TIME broadcast is due. -/
  | calTimeBroadcast
  /-- CAL_TIME: a CAL_TIME message. -/
  | calTime (port : Fin 2) (m : ChainMsg)
  /-- CAL_TIME_ABSENT: no CAL_TIME for its limit. -/
  | calTimeAbsent
  /-- REG_REQ: a REG_REQ message. -/
  | regReq (port : Fin 2) (m : ChainMsg)
  /-- REG_RESP: a REG_RESP message. -/
  | regResp (port : Fin 2) (m : ChainMsg)
  /-- PORT_INFO: a PORT_INFO message. -/
  | portInfo (port : Fin 2) (m : ChainMsg)
  /-- STREAM_FWD: a STREAM_FWD message. -/
  | streamFwd (port : Fin 2) (m : ChainMsg)
  /-- CREDIT: a CREDIT message. -/
  | credit (port : Fin 2) (m : ChainMsg)
  /-- RA_GO: a write of CHAIN.RA_CTRL. -/
  | raGo (req : Requester) (data : Word)
  /-- NOW_LO: a read of TIME.NOW_LO. -/
  | nowLo (req : Requester)
  /-- SET_CTRL_GO: a write of TIME.SET_CTRL.GO. -/
  | setCtrlGo (req : Requester)
  /-- ACT_ARM: a write of ACT_CTRL.ARM. -/
  | actArm (slot : Fin 16) (req : Requester)
  /-- ACT_CANCEL: a write of ACT_CTRL.CANCEL. -/
  | actCancel (slot : Fin 16) (req : Requester)
  /-- ACT_RELEASE: a write of ACT_CTRL.RELEASE. -/
  | actRelease (slot : Fin 16) (req : Requester)
  /-- ACTION_COMMIT: a commit action meets its time. -/
  | actionCommit (slot : Fin 16)
  /-- ACTION_WRITE: a write action meets its time. -/
  | actionWrite (slot : Fin 16)
  /-- ACTION_DEC_SYNC: a decimator-sync action meets its time. -/
  | actionDecSync (slot : Fin 16)
  /-- PTP_SYNC: a PTP Sync with its times. -/
  | ptpSync (m : PtpMsg)
  /-- PDELAY_REQ: a Pdelay_Req. -/
  | pdelayReq (m : PtpMsg)
  /-- PTP_SYNC_TIMEOUT: no Sync for its limit. -/
  | ptpSyncTimeout
  /-- TAI_HOLD_EXPIRE: the TAI hold time has passed. -/
  | taiHoldExpire
  /-- INPUT_FILTER_CHANGE: a safety input channel's filtered state changes. -/
  | inputFilterChange (pair : Fin 8) (ch : Bool) (level : Bool)
  /-- DISCREPANCY: the pair's channels have differed for DISC. -/
  | discrepancy (pair : Fin 8)
  /-- RESET_EDGE: NW_RST falls after lenMs ms high, which lowMs ms low preceded. -/
  | resetEdge (lenMs lowMs : Nat)
  /-- RESET_STUCK: NW_RST has been high too long. -/
  | resetStuck
  /-- SW_RESET: a protected write of CMD.SW_RESET. -/
  | swReset (req : Requester)
  /-- HOST_TRIP: a write of CMD.TRIP. -/
  | hostTrip (req : Requester)
  /-- RESET_EDGE_FB_TIMEOUT: a reset edge whose feedback did not follow. -/
  | resetEdgeFbTimeout
  /-- RELEASE_FEEDBACK_ON: every feedback shows on in RELEASING. -/
  | releaseFeedbackOn
  /-- FEEDBACK_FAULT: a feedback input disagrees. -/
  | feedbackFault (ch : Fin 4)
  /-- WATCHDOG: a write of NW.WATCHDOG. -/
  | watchdog (req : Requester) (val : Word)
  /-- WATCHDOG_TIMEOUT: WD_TIME has passed. -/
  | watchdogTimeout
  /-- TEST_PULSE: a permit test pulse starts. -/
  | testPulse (ch : Fin 4)
  /-- TEST_PULSE_END: a permit test pulse ends. -/
  | testPulseEnd (ch : Fin 4) (sawOff : Bool)
  /-- READBACK_FAULT: the readback of a permit channel commanded off has shown on for 1 ms, or shows off again. -/
  | readbackFault (ch : Fin 4) (on : Bool)
  /-- LEDGER_BUCKET: the oldest bucket of window w leaves. -/
  | ledgerBucket (w : Fin 3)
  /-- NW_SELF_TEST_DONE: Nightwatch's self-test ends. -/
  | nwSelfTestDone (pass : Bool)
  /-- NW_FAULT: a fault of R505 is detected. -/
  | nwFault (cause : Fin 8)
  /-- OSC_MISMATCH: an oscillator comparison gate ends with this deviation in 0.01 %, or finds no TBCLK edge. -/
  | oscMismatch (dev : Option Int)
  /-- UNLOCK: a write of NW.UNLOCK. -/
  | unlock (req : Requester) (val : Word)
  /-- PROTECT_TIMEOUT: the unlock time has passed. -/
  | protectTimeout (req : Requester)
  /-- PROTECTED_WRITE: a write of a protected NW register. -/
  | protectedWrite (req : Requester) (off : BitVec 12) (data : Word)
  /-- WIN_CFG_WRITE: a write of WIN_CFG. -/
  | winCfgWrite (req : Requester) (w : Fin 3) (data : Word)
  /-- SEAL: a write of NW.SEAL. -/
  | seal (req : Requester) (crc : Word)
  /-- MON_SAMPLE: a decimated sample of a monitor channel. -/
  | monSample (ch : Fin 24) (m : MonIn)
  /-- SEQ_DWELL_END: a sequencer dwell ends. -/
  | seqDwellEnd
  /-- SEQ_RUN: a write of MON.CTRL.SEQ_RUN. -/
  | seqRun (req : Requester) (on : Bool)
  /-- PAIR_RUN: a write of MON.CTRL.PAIR_RUN. -/
  | pairRun (req : Requester) (on : Bool)
  /-- DEC_SYNC: a write of MON.CTRL.DEC_SYNC. -/
  | decSync (req : Requester)
  /-- SYNC1_EDGE: an edge of SYNC1. -/
  | sync1Edge
  /-- IMP_CHECK_DONE: an impedance check ends. -/
  | impCheckDone (ch : Fin 24) (nanovolts : Nat)
  /-- CH_EXC_WRITE: a write of CH_EXC. -/
  | chExcWrite (ch : Fin 24) (req : Requester) (data : Word)
  /-- CH_RAW: a read of CH_RAW. -/
  | chRaw (ch : Fin 24) (req : Requester)
  /-- MODEL_SAMPLE: one sample of the thermal model. -/
  | modelSample (env : ThermEnv)
  /-- GRACE_EXPIRE: the grace time has passed. -/
  | graceExpire
  /-- QUOTE_GO: a write of SEC.CTRL.QUOTE_GO. -/
  | quoteGo (req : Requester)
  /-- QUOTE_READY: the quote has been signed. -/
  | quoteReady
  /-- FK_ROTATE: a write of SEC.CTRL.FK_ROTATE. -/
  | fkRotate (req : Requester)
  /-- FRAME_KEY: a new frame key is ready. -/
  | frameKey
  /-- BAR2_CLOSE: a write of SEC.CTRL.BAR2_CLOSE. -/
  | bar2Close (req : Requester)
  /-- ROLLBACK_ADV: a write of SEC.ROLLBACK_ADV. -/
  | rollbackAdv (req : Requester) (type : BitVec 2) (val : BitVec 7)
  /-- WIN_DATA: a read of SEC.WIN_DATA. -/
  | winData (req : Requester)
  /-- ALM_FLUSH: a write of ALM.CTRL.FLUSH. -/
  | almFlush (req : Requester)
  /-- ALM_FLUSH_TIMER: the Almanac flush timer. -/
  | almFlushTimer
  /-- FLUSH_DONE: a flush of the staging buffer ends. -/
  | flushDone
  /-- POWER_FAIL_WARNING: PFAIL_N falls. -/
  | powerFailWarning
  /-- ERASE_4K: a FLASH.CMD write, ERASE_4K. -/
  | erase4k (req : Requester)
  /-- ERASE_64K: a FLASH.CMD write, ERASE_64K. -/
  | erase64k (req : Requester)
  /-- PROGRAM: a FLASH.CMD write, PROGRAM. -/
  | program (req : Requester)
  /-- READ: a FLASH.CMD write, READ. -/
  | read (req : Requester)
  /-- OP_DONE: the flash operation ends. -/
  | opDone (err : BitVec 2)
  /-- AUTO_SWAP_SUBMIT: the reserve manager submits a RESERVE_SWAP. -/
  | autoSwapSubmit (kind : BitVec 3) (unit : Nat)
  /-- AGE_SAMPLE: one ageing sample. -/
  | ageSample (losses : List Nat)
  /-- BIST_AUTO_SUBMIT: the reserve manager submits a BIST. -/
  | bistAutoSubmit
  /-- COLD_RESET: POR_N or a supply monitor. -/
  | coldReset
  /-- POR_RELEASE: POR_N rises and the boot ROM starts. -/
  | porRelease (env : BootEnv)
  /-- REF_MEASURE_DONE: the ROM's reference measurement ends. -/
  | refMeasureDone (freqKHz : Nat)
  /-- BOOT_HANDOVER: the ROM hands over to a slot's firmware, with the version its header carries. -/
  | bootHandover (slot : Bool) (version : Own)
  /-- RECOVERY: both slots have failed the ROM's own checks. -/
  | recovery (checkA checkB : Own)
  /-- FIRMWARE_INIT_DONE: firmware initialisation ends. -/
  | firmwareInitDone (env : InitEnv)
  /-- WARM_RESET: a write of RESET_CTRL.WARM. -/
  | warmReset (req : Requester) (key : BitVec 8)
  /-- CTRL_LOCKSTEP: a lockstep mismatch of the control cores. -/
  | ctrlLockstep
  /-- FIRMWARE_FATAL: a fatal error the firmware finds. -/
  | firmwareFatal
  /-- EMITTER_UNVERIFIED: a port latches OPEN or cannot verify. -/
  | emitterUnverified (port : Fin 48)
  /-- RELEASE_FEEDBACK_TIMEOUT: FB_TIME passes in RELEASING. -/
  | releaseFeedbackTimeout
  /-- FEEDBACK_OFF: a feedback input changes. -/
  | feedbackOff (ch : Fin 4) (off : Bool)
  /-- PDELAY_INTERVAL: the peer-delay interval ends. -/
  | pdelayInterval
  /-- PDELAY_RESP: a Pdelay_Resp with its times. -/
  | pdelayResp (m : PtpMsg)
  /-- ANNOUNCE: an Announce. -/
  | announce (m : PtpMsg)
  /-- MSG_CRC: a chain message with a bad CRC. -/
  | msgCrc (port : Fin 2)
  /-- RX_DROPPED: a received frame is dropped, for a bad FCS or another reason. -/
  | rxDropped (port : Fin 2) (fcs : Bool)
  /-- PRBS_BIT_ERROR: a PRBS bit error. -/
  | prbsBitError (lane : Fin 12)
  /-- ELASTIC_FAULT: the elastic buffer over- or underflows. -/
  | elasticFault (lane : Fin 12)
  /-- AER_ERROR: a PCIe AER error. -/
  | aerError (uncorrectable : Bool)
  deriving DecidableEq, Repr

end Sys2Proof
end

