-- ==== Sys2Proof/Config.lean ====
section
/-! DEFINITION. What an implementation fixes and the values the spec leaves open. A constant without a body is a
free value: no proof can see it, so a claim holds whatever it is. -/
namespace Sys2Proof.Config

/-- The free values, applied to the counter `freeCtr` of the state: a fresh one each time (log 2). -/
opaque free : Nat → Nat

/-- SHA-256 of a list of bytes, as a 256-bit number (R402, R560, R567): its standard, FIPS 180, is not in the spec. -/
opaque sha256 : List Nat → Nat

/-- An ECDSA P-256 signature r ‖ s with the private key `k` of a hash (R395, R560, R570). -/
opaque sign : Nat → Nat → Nat

/-- Whether a signature verifies: public key X ‖ Y, signed hash, r ‖ s (R561, R562). -/
opaque verify : Nat → Nat → Nat → Bool

/-- The private frame key with a KEY_ID (R395, R571). -/
opaque frameKey : Nat → Nat

/-- The public key X ‖ Y of a frame key generated from an entropy value (R571). -/
opaque framePub : Nat → Nat

/-- The device identity key pair: private key and public key X ‖ Y (R560). -/
opaque identityKey : Nat
opaque identityPub : Nat

/-- The 32-bit words of the identity's Moalith certificate; its length is the part's (R560, R585). -/
opaque certWord : Nat → Nat

/-- The public Moalith keys 0 and 1 of the boot ROM, and the ROM's own digest (R560, R569). -/
opaque moalithPub : Nat → Nat
opaque romDigest : Nat

/-- Where the device area of a cluster's shared memory keeps the context of a frame, as a word number (R285, log 95). -/
opaque contextAt : Nat → Nat

/-- The firmware's reset coefficient sets (R513, R609): the FIR coefficients by preset, stage and tap, and a preset's SHIFT word. -/
opaque bootCoef : Nat → Nat → Nat → Nat
opaque bootShift : Nat → Nat

/-- The phase of the monitor clock against the Meridian counter, in 1/64 ns (R35, log 100). -/
opaque monPhase : Nat

/-- What a byte of MRAM or flash reads as after a write or an erase that failed or was cut off: by the free value of that
operation and the address (log 2). -/
opaque freeByte : Nat → Nat → Nat

end Sys2Proof.Config
end

