-- ==== Sys2Proof/Machine/FMap.lean ====
section
/-! DEFINITION. Sparse stores in one canonical form: keys strictly rising, and no entry equal to what an
unlisted key reads as. Every register file, memory and table of the state is held so. -/
namespace Sys2Proof.Machine

/-- A sparse store over natural keys. -/
abbrev FMap (ν : Type) := List (Nat × ν)

/-- What key `k` reads as; an unlisted key reads as `d k`. -/
def fget {ν : Type} (d : Nat → ν) : FMap ν → Nat → ν
  | [], k => d k
  | (k', v) :: m, k => if k = k' then v else fget d m k

/-- Remove key `k`: it reads the default again. -/
def ferase {ν : Type} (m : FMap ν) (k : Nat) : FMap ν := m.filter (fun e => e.1 != k)

/-- Insert key `k` at its place, or replace what it holds. -/
def finsert {ν : Type} : FMap ν → Nat → ν → FMap ν
  | [], k, v => [(k, v)]
  | (k', v') :: m, k, v =>
    if k < k' then (k, v) :: (k', v') :: m
    else if k = k' then (k, v) :: m
    else (k', v') :: finsert m k v

/-- Write `v` at key `k`, keeping the canonical form: a key written with what it reads as unlisted is removed. -/
def fset {ν : Type} [DecidableEq ν] (d : Nat → ν) (m : FMap ν) (k : Nat) (v : ν) : FMap ν :=
  match m with
  | [] => if v = d k then [] else [(k, v)]
  | e :: m => if v = d k then ferase (e :: m) k else finsert (e :: m) k v

/-- All keys of the list lie above `lo`, rise strictly, and no entry holds the default. -/
def fwfFrom {ν : Type} [DecidableEq ν] (d : Nat → ν) : Option Nat → FMap ν → Bool
  | _, [] => true
  | lo, (k, v) :: m =>
    (match lo with | none => true | some l => decide (l < k)) && decide (v ≠ d k) && fwfFrom d (some k) m

/-- The canonical form. -/
def fwf {ν : Type} [DecidableEq ν] (d : Nat → ν) (m : FMap ν) : Bool := fwfFrom d none m

/-- Remove every entry whose key satisfies `p` (those keys read the default again). -/
def fdrop {ν : Type} (p : Nat → Bool) (m : FMap ν) : FMap ν := m.filter (fun e => !p e.1)

end Sys2Proof.Machine
end

