-- ==== Sys2Proof/Machine/Causes.lean ====
section
/-! DEFINITION. The error causes (namespace C) and events (namespace E) of every page with the bits and
severities the spec's cause tables give them (R123, R124, R161, R162, R206, R236, R282, R322, R346, R368, R405,
R436, R477, R510, R537, R559, R588, R597, R615), and the severity of a page's cause bit. -/
namespace Sys2Proof.Machine

/-- An error cause: its page, its ERR_STATUS bit and its severity (R77). -/
structure Cause where
  pg : Page
  bit : Nat
  sev : Severity
  deriving DecidableEq, Repr

/-- An event: its page and its IRQ_STATUS bit. -/
structure Event where
  pg : Page
  bit : Nat
  deriving DecidableEq, Repr

namespace C

abbrev BAY_TIMEOUT_STORM (u : Nat) : Cause := ⟨(.bay u), 0, .dataLost⟩
abbrev BAY_COMP_STUCK (u : Nat) : Cause := ⟨(.bay u), 1, .dataLost⟩
abbrev BAY_SELFCHECK_FAIL (u : Nat) : Cause := ⟨(.bay u), 2, .dataLost⟩
abbrev BAY_SELFCHECK_MISS (u : Nat) : Cause := ⟨(.bay u), 3, .info⟩
abbrev BAY_ECLIPSE_STREAK (u : Nat) : Cause := ⟨(.bay u), 4, .degraded⟩
abbrev BAY_SET_ADJUSTED (u : Nat) : Cause := ⟨(.bay u), 5, .info⟩
abbrev BAY_CAL_INVALID (u : Nat) : Cause := ⟨(.bay u), 6, .degraded⟩
abbrev TIME_REF_LOST : Cause := ⟨.time, 0, .unsafeSev⟩
abbrev TIME_PLL_UNLOCK : Cause := ⟨.time, 1, .unsafeSev⟩
abbrev TIME_REF_UNSETTLED_AGAIN : Cause := ⟨.time, 2, .degraded⟩
abbrev TIME_REF_OUT_OF_RANGE : Cause := ⟨.time, 3, .degraded⟩
abbrev TIME_VERN_UNLOCK : Cause := ⟨.time, 4, .degraded⟩
abbrev CAL_TDC_REJECTED : Cause := ⟨.cal, 0, .info⟩
abbrev CAL_WAVE_REJECTED : Cause := ⟨.cal, 1, .info⟩
abbrev CAL_RZ_REJECTED : Cause := ⟨.cal, 2, .info⟩
abbrev CAL_RZ_JUMP : Cause := ⟨.cal, 3, .degraded⟩
abbrev CAL_RZ_STALE : Cause := ⟨.cal, 4, .info⟩
abbrev CAL_CAL_STORE_FAULT : Cause := ⟨.cal, 5, .degraded⟩
abbrev CAL_AUTO_SKIPPED : Cause := ⟨.cal, 6, .info⟩
abbrev CAL_SET_ADJUSTED : Cause := ⟨.cal, 7, .info⟩
abbrev EMIT_EMITTER_OPEN : Cause := ⟨.emit, 0, .degraded⟩
abbrev EMIT_EMITTER_UNVERIFIED : Cause := ⟨.emit, 1, .info⟩
abbrev EMIT_PROOF_REFUSED : Cause := ⟨.emit, 2, .info⟩
abbrev EMIT_TEMP_INVALID : Cause := ⟨.emit, 3, .degraded⟩
abbrev EMIT_DERATED : Cause := ⟨.emit, 4, .degraded⟩
abbrev EMIT_SET_ADJUSTED : Cause := ⟨.emit, 5, .info⟩
abbrev EMIT_BURST_SKIPPED : Cause := ⟨.emit, 6, .info⟩
abbrev CODE_SET_ADJUSTED : Cause := ⟨.code, 0, .info⟩
abbrev CODE_NOT_DISJOINT : Cause := ⟨.code, 1, .info⟩
abbrev CODE_XL_REFUSED : Cause := ⟨.code, 2, .info⟩
abbrev SCAN_IMPLAUSIBLE_FAST : Cause := ⟨.scan, 0, .unsafeSev⟩
abbrev SCAN_IMPLAUSIBLE_SLOW : Cause := ⟨.scan, 1, .unsafeSev⟩
abbrev SCAN_STALL : Cause := ⟨.scan, 2, .unsafeSev⟩
abbrev SCAN_SENSE_LOST : Cause := ⟨.scan, 3, .unsafeSev⟩
abbrev SCAN_UNLOCK : Cause := ⟨.scan, 4, .degraded⟩
abbrev SCAN_LOCK_TIMEOUT : Cause := ⟨.scan, 5, .degraded⟩
abbrev SCAN_SCAN_SHORT : Cause := ⟨.scan, 6, .info⟩
abbrev SCAN_SCAN_LONG : Cause := ⟨.scan, 7, .info⟩
abbrev SCAN_FRAME_DEFERRED : Cause := ⟨.scan, 8, .info⟩
abbrev SCAN_SYNC_LOST : Cause := ⟨.scan, 9, .info⟩
abbrev SCAN_SET_ADJUSTED : Cause := ⟨.scan, 10, .info⟩
abbrev BAY_VOTE_THIN (u : Nat) : Cause := ⟨(.bay u), 8, .degraded⟩
abbrev BAY_POOL_REFUSED (u : Nat) : Cause := ⟨(.bay u), 9, .dataLost⟩
abbrev BAY_ENGINE_LATE (u : Nat) : Cause := ⟨(.bay u), 10, .dataLost⟩
abbrev BAY_BUILDER_FAULT (u : Nat) : Cause := ⟨(.bay u), 11, .dataLost⟩
abbrev POOL_ECC_CORRECTED (u : Nat) : Cause := ⟨(.pool u), 0, .info⟩
abbrev POOL_ECC_UNCORRECTED (u : Nat) : Cause := ⟨(.pool u), 1, .dataLost⟩
abbrev POOL_SPARE_NEEDED (u : Nat) : Cause := ⟨(.pool u), 2, .degraded⟩
abbrev POOL_POOL_FAULT (u : Nat) : Cause := ⟨(.pool u), 3, .dataLost⟩
abbrev POOL_SET_ADJUSTED (u : Nat) : Cause := ⟨(.pool u), 4, .info⟩
abbrev QTR_FABRIC_FAULT (u : Nat) : Cause := ⟨(.qtr u), 0, .dataLost⟩
abbrev QTR_DISPATCH_FAULT (u : Nat) : Cause := ⟨(.qtr u), 1, .dataLost⟩
abbrev QTR_NO_ENGINES (u : Nat) : Cause := ⟨(.qtr u), 2, .dataLost⟩
abbrev CLU_ENGINE_TRAP (u : Nat) : Cause := ⟨(.clu u), 0, .dataLost⟩
abbrev CLU_KERNEL_BLOCKED (u : Nat) : Cause := ⟨(.clu u), 1, .dataLost⟩
abbrev CLU_SHARED_ECC_CORRECTED (u : Nat) : Cause := ⟨(.clu u), 2, .info⟩
abbrev CLU_SHARED_ECC_UNCORRECTED (u : Nat) : Cause := ⟨(.clu u), 3, .dataLost⟩
abbrev CLU_PARAM_MISMATCH (u : Nat) : Cause := ⟨(.clu u), 4, .dataLost⟩
abbrev CLU_DISPATCH_PATH (u : Nat) : Cause := ⟨(.clu u), 5, .dataLost⟩
abbrev CLU_SELF_TEST_FAIL (u : Nat) : Cause := ⟨(.clu u), 6, .degraded⟩
abbrev CLU_SET_ADJUSTED (u : Nat) : Cause := ⟨(.clu u), 7, .info⟩
abbrev CLU_DWELL_DROPPED (u : Nat) : Cause := ⟨(.clu u), 8, .info⟩
abbrev BAY_WAVE_SLICE_FAULT (u : Nat) : Cause := ⟨(.bay u), 12, .degraded⟩
abbrev BAY_WAVE_UNCORRECTED (u : Nat) : Cause := ⟨(.bay u), 13, .degraded⟩
abbrev BAY_WAVE_CAP_LOST (u : Nat) : Cause := ⟨(.bay u), 14, .info⟩
abbrev SKY_AMB_NO_CHUNK : Cause := ⟨.sky, 0, .info⟩
abbrev SKY_SKY_LATE : Cause := ⟨.sky, 1, .info⟩
abbrev SKY_AE_SKIPPED : Cause := ⟨.sky, 2, .info⟩
abbrev SKY_SET_ADJUSTED : Cause := ⟨.sky, 3, .info⟩
abbrev STREAM_STREAM_DISCARD : Cause := ⟨.stream, 0, .dataLost⟩
abbrev STREAM_LATE_RECORDS : Cause := ⟨.stream, 1, .dataLost⟩
abbrev STREAM_DEADLINE_CLOSE : Cause := ⟨.stream, 2, .dataLost⟩
abbrev STREAM_SIGN_UNAVAILABLE : Cause := ⟨.stream, 3, .degraded⟩
abbrev STREAM_FORWARD_DISCARD : Cause := ⟨.stream, 4, .dataLost⟩
abbrev COMP_VERIFY_FAIL : Cause := ⟨.comp, 0, .degraded⟩
abbrev LANE_LOSS_OF_SIGNAL (u : Nat) : Cause := ⟨(.lane u), 0, .degraded⟩
abbrev LANE_ALIGN_FAIL (u : Nat) : Cause := ⟨(.lane u), 1, .degraded⟩
abbrev LANE_NO_PARTNER (u : Nat) : Cause := ⟨(.lane u), 2, .degraded⟩
abbrev LANE_DESKEW_FAIL (u : Nat) : Cause := ⟨(.lane u), 3, .degraded⟩
abbrev LANE_ELASTIC_FAULT (u : Nat) : Cause := ⟨(.lane u), 4, .dataLost⟩
abbrev LANE_MARGIN_LOW (u : Nat) : Cause := ⟨(.lane u), 5, .degraded⟩
abbrev LANE_SPARE_FAIL (u : Nat) : Cause := ⟨(.lane u), 6, .info⟩
abbrev HOST_LINK_DOWN : Cause := ⟨.host, 0, .degraded⟩
abbrev HOST_AER_CORRECTABLE : Cause := ⟨.host, 1, .info⟩
abbrev HOST_AER_UNCORRECTABLE : Cause := ⟨.host, 2, .degraded⟩
abbrev HOST_FLR : Cause := ⟨.host, 3, .info⟩
abbrev NET_LINK_DOWN (u : Nat) : Cause := ⟨(.net u), 0, .degraded⟩
abbrev NET_RX_FCS (u : Nat) : Cause := ⟨(.net u), 1, .info⟩
abbrev NET_RA_REJECTED (u : Nat) : Cause := ⟨(.net u), 2, .info⟩
abbrev TIME_ACTION_LATE : Cause := ⟨.time, 5, .info⟩
abbrev TIME_ACTION_REFUSED : Cause := ⟨.time, 6, .info⟩
abbrev TIME_TAI_LOST : Cause := ⟨.time, 7, .degraded⟩
abbrev CHAIN_ALIGN_LOST : Cause := ⟨.chain, 0, .degraded⟩
abbrev CHAIN_TIME_RANGE : Cause := ⟨.chain, 1, .degraded⟩
abbrev CHAIN_TIME_STEPPED : Cause := ⟨.chain, 2, .info⟩
abbrev CHAIN_UNIT_LOST : Cause := ⟨.chain, 3, .degraded⟩
abbrev CHAIN_UNIT_JOINED : Cause := ⟨.chain, 4, .info⟩
abbrev CHAIN_ENUM_PARTIAL : Cause := ⟨.chain, 5, .degraded⟩
abbrev CHAIN_CHAIN_OVERFLOW : Cause := ⟨.chain, 6, .degraded⟩
abbrev CHAIN_MSG_CRC : Cause := ⟨.chain, 7, .info⟩
abbrev CHAIN_XL_MISMATCH : Cause := ⟨.chain, 8, .info⟩
abbrev CHAIN_TOPO_FAULT : Cause := ⟨.chain, 9, .degraded⟩
abbrev CHAIN_SET_ADJUSTED : Cause := ⟨.chain, 10, .info⟩
abbrev PTP_PTP_HOLDOVER : Cause := ⟨.ptp, 0, .degraded⟩
abbrev NW_INPUT_DEMAND : Cause := ⟨.nw, 0, .info⟩
abbrev NW_DISCREPANCY : Cause := ⟨.nw, 1, .unsafeSev⟩
abbrev NW_FEEDBACK_FAULT : Cause := ⟨.nw, 2, .unsafeSev⟩
abbrev NW_TEST_FAULT : Cause := ⟨.nw, 3, .unsafeSev⟩
abbrev NW_WATCHDOG : Cause := ⟨.nw, 4, .unsafeSev⟩
abbrev NW_NW_FAULT : Cause := ⟨.nw, 5, .unsafeSev⟩
abbrev NW_HOST_TRIP : Cause := ⟨.nw, 6, .info⟩
abbrev NW_RESET_REJECTED : Cause := ⟨.nw, 7, .info⟩
abbrev NW_RESET_STUCK : Cause := ⟨.nw, 8, .degraded⟩
abbrev NW_PROTECT_VIOLATION : Cause := ⟨.nw, 9, .info⟩
abbrev NW_CELL_CLOSED : Cause := ⟨.nw, 10, .info⟩
abbrev MON_SENSOR_OPEN : Cause := ⟨.mon, 0, .degraded⟩
abbrev MON_HIGH_Z : Cause := ⟨.mon, 1, .degraded⟩
abbrev MON_OVERRANGE : Cause := ⟨.mon, 2, .info⟩
abbrev MON_CURVE_RANGE : Cause := ⟨.mon, 3, .info⟩
abbrev MON_SYNC_REFUSED : Cause := ⟨.mon, 4, .info⟩
abbrev MON_SET_ADJUSTED : Cause := ⟨.mon, 5, .info⟩
abbrev THERM_THROTTLING : Cause := ⟨.therm, 0, .degraded⟩
abbrev THERM_OVERTEMP : Cause := ⟨.therm, 1, .unsafeSev⟩
abbrev THERM_MODEL_MISMATCH : Cause := ⟨.therm, 2, .degraded⟩
abbrev THERM_DIODE_FAULT : Cause := ⟨.therm, 3, .degraded⟩
abbrev PWR_POWER_CEILING : Cause := ⟨.pwr, 0, .degraded⟩
abbrev PWR_WAKE_FAIL : Cause := ⟨.pwr, 1, .dataLost⟩
abbrev SEC_IMAGE_REJECTED : Cause := ⟨.sec, 0, .degraded⟩
abbrev SEC_BOOT_FALLBACK : Cause := ⟨.sec, 1, .degraded⟩
abbrev SEC_DEBUG_UNLOCKED : Cause := ⟨.sec, 2, .degraded⟩
abbrev SEC_KEY_FAULT : Cause := ⟨.sec, 3, .dataLost⟩
abbrev ALM_RECORDS_LOST : Cause := ⟨.alm, 0, .degraded⟩
abbrev ALM_MRAM_FAULT : Cause := ⟨.alm, 1, .dataLost⟩
abbrev FLASH_FLASH_ERROR : Cause := ⟨.flash, 0, .degraded⟩
abbrev RES_RESERVE_EXHAUSTED : Cause := ⟨.res, 0, .degraded⟩
abbrev RES_WEAR_WARN : Cause := ⟨.res, 1, .info⟩
abbrev RES_AGEING : Cause := ⟨.res, 2, .degraded⟩
abbrev RES_BIST_FAIL : Cause := ⟨.res, 3, .degraded⟩
abbrev RES_SWAP_FAIL : Cause := ⟨.res, 4, .degraded⟩
abbrev CHIP_CTRL_LOCKSTEP : Cause := ⟨.chip, 0, .unsafeSev⟩
abbrev CHIP_NW_CONFIG_INVALID : Cause := ⟨.chip, 1, .degraded⟩
abbrev CHIP_KERNELS_ABSENT : Cause := ⟨.chip, 2, .degraded⟩

end C

namespace E

abbrev BAY_ECLIPSE (u : Nat) : Event := ⟨(.bay u), 0⟩
abbrev BAY_CH_STATE (u : Nat) : Event := ⟨(.bay u), 1⟩
abbrev BAY_RELEASE_DONE (u : Nat) : Event := ⟨(.bay u), 2⟩
abbrev EMIT_PORT_STATE : Event := ⟨.emit, 0⟩
abbrev EMIT_PRELOAD_DONE : Event := ⟨.emit, 1⟩
abbrev EMIT_APPLIED : Event := ⟨.emit, 2⟩
abbrev CODE_BANK_SWAPPED : Event := ⟨.code, 0⟩
abbrev SCAN_FRAME_START : Event := ⟨.scan, 0⟩
abbrev SCAN_FLYBACK : Event := ⟨.scan, 1⟩
abbrev SCAN_STATE_CHANGE : Event := ⟨.scan, 2⟩
abbrev SCAN_LOCK_CHANGE : Event := ⟨.scan, 3⟩
abbrev BAY_OVERLOAD (u : Nat) : Event := ⟨(.bay u), 3⟩
abbrev BAY_REFUSAL (u : Nat) : Event := ⟨(.bay u), 4⟩
abbrev POOL_SPARE_NEEDED (u : Nat) : Event := ⟨(.pool u), 0⟩
abbrev QTR_LATE (u : Nat) : Event := ⟨(.qtr u), 0⟩
abbrev CLU_TRAP (u : Nat) : Event := ⟨(.clu u), 0⟩
abbrev CLU_RELEASE_DONE (u : Nat) : Event := ⟨(.clu u), 1⟩
abbrev CLU_KBANK_SWITCHED (u : Nat) : Event := ⟨(.clu u), 2⟩
abbrev CLU_KERNEL_BLOCKED (u : Nat) : Event := ⟨(.clu u), 3⟩
abbrev BAY_WAVE_STATE (u : Nat) : Event := ⟨(.bay u), 5⟩
abbrev BAY_HOST_DONE (u : Nat) : Event := ⟨(.bay u), 6⟩
abbrev SKY_STATS_READY : Event := ⟨.sky, 0⟩
abbrev SKY_GEN_CHANGED : Event := ⟨.sky, 1⟩
abbrev STREAM_RING : Event := ⟨.stream, 0⟩
abbrev STREAM_FRAME_CLOSED : Event := ⟨.stream, 1⟩
abbrev STREAM_FENCE_DONE : Event := ⟨.stream, 2⟩
abbrev STREAM_STATE_CHANGE : Event := ⟨.stream, 3⟩
abbrev LANE_LINK_STATE (u : Nat) : Event := ⟨(.lane u), 0⟩
abbrev LANE_PRBS_ERROR (u : Nat) : Event := ⟨(.lane u), 1⟩
abbrev HOST_LINK_CHANGE : Event := ⟨.host, 0⟩
abbrev NET_LINK_CHANGE (u : Nat) : Event := ⟨(.net u), 0⟩
abbrev TIME_ACTION_DONE : Event := ⟨.time, 2⟩
abbrev TIME_TAI_VALID_CHANGE : Event := ⟨.time, 3⟩
abbrev CHAIN_ENUM_DONE : Event := ⟨.chain, 0⟩
abbrev CHAIN_ALIGN_CHANGE : Event := ⟨.chain, 1⟩
abbrev CHAIN_TOPOLOGY_CHANGE : Event := ⟨.chain, 2⟩
abbrev CHAIN_RA_DONE : Event := ⟨.chain, 3⟩
abbrev PTP_LOCK_CHANGE : Event := ⟨.ptp, 0⟩
abbrev NW_STATE_CHANGE : Event := ⟨.nw, 0⟩
abbrev NW_CELL_CHANGE : Event := ⟨.nw, 1⟩
abbrev MON_PASS_DONE : Event := ⟨.mon, 0⟩
abbrev MON_SYNC_DONE : Event := ⟨.mon, 1⟩
abbrev MON_FLAG_CHANGE : Event := ⟨.mon, 2⟩
abbrev THERM_THROTTLE_REQUEST : Event := ⟨.therm, 0⟩
abbrev THERM_LEVEL_CHANGE : Event := ⟨.therm, 1⟩
abbrev THERM_RATE_CHANGE : Event := ⟨.therm, 2⟩
abbrev PWR_DOMAIN_CHANGE : Event := ⟨.pwr, 0⟩
abbrev SEC_QUOTE_READY : Event := ⟨.sec, 0⟩
abbrev SEC_FRAME_KEY_CHANGED : Event := ⟨.sec, 1⟩
abbrev ALM_FLUSH_DONE : Event := ⟨.alm, 0⟩
abbrev FLASH_OP_DONE : Event := ⟨.flash, 0⟩
abbrev RES_SWAP_DONE : Event := ⟨.res, 0⟩
abbrev RES_BIST_DONE : Event := ⟨.res, 1⟩
abbrev CHIP_READY_CHANGE : Event := ⟨.chip, 0⟩
abbrev TIME_REF_SETTLED_CHANGE : Event := ⟨.time, 0⟩
abbrev TIME_HOLDOVER_CHANGE : Event := ⟨.time, 1⟩
abbrev CAL_TABLE_ACCEPTED : Event := ⟨.cal, 0⟩
abbrev CAL_BLEND_DONE : Event := ⟨.cal, 1⟩
abbrev CAL_RZ_ACCEPTED : Event := ⟨.cal, 2⟩

end E

/-- PARITY is UNSAFE on the pages whose registers govern emission (R631). -/
def paritySev : Page → Severity
  | .bay _ | .emit | .code | .cal | .scan | .nw => .unsafeSev
  | _ => .dataLost

/-- Severity of the page-specific cause bit `bit` of a page (the cause tables); INFO where no cause is defined. -/
def pageCauses : Page → List (Nat × Severity)
  | .bay _ => [(0, .dataLost), (1, .dataLost), (2, .dataLost), (3, .info), (4, .degraded), (5, .info), (6, .degraded), (8, .degraded), (9, .dataLost), (10, .dataLost), (11, .dataLost), (12, .degraded), (13, .degraded), (14, .info)]
  | .time => [(0, .unsafeSev), (1, .unsafeSev), (2, .degraded), (3, .degraded), (4, .degraded), (5, .info), (6, .info), (7, .degraded)]
  | .cal => [(0, .info), (1, .info), (2, .info), (3, .degraded), (4, .info), (5, .degraded), (6, .info), (7, .info)]
  | .emit => [(0, .degraded), (1, .info), (2, .info), (3, .degraded), (4, .degraded), (5, .info), (6, .info)]
  | .code => [(0, .info), (1, .info), (2, .info)]
  | .scan => [(0, .unsafeSev), (1, .unsafeSev), (2, .unsafeSev), (3, .unsafeSev), (4, .degraded), (5, .degraded), (6, .info), (7, .info), (8, .info), (9, .info), (10, .info)]
  | .pool _ => [(0, .info), (1, .dataLost), (2, .degraded), (3, .dataLost), (4, .info)]
  | .qtr _ => [(0, .dataLost), (1, .dataLost), (2, .dataLost)]
  | .clu _ => [(0, .dataLost), (1, .dataLost), (2, .info), (3, .dataLost), (4, .dataLost), (5, .dataLost), (6, .degraded), (7, .info), (8, .info)]
  | .sky => [(0, .info), (1, .info), (2, .info), (3, .info)]
  | .stream => [(0, .dataLost), (1, .dataLost), (2, .dataLost), (3, .degraded), (4, .dataLost)]
  | .comp => [(0, .degraded)]
  | .lane _ => [(0, .degraded), (1, .degraded), (2, .degraded), (3, .degraded), (4, .dataLost), (5, .degraded), (6, .info)]
  | .host => [(0, .degraded), (1, .info), (2, .degraded), (3, .info)]
  | .net _ => [(0, .degraded), (1, .info), (2, .info)]
  | .chain => [(0, .degraded), (1, .degraded), (2, .info), (3, .degraded), (4, .info), (5, .degraded), (6, .degraded), (7, .info), (8, .info), (9, .degraded), (10, .info)]
  | .ptp => [(0, .degraded)]
  | .nw => [(0, .info), (1, .unsafeSev), (2, .unsafeSev), (3, .unsafeSev), (4, .unsafeSev), (5, .unsafeSev), (6, .info), (7, .info), (8, .degraded), (9, .info), (10, .info)]
  | .mon => [(0, .degraded), (1, .degraded), (2, .info), (3, .info), (4, .info), (5, .info)]
  | .therm => [(0, .degraded), (1, .unsafeSev), (2, .degraded), (3, .degraded)]
  | .pwr => [(0, .degraded), (1, .dataLost)]
  | .sec => [(0, .degraded), (1, .degraded), (2, .degraded), (3, .dataLost)]
  | .alm => [(0, .degraded), (1, .dataLost)]
  | .flash => [(0, .degraded)]
  | .res => [(0, .degraded), (1, .info), (2, .degraded), (3, .degraded), (4, .degraded)]
  | .chip => [(0, .unsafeSev), (1, .degraded), (2, .degraded)]
  | _ => []

/-- Severity of ERR_STATUS bit `bit` of page `g` (R123 and the other cause tables; R631 for ACCESS and PARITY).
LOWER's severity is state (R631) and is not given here. -/
def causeSev (g : Page) (bit : Nat) : Severity :=
  if bit = 29 then paritySev g
  else match (pageCauses g).find? (fun e => e.1 == bit) with
    | some e => e.2
    | none => .info

end Sys2Proof.Machine
end

