-- ==== Sys2Proof/Machine/Fields.lean ====
section
/-! DEFINITION. The registers (namespace R) and their fields (namespace F) under the spec's own names,
PAGE_REGISTER and PAGE_REGISTER_FIELD, from the same register tables as Machine/Regs.lean. -/
namespace Sys2Proof.Machine

/-- A register: its page and its offset. -/
structure Reg where
  pg : Page
  off : Nat
  deriving DecidableEq, Repr

/-- A field of a register: page, offset, lowest bit and width. -/
structure Fld where
  pg : Page
  off : Nat
  lo : Nat
  len : Nat
  deriving DecidableEq, Repr

namespace R

abbrev PAGE_ID (g : Page) : Reg := ⟨g, 0x0⟩
abbrev PAGE_CAPS (g : Page) : Reg := ⟨g, 0x4⟩
abbrev PAGE_STATE (g : Page) : Reg := ⟨g, 0x8⟩
abbrev PAGE_CTRL (g : Page) : Reg := ⟨g, 0xC⟩
abbrev ERR_STATUS (g : Page) : Reg := ⟨g, 0x10⟩
abbrev ERR_ENABLE (g : Page) : Reg := ⟨g, 0x14⟩
abbrev ERR_FIRST (g : Page) : Reg := ⟨g, 0x18⟩
abbrev ERR_COUNT (g : Page) : Reg := ⟨g, 0x1C⟩
abbrev IRQ_STATUS (g : Page) : Reg := ⟨g, 0x20⟩
abbrev IRQ_ENABLE (g : Page) : Reg := ⟨g, 0x24⟩
abbrev SEQ_APPLIED (g : Page) : Reg := ⟨g, 0x28⟩
abbrev SHADOW_CTRL (g : Page) : Reg := ⟨g, 0x2C⟩
abbrev CHIP_PART_ID : Reg := ⟨.chip, 0x40⟩
abbrev CHIP_FW_VERSION : Reg := ⟨.chip, 0x44⟩
abbrev CHIP_FENCE : Reg := ⟨.chip, 0x48⟩
abbrev CHIP_FENCE_DONE : Reg := ⟨.chip, 0x4C⟩
abbrev CHIP_RESET_CTRL : Reg := ⟨.chip, 0x50⟩
abbrev CHIP_RESET_CAUSE : Reg := ⟨.chip, 0x54⟩
abbrev CHIP_BOOT_STATUS : Reg := ⟨.chip, 0x58⟩
abbrev CHIP_READY : Reg := ⟨.chip, 0x5C⟩
abbrev TASK_OP (i : Nat) : Reg := ⟨.task, 0x100 + 0x20 * i⟩
abbrev TASK_ARG0 (i : Nat) : Reg := ⟨.task, 0x104 + 0x20 * i⟩
abbrev TASK_ARG1 (i : Nat) : Reg := ⟨.task, 0x108 + 0x20 * i⟩
abbrev TASK_ARG2 (i : Nat) : Reg := ⟨.task, 0x10C + 0x20 * i⟩
abbrev TASK_CTRL (i : Nat) : Reg := ⟨.task, 0x110 + 0x20 * i⟩
abbrev TASK_STATUS (i : Nat) : Reg := ⟨.task, 0x114 + 0x20 * i⟩
abbrev TASK_PROGRESS (i : Nat) : Reg := ⟨.task, 0x118 + 0x20 * i⟩
abbrev TASK_RESULT (i : Nat) : Reg := ⟨.task, 0x11C + 0x20 * i⟩
abbrev IRQ_ROUTE (i : Nat) : Reg := ⟨.irq, 0x400 + 0x4 * i⟩
abbrev PWR_SUPPLY_ON (i : Nat) : Reg := ⟨.pwr, 0x40 + 0x4 * i⟩
abbrev PWR_OFF_ALLOW (i : Nat) : Reg := ⟨.pwr, 0x50 + 0x4 * i⟩
abbrev PWR_P_EST : Reg := ⟨.pwr, 0x60⟩
abbrev PWR_P_CEIL : Reg := ⟨.pwr, 0x64⟩
abbrev PWR_P_HYST : Reg := ⟨.pwr, 0x68⟩
abbrev PWR_P_REGION (i : Nat) : Reg := ⟨.pwr, 0x70 + 0x4 * i⟩
abbrev PWR_IMON (i : Nat) : Reg := ⟨.pwr, 0x80 + 0x4 * i⟩
abbrev THERM_CTRL : Reg := ⟨.therm, 0x40⟩
abbrev THERM_STATUS : Reg := ⟨.therm, 0x44⟩
abbrev THERM_GRACE_LEFT : Reg := ⟨.therm, 0x48⟩
abbrev THERM_HYST : Reg := ⟨.therm, 0x4C⟩
abbrev THERM_ENG_CLOCK : Reg := ⟨.therm, 0x50⟩
abbrev THERM_SHOT : Reg := ⟨.therm, 0x54⟩
abbrev THERM_THROTTLE_MS : Reg := ⟨.therm, 0x58⟩
abbrev THERM_REQUESTS : Reg := ⟨.therm, 0x5C⟩
abbrev THERM_NODE_LIMIT (i : Nat) : Reg := ⟨.therm, 0x100 + 0x4 * i⟩
abbrev THERM_NODE_TEMP (i : Nat) : Reg := ⟨.therm, 0x180 + 0x4 * i⟩
abbrev THERM_DIODE (i : Nat) : Reg := ⟨.therm, 0x200 + 0x4 * i⟩
abbrev TIME_REF_CFG : Reg := ⟨.time, 0x40⟩
abbrev TIME_STATUS : Reg := ⟨.time, 0x44⟩
abbrev TIME_QUAL_CFG : Reg := ⟨.time, 0x48⟩
abbrev TIME_QUAL_LAST : Reg := ⟨.time, 0x4C⟩
abbrev TIME_QUAL_OFFSET : Reg := ⟨.time, 0x50⟩
abbrev TIME_VERN_UNLOCK0 : Reg := ⟨.time, 0x54⟩
abbrev TIME_VERN_UNLOCK1 : Reg := ⟨.time, 0x58⟩
abbrev TIME_SETTLE_LAST : Reg := ⟨.time, 0x5C⟩
abbrev TIME_NOW_LO : Reg := ⟨.time, 0x80⟩
abbrev TIME_NOW_HI : Reg := ⟨.time, 0x84⟩
abbrev TIME_CAL_CTRL : Reg := ⟨.time, 0x88⟩
abbrev TIME_UTC_OFFSET : Reg := ⟨.time, 0x8C⟩
abbrev TIME_TAI_BASE_LO : Reg := ⟨.time, 0x90⟩
abbrev TIME_TAI_BASE_HI : Reg := ⟨.time, 0x94⟩
abbrev TIME_M_BASE_LO : Reg := ⟨.time, 0x98⟩
abbrev TIME_M_BASE_HI : Reg := ⟨.time, 0x9C⟩
abbrev TIME_RATE : Reg := ⟨.time, 0xA0⟩
abbrev TIME_SET_TAI_LO : Reg := ⟨.time, 0xA4⟩
abbrev TIME_SET_TAI_HI : Reg := ⟨.time, 0xA8⟩
abbrev TIME_SET_M_LO : Reg := ⟨.time, 0xAC⟩
abbrev TIME_SET_M_HI : Reg := ⟨.time, 0xB0⟩
abbrev TIME_SET_CTRL : Reg := ⟨.time, 0xB4⟩
abbrev TIME_HOLD_CFG : Reg := ⟨.time, 0xB8⟩
abbrev TIME_ACT_TIME_LO (i : Nat) : Reg := ⟨.time, 0x100 + 0x20 * i⟩
abbrev TIME_ACT_TIME_HI (i : Nat) : Reg := ⟨.time, 0x104 + 0x20 * i⟩
abbrev TIME_ACT_CFG (i : Nat) : Reg := ⟨.time, 0x108 + 0x20 * i⟩
abbrev TIME_ACT_ARG0 (i : Nat) : Reg := ⟨.time, 0x10C + 0x20 * i⟩
abbrev TIME_ACT_ARG1 (i : Nat) : Reg := ⟨.time, 0x110 + 0x20 * i⟩
abbrev TIME_ACT_CTRL (i : Nat) : Reg := ⟨.time, 0x114 + 0x20 * i⟩
abbrev TIME_ACT_STATUS (i : Nat) : Reg := ⟨.time, 0x118 + 0x20 * i⟩
abbrev TIME_ACT_RESULT (i : Nat) : Reg := ⟨.time, 0x11C + 0x20 * i⟩
abbrev CHAIN_CTRL : Reg := ⟨.chain, 0x40⟩
abbrev CHAIN_STATUS : Reg := ⟨.chain, 0x44⟩
abbrev CHAIN_ROUND : Reg := ⟨.chain, 0x48⟩
abbrev CHAIN_UNITS : Reg := ⟨.chain, 0x4C⟩
abbrev CHAIN_ENUM_CFG : Reg := ⟨.chain, 0x50⟩
abbrev CHAIN_ALIGN_STATUS : Reg := ⟨.chain, 0x54⟩
abbrev CHAIN_OFFSET : Reg := ⟨.chain, 0x58⟩
abbrev CHAIN_DELAY : Reg := ⟨.chain, 0x5C⟩
abbrev CHAIN_FREQ_CORR : Reg := ⟨.chain, 0x60⟩
abbrev CHAIN_SERVO : Reg := ⟨.chain, 0x64⟩
abbrev CHAIN_ALIGN_CFG : Reg := ⟨.chain, 0x68⟩
abbrev CHAIN_STEP_LIMIT : Reg := ⟨.chain, 0x6C⟩
abbrev CHAIN_PORT_ASYM_A : Reg := ⟨.chain, 0x70⟩
abbrev CHAIN_PORT_ASYM_B : Reg := ⟨.chain, 0x74⟩
abbrev CHAIN_RA_UNIT : Reg := ⟨.chain, 0x80⟩
abbrev CHAIN_RA_ADDR : Reg := ⟨.chain, 0x84⟩
abbrev CHAIN_RA_DATA : Reg := ⟨.chain, 0x88⟩
abbrev CHAIN_RA_CTRL : Reg := ⟨.chain, 0x8C⟩
abbrev CHAIN_RA_STATUS : Reg := ⟨.chain, 0x90⟩
abbrev CHAIN_COORD_ANCHOR_LO : Reg := ⟨.chain, 0xA0⟩
abbrev CHAIN_COORD_ANCHOR_HI : Reg := ⟨.chain, 0xA4⟩
abbrev CHAIN_COORD_PERIOD : Reg := ⟨.chain, 0xA8⟩
abbrev CHAIN_COORD_EN0 : Reg := ⟨.chain, 0xAC⟩
abbrev CHAIN_COORD_EN1 : Reg := ⟨.chain, 0xB0⟩
abbrev CHAIN_CONFIG_AT_LO : Reg := ⟨.chain, 0xB4⟩
abbrev CHAIN_CONFIG_AT_HI : Reg := ⟨.chain, 0xB8⟩
abbrev CHAIN_XL_CODE (i : Nat) : Reg := ⟨.chain, 0xC0 + 0x4 * i⟩
abbrev CHAIN_XL_STATE (i : Nat) : Reg := ⟨.chain, 0xE0 + 0x4 * i⟩
abbrev CHAIN_CRC_ERR : Reg := ⟨.chain, 0x100⟩
abbrev CHAIN_JOINS : Reg := ⟨.chain, 0x104⟩
abbrev CHAIN_PRESENT (i : Nat) : Reg := ⟨.chain, 0x400 + 0x4 * i⟩
abbrev PTP_CFG : Reg := ⟨.ptp, 0x40⟩
abbrev PTP_THRESH : Reg := ⟨.ptp, 0x44⟩
abbrev PTP_SERVO : Reg := ⟨.ptp, 0x48⟩
abbrev PTP_STATUS : Reg := ⟨.ptp, 0x4C⟩
abbrev PTP_OFFSET : Reg := ⟨.ptp, 0x50⟩
abbrev PTP_PATH_DELAY : Reg := ⟨.ptp, 0x54⟩
abbrev PTP_GM_ID_LO : Reg := ⟨.ptp, 0x58⟩
abbrev PTP_GM_ID_HI : Reg := ⟨.ptp, 0x5C⟩
abbrev PTP_SYNC_RX : Reg := ⟨.ptp, 0x60⟩
abbrev NW_STATUS : Reg := ⟨.nw, 0x40⟩
abbrev NW_TRIP_ACTIVE : Reg := ⟨.nw, 0x44⟩
abbrev NW_TRIP_LATCHED : Reg := ⟨.nw, 0x48⟩
abbrev NW_RESET_STATUS : Reg := ⟨.nw, 0x4C⟩
abbrev NW_UNLOCK : Reg := ⟨.nw, 0x50⟩
abbrev NW_CMD : Reg := ⟨.nw, 0x54⟩
abbrev NW_SEAL : Reg := ⟨.nw, 0x58⟩
abbrev NW_CFG_CRC : Reg := ⟨.nw, 0x5C⟩
abbrev NW_CFG : Reg := ⟨.nw, 0x60⟩
abbrev NW_WATCHDOG : Reg := ⟨.nw, 0x64⟩
abbrev NW_TP_CFG : Reg := ⟨.nw, 0x68⟩
abbrev NW_FB_CFG : Reg := ⟨.nw, 0x6C⟩
abbrev NW_PERMIT_STATUS : Reg := ⟨.nw, 0x70⟩
abbrev NW_ECLIPSE_REL0 : Reg := ⟨.nw, 0x74⟩
abbrev NW_ECLIPSE_REL1 : Reg := ⟨.nw, 0x78⟩
abbrev NW_OSC_CHECK : Reg := ⟨.nw, 0x7C⟩
abbrev NW_IN_CFG (i : Nat) : Reg := ⟨.nw, 0x80 + 0x4 * i⟩
abbrev NW_IN_STATUS (i : Nat) : Reg := ⟨.nw, 0xA0 + 0x4 * i⟩
abbrev NW_WIN_CFG (i : Nat) : Reg := ⟨.nw, 0xC0 + 0x4 * i⟩
abbrev NW_LEDGER_CFG : Reg := ⟨.nw, 0xCC⟩
abbrev NW_LEDGER_SEL : Reg := ⟨.nw, 0xD0⟩
abbrev NW_LEDGER_SUM : Reg := ⟨.nw, 0xD4⟩
abbrev NW_LEDGER_CEIL : Reg := ⟨.nw, 0xD8⟩
abbrev NW_LEDGER_RESERVE : Reg := ⟨.nw, 0xDC⟩
abbrev NW_LEDGER_STATUS : Reg := ⟨.nw, 0xE0⟩
abbrev NW_TRIPS : Reg := ⟨.nw, 0xE4⟩
abbrev NW_RESETS_REJECTED : Reg := ⟨.nw, 0xE8⟩
abbrev NW_DISC_AMBIG : Reg := ⟨.nw, 0xEC⟩
abbrev NW_ECLIPSES : Reg := ⟨.nw, 0xF0⟩
abbrev NW_TESTS : Reg := ⟨.nw, 0xF4⟩
abbrev NW_TESTS_ABANDONED : Reg := ⟨.nw, 0xF8⟩
abbrev NW_ECOEF (i : Nat) : Reg := ⟨.nw, 0x100 + 0x4 * i⟩
abbrev NW_CEIL (i j : Nat) : Reg := ⟨.nw, 0x200 + 0x10 * i + 0x4 * j⟩
abbrev NW_SECTOR_SCALE (i : Nat) : Reg := ⟨.nw, 0x500 + 0x4 * i⟩
abbrev MON_CTRL : Reg := ⟨.mon, 0x40⟩
abbrev MON_STATUS : Reg := ⟨.mon, 0x44⟩
abbrev MON_SEQ_LEN : Reg := ⟨.mon, 0x48⟩
abbrev MON_IMP_CFG : Reg := ⟨.mon, 0x4C⟩
abbrev MON_SYNC_COUNTS : Reg := ⟨.mon, 0x54⟩
abbrev MON_SYNC_LAST : Reg := ⟨.mon, 0x58⟩
abbrev MON_NOTCH_STATUS : Reg := ⟨.mon, 0x5C⟩
abbrev MON_NOTCH_F (i : Nat) : Reg := ⟨.mon, 0x60 + 0x8 * i⟩
abbrev MON_NOTCH_BW (i : Nat) : Reg := ⟨.mon, 0x64 + 0x8 * i⟩
abbrev MON_SEQ (i : Nat) : Reg := ⟨.mon, 0x80 + 0x4 * i⟩
abbrev MON_CH_CFG (i : Nat) : Reg := ⟨.mon, 0x100 + 0x10 * i⟩
abbrev MON_CH_EXC (i : Nat) : Reg := ⟨.mon, 0x104 + 0x10 * i⟩
abbrev MON_CH_AUX (i : Nat) : Reg := ⟨.mon, 0x108 + 0x10 * i⟩
abbrev MON_CH_ZLIM (i : Nat) : Reg := ⟨.mon, 0x10C + 0x10 * i⟩
abbrev MON_CH_RAW (i : Nat) : Reg := ⟨.mon, 0x300 + 0x10 * i⟩
abbrev MON_CH_VALUE (i : Nat) : Reg := ⟨.mon, 0x304 + 0x10 * i⟩
abbrev MON_CH_TIME (i : Nat) : Reg := ⟨.mon, 0x308 + 0x10 * i⟩
abbrev MON_CH_IMP (i : Nat) : Reg := ⟨.mon, 0x30C + 0x10 * i⟩
abbrev MON_CURVE_P0 (i : Nat) : Reg := ⟨.mon, 0x500 + 0x10 * i⟩
abbrev MON_CURVE_P1 (i : Nat) : Reg := ⟨.mon, 0x504 + 0x10 * i⟩
abbrev MON_CURVE_P2 (i : Nat) : Reg := ⟨.mon, 0x508 + 0x10 * i⟩
abbrev MON_COEF_ADDR : Reg := ⟨.mon, 0x600⟩
abbrev MON_COEF_DATA : Reg := ⟨.mon, 0x604⟩
abbrev MON_SHIFT (i : Nat) : Reg := ⟨.mon, 0x610 + 0x4 * i⟩
abbrev SCAN_CTRL : Reg := ⟨.scan, 0x40⟩
abbrev SCAN_STATUS : Reg := ⟨.scan, 0x44⟩
abbrev SCAN_FRAME_CFG : Reg := ⟨.scan, 0x48⟩
abbrev SCAN_FRAME_PERIOD : Reg := ⟨.scan, 0x4C⟩
abbrev SCAN_FRAME_ACTIVE : Reg := ⟨.scan, 0x50⟩
abbrev SCAN_FRAME_ANCHOR_LO : Reg := ⟨.scan, 0x54⟩
abbrev SCAN_FRAME_ANCHOR_HI : Reg := ⟨.scan, 0x58⟩
abbrev SCAN_SYNC_CFG : Reg := ⟨.scan, 0x5C⟩
abbrev SCAN_FAST_CFG : Reg := ⟨.scan, 0x60⟩
abbrev SCAN_FAST_ACTIVE : Reg := ⟨.scan, 0x64⟩
abbrev SCAN_FAST_TARGET : Reg := ⟨.scan, 0x68⟩
abbrev SCAN_FAST_TOL : Reg := ⟨.scan, 0x6C⟩
abbrev SCAN_FAST_GAIN : Reg := ⟨.scan, 0x70⟩
abbrev SCAN_FAST_FREQ_LIM : Reg := ⟨.scan, 0x74⟩
abbrev SCAN_FAST_MEAS : Reg := ⟨.scan, 0x78⟩
abbrev SCAN_FAST_AMP : Reg := ⟨.scan, 0x7C⟩
abbrev SCAN_POLY_CFG : Reg := ⟨.scan, 0x80⟩
abbrev SCAN_POLY_TARGET : Reg := ⟨.scan, 0x84⟩
abbrev SCAN_START_CFG : Reg := ⟨.scan, 0x88⟩
abbrev SCAN_SLOW_RANGE : Reg := ⟨.scan, 0x8C⟩
abbrev SCAN_SLOW_VSCAN : Reg := ⟨.scan, 0x90⟩
abbrev SCAN_SLOW_VMAX : Reg := ⟨.scan, 0x94⟩
abbrev SCAN_SLOW_AMAX : Reg := ⟨.scan, 0x98⟩
abbrev SCAN_SLOW_JMAX : Reg := ⟨.scan, 0x9C⟩
abbrev SCAN_SLOW_HOLD : Reg := ⟨.scan, 0xA0⟩
abbrev SCAN_SLOW_GAIN0 : Reg := ⟨.scan, 0xA4⟩
abbrev SCAN_SLOW_GAIN1 : Reg := ⟨.scan, 0xA8⟩
abbrev SCAN_SLOW_BIAS : Reg := ⟨.scan, 0xAC⟩
abbrev SCAN_SLOW_TIMES : Reg := ⟨.scan, 0xB0⟩
abbrev SCAN_SENSE_FAST : Reg := ⟨.scan, 0xB4⟩
abbrev SCAN_SENSE_SLOW : Reg := ⟨.scan, 0xB8⟩
abbrev SCAN_SENSE_DELAY : Reg := ⟨.scan, 0xBC⟩
abbrev SCAN_PLAUS_TOL : Reg := ⟨.scan, 0xC0⟩
abbrev SCAN_PLAUS_CNT : Reg := ⟨.scan, 0xC4⟩
abbrev SCAN_ENC_STATUS : Reg := ⟨.scan, 0xC8⟩
abbrev SCAN_SUPPRESS (i : Nat) : Reg := ⟨.scan, 0xD0 + 0x4 * i⟩
abbrev SCAN_DAC_CFG (i : Nat) : Reg := ⟨.scan, 0xE0 + 0x4 * i⟩
abbrev SCAN_DAC_SAFE (i : Nat) : Reg := ⟨.scan, 0xF0 + 0x4 * i⟩
abbrev SCAN_FRAME_NUM : Reg := ⟨.scan, 0x100⟩
abbrev SCAN_LAST_FRAME : Reg := ⟨.scan, 0x104⟩
abbrev SCAN_FRAME_COUNTS : Reg := ⟨.scan, 0x108⟩
abbrev SCAN_SYNC_COUNTS : Reg := ⟨.scan, 0x10C⟩
abbrev EMIT_CTRL : Reg := ⟨.emit, 0x40⟩
abbrev EMIT_COLUMN_TIMING : Reg := ⟨.emit, 0x44⟩
abbrev EMIT_DIAG_CFG : Reg := ⟨.emit, 0x48⟩
abbrev EMIT_DWELL_CFG : Reg := ⟨.emit, 0x4C⟩
abbrev EMIT_STARLINE_CFG : Reg := ⟨.emit, 0x50⟩
abbrev EMIT_STARLINE_LEN : Reg := ⟨.emit, 0x54⟩
abbrev EMIT_STARLINE_STATUS : Reg := ⟨.emit, 0x58⟩
abbrev EMIT_TEMP_SRC : Reg := ⟨.emit, 0x5C⟩
abbrev EMIT_GROUP_DERATE (i : Nat) : Reg := ⟨.emit, 0x60 + 0x4 * i⟩
abbrev EMIT_GROUP_TEMP (i : Nat) : Reg := ⟨.emit, 0x70 + 0x4 * i⟩
abbrev EMIT_PORT_CLEAR0 : Reg := ⟨.emit, 0x80⟩
abbrev EMIT_PORT_CLEAR1 : Reg := ⟨.emit, 0x84⟩
abbrev EMIT_PORT_CFG (i : Nat) : Reg := ⟨.emit, 0x100 + 0x10 * i⟩
abbrev EMIT_PORT_CODE (i : Nat) : Reg := ⟨.emit, 0x104 + 0x10 * i⟩
abbrev EMIT_PORT_CURRENT (i : Nat) : Reg := ⟨.emit, 0x108 + 0x10 * i⟩
abbrev EMIT_PORT_STATUS (i : Nat) : Reg := ⟨.emit, 0x10C + 0x10 * i⟩
abbrev EMIT_FIRED (i : Nat) : Reg := ⟨.emit, 0x400 + 0x20 * i⟩
abbrev EMIT_PROOF (i : Nat) : Reg := ⟨.emit, 0x404 + 0x20 * i⟩
abbrev EMIT_SKIPPED (i : Nat) : Reg := ⟨.emit, 0x408 + 0x20 * i⟩
abbrev EMIT_INHIBITED (i : Nat) : Reg := ⟨.emit, 0x40C + 0x20 * i⟩
abbrev EMIT_HALO_AGE (i : Nat) : Reg := ⟨.emit, 0x410 + 0x20 * i⟩
abbrev EMIT_COMP_TAB (i j : Nat) : Reg := ⟨.emit, 0xC00 + 0x40 * i + 0x4 * j⟩
abbrev EMIT_DWELL (i : Nat) : Reg := ⟨.emit, 0x414 + 0x20 * i⟩
abbrev CODE_CODE_CFG : Reg := ⟨.code, 0x40⟩
abbrev CODE_SEED : Reg := ⟨.code, 0x44⟩
abbrev CODE_CODE_STATUS : Reg := ⟨.code, 0x48⟩
abbrev CODE_CODE_SEL : Reg := ⟨.code, 0x4C⟩
abbrev CODE_CODE_READ0 : Reg := ⟨.code, 0x50⟩
abbrev CODE_CODE_READ1 : Reg := ⟨.code, 0x54⟩
abbrev CODE_CODE_READ2 : Reg := ⟨.code, 0x58⟩
abbrev CODE_XL (i : Nat) : Reg := ⟨.code, 0x80 + 0x4 * i⟩
abbrev CAL_CTRL : Reg := ⟨.cal, 0x40⟩
abbrev CAL_TDC_ACCEPT : Reg := ⟨.cal, 0x44⟩
abbrev CAL_TDC_RUN : Reg := ⟨.cal, 0x48⟩
abbrev CAL_AUTO_CFG : Reg := ⟨.cal, 0x4C⟩
abbrev CAL_WAVE_ACCEPT : Reg := ⟨.cal, 0x50⟩
abbrev CAL_RZ_CFG : Reg := ⟨.cal, 0x54⟩
abbrev CAL_EPOCH : Reg := ⟨.cal, 0x58⟩
abbrev CAL_BLEND_STATUS : Reg := ⟨.cal, 0x5C⟩
abbrev CAL_CONV_SEL : Reg := ⟨.cal, 0x60⟩
abbrev CAL_CONV_STATUS : Reg := ⟨.cal, 0x64⟩
abbrev CAL_CONV_QUALITY : Reg := ⟨.cal, 0x68⟩
abbrev CAL_CONV_DRIFT : Reg := ⟨.cal, 0x6C⟩
abbrev CAL_CONV_LAST_DIFF : Reg := ⟨.cal, 0x70⟩
abbrev CAL_HALO_WIN (i : Nat) : Reg := ⟨.cal, 0x200 + 0x4 * i⟩
abbrev CAL_HALO_REF (i : Nat) : Reg := ⟨.cal, 0x300 + 0x4 * i⟩
abbrev CAL_RZ (i : Nat) : Reg := ⟨.cal, 0x400 + 0x4 * i⟩
abbrev CAL_RZ_EST (i : Nat) : Reg := ⟨.cal, 0x500 + 0x4 * i⟩
abbrev SKY_CTRL : Reg := ⟨.sky, 0x40⟩
abbrev SKY_EXPO_COMMIT : Reg := ⟨.sky, 0x44⟩
abbrev SKY_GEN : Reg := ⟨.sky, 0x48⟩
abbrev SKY_LISTEN_SHORT : Reg := ⟨.sky, 0x4C⟩
abbrev SKY_LISTEN_LONG : Reg := ⟨.sky, 0x50⟩
abbrev SKY_MERGE : Reg := ⟨.sky, 0x54⟩
abbrev SKY_AE_CFG : Reg := ⟨.sky, 0x58⟩
abbrev SKY_AE_LIMITS : Reg := ⟨.sky, 0x5C⟩
abbrev SKY_STATS_FRAME : Reg := ⟨.sky, 0x60⟩
abbrev SKY_STATS_GEN : Reg := ⟨.sky, 0x64⟩
abbrev SKY_STATS_STATUS : Reg := ⟨.sky, 0x68⟩
abbrev SKY_AMB_NO_CHUNK : Reg := ⟨.sky, 0x6C⟩
abbrev SKY_SKY_LATE : Reg := ⟨.sky, 0x70⟩
abbrev SKY_AE_SKIPPED : Reg := ⟨.sky, 0x74⟩
abbrev SKY_TONE (i : Nat) : Reg := ⟨.sky, 0x100 + 0x4 * i⟩
abbrev SKY_PILEUP (i j : Nat) : Reg := ⟨.sky, 0x200 + 0x20 * i + 0x4 * j⟩
abbrev SKY_ZONE_AVG (i : Nat) : Reg := ⟨.sky, 0x800 + 0x4 * i⟩
abbrev SKY_REGION_HIST (i j : Nat) : Reg := ⟨.sky, 0xA00 + 0x100 * i + 0x4 * j⟩
abbrev STREAM_CTRL : Reg := ⟨.stream, 0x40⟩
abbrev STREAM_STATUS : Reg := ⟨.stream, 0x44⟩
abbrev STREAM_SEQ_NEXT : Reg := ⟨.stream, 0x48⟩
abbrev STREAM_FLUSH : Reg := ⟨.stream, 0x4C⟩
abbrev STREAM_RING_BASE_LO : Reg := ⟨.stream, 0x50⟩
abbrev STREAM_RING_BASE_HI : Reg := ⟨.stream, 0x54⟩
abbrev STREAM_RING_SIZE : Reg := ⟨.stream, 0x58⟩
abbrev STREAM_RING_WPTR : Reg := ⟨.stream, 0x5C⟩
abbrev STREAM_RING_RPTR : Reg := ⟨.stream, 0x60⟩
abbrev STREAM_WB_ADDR_LO : Reg := ⟨.stream, 0x64⟩
abbrev STREAM_WB_ADDR_HI : Reg := ⟨.stream, 0x68⟩
abbrev STREAM_COALESCE : Reg := ⟨.stream, 0x6C⟩
abbrev STREAM_UDP_CFG : Reg := ⟨.stream, 0x70⟩
abbrev STREAM_FENCE : Reg := ⟨.stream, 0x74⟩
abbrev STREAM_FENCE_DONE : Reg := ⟨.stream, 0x78⟩
abbrev STREAM_PACKETS : Reg := ⟨.stream, 0x7C⟩
abbrev STREAM_BLOCKS : Reg := ⟨.stream, 0x80⟩
abbrev STREAM_DISCARDED : Reg := ⟨.stream, 0x84⟩
abbrev STREAM_DISCARD_LAST : Reg := ⟨.stream, 0x88⟩
abbrev STREAM_LATE_RECORDS : Reg := ⟨.stream, 0x8C⟩
abbrev STREAM_FRAMES_SIGNED : Reg := ⟨.stream, 0x90⟩
abbrev STREAM_LAST_CLOSED : Reg := ⟨.stream, 0x94⟩
abbrev STREAM_EXPORT_CONSUMED : Reg := ⟨.stream, 0x98⟩
abbrev STREAM_EXPORT_PRODUCED : Reg := ⟨.stream, 0x9C⟩
abbrev STREAM_KEY_ID : Reg := ⟨.stream, 0xA0⟩
abbrev STREAM_FORWARDED : Reg := ⟨.stream, 0xA4⟩
abbrev STREAM_FORWARD_DISCARDED : Reg := ⟨.stream, 0xA8⟩
abbrev COMP_CTRL : Reg := ⟨.comp, 0x40⟩
abbrev COMP_CODED : Reg := ⟨.comp, 0x44⟩
abbrev COMP_RAW_FIT : Reg := ⟨.comp, 0x48⟩
abbrev COMP_VERIFY_FAIL : Reg := ⟨.comp, 0x4C⟩
abbrev COMP_LAST_BITS : Reg := ⟨.comp, 0x50⟩
abbrev HOST_LINK_STATUS : Reg := ⟨.host, 0x40⟩
abbrev HOST_LINK_CTRL : Reg := ⟨.host, 0x44⟩
abbrev HOST_LINK_DOWNS : Reg := ⟨.host, 0x48⟩
abbrev HOST_AER_CE : Reg := ⟨.host, 0x4C⟩
abbrev HOST_AER_UCE : Reg := ⟨.host, 0x50⟩
abbrev NET_CTRL (u : Nat) : Reg := ⟨(.net u), 0x40⟩
abbrev NET_STATUS (u : Nat) : Reg := ⟨(.net u), 0x44⟩
abbrev NET_MAC_LO (u : Nat) : Reg := ⟨(.net u), 0x48⟩
abbrev NET_MAC_HI (u : Nat) : Reg := ⟨(.net u), 0x4C⟩
abbrev NET_DEST_MAC_LO (u : Nat) : Reg := ⟨(.net u), 0x50⟩
abbrev NET_DEST_MAC_HI (u : Nat) : Reg := ⟨(.net u), 0x54⟩
abbrev NET_VLAN (u : Nat) : Reg := ⟨(.net u), 0x58⟩
abbrev NET_UDP_PORTS (u : Nat) : Reg := ⟨(.net u), 0x5C⟩
abbrev NET_RA_PORT (u : Nat) : Reg := ⟨(.net u), 0x60⟩
abbrev NET_RA_SRC_EN (u : Nat) : Reg := ⟨(.net u), 0x64⟩
abbrev NET_OWN_IP (u : Nat) (i : Nat) : Reg := ⟨(.net u), 0x70 + 0x4 * i⟩
abbrev NET_DEST_IP (u : Nat) (i : Nat) : Reg := ⟨(.net u), 0x80 + 0x4 * i⟩
abbrev NET_RA_SRC (u : Nat) (i j : Nat) : Reg := ⟨(.net u), 0x90 + 0x10 * i + 0x4 * j⟩
abbrev NET_TX_FRAMES (u : Nat) : Reg := ⟨(.net u), 0xD0⟩
abbrev NET_RX_FRAMES (u : Nat) : Reg := ⟨(.net u), 0xD4⟩
abbrev NET_RX_FCS_ERR (u : Nat) : Reg := ⟨(.net u), 0xD8⟩
abbrev NET_RX_DROPPED (u : Nat) : Reg := ⟨(.net u), 0xDC⟩
abbrev NET_RA_REJECTED (u : Nat) : Reg := ⟨(.net u), 0xE0⟩
abbrev SEC_STATUS : Reg := ⟨.sec, 0x40⟩
abbrev SEC_CTRL : Reg := ⟨.sec, 0x44⟩
abbrev SEC_ROLLBACK : Reg := ⟨.sec, 0x48⟩
abbrev SEC_ROLLBACK_ADV : Reg := ⟨.sec, 0x4C⟩
abbrev SEC_BOOT_COUNT : Reg := ⟨.sec, 0x50⟩
abbrev SEC_FK_ID : Reg := ⟨.sec, 0x54⟩
abbrev SEC_WIN_SEL : Reg := ⟨.sec, 0x58⟩
abbrev SEC_WIN_DATA : Reg := ⟨.sec, 0x5C⟩
abbrev SEC_NONCE (i : Nat) : Reg := ⟨.sec, 0x60 + 0x4 * i⟩
abbrev ALM_CTRL : Reg := ⟨.alm, 0x40⟩
abbrev ALM_STATUS : Reg := ⟨.alm, 0x44⟩
abbrev ALM_NEXT_SEQ : Reg := ⟨.alm, 0x48⟩
abbrev ALM_FLUSHED_SEQ : Reg := ⟨.alm, 0x4C⟩
abbrev ALM_OLDEST_SEQ : Reg := ⟨.alm, 0x50⟩
abbrev ALM_WRAPS : Reg := ⟨.alm, 0x54⟩
abbrev ALM_LOST : Reg := ⟨.alm, 0x58⟩
abbrev ALM_READ_SEQ : Reg := ⟨.alm, 0x5C⟩
abbrev ALM_FLUSHES : Reg := ⟨.alm, 0x60⟩
abbrev ALM_WINDOW (i : Nat) : Reg := ⟨.alm, 0x80 + 0x4 * i⟩
abbrev RES_CTRL : Reg := ⟨.res, 0x40⟩
abbrev RES_WEAR_CFG : Reg := ⟨.res, 0x44⟩
abbrev RES_AGE_CFG : Reg := ⟨.res, 0x48⟩
abbrev RES_BIST_CFG : Reg := ⟨.res, 0x4C⟩
abbrev RES_REMAIN : Reg := ⟨.res, 0x50⟩
abbrev RES_RESERVE_GEN : Reg := ⟨.res, 0x54⟩
abbrev RES_LANE_SPARE : Reg := ⟨.res, 0x58⟩
abbrev RES_LANE_SPARE_B : Reg := ⟨.res, 0x5C⟩
abbrev RES_ENG_SWAP (i : Nat) : Reg := ⟨.res, 0x60 + 0x4 * i⟩
abbrev RES_BAY_SWAP (i : Nat) : Reg := ⟨.res, 0xE0 + 0x4 * i⟩
abbrev RES_BANK_SWAP (i : Nat) : Reg := ⟨.res, 0x1A0 + 0x4 * i⟩
abbrev RES_AGE (i : Nat) : Reg := ⟨.res, 0x1C0 + 0x4 * i⟩
abbrev FLASH_INFO : Reg := ⟨.flash, 0x40⟩
abbrev FLASH_ADDR : Reg := ⟨.flash, 0x44⟩
abbrev FLASH_CMD : Reg := ⟨.flash, 0x48⟩
abbrev FLASH_STATUS : Reg := ⟨.flash, 0x4C⟩
abbrev FLASH_BUF (i : Nat) : Reg := ⟨.flash, 0x100 + 0x4 * i⟩
abbrev LANE_LANE_CTRL (u : Nat) : Reg := ⟨(.lane u), 0x40⟩
abbrev LANE_LINK_STATUS (u : Nat) : Reg := ⟨(.lane u), 0x44⟩
abbrev LANE_LINK_TIMING (u : Nat) : Reg := ⟨(.lane u), 0x48⟩
abbrev LANE_PRBS_CTRL (u : Nat) : Reg := ⟨(.lane u), 0x4C⟩
abbrev LANE_PRBS_STATUS (u : Nat) : Reg := ⟨(.lane u), 0x50⟩
abbrev LANE_PRBS_ERRORS (u : Nat) : Reg := ⟨(.lane u), 0x54⟩
abbrev LANE_SYNC_HDR_ERR (u : Nat) : Reg := ⟨(.lane u), 0x58⟩
abbrev LANE_ELASTIC (u : Nat) : Reg := ⟨(.lane u), 0x5C⟩
abbrev LANE_FILL_COUNTS (u : Nat) : Reg := ⟨(.lane u), 0x60⟩
abbrev LANE_MARGIN (u : Nat) : Reg := ⟨(.lane u), 0x64⟩
abbrev LANE_MARGIN_MIN (u : Nat) : Reg := ⟨(.lane u), 0x68⟩
abbrev LANE_LOS_COUNT (u : Nat) : Reg := ⟨(.lane u), 0x6C⟩
abbrev QTR_DISPATCH_LIMIT (u : Nat) : Reg := ⟨(.qtr u), 0x40⟩
abbrev QTR_QUEUE_DEPTH (u : Nat) : Reg := ⟨(.qtr u), 0x44⟩
abbrev QTR_CLUSTERS (u : Nat) : Reg := ⟨(.qtr u), 0x48⟩
abbrev QTR_DISPATCHED (u : Nat) : Reg := ⟨(.qtr u), 0x4C⟩
abbrev QTR_LATE (u : Nat) : Reg := ⟨(.qtr u), 0x50⟩
abbrev QTR_HELD (u : Nat) : Reg := ⟨(.qtr u), 0x54⟩
abbrev QTR_BAYQ (u : Nat) (i : Nat) : Reg := ⟨(.qtr u), 0x60 + 0x4 * i⟩
abbrev POOL_WAIT_LIMIT (u : Nat) : Reg := ⟨(.pool u), 0x40⟩
abbrev POOL_C_CAP (u : Nat) : Reg := ⟨(.pool u), 0x44⟩
abbrev POOL_FREE (u : Nat) : Reg := ⟨(.pool u), 0x48⟩
abbrev POOL_SHARED (u : Nat) : Reg := ⟨(.pool u), 0x4C⟩
abbrev POOL_WAITING (u : Nat) : Reg := ⟨(.pool u), 0x50⟩
abbrev POOL_ECC_CFG (u : Nat) : Reg := ⟨(.pool u), 0x54⟩
abbrev POOL_ECC_STATUS (u : Nat) : Reg := ⟨(.pool u), 0x58⟩
abbrev POOL_LIST_FULL (u : Nat) : Reg := ⟨(.pool u), 0x5C⟩
abbrev POOL_GRANTS (u : Nat) (i : Nat) : Reg := ⟨(.pool u), 0x60 + 0x4 * i⟩
abbrev POOL_REFUSED (u : Nat) (i : Nat) : Reg := ⟨(.pool u), 0x70 + 0x4 * i⟩
abbrev POOL_FLOOR (u : Nat) (i : Nat) : Reg := ⟨(.pool u), 0x80 + 0x4 * i⟩
abbrev POOL_BANK_CE (u : Nat) (i : Nat) : Reg := ⟨(.pool u), 0x100 + 0x4 * i⟩
abbrev CLU_CTRL (u : Nat) : Reg := ⟨(.clu u), 0x40⟩
abbrev CLU_ENG_MASKS (u : Nat) : Reg := ⟨(.clu u), 0x44⟩
abbrev CLU_ENG_BUSY (u : Nat) : Reg := ⟨(.clu u), 0x48⟩
abbrev CLU_ENG_RELEASE (u : Nat) : Reg := ⟨(.clu u), 0x4C⟩
abbrev CLU_CYCLE_LIMIT (u : Nat) : Reg := ⟨(.clu u), 0x50⟩
abbrev CLU_CYCLES_MAX (u : Nat) : Reg := ⟨(.clu u), 0x54⟩
abbrev CLU_CYCLES_AVG (u : Nat) : Reg := ⟨(.clu u), 0x58⟩
abbrev CLU_DISPATCHES (u : Nat) : Reg := ⟨(.clu u), 0x5C⟩
abbrev CLU_TRAPS (u : Nat) : Reg := ⟨(.clu u), 0x60⟩
abbrev CLU_TRAP_LAST (u : Nat) : Reg := ⟨(.clu u), 0x64⟩
abbrev CLU_TRAP_CFG (u : Nat) : Reg := ⟨(.clu u), 0x68⟩
abbrev CLU_KBANK (u : Nat) : Reg := ⟨(.clu u), 0x6C⟩
abbrev CLU_KBLOCK (u : Nat) : Reg := ⟨(.clu u), 0x70⟩
abbrev CLU_KUNBLOCK (u : Nat) : Reg := ⟨(.clu u), 0x74⟩
abbrev CLU_DWELL_POSTED (u : Nat) : Reg := ⟨(.clu u), 0x78⟩
abbrev CLU_DWELL_DROPPED (u : Nat) : Reg := ⟨(.clu u), 0x7C⟩
abbrev CLU_CAPTURE_POSTED (u : Nat) : Reg := ⟨(.clu u), 0x80⟩
abbrev CLU_SHARED_ECC (u : Nat) : Reg := ⟨(.clu u), 0x84⟩
abbrev CLU_BAY_PSET0 (u : Nat) : Reg := ⟨(.clu u), 0x88⟩
abbrev CLU_BAY_PSET1 (u : Nat) : Reg := ⟨(.clu u), 0x8C⟩
abbrev CLU_ENG_STATUS (u : Nat) (i : Nat) : Reg := ⟨(.clu u), 0x100 + 0x4 * i⟩
abbrev CLU_PSET (u : Nat) (i j : Nat) : Reg := ⟨(.clu u), 0x400 + 0x80 * i + 0x4 * j⟩
abbrev CLU_PIXCAL_OFFSET (u : Nat) (i : Nat) : Reg := ⟨(.clu u), 0x800 + 0x8 * i⟩
abbrev CLU_PIXCAL_GAIN (u : Nat) (i : Nat) : Reg := ⟨(.clu u), 0x804 + 0x8 * i⟩
abbrev CLU_WALK (u : Nat) (i j : Nat) : Reg := ⟨(.clu u), 0xB00 + 0x40 * i + 0x4 * j⟩
abbrev BAY_TDC_CTRL (u : Nat) : Reg := ⟨(.bay u), 0x40⟩
abbrev BAY_TDC_TIMING (u : Nat) : Reg := ⟨(.bay u), 0x44⟩
abbrev BAY_CH_ENABLE (u : Nat) : Reg := ⟨(.bay u), 0x48⟩
abbrev BAY_CH_QUAR (u : Nat) : Reg := ⟨(.bay u), 0x4C⟩
abbrev BAY_CH_RELEASE (u : Nat) : Reg := ⟨(.bay u), 0x50⟩
abbrev BAY_SPARE_STATUS (u : Nat) : Reg := ⟨(.bay u), 0x54⟩
abbrev BAY_EC_CTRL (u : Nat) : Reg := ⟨(.bay u), 0x58⟩
abbrev BAY_EC_WINDOW (u : Nat) : Reg := ⟨(.bay u), 0x5C⟩
abbrev BAY_EC_COUNT (u : Nat) : Reg := ⟨(.bay u), 0x60⟩
abbrev BAY_EC_LAST (u : Nat) : Reg := ⟨(.bay u), 0x64⟩
abbrev BAY_EC_STREAK (u : Nat) : Reg := ⟨(.bay u), 0x68⟩
abbrev BAY_FAULT_CTRL (u : Nat) : Reg := ⟨(.bay u), 0x6C⟩
abbrev BAY_SELFTEST_CFG (u : Nat) : Reg := ⟨(.bay u), 0x70⟩
abbrev BAY_CH_THRESH (u : Nat) (i : Nat) : Reg := ⟨(.bay u), 0x100 + 0x20 * i⟩
abbrev BAY_CH_CFG (u : Nat) (i : Nat) : Reg := ⟨(.bay u), 0x104 + 0x20 * i⟩
abbrev BAY_CH_STATUS (u : Nat) (i : Nat) : Reg := ⟨(.bay u), 0x108 + 0x20 * i⟩
abbrev BAY_CH_EVENTS (u : Nat) (i : Nat) : Reg := ⟨(.bay u), 0x10C + 0x20 * i⟩
abbrev BAY_CH_MISSED (u : Nat) (i : Nat) : Reg := ⟨(.bay u), 0x110 + 0x20 * i⟩
abbrev BAY_CH_TIMEOUTS (u : Nat) (i : Nat) : Reg := ⟨(.bay u), 0x114 + 0x20 * i⟩
abbrev BAY_CH_ARMONLY (u : Nat) (i : Nat) : Reg := ⟨(.bay u), 0x118 + 0x20 * i⟩
abbrev BAY_CH_SELFTEST (u : Nat) (i : Nat) : Reg := ⟨(.bay u), 0x11C + 0x20 * i⟩
abbrev BAY_HIST_CFG (u : Nat) : Reg := ⟨(.bay u), 0x200⟩
abbrev BAY_GATE_OPEN (u : Nat) : Reg := ⟨(.bay u), 0x204⟩
abbrev BAY_GATE_CLOSE (u : Nat) : Reg := ⟨(.bay u), 0x208⟩
abbrev BAY_HIST_GEOM (u : Nat) : Reg := ⟨(.bay u), 0x20C⟩
abbrev BAY_VOTE_STATUS (u : Nat) : Reg := ⟨(.bay u), 0x210⟩
abbrev BAY_VOTE_DEMAND (u : Nat) : Reg := ⟨(.bay u), 0x214⟩
abbrev BAY_ZONE_COLS (u : Nat) (i : Nat) : Reg := ⟨(.bay u), 0x220 + 0x8 * i⟩
abbrev BAY_ZONE_ROWS (u : Nat) (i : Nat) : Reg := ⟨(.bay u), 0x224 + 0x8 * i⟩
abbrev BAY_VOTES_CAST (u : Nat) : Reg := ⟨(.bay u), 0x260⟩
abbrev BAY_EVENTS_THINNED (u : Nat) : Reg := ⟨(.bay u), 0x264⟩
abbrev BAY_EVENTS_C_DROPPED (u : Nat) : Reg := ⟨(.bay u), 0x268⟩
abbrev BAY_HIST_GRANTED (u : Nat) : Reg := ⟨(.bay u), 0x26C⟩
abbrev BAY_HIST_DISPATCHED (u : Nat) : Reg := ⟨(.bay u), 0x270⟩
abbrev BAY_POOL_DELAYED (u : Nat) : Reg := ⟨(.bay u), 0x274⟩
abbrev BAY_POOL_REFUSED (u : Nat) : Reg := ⟨(.bay u), 0x278⟩
abbrev BAY_POOL_WAIT_MAX (u : Nat) : Reg := ⟨(.bay u), 0x27C⟩
abbrev BAY_DISPATCH_HELD (u : Nat) : Reg := ⟨(.bay u), 0x280⟩
abbrev BAY_ENGINE_LATE (u : Nat) : Reg := ⟨(.bay u), 0x284⟩
abbrev BAY_CHUNKS (u : Nat) : Reg := ⟨(.bay u), 0x288⟩
abbrev BAY_AMBIENT (u : Nat) : Reg := ⟨(.bay u), 0x28C⟩
abbrev BAY_WAVE_CTRL (u : Nat) : Reg := ⟨(.bay u), 0x300⟩
abbrev BAY_WAVE_SCAN (u : Nat) : Reg := ⟨(.bay u), 0x304⟩
abbrev BAY_WAVE_PLACE (u : Nat) : Reg := ⟨(.bay u), 0x308⟩
abbrev BAY_WAVE_STATUS (u : Nat) : Reg := ⟨(.bay u), 0x30C⟩
abbrev BAY_WAVE_HOST_REQ0 (u : Nat) : Reg := ⟨(.bay u), 0x310⟩
abbrev BAY_WAVE_HOST_REQ1 (u : Nat) : Reg := ⟨(.bay u), 0x314⟩
abbrev BAY_WAVE_EST (u : Nat) : Reg := ⟨(.bay u), 0x318⟩
abbrev BAY_WAVE_HALO (u : Nat) : Reg := ⟨(.bay u), 0x31C⟩
abbrev BAY_SLICE_STATUS (u : Nat) (i : Nat) : Reg := ⟨(.bay u), 0x320 + 0x10 * i⟩
abbrev BAY_SLICE_OFFGAIN (u : Nat) (i : Nat) : Reg := ⟨(.bay u), 0x324 + 0x10 * i⟩
abbrev BAY_SLICE_SKEW (u : Nat) (i : Nat) : Reg := ⟨(.bay u), 0x328 + 0x10 * i⟩
abbrev BAY_CAPTURES (u : Nat) : Reg := ⟨(.bay u), 0x380⟩
abbrev BAY_URGENT_SERVED (u : Nat) : Reg := ⟨(.bay u), 0x384⟩
abbrev BAY_URGENT_DROPPED (u : Nat) : Reg := ⟨(.bay u), 0x388⟩
abbrev BAY_URGENT_EXPIRED (u : Nat) : Reg := ⟨(.bay u), 0x38C⟩
abbrev BAY_CAP_NO_CHUNK (u : Nat) : Reg := ⟨(.bay u), 0x390⟩
abbrev BAY_CAP_BUSY (u : Nat) : Reg := ⟨(.bay u), 0x394⟩
abbrev BAY_CAP_LATE (u : Nat) : Reg := ⟨(.bay u), 0x398⟩
abbrev BAY_CAP_REPLACED (u : Nat) : Reg := ⟨(.bay u), 0x39C⟩
abbrev BAY_OVERRANGE (u : Nat) : Reg := ⟨(.bay u), 0x3A0⟩

end R

namespace F

abbrev PAGE_ID_TYPE (g : Page) : Fld := ⟨g, 0x0, 24, 8⟩
abbrev PAGE_ID_INSTANCE (g : Page) : Fld := ⟨g, 0x0, 12, 12⟩
abbrev PAGE_ID_LAYOUT (g : Page) : Fld := ⟨g, 0x0, 0, 8⟩
abbrev PAGE_CAPS_SWITCHABLE (g : Page) : Fld := ⟨g, 0x4, 31, 1⟩
abbrev PAGE_CAPS_SHADOWED (g : Page) : Fld := ⟨g, 0x4, 30, 1⟩
abbrev PAGE_CAPS_QUIESCE (g : Page) : Fld := ⟨g, 0x4, 29, 1⟩
abbrev PAGE_CAPS_TASKS (g : Page) : Fld := ⟨g, 0x4, 28, 1⟩
abbrev PAGE_CAPS_FRAME_BOUND (g : Page) : Fld := ⟨g, 0x4, 27, 1⟩
abbrev PAGE_CAPS_FEATURES (g : Page) : Fld := ⟨g, 0x4, 0, 16⟩
abbrev PAGE_STATE_TASK_BUSY (g : Page) : Fld := ⟨g, 0x8, 10, 1⟩
abbrev PAGE_STATE_HELD_WRITES (g : Page) : Fld := ⟨g, 0x8, 9, 1⟩
abbrev PAGE_STATE_REENABLE_PENDING (g : Page) : Fld := ⟨g, 0x8, 8, 1⟩
abbrev PAGE_STATE_RUN (g : Page) : Fld := ⟨g, 0x8, 4, 3⟩
abbrev PAGE_STATE_POWER (g : Page) : Fld := ⟨g, 0x8, 0, 3⟩
abbrev PAGE_CTRL_RESET_KEY (g : Page) : Fld := ⟨g, 0xC, 24, 8⟩
abbrev PAGE_CTRL_PAGE_RESET (g : Page) : Fld := ⟨g, 0xC, 8, 1⟩
abbrev PAGE_CTRL_RESUME (g : Page) : Fld := ⟨g, 0xC, 3, 1⟩
abbrev PAGE_CTRL_DRAIN_REQ (g : Page) : Fld := ⟨g, 0xC, 2, 1⟩
abbrev PAGE_CTRL_QUIESCE (g : Page) : Fld := ⟨g, 0xC, 1, 1⟩
abbrev PAGE_CTRL_EN (g : Page) : Fld := ⟨g, 0xC, 0, 1⟩
abbrev ERR_STATUS_LOWER (g : Page) : Fld := ⟨g, 0x10, 31, 1⟩
abbrev ERR_STATUS_ACCESS (g : Page) : Fld := ⟨g, 0x10, 30, 1⟩
abbrev ERR_STATUS_PARITY (g : Page) : Fld := ⟨g, 0x10, 29, 1⟩
abbrev ERR_STATUS_CAUSE (g : Page) : Fld := ⟨g, 0x10, 0, 29⟩
abbrev ERR_ENABLE_LOWER (g : Page) : Fld := ⟨g, 0x14, 31, 1⟩
abbrev ERR_ENABLE_ACCESS (g : Page) : Fld := ⟨g, 0x14, 30, 1⟩
abbrev ERR_ENABLE_PARITY (g : Page) : Fld := ⟨g, 0x14, 29, 1⟩
abbrev ERR_ENABLE_CAUSE (g : Page) : Fld := ⟨g, 0x14, 0, 29⟩
abbrev ERR_FIRST_VALID (g : Page) : Fld := ⟨g, 0x18, 31, 1⟩
abbrev ERR_FIRST_SEVERITY (g : Page) : Fld := ⟨g, 0x18, 29, 2⟩
abbrev ERR_FIRST_CODE (g : Page) : Fld := ⟨g, 0x18, 24, 5⟩
abbrev ERR_FIRST_SOURCE (g : Page) : Fld := ⟨g, 0x18, 16, 8⟩
abbrev ERR_FIRST_TIME (g : Page) : Fld := ⟨g, 0x18, 0, 16⟩
abbrev ERR_COUNT_SEVERE (g : Page) : Fld := ⟨g, 0x1C, 16, 16⟩
abbrev ERR_COUNT_ALL (g : Page) : Fld := ⟨g, 0x1C, 0, 16⟩
abbrev IRQ_STATUS_ERR (g : Page) : Fld := ⟨g, 0x20, 31, 1⟩
abbrev IRQ_STATUS_STATE (g : Page) : Fld := ⟨g, 0x20, 30, 1⟩
abbrev IRQ_STATUS_COMMIT (g : Page) : Fld := ⟨g, 0x20, 29, 1⟩
abbrev IRQ_STATUS_EVENT (g : Page) : Fld := ⟨g, 0x20, 0, 29⟩
abbrev IRQ_ENABLE_ERR (g : Page) : Fld := ⟨g, 0x24, 31, 1⟩
abbrev IRQ_ENABLE_STATE (g : Page) : Fld := ⟨g, 0x24, 30, 1⟩
abbrev IRQ_ENABLE_COMMIT (g : Page) : Fld := ⟨g, 0x24, 29, 1⟩
abbrev IRQ_ENABLE_EVENT (g : Page) : Fld := ⟨g, 0x24, 0, 29⟩
abbrev SEQ_APPLIED_REQ (g : Page) : Fld := ⟨g, 0x28, 28, 4⟩
abbrev SEQ_APPLIED_TAG (g : Page) : Fld := ⟨g, 0x28, 0, 28⟩
abbrev SHADOW_CTRL_PENDING (g : Page) : Fld := ⟨g, 0x2C, 31, 1⟩
abbrev SHADOW_CTRL_ARMED (g : Page) : Fld := ⟨g, 0x2C, 30, 1⟩
abbrev SHADOW_CTRL_MODE (g : Page) : Fld := ⟨g, 0x2C, 28, 2⟩
abbrev SHADOW_CTRL_OWNER (g : Page) : Fld := ⟨g, 0x2C, 24, 4⟩
abbrev SHADOW_CTRL_GEN (g : Page) : Fld := ⟨g, 0x2C, 16, 8⟩
abbrev SHADOW_CTRL_DISCARD (g : Page) : Fld := ⟨g, 0x2C, 2, 1⟩
abbrev SHADOW_CTRL_COMMIT (g : Page) : Fld := ⟨g, 0x2C, 1, 1⟩
abbrev SHADOW_CTRL_ARM (g : Page) : Fld := ⟨g, 0x2C, 0, 1⟩
abbrev CHIP_PART_ID_PART : Fld := ⟨.chip, 0x40, 16, 16⟩
abbrev CHIP_PART_ID_GRADE : Fld := ⟨.chip, 0x40, 12, 4⟩
abbrev CHIP_PART_ID_STEPPING : Fld := ⟨.chip, 0x40, 8, 4⟩
abbrev CHIP_FW_VERSION_MAJOR : Fld := ⟨.chip, 0x44, 24, 8⟩
abbrev CHIP_FW_VERSION_MINOR : Fld := ⟨.chip, 0x44, 16, 8⟩
abbrev CHIP_FW_VERSION_PATCH : Fld := ⟨.chip, 0x44, 0, 16⟩
abbrev CHIP_FENCE_TOKEN : Fld := ⟨.chip, 0x48, 0, 16⟩
abbrev CHIP_FENCE_DONE_BUSY : Fld := ⟨.chip, 0x4C, 31, 1⟩
abbrev CHIP_FENCE_DONE_HELD : Fld := ⟨.chip, 0x4C, 30, 1⟩
abbrev CHIP_FENCE_DONE_REQ : Fld := ⟨.chip, 0x4C, 16, 4⟩
abbrev CHIP_FENCE_DONE_TOKEN : Fld := ⟨.chip, 0x4C, 0, 16⟩
abbrev CHIP_RESET_CTRL_KEY : Fld := ⟨.chip, 0x50, 24, 8⟩
abbrev CHIP_RESET_CTRL_WARM : Fld := ⟨.chip, 0x50, 0, 1⟩
abbrev CHIP_RESET_CAUSE_LAST : Fld := ⟨.chip, 0x54, 28, 4⟩
abbrev CHIP_RESET_CAUSE_REQ : Fld := ⟨.chip, 0x54, 24, 4⟩
abbrev CHIP_RESET_CAUSE_WARM_COUNT : Fld := ⟨.chip, 0x54, 0, 16⟩
abbrev CHIP_BOOT_STATUS_STAGE : Fld := ⟨.chip, 0x58, 30, 2⟩
abbrev CHIP_BOOT_STATUS_SLOT_A_CHECK : Fld := ⟨.chip, 0x58, 24, 4⟩
abbrev CHIP_BOOT_STATUS_SLOT_B_CHECK : Fld := ⟨.chip, 0x58, 20, 4⟩
abbrev CHIP_BOOT_STATUS_INIT_MS : Fld := ⟨.chip, 0x58, 0, 16⟩
abbrev CHIP_READY_CAL_VALID : Fld := ⟨.chip, 0x5C, 9, 1⟩
abbrev CHIP_READY_KERNELS : Fld := ⟨.chip, 0x5C, 8, 1⟩
abbrev CHIP_READY_PORTS_OK : Fld := ⟨.chip, 0x5C, 7, 1⟩
abbrev CHIP_READY_NW_PERMIT : Fld := ⟨.chip, 0x5C, 6, 1⟩
abbrev CHIP_READY_STREAM_RUNNING : Fld := ⟨.chip, 0x5C, 5, 1⟩
abbrev CHIP_READY_SCAN_RUNNING : Fld := ⟨.chip, 0x5C, 4, 1⟩
abbrev CHIP_READY_REF_SETTLED : Fld := ⟨.chip, 0x5C, 3, 1⟩
abbrev CHIP_READY_PLL_LOCKED : Fld := ⟨.chip, 0x5C, 2, 1⟩
abbrev CHIP_READY_NW_SEALED : Fld := ⟨.chip, 0x5C, 1, 1⟩
abbrev CHIP_READY_FW_RUNNING : Fld := ⟨.chip, 0x5C, 0, 1⟩
abbrev TASK_OP_TARGET (i : Nat) : Fld := ⟨.task, 0x100 + 0x20 * i, 16, 9⟩
abbrev TASK_OP_CODE (i : Nat) : Fld := ⟨.task, 0x100 + 0x20 * i, 0, 8⟩
abbrev TASK_ARG0_ARG (i : Nat) : Fld := ⟨.task, 0x104 + 0x20 * i, 0, 32⟩
abbrev TASK_ARG1_ARG (i : Nat) : Fld := ⟨.task, 0x108 + 0x20 * i, 0, 32⟩
abbrev TASK_ARG2_ARG (i : Nat) : Fld := ⟨.task, 0x10C + 0x20 * i, 0, 32⟩
abbrev TASK_CTRL_RELEASE (i : Nat) : Fld := ⟨.task, 0x110 + 0x20 * i, 2, 1⟩
abbrev TASK_CTRL_CANCEL (i : Nat) : Fld := ⟨.task, 0x110 + 0x20 * i, 1, 1⟩
abbrev TASK_CTRL_GO (i : Nat) : Fld := ⟨.task, 0x110 + 0x20 * i, 0, 1⟩
abbrev TASK_STATUS_STATE (i : Nat) : Fld := ⟨.task, 0x114 + 0x20 * i, 28, 4⟩
abbrev TASK_STATUS_REQ (i : Nat) : Fld := ⟨.task, 0x114 + 0x20 * i, 24, 4⟩
abbrev TASK_STATUS_CANCEL_LATE (i : Nat) : Fld := ⟨.task, 0x114 + 0x20 * i, 0, 1⟩
abbrev TASK_PROGRESS_STEPS_DONE (i : Nat) : Fld := ⟨.task, 0x118 + 0x20 * i, 16, 16⟩
abbrev TASK_PROGRESS_STEPS_TOTAL (i : Nat) : Fld := ⟨.task, 0x118 + 0x20 * i, 0, 16⟩
abbrev TASK_RESULT_REASON (i : Nat) : Fld := ⟨.task, 0x11C + 0x20 * i, 24, 8⟩
abbrev TASK_RESULT_VALUE (i : Nat) : Fld := ⟨.task, 0x11C + 0x20 * i, 0, 24⟩
abbrev IRQ_ROUTE_EN (i : Nat) : Fld := ⟨.irq, 0x400 + 0x4 * i, 31, 1⟩
abbrev IRQ_ROUTE_NET (i : Nat) : Fld := ⟨.irq, 0x400 + 0x4 * i, 30, 1⟩
abbrev IRQ_ROUTE_PIN (i : Nat) : Fld := ⟨.irq, 0x400 + 0x4 * i, 28, 2⟩
abbrev IRQ_ROUTE_VECTOR (i : Nat) : Fld := ⟨.irq, 0x400 + 0x4 * i, 0, 6⟩
abbrev PWR_SUPPLY_ON_ON (i : Nat) : Fld := ⟨.pwr, 0x40 + 0x4 * i, 0, 32⟩
abbrev PWR_OFF_ALLOW_ALLOW (i : Nat) : Fld := ⟨.pwr, 0x50 + 0x4 * i, 0, 32⟩
abbrev PWR_P_EST_MW : Fld := ⟨.pwr, 0x60, 0, 16⟩
abbrev PWR_P_CEIL_MW : Fld := ⟨.pwr, 0x64, 0, 16⟩
abbrev PWR_P_HYST_MW : Fld := ⟨.pwr, 0x68, 0, 16⟩
abbrev PWR_P_REGION_MW (i : Nat) : Fld := ⟨.pwr, 0x70 + 0x4 * i, 0, 16⟩
abbrev PWR_IMON_MA (i : Nat) : Fld := ⟨.pwr, 0x80 + 0x4 * i, 0, 16⟩
abbrev THERM_CTRL_GRACE : Fld := ⟨.therm, 0x40, 0, 16⟩
abbrev THERM_STATUS_MODE : Fld := ⟨.therm, 0x44, 31, 1⟩
abbrev THERM_STATUS_RATE : Fld := ⟨.therm, 0x44, 30, 1⟩
abbrev THERM_STATUS_ENFORCED : Fld := ⟨.therm, 0x44, 29, 1⟩
abbrev THERM_STATUS_REQUESTED : Fld := ⟨.therm, 0x44, 28, 1⟩
abbrev THERM_STATUS_OVERTEMP : Fld := ⟨.therm, 0x44, 27, 1⟩
abbrev THERM_STATUS_HOT_NODE : Fld := ⟨.therm, 0x44, 16, 5⟩
abbrev THERM_STATUS_LEVEL_REQ : Fld := ⟨.therm, 0x44, 8, 8⟩
abbrev THERM_STATUS_LEVEL : Fld := ⟨.therm, 0x44, 0, 8⟩
abbrev THERM_GRACE_LEFT_MS : Fld := ⟨.therm, 0x48, 0, 16⟩
abbrev THERM_HYST_TEMP : Fld := ⟨.therm, 0x4C, 0, 16⟩
abbrev THERM_ENG_CLOCK_MHZ : Fld := ⟨.therm, 0x50, 0, 16⟩
abbrev THERM_SHOT_X_A : Fld := ⟨.therm, 0x54, 18, 9⟩
abbrev THERM_SHOT_X_B : Fld := ⟨.therm, 0x54, 9, 9⟩
abbrev THERM_SHOT_X_C : Fld := ⟨.therm, 0x54, 0, 9⟩
abbrev THERM_THROTTLE_MS_MS : Fld := ⟨.therm, 0x58, 0, 32⟩
abbrev THERM_REQUESTS_COUNT : Fld := ⟨.therm, 0x5C, 0, 32⟩
abbrev THERM_NODE_LIMIT_CRIT (i : Nat) : Fld := ⟨.therm, 0x100 + 0x4 * i, 16, 16⟩
abbrev THERM_NODE_LIMIT_THROTTLE (i : Nat) : Fld := ⟨.therm, 0x100 + 0x4 * i, 0, 16⟩
abbrev THERM_NODE_TEMP_STATE (i : Nat) : Fld := ⟨.therm, 0x180 + 0x4 * i, 30, 2⟩
abbrev THERM_NODE_TEMP_DIODE_DIRECT (i : Nat) : Fld := ⟨.therm, 0x180 + 0x4 * i, 29, 1⟩
abbrev THERM_NODE_TEMP_TEMP (i : Nat) : Fld := ⟨.therm, 0x180 + 0x4 * i, 0, 16⟩
abbrev THERM_DIODE_VALID (i : Nat) : Fld := ⟨.therm, 0x200 + 0x4 * i, 31, 1⟩
abbrev THERM_DIODE_NODE (i : Nat) : Fld := ⟨.therm, 0x200 + 0x4 * i, 16, 5⟩
abbrev THERM_DIODE_TEMP (i : Nat) : Fld := ⟨.therm, 0x200 + 0x4 * i, 0, 16⟩
abbrev TIME_REF_CFG_FREQ : Fld := ⟨.time, 0x40, 0, 2⟩
abbrev TIME_STATUS_SLEWING : Fld := ⟨.time, 0x44, 8, 1⟩
abbrev TIME_STATUS_REF_SETTLED : Fld := ⟨.time, 0x44, 7, 1⟩
abbrev TIME_STATUS_HOLDOVER : Fld := ⟨.time, 0x44, 6, 1⟩
abbrev TIME_STATUS_PLL_LOCKED : Fld := ⟨.time, 0x44, 5, 1⟩
abbrev TIME_STATUS_REF_PRESENT : Fld := ⟨.time, 0x44, 4, 1⟩
abbrev TIME_STATUS_OUT_OF_RANGE : Fld := ⟨.time, 0x44, 3, 1⟩
abbrev TIME_STATUS_QUAL_STATE : Fld := ⟨.time, 0x44, 0, 3⟩
abbrev TIME_QUAL_CFG_COUNT : Fld := ⟨.time, 0x48, 24, 8⟩
abbrev TIME_QUAL_CFG_GATE : Fld := ⟨.time, 0x48, 16, 8⟩
abbrev TIME_QUAL_CFG_LIMIT : Fld := ⟨.time, 0x48, 0, 16⟩
abbrev TIME_QUAL_LAST_GATES_OK : Fld := ⟨.time, 0x4C, 16, 16⟩
abbrev TIME_QUAL_LAST_DELTA : Fld := ⟨.time, 0x4C, 0, 16⟩
abbrev TIME_QUAL_OFFSET_OFFSET : Fld := ⟨.time, 0x50, 0, 32⟩
abbrev TIME_VERN_UNLOCK0_BAY : Fld := ⟨.time, 0x54, 0, 32⟩
abbrev TIME_VERN_UNLOCK1_BAY : Fld := ⟨.time, 0x58, 0, 16⟩
abbrev TIME_SETTLE_LAST_TIME : Fld := ⟨.time, 0x5C, 0, 32⟩
abbrev TIME_NOW_LO_NS : Fld := ⟨.time, 0x80, 0, 32⟩
abbrev TIME_NOW_HI_NS : Fld := ⟨.time, 0x84, 0, 32⟩
abbrev TIME_CAL_CTRL_TAI_VALID : Fld := ⟨.time, 0x88, 31, 1⟩
abbrev TIME_CAL_CTRL_ACTIVE_SRC : Fld := ⟨.time, 0x88, 28, 3⟩
abbrev TIME_CAL_CTRL_SRC : Fld := ⟨.time, 0x88, 0, 1⟩
abbrev TIME_UTC_OFFSET_OFFSET : Fld := ⟨.time, 0x8C, 0, 16⟩
abbrev TIME_TAI_BASE_LO_NS : Fld := ⟨.time, 0x90, 0, 32⟩
abbrev TIME_TAI_BASE_HI_NS : Fld := ⟨.time, 0x94, 0, 32⟩
abbrev TIME_M_BASE_LO_NS : Fld := ⟨.time, 0x98, 0, 32⟩
abbrev TIME_M_BASE_HI_NS : Fld := ⟨.time, 0x9C, 0, 32⟩
abbrev TIME_RATE_RATE : Fld := ⟨.time, 0xA0, 0, 32⟩
abbrev TIME_SET_TAI_LO_NS : Fld := ⟨.time, 0xA4, 0, 32⟩
abbrev TIME_SET_TAI_HI_NS : Fld := ⟨.time, 0xA8, 0, 32⟩
abbrev TIME_SET_M_LO_NS : Fld := ⟨.time, 0xAC, 0, 32⟩
abbrev TIME_SET_M_HI_NS : Fld := ⟨.time, 0xB0, 0, 32⟩
abbrev TIME_SET_CTRL_GO : Fld := ⟨.time, 0xB4, 0, 1⟩
abbrev TIME_HOLD_CFG_HOLD_S : Fld := ⟨.time, 0xB8, 0, 16⟩
abbrev TIME_ACT_TIME_LO_NS (i : Nat) : Fld := ⟨.time, 0x100 + 0x20 * i, 0, 32⟩
abbrev TIME_ACT_TIME_HI_NS (i : Nat) : Fld := ⟨.time, 0x104 + 0x20 * i, 0, 32⟩
abbrev TIME_ACT_CFG_FRAC (i : Nat) : Fld := ⟨.time, 0x108 + 0x20 * i, 24, 8⟩
abbrev TIME_ACT_CFG_KIND (i : Nat) : Fld := ⟨.time, 0x108 + 0x20 * i, 16, 2⟩
abbrev TIME_ACT_CFG_POLICY (i : Nat) : Fld := ⟨.time, 0x108 + 0x20 * i, 0, 1⟩
abbrev TIME_ACT_ARG0_ARG (i : Nat) : Fld := ⟨.time, 0x10C + 0x20 * i, 0, 32⟩
abbrev TIME_ACT_ARG1_ARG (i : Nat) : Fld := ⟨.time, 0x110 + 0x20 * i, 0, 32⟩
abbrev TIME_ACT_CTRL_RELEASE (i : Nat) : Fld := ⟨.time, 0x114 + 0x20 * i, 2, 1⟩
abbrev TIME_ACT_CTRL_CANCEL (i : Nat) : Fld := ⟨.time, 0x114 + 0x20 * i, 1, 1⟩
abbrev TIME_ACT_CTRL_ARM (i : Nat) : Fld := ⟨.time, 0x114 + 0x20 * i, 0, 1⟩
abbrev TIME_ACT_STATUS_STATE (i : Nat) : Fld := ⟨.time, 0x118 + 0x20 * i, 28, 4⟩
abbrev TIME_ACT_STATUS_REQ (i : Nat) : Fld := ⟨.time, 0x118 + 0x20 * i, 24, 4⟩
abbrev TIME_ACT_RESULT_SKIPPED (i : Nat) : Fld := ⟨.time, 0x11C + 0x20 * i, 0, 27⟩
abbrev CHAIN_CTRL_CONFIG_PUSH : Fld := ⟨.chain, 0x40, 5, 1⟩
abbrev CHAIN_CTRL_ENUM_GO : Fld := ⟨.chain, 0x40, 4, 1⟩
abbrev CHAIN_CTRL_ALIGN_EN : Fld := ⟨.chain, 0x40, 1, 1⟩
abbrev CHAIN_CTRL_POLE : Fld := ⟨.chain, 0x40, 0, 1⟩
abbrev CHAIN_STATUS_ADDR : Fld := ⟨.chain, 0x44, 21, 11⟩
abbrev CHAIN_STATUS_TOPO : Fld := ⟨.chain, 0x44, 18, 3⟩
abbrev CHAIN_STATUS_ENUM_STATE : Fld := ⟨.chain, 0x44, 16, 2⟩
abbrev CHAIN_STATUS_UPSTREAM : Fld := ⟨.chain, 0x44, 14, 2⟩
abbrev CHAIN_STATUS_HOP : Fld := ⟨.chain, 0x44, 0, 11⟩
abbrev CHAIN_ROUND_ROUND : Fld := ⟨.chain, 0x48, 0, 16⟩
abbrev CHAIN_UNITS_A_LAST : Fld := ⟨.chain, 0x4C, 16, 11⟩
abbrev CHAIN_UNITS_N : Fld := ⟨.chain, 0x4C, 0, 11⟩
abbrev CHAIN_ENUM_CFG_TIMEOUT : Fld := ⟨.chain, 0x50, 0, 16⟩
abbrev CHAIN_ALIGN_STATUS_STATE : Fld := ⟨.chain, 0x54, 29, 3⟩
abbrev CHAIN_ALIGN_STATUS_QUALIFIED : Fld := ⟨.chain, 0x54, 28, 1⟩
abbrev CHAIN_ALIGN_STATUS_LOSSES : Fld := ⟨.chain, 0x54, 0, 16⟩
abbrev CHAIN_OFFSET_O : Fld := ⟨.chain, 0x58, 0, 32⟩
abbrev CHAIN_DELAY_D : Fld := ⟨.chain, 0x5C, 0, 32⟩
abbrev CHAIN_FREQ_CORR_Y : Fld := ⟨.chain, 0x60, 0, 32⟩
abbrev CHAIN_SERVO_KP : Fld := ⟨.chain, 0x64, 16, 16⟩
abbrev CHAIN_SERVO_KI : Fld := ⟨.chain, 0x64, 0, 16⟩
abbrev CHAIN_ALIGN_CFG_SYNC_INTERVAL : Fld := ⟨.chain, 0x68, 16, 16⟩
abbrev CHAIN_ALIGN_CFG_ALIGN_LIMIT : Fld := ⟨.chain, 0x68, 8, 8⟩
abbrev CHAIN_ALIGN_CFG_SLEW_MAX : Fld := ⟨.chain, 0x68, 0, 8⟩
abbrev CHAIN_STEP_LIMIT_NS : Fld := ⟨.chain, 0x6C, 0, 32⟩
abbrev CHAIN_PORT_ASYM_A_ASYM : Fld := ⟨.chain, 0x70, 0, 16⟩
abbrev CHAIN_PORT_ASYM_B_ASYM : Fld := ⟨.chain, 0x74, 0, 16⟩
abbrev CHAIN_RA_UNIT_UNIT : Fld := ⟨.chain, 0x80, 0, 11⟩
abbrev CHAIN_RA_ADDR_ADDR : Fld := ⟨.chain, 0x84, 0, 32⟩
abbrev CHAIN_RA_DATA_DATA : Fld := ⟨.chain, 0x88, 0, 32⟩
abbrev CHAIN_RA_CTRL_OP : Fld := ⟨.chain, 0x8C, 1, 1⟩
abbrev CHAIN_RA_CTRL_GO : Fld := ⟨.chain, 0x8C, 0, 1⟩
abbrev CHAIN_RA_STATUS_BUSY : Fld := ⟨.chain, 0x90, 31, 1⟩
abbrev CHAIN_RA_STATUS_STATUS : Fld := ⟨.chain, 0x90, 28, 3⟩
abbrev CHAIN_COORD_ANCHOR_LO_NS : Fld := ⟨.chain, 0xA0, 0, 32⟩
abbrev CHAIN_COORD_ANCHOR_HI_NS : Fld := ⟨.chain, 0xA4, 0, 32⟩
abbrev CHAIN_COORD_PERIOD_PERIOD : Fld := ⟨.chain, 0xA8, 0, 16⟩
abbrev CHAIN_COORD_EN0_EN : Fld := ⟨.chain, 0xAC, 0, 32⟩
abbrev CHAIN_COORD_EN1_EN : Fld := ⟨.chain, 0xB0, 0, 16⟩
abbrev CHAIN_CONFIG_AT_LO_NS : Fld := ⟨.chain, 0xB4, 0, 32⟩
abbrev CHAIN_CONFIG_AT_HI_NS : Fld := ⟨.chain, 0xB8, 0, 32⟩
abbrev CHAIN_XL_CODE_PHASE (i : Nat) : Fld := ⟨.chain, 0xC0 + 0x4 * i, 28, 3⟩
abbrev CHAIN_XL_CODE_BASE (i : Nat) : Fld := ⟨.chain, 0xC0 + 0x4 * i, 16, 12⟩
abbrev CHAIN_XL_CODE_STEP (i : Nat) : Fld := ⟨.chain, 0xC0 + 0x4 * i, 0, 12⟩
abbrev CHAIN_XL_STATE_STATE (i : Nat) : Fld := ⟨.chain, 0xE0 + 0x4 * i, 29, 3⟩
abbrev CHAIN_XL_STATE_DISTANCE (i : Nat) : Fld := ⟨.chain, 0xE0 + 0x4 * i, 0, 11⟩
abbrev CHAIN_CRC_ERR_COUNT : Fld := ⟨.chain, 0x100, 0, 32⟩
abbrev CHAIN_JOINS_COUNT : Fld := ⟨.chain, 0x104, 0, 32⟩
abbrev CHAIN_PRESENT_BITS (i : Nat) : Fld := ⟨.chain, 0x400 + 0x4 * i, 0, 32⟩
abbrev PTP_CFG_EN : Fld := ⟨.ptp, 0x40, 31, 1⟩
abbrev PTP_CFG_DOMAIN : Fld := ⟨.ptp, 0x40, 24, 7⟩
abbrev PTP_CFG_LOG_PDELAY : Fld := ⟨.ptp, 0x40, 16, 8⟩
abbrev PTP_CFG_PORT : Fld := ⟨.ptp, 0x40, 0, 2⟩
abbrev PTP_THRESH_LOCK_NS : Fld := ⟨.ptp, 0x44, 16, 16⟩
abbrev PTP_THRESH_PDELAY_THRESH : Fld := ⟨.ptp, 0x44, 0, 16⟩
abbrev PTP_SERVO_KP : Fld := ⟨.ptp, 0x48, 16, 16⟩
abbrev PTP_SERVO_KI : Fld := ⟨.ptp, 0x48, 0, 16⟩
abbrev PTP_STATUS_STATE : Fld := ⟨.ptp, 0x4C, 29, 3⟩
abbrev PTP_STATUS_AS_CAPABLE0 : Fld := ⟨.ptp, 0x4C, 28, 1⟩
abbrev PTP_STATUS_AS_CAPABLE1 : Fld := ⟨.ptp, 0x4C, 27, 1⟩
abbrev PTP_STATUS_SLAVE_PORT : Fld := ⟨.ptp, 0x4C, 26, 1⟩
abbrev PTP_STATUS_UTC_VALID : Fld := ⟨.ptp, 0x4C, 25, 1⟩
abbrev PTP_STATUS_UTC_OFFSET : Fld := ⟨.ptp, 0x4C, 0, 16⟩
abbrev PTP_OFFSET_NS : Fld := ⟨.ptp, 0x50, 0, 32⟩
abbrev PTP_PATH_DELAY_NS : Fld := ⟨.ptp, 0x54, 0, 32⟩
abbrev PTP_GM_ID_LO_ID : Fld := ⟨.ptp, 0x58, 0, 32⟩
abbrev PTP_GM_ID_HI_ID : Fld := ⟨.ptp, 0x5C, 0, 32⟩
abbrev PTP_SYNC_RX_COUNT : Fld := ⟨.ptp, 0x60, 0, 32⟩
abbrev NW_STATUS_STATE : Fld := ⟨.nw, 0x40, 29, 3⟩
abbrev NW_STATUS_SEALED : Fld := ⟨.nw, 0x40, 28, 1⟩
abbrev NW_STATUS_TRIG_EN : Fld := ⟨.nw, 0x40, 27, 1⟩
abbrev NW_STATUS_TEST_ACTIVE : Fld := ⟨.nw, 0x40, 26, 1⟩
abbrev NW_STATUS_FAULT : Fld := ⟨.nw, 0x40, 0, 4⟩
abbrev NW_TRIP_ACTIVE_SOURCES : Fld := ⟨.nw, 0x44, 0, 17⟩
abbrev NW_TRIP_LATCHED_SOURCES : Fld := ⟨.nw, 0x48, 0, 17⟩
abbrev NW_RESET_STATUS_LAST : Fld := ⟨.nw, 0x4C, 28, 4⟩
abbrev NW_RESET_STATUS_FB_NOT_OFF : Fld := ⟨.nw, 0x4C, 22, 1⟩
abbrev NW_RESET_STATUS_SCAN_NOT_RUNNING : Fld := ⟨.nw, 0x4C, 21, 1⟩
abbrev NW_RESET_STATUS_NOT_SEALED : Fld := ⟨.nw, 0x4C, 20, 1⟩
abbrev NW_RESET_STATUS_SOURCES : Fld := ⟨.nw, 0x4C, 0, 17⟩
abbrev NW_UNLOCK_VALUE : Fld := ⟨.nw, 0x50, 0, 32⟩
abbrev NW_CMD_SW_RESET : Fld := ⟨.nw, 0x54, 1, 1⟩
abbrev NW_CMD_TRIP : Fld := ⟨.nw, 0x54, 0, 1⟩
abbrev NW_SEAL_CRC : Fld := ⟨.nw, 0x58, 0, 32⟩
abbrev NW_CFG_CRC_CRC : Fld := ⟨.nw, 0x5C, 0, 32⟩
abbrev NW_CFG_WD_TIME : Fld := ⟨.nw, 0x60, 8, 8⟩
abbrev NW_CFG_SW_RESET_EN : Fld := ⟨.nw, 0x60, 3, 1⟩
abbrev NW_CFG_OUT_EN : Fld := ⟨.nw, 0x60, 0, 2⟩
abbrev NW_WATCHDOG_VALUE : Fld := ⟨.nw, 0x64, 0, 32⟩
abbrev NW_TP_CFG_PERIOD : Fld := ⟨.nw, 0x68, 16, 16⟩
abbrev NW_TP_CFG_WIDTH : Fld := ⟨.nw, 0x68, 0, 10⟩
abbrev NW_FB_CFG_FB_INV : Fld := ⟨.nw, 0x6C, 8, 4⟩
abbrev NW_FB_CFG_FB_TIME : Fld := ⟨.nw, 0x6C, 0, 8⟩
abbrev NW_PERMIT_STATUS_DRIVE : Fld := ⟨.nw, 0x70, 12, 4⟩
abbrev NW_PERMIT_STATUS_READBACK : Fld := ⟨.nw, 0x70, 8, 4⟩
abbrev NW_PERMIT_STATUS_FEEDBACK : Fld := ⟨.nw, 0x70, 4, 4⟩
abbrev NW_ECLIPSE_REL0_BAYS : Fld := ⟨.nw, 0x74, 0, 32⟩
abbrev NW_ECLIPSE_REL1_BAYS : Fld := ⟨.nw, 0x78, 0, 16⟩
abbrev NW_OSC_CHECK_DEV : Fld := ⟨.nw, 0x7C, 0, 16⟩
abbrev NW_IN_CFG_EN (i : Nat) : Fld := ⟨.nw, 0x80 + 0x4 * i, 31, 1⟩
abbrev NW_IN_CFG_TYPE (i : Nat) : Fld := ⟨.nw, 0x80 + 0x4 * i, 30, 1⟩
abbrev NW_IN_CFG_STARTUP_TEST (i : Nat) : Fld := ⟨.nw, 0x80 + 0x4 * i, 29, 1⟩
abbrev NW_IN_CFG_DISC (i : Nat) : Fld := ⟨.nw, 0x80 + 0x4 * i, 16, 9⟩
abbrev NW_IN_CFG_FILTER (i : Nat) : Fld := ⟨.nw, 0x80 + 0x4 * i, 8, 8⟩
abbrev NW_IN_STATUS_STATE (i : Nat) : Fld := ⟨.nw, 0xA0 + 0x4 * i, 29, 3⟩
abbrev NW_IN_STATUS_PIN_A (i : Nat) : Fld := ⟨.nw, 0xA0 + 0x4 * i, 28, 1⟩
abbrev NW_IN_STATUS_PIN_B (i : Nat) : Fld := ⟨.nw, 0xA0 + 0x4 * i, 27, 1⟩
abbrev NW_IN_STATUS_DEM_A (i : Nat) : Fld := ⟨.nw, 0xA0 + 0x4 * i, 26, 1⟩
abbrev NW_IN_STATUS_DEM_B (i : Nat) : Fld := ⟨.nw, 0xA0 + 0x4 * i, 25, 1⟩
abbrev NW_IN_STATUS_DISC_MS (i : Nat) : Fld := ⟨.nw, 0xA0 + 0x4 * i, 0, 9⟩
abbrev NW_WIN_CFG_PRELOAD (i : Nat) : Fld := ⟨.nw, 0xC0 + 0x4 * i, 8, 8⟩
abbrev NW_WIN_CFG_BUCKET_LOG2 (i : Nat) : Fld := ⟨.nw, 0xC0 + 0x4 * i, 0, 5⟩
abbrev NW_LEDGER_CFG_SPREAD : Fld := ⟨.nw, 0xCC, 0, 16⟩
abbrev NW_LEDGER_SEL_PORT : Fld := ⟨.nw, 0xD0, 16, 6⟩
abbrev NW_LEDGER_SEL_SECTOR : Fld := ⟨.nw, 0xD0, 8, 7⟩
abbrev NW_LEDGER_SEL_WIN : Fld := ⟨.nw, 0xD0, 0, 2⟩
abbrev NW_LEDGER_SUM_LU : Fld := ⟨.nw, 0xD4, 0, 32⟩
abbrev NW_LEDGER_CEIL_LU : Fld := ⟨.nw, 0xD8, 0, 32⟩
abbrev NW_LEDGER_RESERVE_LU : Fld := ⟨.nw, 0xDC, 0, 32⟩
abbrev NW_LEDGER_STATUS_CLOSED : Fld := ⟨.nw, 0xE0, 16, 13⟩
abbrev NW_LEDGER_STATUS_LAST_CLOSED : Fld := ⟨.nw, 0xE0, 0, 13⟩
abbrev NW_TRIPS_COUNT : Fld := ⟨.nw, 0xE4, 0, 32⟩
abbrev NW_RESETS_REJECTED_COUNT : Fld := ⟨.nw, 0xE8, 0, 32⟩
abbrev NW_DISC_AMBIG_COUNT : Fld := ⟨.nw, 0xEC, 0, 32⟩
abbrev NW_ECLIPSES_COUNT : Fld := ⟨.nw, 0xF0, 0, 32⟩
abbrev NW_TESTS_COUNT : Fld := ⟨.nw, 0xF4, 0, 32⟩
abbrev NW_TESTS_ABANDONED_COUNT : Fld := ⟨.nw, 0xF8, 0, 32⟩
abbrev NW_ECOEF_COEF (i : Nat) : Fld := ⟨.nw, 0x100 + 0x4 * i, 0, 16⟩
abbrev NW_CEIL_LU (i j : Nat) : Fld := ⟨.nw, 0x200 + 0x10 * i + 0x4 * j, 0, 32⟩
abbrev NW_SECTOR_SCALE_SCALE (i : Nat) : Fld := ⟨.nw, 0x500 + 0x4 * i, 0, 32⟩
abbrev MON_CTRL_IMP_EN : Fld := ⟨.mon, 0x40, 4, 1⟩
abbrev MON_CTRL_SYNC_PIN_EN : Fld := ⟨.mon, 0x40, 3, 1⟩
abbrev MON_CTRL_DEC_SYNC : Fld := ⟨.mon, 0x40, 2, 1⟩
abbrev MON_CTRL_PAIR_RUN : Fld := ⟨.mon, 0x40, 1, 1⟩
abbrev MON_CTRL_SEQ_RUN : Fld := ⟨.mon, 0x40, 0, 1⟩
abbrev MON_STATUS_ENTRY : Fld := ⟨.mon, 0x44, 16, 5⟩
abbrev MON_STATUS_PASSES : Fld := ⟨.mon, 0x44, 0, 16⟩
abbrev MON_SEQ_LEN_LEN : Fld := ⟨.mon, 0x48, 0, 6⟩
abbrev MON_IMP_CFG_PERIOD : Fld := ⟨.mon, 0x4C, 16, 16⟩
abbrev MON_IMP_CFG_TONE : Fld := ⟨.mon, 0x4C, 0, 8⟩
abbrev MON_SYNC_COUNTS_REFUSED : Fld := ⟨.mon, 0x54, 16, 16⟩
abbrev MON_SYNC_COUNTS_SYNCS : Fld := ⟨.mon, 0x54, 0, 16⟩
abbrev MON_SYNC_LAST_NS : Fld := ⟨.mon, 0x58, 0, 32⟩
abbrev MON_NOTCH_STATUS_SKIPPED : Fld := ⟨.mon, 0x5C, 0, 16⟩
abbrev MON_NOTCH_F_HZ (i : Nat) : Fld := ⟨.mon, 0x60 + 0x8 * i, 0, 22⟩
abbrev MON_NOTCH_BW_HZ (i : Nat) : Fld := ⟨.mon, 0x64 + 0x8 * i, 0, 16⟩
abbrev MON_SEQ_CH (i : Nat) : Fld := ⟨.mon, 0x80 + 0x4 * i, 24, 5⟩
abbrev MON_SEQ_DWELL (i : Nat) : Fld := ⟨.mon, 0x80 + 0x4 * i, 0, 8⟩
abbrev MON_CH_CFG_EN (i : Nat) : Fld := ⟨.mon, 0x100 + 0x10 * i, 31, 1⟩
abbrev MON_CH_CFG_NOTCH (i : Nat) : Fld := ⟨.mon, 0x100 + 0x10 * i, 24, 4⟩
abbrev MON_CH_CFG_BURNOUT (i : Nat) : Fld := ⟨.mon, 0x100 + 0x10 * i, 23, 1⟩
abbrev MON_CH_CFG_IMP (i : Nat) : Fld := ⟨.mon, 0x100 + 0x10 * i, 22, 1⟩
abbrev MON_CH_CFG_CURVE (i : Nat) : Fld := ⟨.mon, 0x100 + 0x10 * i, 19, 3⟩
abbrev MON_CH_CFG_SET (i : Nat) : Fld := ⟨.mon, 0x100 + 0x10 * i, 16, 3⟩
abbrev MON_CH_CFG_WIRING (i : Nat) : Fld := ⟨.mon, 0x100 + 0x10 * i, 14, 2⟩
abbrev MON_CH_CFG_GAIN (i : Nat) : Fld := ⟨.mon, 0x100 + 0x10 * i, 10, 3⟩
abbrev MON_CH_CFG_PRESET (i : Nat) : Fld := ⟨.mon, 0x100 + 0x10 * i, 8, 2⟩
abbrev MON_CH_CFG_COMP_CH (i : Nat) : Fld := ⟨.mon, 0x100 + 0x10 * i, 0, 5⟩
abbrev MON_CH_EXC_EN (i : Nat) : Fld := ⟨.mon, 0x104 + 0x10 * i, 31, 1⟩
abbrev MON_CH_EXC_SRC (i : Nat) : Fld := ⟨.mon, 0x104 + 0x10 * i, 28, 2⟩
abbrev MON_CH_EXC_CURRENT (i : Nat) : Fld := ⟨.mon, 0x104 + 0x10 * i, 0, 7⟩
abbrev MON_CH_AUX_PHASE (i : Nat) : Fld := ⟨.mon, 0x108 + 0x10 * i, 16, 14⟩
abbrev MON_CH_AUX_LEAD (i : Nat) : Fld := ⟨.mon, 0x108 + 0x10 * i, 0, 16⟩
abbrev MON_CH_ZLIM_OHMS (i : Nat) : Fld := ⟨.mon, 0x10C + 0x10 * i, 0, 24⟩
abbrev MON_CH_RAW_VALID (i : Nat) : Fld := ⟨.mon, 0x300 + 0x10 * i, 31, 1⟩
abbrev MON_CH_RAW_UNSETTLED (i : Nat) : Fld := ⟨.mon, 0x300 + 0x10 * i, 30, 1⟩
abbrev MON_CH_RAW_OPEN (i : Nat) : Fld := ⟨.mon, 0x300 + 0x10 * i, 29, 1⟩
abbrev MON_CH_RAW_HIGH_Z (i : Nat) : Fld := ⟨.mon, 0x300 + 0x10 * i, 28, 1⟩
abbrev MON_CH_RAW_OVERRANGE (i : Nat) : Fld := ⟨.mon, 0x300 + 0x10 * i, 27, 1⟩
abbrev MON_CH_RAW_CURVE_RANGE (i : Nat) : Fld := ⟨.mon, 0x300 + 0x10 * i, 26, 1⟩
abbrev MON_CH_RAW_CODE (i : Nat) : Fld := ⟨.mon, 0x300 + 0x10 * i, 0, 24⟩
abbrev MON_CH_VALUE_VALUE (i : Nat) : Fld := ⟨.mon, 0x304 + 0x10 * i, 0, 32⟩
abbrev MON_CH_TIME_NS (i : Nat) : Fld := ⟨.mon, 0x308 + 0x10 * i, 0, 32⟩
abbrev MON_CH_IMP_DONE (i : Nat) : Fld := ⟨.mon, 0x30C + 0x10 * i, 31, 1⟩
abbrev MON_CH_IMP_OHMS (i : Nat) : Fld := ⟨.mon, 0x30C + 0x10 * i, 0, 24⟩
abbrev MON_CURVE_P0_P (i : Nat) : Fld := ⟨.mon, 0x500 + 0x10 * i, 0, 32⟩
abbrev MON_CURVE_P1_P (i : Nat) : Fld := ⟨.mon, 0x504 + 0x10 * i, 0, 32⟩
abbrev MON_CURVE_P2_P (i : Nat) : Fld := ⟨.mon, 0x508 + 0x10 * i, 0, 32⟩
abbrev MON_COEF_ADDR_PRESET : Fld := ⟨.mon, 0x600, 12, 2⟩
abbrev MON_COEF_ADDR_STAGE : Fld := ⟨.mon, 0x600, 8, 3⟩
abbrev MON_COEF_ADDR_TAP : Fld := ⟨.mon, 0x600, 0, 6⟩
abbrev MON_COEF_DATA_COEF : Fld := ⟨.mon, 0x604, 0, 24⟩
abbrev MON_SHIFT_SH4 (i : Nat) : Fld := ⟨.mon, 0x610 + 0x4 * i, 20, 5⟩
abbrev MON_SHIFT_SH3 (i : Nat) : Fld := ⟨.mon, 0x610 + 0x4 * i, 15, 5⟩
abbrev MON_SHIFT_SH2 (i : Nat) : Fld := ⟨.mon, 0x610 + 0x4 * i, 10, 5⟩
abbrev MON_SHIFT_SH1 (i : Nat) : Fld := ⟨.mon, 0x610 + 0x4 * i, 5, 5⟩
abbrev MON_SHIFT_SH0 (i : Nat) : Fld := ⟨.mon, 0x610 + 0x4 * i, 0, 5⟩
abbrev SCAN_CTRL_FAULT_ACTION : Fld := ⟨.scan, 0x40, 12, 2⟩
abbrev SCAN_CTRL_FAST_MODE : Fld := ⟨.scan, 0x40, 9, 1⟩
abbrev SCAN_CTRL_FRAME_SRC : Fld := ⟨.scan, 0x40, 8, 1⟩
abbrev SCAN_CTRL_CLEAR : Fld := ⟨.scan, 0x40, 3, 1⟩
abbrev SCAN_CTRL_FRAME_EN : Fld := ⟨.scan, 0x40, 2, 1⟩
abbrev SCAN_CTRL_SLOW_EN : Fld := ⟨.scan, 0x40, 1, 1⟩
abbrev SCAN_CTRL_FAST_EN : Fld := ⟨.scan, 0x40, 0, 1⟩
abbrev SCAN_STATUS_STATE : Fld := ⟨.scan, 0x44, 29, 3⟩
abbrev SCAN_STATUS_FAST_LOCKED : Fld := ⟨.scan, 0x44, 28, 1⟩
abbrev SCAN_STATUS_SLOW_AT_HOLD : Fld := ⟨.scan, 0x44, 27, 1⟩
abbrev SCAN_STATUS_MOTION_BUSY : Fld := ⟨.scan, 0x44, 26, 1⟩
abbrev SCAN_STATUS_FAULT : Fld := ⟨.scan, 0x44, 16, 4⟩
abbrev SCAN_FRAME_CFG_SLOW_MODE : Fld := ⟨.scan, 0x48, 16, 2⟩
abbrev SCAN_FRAME_CFG_COLUMNS : Fld := ⟨.scan, 0x48, 0, 14⟩
abbrev SCAN_FRAME_PERIOD_PERIOD : Fld := ⟨.scan, 0x4C, 0, 32⟩
abbrev SCAN_FRAME_ACTIVE_ACTIVE : Fld := ⟨.scan, 0x50, 0, 32⟩
abbrev SCAN_FRAME_ANCHOR_LO_NS : Fld := ⟨.scan, 0x54, 0, 32⟩
abbrev SCAN_FRAME_ANCHOR_HI_NS : Fld := ⟨.scan, 0x58, 0, 32⟩
abbrev SCAN_SYNC_CFG_OUT : Fld := ⟨.scan, 0x5C, 31, 1⟩
abbrev SCAN_SYNC_CFG_WIN : Fld := ⟨.scan, 0x5C, 16, 15⟩
abbrev SCAN_SYNC_CFG_DELAY : Fld := ⟨.scan, 0x5C, 0, 16⟩
abbrev SCAN_FAST_CFG_BIDIR : Fld := ⟨.scan, 0x60, 16, 1⟩
abbrev SCAN_FAST_CFG_COLS_PER_LINE : Fld := ⟨.scan, 0x60, 0, 14⟩
abbrev SCAN_FAST_ACTIVE_EDGE_HI : Fld := ⟨.scan, 0x64, 16, 16⟩
abbrev SCAN_FAST_ACTIVE_EDGE_LO : Fld := ⟨.scan, 0x64, 0, 16⟩
abbrev SCAN_FAST_TARGET_PHASE : Fld := ⟨.scan, 0x68, 16, 16⟩
abbrev SCAN_FAST_TARGET_AMPLITUDE : Fld := ⟨.scan, 0x68, 0, 16⟩
abbrev SCAN_FAST_TOL_PHASE_TOL : Fld := ⟨.scan, 0x6C, 16, 16⟩
abbrev SCAN_FAST_TOL_AMP_TOL : Fld := ⟨.scan, 0x6C, 0, 16⟩
abbrev SCAN_FAST_GAIN_KF : Fld := ⟨.scan, 0x70, 16, 16⟩
abbrev SCAN_FAST_GAIN_KA : Fld := ⟨.scan, 0x70, 0, 16⟩
abbrev SCAN_FAST_FREQ_LIM_MAX : Fld := ⟨.scan, 0x74, 16, 16⟩
abbrev SCAN_FAST_FREQ_LIM_MIN : Fld := ⟨.scan, 0x74, 0, 16⟩
abbrev SCAN_FAST_MEAS_FREQ : Fld := ⟨.scan, 0x78, 0, 32⟩
abbrev SCAN_FAST_AMP_PHASE_ERR : Fld := ⟨.scan, 0x7C, 16, 16⟩
abbrev SCAN_FAST_AMP_AMP : Fld := ⟨.scan, 0x7C, 0, 16⟩
abbrev SCAN_POLY_CFG_FACETS : Fld := ⟨.scan, 0x80, 16, 16⟩
abbrev SCAN_POLY_CFG_COUNTS : Fld := ⟨.scan, 0x80, 0, 16⟩
abbrev SCAN_POLY_TARGET_RATE : Fld := ⟨.scan, 0x84, 0, 32⟩
abbrev SCAN_START_CFG_RAMP_TIME : Fld := ⟨.scan, 0x88, 16, 16⟩
abbrev SCAN_START_CFG_START_TIMEOUT : Fld := ⟨.scan, 0x88, 0, 16⟩
abbrev SCAN_SLOW_RANGE_END : Fld := ⟨.scan, 0x8C, 16, 16⟩
abbrev SCAN_SLOW_RANGE_START : Fld := ⟨.scan, 0x8C, 0, 16⟩
abbrev SCAN_SLOW_VSCAN_V : Fld := ⟨.scan, 0x90, 0, 32⟩
abbrev SCAN_SLOW_VMAX_V : Fld := ⟨.scan, 0x94, 0, 32⟩
abbrev SCAN_SLOW_AMAX_A : Fld := ⟨.scan, 0x98, 0, 32⟩
abbrev SCAN_SLOW_JMAX_J : Fld := ⟨.scan, 0x9C, 0, 32⟩
abbrev SCAN_SLOW_HOLD_PARK : Fld := ⟨.scan, 0xA0, 16, 16⟩
abbrev SCAN_SLOW_HOLD_POSITION : Fld := ⟨.scan, 0xA0, 0, 16⟩
abbrev SCAN_SLOW_GAIN0_KP : Fld := ⟨.scan, 0xA4, 16, 16⟩
abbrev SCAN_SLOW_GAIN0_KI : Fld := ⟨.scan, 0xA4, 0, 16⟩
abbrev SCAN_SLOW_GAIN1_KD : Fld := ⟨.scan, 0xA8, 16, 16⟩
abbrev SCAN_SLOW_GAIN1_KFF : Fld := ⟨.scan, 0xA8, 0, 16⟩
abbrev SCAN_SLOW_BIAS_BIAS : Fld := ⟨.scan, 0xAC, 0, 16⟩
abbrev SCAN_SLOW_TIMES_RETURN : Fld := ⟨.scan, 0xB0, 16, 16⟩
abbrev SCAN_SLOW_TIMES_SCAN : Fld := ⟨.scan, 0xB0, 0, 16⟩
abbrev SCAN_SENSE_FAST_GAIN : Fld := ⟨.scan, 0xB4, 16, 16⟩
abbrev SCAN_SENSE_FAST_OFFSET : Fld := ⟨.scan, 0xB4, 0, 16⟩
abbrev SCAN_SENSE_SLOW_GAIN : Fld := ⟨.scan, 0xB8, 16, 16⟩
abbrev SCAN_SENSE_SLOW_OFFSET : Fld := ⟨.scan, 0xB8, 0, 16⟩
abbrev SCAN_SENSE_DELAY_FAST : Fld := ⟨.scan, 0xBC, 8, 8⟩
abbrev SCAN_SENSE_DELAY_SLOW : Fld := ⟨.scan, 0xBC, 0, 8⟩
abbrev SCAN_PLAUS_TOL_SLOW : Fld := ⟨.scan, 0xC0, 16, 16⟩
abbrev SCAN_PLAUS_TOL_FAST : Fld := ⟨.scan, 0xC0, 0, 16⟩
abbrev SCAN_PLAUS_CNT_STALL_VEL : Fld := ⟨.scan, 0xC4, 16, 16⟩
abbrev SCAN_PLAUS_CNT_COUNT : Fld := ⟨.scan, 0xC4, 0, 4⟩
abbrev SCAN_ENC_STATUS_ERRORS : Fld := ⟨.scan, 0xC8, 16, 16⟩
abbrev SCAN_ENC_STATUS_COUNT : Fld := ⟨.scan, 0xC8, 0, 16⟩
abbrev SCAN_SUPPRESS_EN (i : Nat) : Fld := ⟨.scan, 0xD0 + 0x4 * i, 31, 1⟩
abbrev SCAN_SUPPRESS_LAST (i : Nat) : Fld := ⟨.scan, 0xD0 + 0x4 * i, 16, 13⟩
abbrev SCAN_SUPPRESS_FIRST (i : Nat) : Fld := ⟨.scan, 0xD0 + 0x4 * i, 0, 13⟩
abbrev SCAN_DAC_CFG_SRC (i : Nat) : Fld := ⟨.scan, 0xE0 + 0x4 * i, 29, 3⟩
abbrev SCAN_DAC_CFG_CODE (i : Nat) : Fld := ⟨.scan, 0xE0 + 0x4 * i, 0, 16⟩
abbrev SCAN_DAC_SAFE_SAFE_CODE (i : Nat) : Fld := ⟨.scan, 0xF0 + 0x4 * i, 0, 16⟩
abbrev SCAN_FRAME_NUM_FRAME : Fld := ⟨.scan, 0x100, 0, 32⟩
abbrev SCAN_LAST_FRAME_SUPPRESSED : Fld := ⟨.scan, 0x104, 16, 16⟩
abbrev SCAN_LAST_FRAME_BEGUN : Fld := ⟨.scan, 0x104, 0, 14⟩
abbrev SCAN_FRAME_COUNTS_LONG_FRAMES : Fld := ⟨.scan, 0x108, 16, 16⟩
abbrev SCAN_FRAME_COUNTS_SHORT_FRAMES : Fld := ⟨.scan, 0x108, 0, 16⟩
abbrev SCAN_SYNC_COUNTS_SYNC_EARLY : Fld := ⟨.scan, 0x10C, 16, 16⟩
abbrev SCAN_SYNC_COUNTS_FRAMES_MISSED : Fld := ⟨.scan, 0x10C, 0, 16⟩
abbrev EMIT_CTRL_DWELL_EN : Fld := ⟨.emit, 0x40, 2, 1⟩
abbrev EMIT_CTRL_PROOF_EN : Fld := ⟨.emit, 0x40, 1, 1⟩
abbrev EMIT_CTRL_SCHED_EN : Fld := ⟨.emit, 0x40, 0, 1⟩
abbrev EMIT_COLUMN_TIMING_LEAD : Fld := ⟨.emit, 0x44, 16, 16⟩
abbrev EMIT_COLUMN_TIMING_SPACING : Fld := ⟨.emit, 0x44, 0, 16⟩
abbrev EMIT_DIAG_CFG_PROOF_WIDTH : Fld := ⟨.emit, 0x48, 16, 5⟩
abbrev EMIT_DIAG_CFG_INTERVAL : Fld := ⟨.emit, 0x48, 0, 16⟩
abbrev EMIT_DWELL_CFG_POOL_MIN : Fld := ⟨.emit, 0x4C, 16, 16⟩
abbrev EMIT_DWELL_CFG_MAX_EXTRA : Fld := ⟨.emit, 0x4C, 0, 8⟩
abbrev EMIT_STARLINE_CFG_BIT_TIME : Fld := ⟨.emit, 0x50, 0, 2⟩
abbrev EMIT_STARLINE_LEN_LEN3 : Fld := ⟨.emit, 0x54, 24, 5⟩
abbrev EMIT_STARLINE_LEN_LEN2 : Fld := ⟨.emit, 0x54, 16, 5⟩
abbrev EMIT_STARLINE_LEN_LEN1 : Fld := ⟨.emit, 0x54, 8, 5⟩
abbrev EMIT_STARLINE_LEN_LEN0 : Fld := ⟨.emit, 0x54, 0, 5⟩
abbrev EMIT_STARLINE_STATUS_PRELOAD_BUSY : Fld := ⟨.emit, 0x58, 31, 1⟩
abbrev EMIT_STARLINE_STATUS_APPLY_PENDING : Fld := ⟨.emit, 0x58, 30, 1⟩
abbrev EMIT_STARLINE_STATUS_APPLIES : Fld := ⟨.emit, 0x58, 0, 16⟩
abbrev EMIT_TEMP_SRC_SRC3 : Fld := ⟨.emit, 0x5C, 24, 8⟩
abbrev EMIT_TEMP_SRC_SRC2 : Fld := ⟨.emit, 0x5C, 16, 8⟩
abbrev EMIT_TEMP_SRC_SRC1 : Fld := ⟨.emit, 0x5C, 8, 8⟩
abbrev EMIT_TEMP_SRC_SRC0 : Fld := ⟨.emit, 0x5C, 0, 8⟩
abbrev EMIT_GROUP_DERATE_KNEE (i : Nat) : Fld := ⟨.emit, 0x60 + 0x4 * i, 16, 16⟩
abbrev EMIT_GROUP_DERATE_CUTOFF (i : Nat) : Fld := ⟨.emit, 0x60 + 0x4 * i, 0, 16⟩
abbrev EMIT_GROUP_TEMP_VALID (i : Nat) : Fld := ⟨.emit, 0x70 + 0x4 * i, 31, 1⟩
abbrev EMIT_GROUP_TEMP_TEMP (i : Nat) : Fld := ⟨.emit, 0x70 + 0x4 * i, 0, 16⟩
abbrev EMIT_PORT_CLEAR0_CLEAR : Fld := ⟨.emit, 0x80, 0, 32⟩
abbrev EMIT_PORT_CLEAR1_CLEAR : Fld := ⟨.emit, 0x84, 0, 16⟩
abbrev EMIT_PORT_CFG_EN (i : Nat) : Fld := ⟨.emit, 0x100 + 0x10 * i, 31, 1⟩
abbrev EMIT_PORT_CFG_PHASE (i : Nat) : Fld := ⟨.emit, 0x100 + 0x10 * i, 28, 3⟩
abbrev EMIT_PORT_CFG_GROUP (i : Nat) : Fld := ⟨.emit, 0x100 + 0x10 * i, 26, 2⟩
abbrev EMIT_PORT_CFG_WIRE (i : Nat) : Fld := ⟨.emit, 0x100 + 0x10 * i, 24, 2⟩
abbrev EMIT_PORT_CFG_SLOT (i : Nat) : Fld := ⟨.emit, 0x100 + 0x10 * i, 16, 5⟩
abbrev EMIT_PORT_CFG_BURSTS (i : Nat) : Fld := ⟨.emit, 0x100 + 0x10 * i, 0, 9⟩
abbrev EMIT_PORT_CODE_BASE (i : Nat) : Fld := ⟨.emit, 0x104 + 0x10 * i, 16, 12⟩
abbrev EMIT_PORT_CODE_STEP (i : Nat) : Fld := ⟨.emit, 0x104 + 0x10 * i, 0, 12⟩
abbrev EMIT_PORT_CURRENT_DRV_FLAGS (i : Nat) : Fld := ⟨.emit, 0x108 + 0x10 * i, 16, 7⟩
abbrev EMIT_PORT_CURRENT_BASE_CODE (i : Nat) : Fld := ⟨.emit, 0x108 + 0x10 * i, 0, 16⟩
abbrev EMIT_PORT_STATUS_STATE (i : Nat) : Fld := ⟨.emit, 0x10C + 0x10 * i, 29, 3⟩
abbrev EMIT_PORT_STATUS_RESUME (i : Nat) : Fld := ⟨.emit, 0x10C + 0x10 * i, 28, 1⟩
abbrev EMIT_PORT_STATUS_INH_NIGHTWATCH (i : Nat) : Fld := ⟨.emit, 0x10C + 0x10 * i, 27, 1⟩
abbrev EMIT_PORT_STATUS_INH_BAY (i : Nat) : Fld := ⟨.emit, 0x10C + 0x10 * i, 26, 1⟩
abbrev EMIT_PORT_STATUS_INH_SCAN (i : Nat) : Fld := ⟨.emit, 0x10C + 0x10 * i, 25, 1⟩
abbrev EMIT_PORT_STATUS_INH_DERATED (i : Nat) : Fld := ⟨.emit, 0x10C + 0x10 * i, 24, 1⟩
abbrev EMIT_PORT_STATUS_MISSES (i : Nat) : Fld := ⟨.emit, 0x10C + 0x10 * i, 20, 4⟩
abbrev EMIT_PORT_STATUS_SENT_CODE (i : Nat) : Fld := ⟨.emit, 0x10C + 0x10 * i, 0, 16⟩
abbrev EMIT_FIRED_COUNT (i : Nat) : Fld := ⟨.emit, 0x400 + 0x20 * i, 0, 32⟩
abbrev EMIT_PROOF_COUNT (i : Nat) : Fld := ⟨.emit, 0x404 + 0x20 * i, 0, 32⟩
abbrev EMIT_SKIPPED_COUNT (i : Nat) : Fld := ⟨.emit, 0x408 + 0x20 * i, 0, 32⟩
abbrev EMIT_INHIBITED_COUNT (i : Nat) : Fld := ⟨.emit, 0x40C + 0x20 * i, 0, 32⟩
abbrev EMIT_HALO_AGE_AGE (i : Nat) : Fld := ⟨.emit, 0x410 + 0x20 * i, 0, 16⟩
abbrev EMIT_COMP_TAB_TEMP (i j : Nat) : Fld := ⟨.emit, 0xC00 + 0x40 * i + 0x4 * j, 16, 16⟩
abbrev EMIT_COMP_TAB_FACTOR (i j : Nat) : Fld := ⟨.emit, 0xC00 + 0x40 * i + 0x4 * j, 0, 16⟩
abbrev EMIT_DWELL_GRANTED (i : Nat) : Fld := ⟨.emit, 0x414 + 0x20 * i, 16, 16⟩
abbrev EMIT_DWELL_REFUSED (i : Nat) : Fld := ⟨.emit, 0x414 + 0x20 * i, 0, 16⟩
abbrev CODE_CODE_CFG_PULSES : Fld := ⟨.code, 0x40, 28, 3⟩
abbrev CODE_CODE_CFG_WIDTH : Fld := ⟨.code, 0x40, 16, 5⟩
abbrev CODE_SEED_SEED : Fld := ⟨.code, 0x44, 0, 32⟩
abbrev CODE_CODE_STATUS_BANK : Fld := ⟨.code, 0x48, 31, 1⟩
abbrev CODE_CODE_STATUS_GEN_BUSY : Fld := ⟨.code, 0x48, 30, 1⟩
abbrev CODE_CODE_STATUS_DISJOINT : Fld := ⟨.code, 0x48, 29, 1⟩
abbrev CODE_CODE_STATUS_ADDRESS : Fld := ⟨.code, 0x48, 16, 11⟩
abbrev CODE_CODE_STATUS_RADIX : Fld := ⟨.code, 0x48, 0, 9⟩
abbrev CODE_CODE_SEL_INDEX : Fld := ⟨.code, 0x4C, 0, 12⟩
abbrev CODE_CODE_READ0_SLOTS : Fld := ⟨.code, 0x50, 0, 32⟩
abbrev CODE_CODE_READ1_SLOTS : Fld := ⟨.code, 0x54, 0, 32⟩
abbrev CODE_CODE_READ2_PULSES : Fld := ⟨.code, 0x58, 28, 4⟩
abbrev CODE_CODE_READ2_WIDTH : Fld := ⟨.code, 0x58, 16, 5⟩
abbrev CODE_XL_EN (i : Nat) : Fld := ⟨.code, 0x80 + 0x4 * i, 31, 1⟩
abbrev CODE_XL_STATUS (i : Nat) : Fld := ⟨.code, 0x80 + 0x4 * i, 29, 2⟩
abbrev CODE_XL_UNIT (i : Nat) : Fld := ⟨.code, 0x80 + 0x4 * i, 16, 11⟩
abbrev CODE_XL_PORT (i : Nat) : Fld := ⟨.code, 0x80 + 0x4 * i, 8, 6⟩
abbrev CODE_XL_BAY (i : Nat) : Fld := ⟨.code, 0x80 + 0x4 * i, 0, 6⟩
abbrev CAL_CTRL_RZ_RESEED : Fld := ⟨.cal, 0x40, 3, 1⟩
abbrev CAL_CTRL_RZ_EN : Fld := ⟨.cal, 0x40, 2, 1⟩
abbrev CAL_CTRL_WAVE_AUTO : Fld := ⟨.cal, 0x40, 1, 1⟩
abbrev CAL_CTRL_AUTO_EN : Fld := ⟨.cal, 0x40, 0, 1⟩
abbrev CAL_TDC_ACCEPT_Q_LIMIT : Fld := ⟨.cal, 0x44, 16, 16⟩
abbrev CAL_TDC_ACCEPT_TOL : Fld := ⟨.cal, 0x44, 0, 8⟩
abbrev CAL_TDC_RUN_HITS_LOG2 : Fld := ⟨.cal, 0x48, 0, 5⟩
abbrev CAL_AUTO_CFG_INTERVAL : Fld := ⟨.cal, 0x4C, 16, 16⟩
abbrev CAL_AUTO_CFG_DELTA_T : Fld := ⟨.cal, 0x4C, 0, 16⟩
abbrev CAL_WAVE_ACCEPT_OFFSET_TOL : Fld := ⟨.cal, 0x50, 24, 8⟩
abbrev CAL_WAVE_ACCEPT_GAIN_TOL : Fld := ⟨.cal, 0x50, 16, 8⟩
abbrev CAL_WAVE_ACCEPT_SKEW_TOL : Fld := ⟨.cal, 0x50, 8, 8⟩
abbrev CAL_RZ_CFG_PERIOD : Fld := ⟨.cal, 0x54, 24, 8⟩
abbrev CAL_RZ_CFG_TOL : Fld := ⟨.cal, 0x54, 16, 8⟩
abbrev CAL_RZ_CFG_STEP_MAX : Fld := ⟨.cal, 0x54, 0, 16⟩
abbrev CAL_EPOCH_EPOCH : Fld := ⟨.cal, 0x58, 0, 16⟩
abbrev CAL_BLEND_STATUS_TDC : Fld := ⟨.cal, 0x5C, 16, 16⟩
abbrev CAL_BLEND_STATUS_RZ : Fld := ⟨.cal, 0x5C, 8, 8⟩
abbrev CAL_BLEND_STATUS_WAVE : Fld := ⟨.cal, 0x5C, 0, 8⟩
abbrev CAL_CONV_SEL_BAY : Fld := ⟨.cal, 0x60, 8, 6⟩
abbrev CAL_CONV_SEL_CONV : Fld := ⟨.cal, 0x60, 0, 5⟩
abbrev CAL_CONV_STATUS_TABLE : Fld := ⟨.cal, 0x64, 29, 3⟩
abbrev CAL_CONV_STATUS_BLEND_STEP : Fld := ⟨.cal, 0x64, 24, 5⟩
abbrev CAL_CONV_STATUS_LAST_RESULT : Fld := ⟨.cal, 0x64, 21, 3⟩
abbrev CAL_CONV_STATUS_AGE : Fld := ⟨.cal, 0x64, 0, 16⟩
abbrev CAL_CONV_QUALITY_Q_IN_FORCE : Fld := ⟨.cal, 0x68, 16, 16⟩
abbrev CAL_CONV_QUALITY_Q_LAST : Fld := ⟨.cal, 0x68, 0, 16⟩
abbrev CAL_CONV_DRIFT_BIN : Fld := ⟨.cal, 0x6C, 16, 8⟩
abbrev CAL_CONV_DRIFT_DRIFT : Fld := ⟨.cal, 0x6C, 0, 16⟩
abbrev CAL_CONV_LAST_DIFF_BIN : Fld := ⟨.cal, 0x70, 16, 8⟩
abbrev CAL_CONV_LAST_DIFF_DIFF : Fld := ⟨.cal, 0x70, 0, 16⟩
abbrev CAL_HALO_WIN_OPEN (i : Nat) : Fld := ⟨.cal, 0x200 + 0x4 * i, 16, 16⟩
abbrev CAL_HALO_WIN_CLOSE (i : Nat) : Fld := ⟨.cal, 0x200 + 0x4 * i, 0, 16⟩
abbrev CAL_HALO_REF_CH (i : Nat) : Fld := ⟨.cal, 0x300 + 0x4 * i, 29, 3⟩
abbrev CAL_HALO_REF_REF (i : Nat) : Fld := ⟨.cal, 0x300 + 0x4 * i, 0, 16⟩
abbrev CAL_RZ_STATE (i : Nat) : Fld := ⟨.cal, 0x400 + 0x4 * i, 29, 3⟩
abbrev CAL_RZ_BLEND_STEP (i : Nat) : Fld := ⟨.cal, 0x400 + 0x4 * i, 20, 5⟩
abbrev CAL_RZ_OFFSET (i : Nat) : Fld := ⟨.cal, 0x400 + 0x4 * i, 0, 20⟩
abbrev CAL_RZ_EST_EST (i : Nat) : Fld := ⟨.cal, 0x500 + 0x4 * i, 0, 20⟩
abbrev SKY_CTRL_AE_EN : Fld := ⟨.sky, 0x40, 2, 1⟩
abbrev SKY_CTRL_IMAGE_OUT : Fld := ⟨.sky, 0x40, 1, 1⟩
abbrev SKY_CTRL_EN : Fld := ⟨.sky, 0x40, 0, 1⟩
abbrev SKY_EXPO_COMMIT_GO : Fld := ⟨.sky, 0x44, 0, 1⟩
abbrev SKY_GEN_G : Fld := ⟨.sky, 0x48, 0, 32⟩
abbrev SKY_LISTEN_SHORT_OPEN : Fld := ⟨.sky, 0x4C, 16, 16⟩
abbrev SKY_LISTEN_SHORT_LEN : Fld := ⟨.sky, 0x4C, 0, 16⟩
abbrev SKY_LISTEN_LONG_OPEN : Fld := ⟨.sky, 0x50, 16, 16⟩
abbrev SKY_LISTEN_LONG_LEN : Fld := ⟨.sky, 0x50, 0, 16⟩
abbrev SKY_MERGE_KNEE : Fld := ⟨.sky, 0x54, 0, 10⟩
abbrev SKY_AE_CFG_TARGET : Fld := ⟨.sky, 0x58, 16, 16⟩
abbrev SKY_AE_CFG_BAND : Fld := ⟨.sky, 0x58, 8, 8⟩
abbrev SKY_AE_CFG_STEP : Fld := ⟨.sky, 0x58, 0, 8⟩
abbrev SKY_AE_LIMITS_ARM_MAX : Fld := ⟨.sky, 0x5C, 16, 10⟩
abbrev SKY_AE_LIMITS_ARM_MIN : Fld := ⟨.sky, 0x5C, 0, 10⟩
abbrev SKY_STATS_FRAME_FRAME : Fld := ⟨.sky, 0x60, 0, 32⟩
abbrev SKY_STATS_GEN_G : Fld := ⟨.sky, 0x64, 0, 32⟩
abbrev SKY_STATS_STATUS_VALID : Fld := ⟨.sky, 0x68, 31, 1⟩
abbrev SKY_STATS_STATUS_INCOMPLETE : Fld := ⟨.sky, 0x68, 30, 1⟩
abbrev SKY_STATS_STATUS_NONE : Fld := ⟨.sky, 0x68, 0, 16⟩
abbrev SKY_AMB_NO_CHUNK_COUNT : Fld := ⟨.sky, 0x6C, 0, 32⟩
abbrev SKY_SKY_LATE_COUNT : Fld := ⟨.sky, 0x70, 0, 32⟩
abbrev SKY_AE_SKIPPED_COUNT : Fld := ⟨.sky, 0x74, 0, 32⟩
abbrev SKY_TONE_CODE (i : Nat) : Fld := ⟨.sky, 0x100 + 0x4 * i, 0, 12⟩
abbrev SKY_PILEUP_RATE (i j : Nat) : Fld := ⟨.sky, 0x200 + 0x20 * i + 0x4 * j, 16, 16⟩
abbrev SKY_PILEUP_FACTOR (i j : Nat) : Fld := ⟨.sky, 0x200 + 0x20 * i + 0x4 * j, 0, 16⟩
abbrev SKY_ZONE_AVG_SAT (i : Nat) : Fld := ⟨.sky, 0x800 + 0x4 * i, 24, 8⟩
abbrev SKY_ZONE_AVG_AVG (i : Nat) : Fld := ⟨.sky, 0x800 + 0x4 * i, 0, 24⟩
abbrev SKY_REGION_HIST_COUNT (i j : Nat) : Fld := ⟨.sky, 0xA00 + 0x100 * i + 0x4 * j, 0, 32⟩
abbrev STREAM_CTRL_UDP_PORTS : Fld := ⟨.stream, 0x40, 6, 2⟩
abbrev STREAM_CTRL_TRANSPORT : Fld := ⟨.stream, 0x40, 4, 2⟩
abbrev STREAM_CTRL_SIGN_EN : Fld := ⟨.stream, 0x40, 1, 1⟩
abbrev STREAM_CTRL_EN : Fld := ⟨.stream, 0x40, 0, 1⟩
abbrev STREAM_STATUS_STATE : Fld := ⟨.stream, 0x44, 30, 2⟩
abbrev STREAM_STATUS_FILL : Fld := ⟨.stream, 0x44, 0, 12⟩
abbrev STREAM_SEQ_NEXT_SEQ : Fld := ⟨.stream, 0x48, 0, 32⟩
abbrev STREAM_FLUSH_US : Fld := ⟨.stream, 0x4C, 0, 8⟩
abbrev STREAM_RING_BASE_LO_ADDR : Fld := ⟨.stream, 0x50, 12, 20⟩
abbrev STREAM_RING_BASE_HI_ADDR : Fld := ⟨.stream, 0x54, 0, 32⟩
abbrev STREAM_RING_SIZE_LOG2 : Fld := ⟨.stream, 0x58, 0, 5⟩
abbrev STREAM_RING_WPTR_PTR : Fld := ⟨.stream, 0x5C, 0, 32⟩
abbrev STREAM_RING_RPTR_PTR : Fld := ⟨.stream, 0x60, 0, 32⟩
abbrev STREAM_WB_ADDR_LO_ADDR : Fld := ⟨.stream, 0x64, 2, 30⟩
abbrev STREAM_WB_ADDR_HI_ADDR : Fld := ⟨.stream, 0x68, 0, 32⟩
abbrev STREAM_COALESCE_TIME : Fld := ⟨.stream, 0x6C, 16, 16⟩
abbrev STREAM_COALESCE_COUNT : Fld := ⟨.stream, 0x6C, 0, 16⟩
abbrev STREAM_UDP_CFG_AGG_US : Fld := ⟨.stream, 0x70, 16, 16⟩
abbrev STREAM_UDP_CFG_MAX : Fld := ⟨.stream, 0x70, 0, 16⟩
abbrev STREAM_FENCE_TOKEN : Fld := ⟨.stream, 0x74, 0, 16⟩
abbrev STREAM_FENCE_DONE_BUSY : Fld := ⟨.stream, 0x78, 31, 1⟩
abbrev STREAM_FENCE_DONE_REQ : Fld := ⟨.stream, 0x78, 16, 4⟩
abbrev STREAM_FENCE_DONE_TOKEN : Fld := ⟨.stream, 0x78, 0, 16⟩
abbrev STREAM_PACKETS_COUNT : Fld := ⟨.stream, 0x7C, 0, 32⟩
abbrev STREAM_BLOCKS_COUNT : Fld := ⟨.stream, 0x80, 0, 32⟩
abbrev STREAM_DISCARDED_COUNT : Fld := ⟨.stream, 0x84, 0, 32⟩
abbrev STREAM_DISCARD_LAST_SEQ : Fld := ⟨.stream, 0x88, 0, 32⟩
abbrev STREAM_LATE_RECORDS_COUNT : Fld := ⟨.stream, 0x8C, 0, 32⟩
abbrev STREAM_FRAMES_SIGNED_COUNT : Fld := ⟨.stream, 0x90, 0, 32⟩
abbrev STREAM_LAST_CLOSED_FRAME : Fld := ⟨.stream, 0x94, 0, 32⟩
abbrev STREAM_EXPORT_CONSUMED_BYTES : Fld := ⟨.stream, 0x98, 0, 32⟩
abbrev STREAM_EXPORT_PRODUCED_COUNT : Fld := ⟨.stream, 0x9C, 0, 32⟩
abbrev STREAM_KEY_ID_ID : Fld := ⟨.stream, 0xA0, 0, 32⟩
abbrev STREAM_FORWARDED_COUNT : Fld := ⟨.stream, 0xA4, 0, 32⟩
abbrev STREAM_FORWARD_DISCARDED_COUNT : Fld := ⟨.stream, 0xA8, 0, 32⟩
abbrev COMP_CTRL_EN : Fld := ⟨.comp, 0x40, 0, 1⟩
abbrev COMP_CODED_COUNT : Fld := ⟨.comp, 0x44, 0, 32⟩
abbrev COMP_RAW_FIT_COUNT : Fld := ⟨.comp, 0x48, 0, 32⟩
abbrev COMP_VERIFY_FAIL_COUNT : Fld := ⟨.comp, 0x4C, 0, 32⟩
abbrev COMP_LAST_BITS_BITS : Fld := ⟨.comp, 0x50, 0, 13⟩
abbrev HOST_LINK_STATUS_DL_UP : Fld := ⟨.host, 0x40, 31, 1⟩
abbrev HOST_LINK_STATUS_SPEED : Fld := ⟨.host, 0x40, 28, 3⟩
abbrev HOST_LINK_STATUS_WIDTH : Fld := ⟨.host, 0x40, 25, 3⟩
abbrev HOST_LINK_CTRL_TEST : Fld := ⟨.host, 0x44, 4, 1⟩
abbrev HOST_LINK_CTRL_RETRAIN : Fld := ⟨.host, 0x44, 3, 1⟩
abbrev HOST_LINK_CTRL_TARGET_SPEED : Fld := ⟨.host, 0x44, 0, 3⟩
abbrev HOST_LINK_DOWNS_COUNT : Fld := ⟨.host, 0x48, 0, 32⟩
abbrev HOST_AER_CE_COUNT : Fld := ⟨.host, 0x4C, 0, 32⟩
abbrev HOST_AER_UCE_COUNT : Fld := ⟨.host, 0x50, 0, 32⟩
abbrev NET_CTRL_NOTIFY_EN (u : Nat) : Fld := ⟨(.net u), 0x40, 7, 1⟩
abbrev NET_CTRL_RA_EN (u : Nat) : Fld := ⟨(.net u), 0x40, 6, 1⟩
abbrev NET_CTRL_PAUSE_EN (u : Nat) : Fld := ⟨(.net u), 0x40, 5, 1⟩
abbrev NET_CTRL_VLAN_EN (u : Nat) : Fld := ⟨(.net u), 0x40, 4, 1⟩
abbrev NET_CTRL_IP_VER (u : Nat) : Fld := ⟨(.net u), 0x40, 3, 1⟩
abbrev NET_CTRL_EN (u : Nat) : Fld := ⟨(.net u), 0x40, 0, 1⟩
abbrev NET_STATUS_LINK_UP (u : Nat) : Fld := ⟨(.net u), 0x44, 31, 1⟩
abbrev NET_STATUS_BLOCK_LOCK (u : Nat) : Fld := ⟨(.net u), 0x44, 30, 1⟩
abbrev NET_STATUS_HI_BER (u : Nat) : Fld := ⟨(.net u), 0x44, 29, 1⟩
abbrev NET_MAC_LO_ADDR (u : Nat) : Fld := ⟨(.net u), 0x48, 0, 32⟩
abbrev NET_MAC_HI_ADDR (u : Nat) : Fld := ⟨(.net u), 0x4C, 0, 16⟩
abbrev NET_DEST_MAC_LO_ADDR (u : Nat) : Fld := ⟨(.net u), 0x50, 0, 32⟩
abbrev NET_DEST_MAC_HI_ADDR (u : Nat) : Fld := ⟨(.net u), 0x54, 0, 16⟩
abbrev NET_VLAN_PCP (u : Nat) : Fld := ⟨(.net u), 0x58, 13, 3⟩
abbrev NET_VLAN_VID (u : Nat) : Fld := ⟨(.net u), 0x58, 0, 12⟩
abbrev NET_UDP_PORTS_SRC (u : Nat) : Fld := ⟨(.net u), 0x5C, 16, 16⟩
abbrev NET_UDP_PORTS_DST (u : Nat) : Fld := ⟨(.net u), 0x5C, 0, 16⟩
abbrev NET_RA_PORT_NOTIFY_PORT (u : Nat) : Fld := ⟨(.net u), 0x60, 16, 16⟩
abbrev NET_RA_PORT_PORT (u : Nat) : Fld := ⟨(.net u), 0x60, 0, 16⟩
abbrev NET_RA_SRC_EN_EN (u : Nat) : Fld := ⟨(.net u), 0x64, 0, 4⟩
abbrev NET_OWN_IP_ADDR (u : Nat) (i : Nat) : Fld := ⟨(.net u), 0x70 + 0x4 * i, 0, 32⟩
abbrev NET_DEST_IP_ADDR (u : Nat) (i : Nat) : Fld := ⟨(.net u), 0x80 + 0x4 * i, 0, 32⟩
abbrev NET_RA_SRC_ADDR (u : Nat) (i j : Nat) : Fld := ⟨(.net u), 0x90 + 0x10 * i + 0x4 * j, 0, 32⟩
abbrev NET_TX_FRAMES_COUNT (u : Nat) : Fld := ⟨(.net u), 0xD0, 0, 32⟩
abbrev NET_RX_FRAMES_COUNT (u : Nat) : Fld := ⟨(.net u), 0xD4, 0, 32⟩
abbrev NET_RX_FCS_ERR_COUNT (u : Nat) : Fld := ⟨(.net u), 0xD8, 0, 32⟩
abbrev NET_RX_DROPPED_COUNT (u : Nat) : Fld := ⟨(.net u), 0xDC, 0, 32⟩
abbrev NET_RA_REJECTED_COUNT (u : Nat) : Fld := ⟨(.net u), 0xE0, 0, 32⟩
abbrev SEC_STATUS_BOOT_SLOT : Fld := ⟨.sec, 0x40, 31, 1⟩
abbrev SEC_STATUS_OWNER_COUNTERSIGN : Fld := ⟨.sec, 0x40, 30, 1⟩
abbrev SEC_STATUS_DEBUG_LEVEL : Fld := ⟨.sec, 0x40, 28, 2⟩
abbrev SEC_STATUS_FK_VALID : Fld := ⟨.sec, 0x40, 27, 1⟩
abbrev SEC_STATUS_BAR2_CLOSED : Fld := ⟨.sec, 0x40, 26, 1⟩
abbrev SEC_STATUS_QUOTE_BUSY : Fld := ⟨.sec, 0x40, 25, 1⟩
abbrev SEC_STATUS_QUOTE_VALID : Fld := ⟨.sec, 0x40, 24, 1⟩
abbrev SEC_STATUS_LOG_OVERFLOW : Fld := ⟨.sec, 0x40, 23, 1⟩
abbrev SEC_STATUS_MOALITH0_REVOKED : Fld := ⟨.sec, 0x40, 22, 1⟩
abbrev SEC_STATUS_OWNER_SLOTS : Fld := ⟨.sec, 0x40, 0, 8⟩
abbrev SEC_CTRL_BAR2_CLOSE : Fld := ⟨.sec, 0x44, 2, 1⟩
abbrev SEC_CTRL_QUOTE_GO : Fld := ⟨.sec, 0x44, 1, 1⟩
abbrev SEC_CTRL_FK_ROTATE : Fld := ⟨.sec, 0x44, 0, 1⟩
abbrev SEC_ROLLBACK_FIRMWARE : Fld := ⟨.sec, 0x48, 24, 8⟩
abbrev SEC_ROLLBACK_KERNEL_MOALITH : Fld := ⟨.sec, 0x48, 16, 8⟩
abbrev SEC_ROLLBACK_KERNEL_OWNER : Fld := ⟨.sec, 0x48, 8, 8⟩
abbrev SEC_ROLLBACK_CONFIG : Fld := ⟨.sec, 0x48, 0, 8⟩
abbrev SEC_ROLLBACK_ADV_TYPE : Fld := ⟨.sec, 0x4C, 8, 2⟩
abbrev SEC_ROLLBACK_ADV_VALUE : Fld := ⟨.sec, 0x4C, 0, 7⟩
abbrev SEC_BOOT_COUNT_COUNT : Fld := ⟨.sec, 0x50, 0, 32⟩
abbrev SEC_FK_ID_KEY_ID : Fld := ⟨.sec, 0x54, 0, 32⟩
abbrev SEC_WIN_SEL_SEL : Fld := ⟨.sec, 0x58, 28, 4⟩
abbrev SEC_WIN_SEL_WORD : Fld := ⟨.sec, 0x58, 0, 12⟩
abbrev SEC_WIN_DATA_DATA : Fld := ⟨.sec, 0x5C, 0, 32⟩
abbrev SEC_NONCE_DATA (i : Nat) : Fld := ⟨.sec, 0x60 + 0x4 * i, 0, 32⟩
abbrev ALM_CTRL_FLUSH : Fld := ⟨.alm, 0x40, 0, 1⟩
abbrev ALM_STATUS_FLUSHING : Fld := ⟨.alm, 0x44, 31, 1⟩
abbrev ALM_STATUS_PFW : Fld := ⟨.alm, 0x44, 30, 1⟩
abbrev ALM_STATUS_STAGED : Fld := ⟨.alm, 0x44, 0, 12⟩
abbrev ALM_NEXT_SEQ_SEQ : Fld := ⟨.alm, 0x48, 0, 32⟩
abbrev ALM_FLUSHED_SEQ_SEQ : Fld := ⟨.alm, 0x4C, 0, 32⟩
abbrev ALM_OLDEST_SEQ_SEQ : Fld := ⟨.alm, 0x50, 0, 32⟩
abbrev ALM_WRAPS_COUNT : Fld := ⟨.alm, 0x54, 0, 32⟩
abbrev ALM_LOST_COUNT : Fld := ⟨.alm, 0x58, 0, 32⟩
abbrev ALM_READ_SEQ_SEQ : Fld := ⟨.alm, 0x5C, 0, 32⟩
abbrev ALM_FLUSHES_COUNT : Fld := ⟨.alm, 0x60, 0, 32⟩
abbrev ALM_WINDOW_DATA (i : Nat) : Fld := ⟨.alm, 0x80 + 0x4 * i, 0, 32⟩
abbrev RES_CTRL_AUTO_EN : Fld := ⟨.res, 0x40, 0, 6⟩
abbrev RES_WEAR_CFG_DRIFT_LIMIT : Fld := ⟨.res, 0x44, 8, 8⟩
abbrev RES_WEAR_CFG_MARGIN_SECS : Fld := ⟨.res, 0x44, 0, 8⟩
abbrev RES_AGE_CFG_LIMIT : Fld := ⟨.res, 0x48, 0, 16⟩
abbrev RES_BIST_CFG_PERIOD : Fld := ⟨.res, 0x4C, 0, 16⟩
abbrev RES_REMAIN_ENGINES : Fld := ⟨.res, 0x50, 26, 6⟩
abbrev RES_REMAIN_CONVERTERS : Fld := ⟨.res, 0x50, 20, 6⟩
abbrev RES_REMAIN_SLICES : Fld := ⟨.res, 0x50, 14, 6⟩
abbrev RES_REMAIN_BANKS : Fld := ⟨.res, 0x50, 11, 3⟩
abbrev RES_REMAIN_LANES : Fld := ⟨.res, 0x50, 9, 2⟩
abbrev RES_REMAIN_MRAM_ROWS : Fld := ⟨.res, 0x50, 0, 9⟩
abbrev RES_RESERVE_GEN_GEN : Fld := ⟨.res, 0x54, 0, 32⟩
abbrev RES_LANE_SPARE_A_USED : Fld := ⟨.res, 0x58, 3, 1⟩
abbrev RES_LANE_SPARE_A_REPLACED : Fld := ⟨.res, 0x58, 2, 1⟩
abbrev RES_LANE_SPARE_SPARE_OK_A : Fld := ⟨.res, 0x58, 1, 1⟩
abbrev RES_LANE_SPARE_SPARE_OK_B : Fld := ⟨.res, 0x58, 0, 1⟩
abbrev RES_LANE_SPARE_B_B_USED : Fld := ⟨.res, 0x5C, 1, 1⟩
abbrev RES_LANE_SPARE_B_B_REPLACED : Fld := ⟨.res, 0x5C, 0, 1⟩
abbrev RES_ENG_SWAP_USED (i : Nat) : Fld := ⟨.res, 0x60 + 0x4 * i, 31, 1⟩
abbrev RES_ENG_SWAP_REPLACED (i : Nat) : Fld := ⟨.res, 0x60 + 0x4 * i, 0, 4⟩
abbrev RES_BAY_SWAP_CONV_USED (i : Nat) : Fld := ⟨.res, 0xE0 + 0x4 * i, 31, 1⟩
abbrev RES_BAY_SWAP_CONV_EDGE (i : Nat) : Fld := ⟨.res, 0xE0 + 0x4 * i, 27, 1⟩
abbrev RES_BAY_SWAP_CONV_CH (i : Nat) : Fld := ⟨.res, 0xE0 + 0x4 * i, 24, 3⟩
abbrev RES_BAY_SWAP_SLICE_USED (i : Nat) : Fld := ⟨.res, 0xE0 + 0x4 * i, 23, 1⟩
abbrev RES_BAY_SWAP_SLICE_FOR (i : Nat) : Fld := ⟨.res, 0xE0 + 0x4 * i, 16, 2⟩
abbrev RES_BANK_SWAP_USED (i : Nat) : Fld := ⟨.res, 0x1A0 + 0x4 * i, 31, 1⟩
abbrev RES_BANK_SWAP_BANK (i : Nat) : Fld := ⟨.res, 0x1A0 + 0x4 * i, 0, 5⟩
abbrev RES_AGE_LOSS (i : Nat) : Fld := ⟨.res, 0x1C0 + 0x4 * i, 0, 16⟩
abbrev FLASH_INFO_OCTAL_DTR : Fld := ⟨.flash, 0x40, 7, 1⟩
abbrev FLASH_INFO_SIZE_LOG2 : Fld := ⟨.flash, 0x40, 0, 5⟩
abbrev FLASH_ADDR_ADDR : Fld := ⟨.flash, 0x44, 0, 32⟩
abbrev FLASH_CMD_GO : Fld := ⟨.flash, 0x48, 31, 1⟩
abbrev FLASH_CMD_OP : Fld := ⟨.flash, 0x48, 0, 2⟩
abbrev FLASH_STATUS_BUSY : Fld := ⟨.flash, 0x4C, 31, 1⟩
abbrev FLASH_STATUS_ERROR : Fld := ⟨.flash, 0x4C, 30, 1⟩
abbrev FLASH_STATUS_PROTECTED : Fld := ⟨.flash, 0x4C, 29, 1⟩
abbrev FLASH_BUF_DATA (i : Nat) : Fld := ⟨.flash, 0x100 + 0x4 * i, 0, 32⟩
abbrev LANE_LANE_CTRL_MANUAL_ALIGN (u : Nat) : Fld := ⟨(.lane u), 0x40, 15, 1⟩
abbrev LANE_LANE_CTRL_SLIP (u : Nat) : Fld := ⟨(.lane u), 0x40, 14, 1⟩
abbrev LANE_LANE_CTRL_LOOPBACK (u : Nat) : Fld := ⟨(.lane u), 0x40, 12, 2⟩
abbrev LANE_LANE_CTRL_TEST (u : Nat) : Fld := ⟨(.lane u), 0x40, 11, 1⟩
abbrev LANE_LANE_CTRL_TX_POL_INV (u : Nat) : Fld := ⟨(.lane u), 0x40, 10, 1⟩
abbrev LANE_LANE_CTRL_RX_POL_INV (u : Nat) : Fld := ⟨(.lane u), 0x40, 9, 1⟩
abbrev LANE_LANE_CTRL_RETRAIN (u : Nat) : Fld := ⟨(.lane u), 0x40, 8, 1⟩
abbrev LANE_LANE_CTRL_RX_SLEEP (u : Nat) : Fld := ⟨(.lane u), 0x40, 1, 1⟩
abbrev LANE_LANE_CTRL_TX_SLEEP (u : Nat) : Fld := ⟨(.lane u), 0x40, 0, 1⟩
abbrev LANE_LINK_STATUS_STATE (u : Nat) : Fld := ⟨(.lane u), 0x44, 29, 3⟩
abbrev LANE_LINK_STATUS_LOS (u : Nat) : Fld := ⟨(.lane u), 0x44, 28, 1⟩
abbrev LANE_LINK_STATUS_BLOCK_LOCK (u : Nat) : Fld := ⟨(.lane u), 0x44, 27, 1⟩
abbrev LANE_LINK_STATUS_TX_ASLEEP (u : Nat) : Fld := ⟨(.lane u), 0x44, 26, 1⟩
abbrev LANE_LINK_STATUS_RX_ASLEEP (u : Nat) : Fld := ⟨(.lane u), 0x44, 25, 1⟩
abbrev LANE_LINK_STATUS_REMOTE_SLEEP (u : Nat) : Fld := ⟨(.lane u), 0x44, 24, 1⟩
abbrev LANE_LINK_STATUS_ROLE (u : Nat) : Fld := ⟨(.lane u), 0x44, 22, 2⟩
abbrev LANE_LINK_STATUS_PORT_WIDTH (u : Nat) : Fld := ⟨(.lane u), 0x44, 20, 2⟩
abbrev LANE_LINK_STATUS_ATTEMPTS (u : Nat) : Fld := ⟨(.lane u), 0x44, 16, 4⟩
abbrev LANE_LINK_STATUS_SLIPS (u : Nat) : Fld := ⟨(.lane u), 0x44, 0, 7⟩
abbrev LANE_LINK_TIMING_ATTEMPT_TIMEOUT (u : Nat) : Fld := ⟨(.lane u), 0x48, 16, 16⟩
abbrev LANE_LINK_TIMING_WAIT_NOW (u : Nat) : Fld := ⟨(.lane u), 0x48, 0, 16⟩
abbrev LANE_PRBS_CTRL_PATTERN (u : Nat) : Fld := ⟨(.lane u), 0x4C, 30, 2⟩
abbrev LANE_PRBS_CTRL_GEN_EN (u : Nat) : Fld := ⟨(.lane u), 0x4C, 29, 1⟩
abbrev LANE_PRBS_CTRL_CHK_EN (u : Nat) : Fld := ⟨(.lane u), 0x4C, 28, 1⟩
abbrev LANE_PRBS_CTRL_INJECT (u : Nat) : Fld := ⟨(.lane u), 0x4C, 27, 1⟩
abbrev LANE_PRBS_CTRL_INJECT_RATE (u : Nat) : Fld := ⟨(.lane u), 0x4C, 16, 6⟩
abbrev LANE_PRBS_STATUS_LOCK (u : Nat) : Fld := ⟨(.lane u), 0x50, 31, 1⟩
abbrev LANE_PRBS_ERRORS_COUNT (u : Nat) : Fld := ⟨(.lane u), 0x54, 0, 32⟩
abbrev LANE_SYNC_HDR_ERR_COUNT (u : Nat) : Fld := ⟨(.lane u), 0x58, 0, 32⟩
abbrev LANE_ELASTIC_FILL (u : Nat) : Fld := ⟨(.lane u), 0x5C, 0, 6⟩
abbrev LANE_FILL_COUNTS_INSERTED (u : Nat) : Fld := ⟨(.lane u), 0x60, 16, 16⟩
abbrev LANE_FILL_COUNTS_DELETED (u : Nat) : Fld := ⟨(.lane u), 0x60, 0, 16⟩
abbrev LANE_MARGIN_EYE_WIDTH (u : Nat) : Fld := ⟨(.lane u), 0x64, 16, 8⟩
abbrev LANE_MARGIN_EYE_HEIGHT (u : Nat) : Fld := ⟨(.lane u), 0x64, 0, 16⟩
abbrev LANE_MARGIN_MIN_WIDTH (u : Nat) : Fld := ⟨(.lane u), 0x68, 0, 8⟩
abbrev LANE_LOS_COUNT_COUNT (u : Nat) : Fld := ⟨(.lane u), 0x6C, 0, 32⟩
abbrev QTR_DISPATCH_LIMIT_LIMIT (u : Nat) : Fld := ⟨(.qtr u), 0x40, 0, 10⟩
abbrev QTR_QUEUE_DEPTH_DEPTH (u : Nat) : Fld := ⟨(.qtr u), 0x44, 0, 6⟩
abbrev QTR_CLUSTERS_ENGINES (u : Nat) : Fld := ⟨(.qtr u), 0x48, 16, 8⟩
abbrev QTR_CLUSTERS_DISPATCH_MASK (u : Nat) : Fld := ⟨(.qtr u), 0x48, 0, 8⟩
abbrev QTR_DISPATCHED_COUNT (u : Nat) : Fld := ⟨(.qtr u), 0x4C, 0, 32⟩
abbrev QTR_LATE_COUNT (u : Nat) : Fld := ⟨(.qtr u), 0x50, 0, 32⟩
abbrev QTR_HELD_COUNT (u : Nat) : Fld := ⟨(.qtr u), 0x54, 0, 32⟩
abbrev QTR_BAYQ_OCCUPANCY (u : Nat) (i : Nat) : Fld := ⟨(.qtr u), 0x60 + 0x4 * i, 24, 6⟩
abbrev QTR_BAYQ_OLDEST_AGE (u : Nat) (i : Nat) : Fld := ⟨(.qtr u), 0x60 + 0x4 * i, 0, 16⟩
abbrev POOL_WAIT_LIMIT_LIMIT (u : Nat) : Fld := ⟨(.pool u), 0x40, 0, 14⟩
abbrev POOL_C_CAP_CAP (u : Nat) : Fld := ⟨(.pool u), 0x44, 0, 13⟩
abbrev POOL_FREE_SHARED_FREE (u : Nat) : Fld := ⟨(.pool u), 0x48, 16, 13⟩
abbrev POOL_FREE_TOTAL_FREE (u : Nat) : Fld := ⟨(.pool u), 0x48, 0, 13⟩
abbrev POOL_SHARED_SHARED_CAP (u : Nat) : Fld := ⟨(.pool u), 0x4C, 16, 13⟩
abbrev POOL_SHARED_FLOOR_SUM (u : Nat) : Fld := ⟨(.pool u), 0x4C, 0, 13⟩
abbrev POOL_WAITING_A (u : Nat) : Fld := ⟨(.pool u), 0x50, 16, 8⟩
abbrev POOL_WAITING_B (u : Nat) : Fld := ⟨(.pool u), 0x50, 8, 8⟩
abbrev POOL_WAITING_C (u : Nat) : Fld := ⟨(.pool u), 0x50, 0, 8⟩
abbrev POOL_ECC_CFG_CE_LIMIT (u : Nat) : Fld := ⟨(.pool u), 0x54, 16, 16⟩
abbrev POOL_ECC_CFG_SCRUB_PERIOD (u : Nat) : Fld := ⟨(.pool u), 0x54, 0, 16⟩
abbrev POOL_ECC_STATUS_SPARE_IN_USE (u : Nat) : Fld := ⟨(.pool u), 0x58, 31, 1⟩
abbrev POOL_ECC_STATUS_SPARE_FOR (u : Nat) : Fld := ⟨(.pool u), 0x58, 16, 6⟩
abbrev POOL_ECC_STATUS_UNCORRECTED (u : Nat) : Fld := ⟨(.pool u), 0x58, 0, 8⟩
abbrev POOL_LIST_FULL_COUNT (u : Nat) : Fld := ⟨(.pool u), 0x5C, 0, 32⟩
abbrev POOL_GRANTS_COUNT (u : Nat) (i : Nat) : Fld := ⟨(.pool u), 0x60 + 0x4 * i, 0, 32⟩
abbrev POOL_REFUSED_COUNT (u : Nat) (i : Nat) : Fld := ⟨(.pool u), 0x70 + 0x4 * i, 0, 32⟩
abbrev POOL_FLOOR_HELD (u : Nat) (i : Nat) : Fld := ⟨(.pool u), 0x80 + 0x4 * i, 16, 13⟩
abbrev POOL_FLOOR_FLOOR (u : Nat) (i : Nat) : Fld := ⟨(.pool u), 0x80 + 0x4 * i, 0, 13⟩
abbrev POOL_BANK_CE_LAST (u : Nat) (i : Nat) : Fld := ⟨(.pool u), 0x100 + 0x4 * i, 16, 16⟩
abbrev POOL_BANK_CE_TOTAL (u : Nat) (i : Nat) : Fld := ⟨(.pool u), 0x100 + 0x4 * i, 0, 16⟩
abbrev CLU_CTRL_STATS_CLEAR (u : Nat) : Fld := ⟨(.clu u), 0x40, 3, 1⟩
abbrev CLU_CTRL_AUTO_RELEASE (u : Nat) : Fld := ⟨(.clu u), 0x40, 2, 1⟩
abbrev CLU_CTRL_DISPATCH_EN (u : Nat) : Fld := ⟨(.clu u), 0x40, 0, 1⟩
abbrev CLU_ENG_MASKS_SERVICE (u : Nat) : Fld := ⟨(.clu u), 0x44, 16, 16⟩
abbrev CLU_ENG_MASKS_QUAR (u : Nat) : Fld := ⟨(.clu u), 0x44, 0, 16⟩
abbrev CLU_ENG_BUSY_BUSY (u : Nat) : Fld := ⟨(.clu u), 0x48, 0, 16⟩
abbrev CLU_ENG_RELEASE_RELEASE (u : Nat) : Fld := ⟨(.clu u), 0x4C, 0, 16⟩
abbrev CLU_CYCLE_LIMIT_LIMIT (u : Nat) : Fld := ⟨(.clu u), 0x50, 0, 18⟩
abbrev CLU_CYCLES_MAX_CYCLES (u : Nat) : Fld := ⟨(.clu u), 0x54, 0, 32⟩
abbrev CLU_CYCLES_AVG_CYCLES (u : Nat) : Fld := ⟨(.clu u), 0x58, 0, 32⟩
abbrev CLU_DISPATCHES_COUNT (u : Nat) : Fld := ⟨(.clu u), 0x5C, 0, 32⟩
abbrev CLU_TRAPS_COUNT (u : Nat) : Fld := ⟨(.clu u), 0x60, 0, 32⟩
abbrev CLU_TRAP_LAST_ENGINE (u : Nat) : Fld := ⟨(.clu u), 0x64, 28, 4⟩
abbrev CLU_TRAP_LAST_CAUSE (u : Nat) : Fld := ⟨(.clu u), 0x64, 24, 4⟩
abbrev CLU_TRAP_LAST_CLASS (u : Nat) : Fld := ⟨(.clu u), 0x64, 23, 1⟩
abbrev CLU_TRAP_LAST_KERNEL (u : Nat) : Fld := ⟨(.clu u), 0x64, 8, 8⟩
abbrev CLU_TRAP_LAST_STAGE (u : Nat) : Fld := ⟨(.clu u), 0x64, 0, 3⟩
abbrev CLU_TRAP_CFG_LIMIT (u : Nat) : Fld := ⟨(.clu u), 0x68, 0, 8⟩
abbrev CLU_KBANK_ACTIVE (u : Nat) : Fld := ⟨(.clu u), 0x6C, 31, 1⟩
abbrev CLU_KBANK_OLD_BUSY (u : Nat) : Fld := ⟨(.clu u), 0x6C, 30, 1⟩
abbrev CLU_KBANK_VERSION (u : Nat) : Fld := ⟨(.clu u), 0x6C, 0, 16⟩
abbrev CLU_KBLOCK_LAST (u : Nat) : Fld := ⟨(.clu u), 0x70, 8, 8⟩
abbrev CLU_KBLOCK_COUNT (u : Nat) : Fld := ⟨(.clu u), 0x70, 0, 8⟩
abbrev CLU_KUNBLOCK_ID (u : Nat) : Fld := ⟨(.clu u), 0x74, 0, 8⟩
abbrev CLU_DWELL_POSTED_COUNT (u : Nat) : Fld := ⟨(.clu u), 0x78, 0, 32⟩
abbrev CLU_DWELL_DROPPED_COUNT (u : Nat) : Fld := ⟨(.clu u), 0x7C, 0, 32⟩
abbrev CLU_CAPTURE_POSTED_COUNT (u : Nat) : Fld := ⟨(.clu u), 0x80, 0, 32⟩
abbrev CLU_SHARED_ECC_UNCORRECTED (u : Nat) : Fld := ⟨(.clu u), 0x84, 16, 16⟩
abbrev CLU_SHARED_ECC_CORRECTED (u : Nat) : Fld := ⟨(.clu u), 0x84, 0, 16⟩
abbrev CLU_BAY_PSET0_SET (u : Nat) : Fld := ⟨(.clu u), 0x88, 0, 32⟩
abbrev CLU_BAY_PSET1_SET (u : Nat) : Fld := ⟨(.clu u), 0x8C, 0, 16⟩
abbrev CLU_ENG_STATUS_STATE (u : Nat) (i : Nat) : Fld := ⟨(.clu u), 0x100 + 0x4 * i, 28, 4⟩
abbrev CLU_ENG_STATUS_CAUSE (u : Nat) (i : Nat) : Fld := ⟨(.clu u), 0x100 + 0x4 * i, 24, 4⟩
abbrev CLU_ENG_STATUS_KERNEL (u : Nat) (i : Nat) : Fld := ⟨(.clu u), 0x100 + 0x4 * i, 16, 8⟩
abbrev CLU_ENG_STATUS_ASSERT (u : Nat) (i : Nat) : Fld := ⟨(.clu u), 0x100 + 0x4 * i, 0, 16⟩
abbrev CLU_PSET_WORD (u : Nat) (i j : Nat) : Fld := ⟨(.clu u), 0x400 + 0x80 * i + 0x4 * j, 0, 32⟩
abbrev CLU_PIXCAL_OFFSET_OFFSET (u : Nat) (i : Nat) : Fld := ⟨(.clu u), 0x800 + 0x8 * i, 0, 20⟩
abbrev CLU_PIXCAL_GAIN_GAIN (u : Nat) (i : Nat) : Fld := ⟨(.clu u), 0x804 + 0x8 * i, 0, 16⟩
abbrev CLU_WALK_TOT16 (u : Nat) (i j : Nat) : Fld := ⟨(.clu u), 0xB00 + 0x40 * i + 0x4 * j, 16, 16⟩
abbrev CLU_WALK_WALK (u : Nat) (i j : Nat) : Fld := ⟨(.clu u), 0xB00 + 0x40 * i + 0x4 * j, 0, 16⟩
abbrev BAY_TDC_CTRL_SELFTEST_EN (u : Nat) : Fld := ⟨(.bay u), 0x40, 1, 1⟩
abbrev BAY_TDC_CTRL_EN (u : Nat) : Fld := ⟨(.bay u), 0x40, 0, 1⟩
abbrev BAY_TDC_TIMING_TIMEOUT (u : Nat) : Fld := ⟨(.bay u), 0x44, 20, 12⟩
abbrev BAY_TDC_TIMING_VAL_MODE (u : Nat) : Fld := ⟨(.bay u), 0x44, 17, 1⟩
abbrev BAY_TDC_TIMING_TOT_MAX (u : Nat) : Fld := ⟨(.bay u), 0x44, 8, 8⟩
abbrev BAY_TDC_TIMING_VAL_WIN (u : Nat) : Fld := ⟨(.bay u), 0x44, 0, 8⟩
abbrev BAY_CH_ENABLE_EN (u : Nat) : Fld := ⟨(.bay u), 0x48, 0, 8⟩
abbrev BAY_CH_QUAR_QUAR (u : Nat) : Fld := ⟨(.bay u), 0x4C, 0, 8⟩
abbrev BAY_CH_RELEASE_RELEASE (u : Nat) : Fld := ⟨(.bay u), 0x50, 0, 8⟩
abbrev BAY_SPARE_STATUS_IN_USE (u : Nat) : Fld := ⟨(.bay u), 0x54, 31, 1⟩
abbrev BAY_SPARE_STATUS_CAL_VALID (u : Nat) : Fld := ⟨(.bay u), 0x54, 30, 1⟩
abbrev BAY_SPARE_STATUS_EDGE (u : Nat) : Fld := ⟨(.bay u), 0x54, 27, 1⟩
abbrev BAY_SPARE_STATUS_CH (u : Nat) : Fld := ⟨(.bay u), 0x54, 24, 3⟩
abbrev BAY_EC_CTRL_EN (u : Nat) : Fld := ⟨(.bay u), 0x58, 31, 1⟩
abbrev BAY_EC_CTRL_STREAK_LIMIT (u : Nat) : Fld := ⟨(.bay u), 0x58, 16, 8⟩
abbrev BAY_EC_CTRL_CH_MASK (u : Nat) : Fld := ⟨(.bay u), 0x58, 0, 8⟩
abbrev BAY_EC_WINDOW_OPEN (u : Nat) : Fld := ⟨(.bay u), 0x5C, 16, 16⟩
abbrev BAY_EC_WINDOW_CLOSE (u : Nat) : Fld := ⟨(.bay u), 0x5C, 0, 16⟩
abbrev BAY_EC_COUNT_COUNT (u : Nat) : Fld := ⟨(.bay u), 0x60, 0, 32⟩
abbrev BAY_EC_LAST_CH (u : Nat) : Fld := ⟨(.bay u), 0x64, 29, 3⟩
abbrev BAY_EC_LAST_SUPPRESSED (u : Nat) : Fld := ⟨(.bay u), 0x64, 24, 3⟩
abbrev BAY_EC_STREAK_STREAK (u : Nat) : Fld := ⟨(.bay u), 0x68, 0, 8⟩
abbrev BAY_FAULT_CTRL_STORM_COUNT (u : Nat) : Fld := ⟨(.bay u), 0x6C, 16, 8⟩
abbrev BAY_FAULT_CTRL_STUCK_TIME (u : Nat) : Fld := ⟨(.bay u), 0x6C, 0, 10⟩
abbrev BAY_SELFTEST_CFG_AMPLITUDE (u : Nat) : Fld := ⟨(.bay u), 0x70, 16, 10⟩
abbrev BAY_SELFTEST_CFG_FAIL_LIMIT (u : Nat) : Fld := ⟨(.bay u), 0x70, 8, 8⟩
abbrev BAY_SELFTEST_CFG_TOL (u : Nat) : Fld := ⟨(.bay u), 0x70, 0, 8⟩
abbrev BAY_CH_THRESH_ARM (u : Nat) (i : Nat) : Fld := ⟨(.bay u), 0x100 + 0x20 * i, 16, 10⟩
abbrev BAY_CH_THRESH_VAL (u : Nat) (i : Nat) : Fld := ⟨(.bay u), 0x100 + 0x20 * i, 0, 10⟩
abbrev BAY_CH_CFG_TERM (u : Nat) (i : Nat) : Fld := ⟨(.bay u), 0x104 + 0x20 * i, 8, 1⟩
abbrev BAY_CH_CFG_HYST_VAL (u : Nat) (i : Nat) : Fld := ⟨(.bay u), 0x104 + 0x20 * i, 6, 2⟩
abbrev BAY_CH_CFG_HYST_ARM (u : Nat) (i : Nat) : Fld := ⟨(.bay u), 0x104 + 0x20 * i, 4, 2⟩
abbrev BAY_CH_CFG_POLARITY (u : Nat) (i : Nat) : Fld := ⟨(.bay u), 0x104 + 0x20 * i, 0, 1⟩
abbrev BAY_CH_STATUS_STATE (u : Nat) (i : Nat) : Fld := ⟨(.bay u), 0x108 + 0x20 * i, 29, 3⟩
abbrev BAY_CH_STATUS_FAULT (u : Nat) (i : Nat) : Fld := ⟨(.bay u), 0x108 + 0x20 * i, 24, 2⟩
abbrev BAY_CH_STATUS_FAILED_PART (u : Nat) (i : Nat) : Fld := ⟨(.bay u), 0x108 + 0x20 * i, 22, 2⟩
abbrev BAY_CH_STATUS_SPARE (u : Nat) (i : Nat) : Fld := ⟨(.bay u), 0x108 + 0x20 * i, 21, 1⟩
abbrev BAY_CH_STATUS_CAL_VALID (u : Nat) (i : Nat) : Fld := ⟨(.bay u), 0x108 + 0x20 * i, 20, 1⟩
abbrev BAY_CH_STATUS_SELFTEST_FAILS (u : Nat) (i : Nat) : Fld := ⟨(.bay u), 0x108 + 0x20 * i, 8, 8⟩
abbrev BAY_CH_EVENTS_COUNT (u : Nat) (i : Nat) : Fld := ⟨(.bay u), 0x10C + 0x20 * i, 0, 32⟩
abbrev BAY_CH_MISSED_COUNT (u : Nat) (i : Nat) : Fld := ⟨(.bay u), 0x110 + 0x20 * i, 0, 32⟩
abbrev BAY_CH_TIMEOUTS_COUNT (u : Nat) (i : Nat) : Fld := ⟨(.bay u), 0x114 + 0x20 * i, 0, 32⟩
abbrev BAY_CH_ARMONLY_COUNT (u : Nat) (i : Nat) : Fld := ⟨(.bay u), 0x118 + 0x20 * i, 0, 32⟩
abbrev BAY_CH_SELFTEST_PASS (u : Nat) (i : Nat) : Fld := ⟨(.bay u), 0x11C + 0x20 * i, 31, 1⟩
abbrev BAY_CH_SELFTEST_DEVIATION (u : Nat) (i : Nat) : Fld := ⟨(.bay u), 0x11C + 0x20 * i, 0, 16⟩
abbrev BAY_HIST_CFG_DEFAULT_CLASS (u : Nat) : Fld := ⟨(.bay u), 0x200, 12, 2⟩
abbrev BAY_HIST_CFG_VOTE_UNVAL (u : Nat) : Fld := ⟨(.bay u), 0x200, 9, 1⟩
abbrev BAY_HIST_CFG_FES_EN (u : Nat) : Fld := ⟨(.bay u), 0x200, 8, 1⟩
abbrev BAY_HIST_CFG_DEPTH (u : Nat) : Fld := ⟨(.bay u), 0x200, 4, 3⟩
abbrev BAY_HIST_CFG_BIN_W (u : Nat) : Fld := ⟨(.bay u), 0x200, 0, 2⟩
abbrev BAY_GATE_OPEN_OPEN (u : Nat) : Fld := ⟨(.bay u), 0x204, 0, 20⟩
abbrev BAY_GATE_CLOSE_CLOSE (u : Nat) : Fld := ⟨(.bay u), 0x208, 0, 21⟩
abbrev BAY_HIST_GEOM_CHUNKS (u : Nat) : Fld := ⟨(.bay u), 0x20C, 16, 2⟩
abbrev BAY_HIST_GEOM_NBINS (u : Nat) : Fld := ⟨(.bay u), 0x20C, 0, 12⟩
abbrev BAY_VOTE_STATUS_LEVEL (u : Nat) : Fld := ⟨(.bay u), 0x210, 30, 2⟩
abbrev BAY_VOTE_STATUS_KEEP (u : Nat) : Fld := ⟨(.bay u), 0x210, 16, 5⟩
abbrev BAY_VOTE_STATUS_QUEUE (u : Nat) : Fld := ⟨(.bay u), 0x210, 0, 13⟩
abbrev BAY_VOTE_DEMAND_DEMAND_AB (u : Nat) : Fld := ⟨(.bay u), 0x214, 16, 16⟩
abbrev BAY_VOTE_DEMAND_DEMAND (u : Nat) : Fld := ⟨(.bay u), 0x214, 0, 16⟩
abbrev BAY_ZONE_COLS_EN (u : Nat) (i : Nat) : Fld := ⟨(.bay u), 0x220 + 0x8 * i, 31, 1⟩
abbrev BAY_ZONE_COLS_LAST (u : Nat) (i : Nat) : Fld := ⟨(.bay u), 0x220 + 0x8 * i, 16, 13⟩
abbrev BAY_ZONE_COLS_FIRST (u : Nat) (i : Nat) : Fld := ⟨(.bay u), 0x220 + 0x8 * i, 0, 13⟩
abbrev BAY_ZONE_ROWS_CLASS (u : Nat) (i : Nat) : Fld := ⟨(.bay u), 0x224 + 0x8 * i, 16, 2⟩
abbrev BAY_ZONE_ROWS_MASK (u : Nat) (i : Nat) : Fld := ⟨(.bay u), 0x224 + 0x8 * i, 0, 8⟩
abbrev BAY_VOTES_CAST_COUNT (u : Nat) : Fld := ⟨(.bay u), 0x260, 0, 32⟩
abbrev BAY_EVENTS_THINNED_COUNT (u : Nat) : Fld := ⟨(.bay u), 0x264, 0, 32⟩
abbrev BAY_EVENTS_C_DROPPED_COUNT (u : Nat) : Fld := ⟨(.bay u), 0x268, 0, 32⟩
abbrev BAY_HIST_GRANTED_COUNT (u : Nat) : Fld := ⟨(.bay u), 0x26C, 0, 32⟩
abbrev BAY_HIST_DISPATCHED_COUNT (u : Nat) : Fld := ⟨(.bay u), 0x270, 0, 32⟩
abbrev BAY_POOL_DELAYED_COUNT (u : Nat) : Fld := ⟨(.bay u), 0x274, 0, 32⟩
abbrev BAY_POOL_REFUSED_COUNT (u : Nat) : Fld := ⟨(.bay u), 0x278, 0, 32⟩
abbrev BAY_POOL_WAIT_MAX_NS (u : Nat) : Fld := ⟨(.bay u), 0x27C, 0, 16⟩
abbrev BAY_DISPATCH_HELD_COUNT (u : Nat) : Fld := ⟨(.bay u), 0x280, 0, 32⟩
abbrev BAY_ENGINE_LATE_COUNT (u : Nat) : Fld := ⟨(.bay u), 0x284, 0, 32⟩
abbrev BAY_CHUNKS_PEAK (u : Nat) : Fld := ⟨(.bay u), 0x288, 16, 13⟩
abbrev BAY_CHUNKS_HELD (u : Nat) : Fld := ⟨(.bay u), 0x288, 0, 13⟩
abbrev BAY_AMBIENT_COUNT (u : Nat) : Fld := ⟨(.bay u), 0x28C, 0, 32⟩
abbrev BAY_WAVE_CTRL_HALO_CAP (u : Nat) : Fld := ⟨(.bay u), 0x300, 2, 1⟩
abbrev BAY_WAVE_CTRL_ROT_EN (u : Nat) : Fld := ⟨(.bay u), 0x300, 1, 1⟩
abbrev BAY_WAVE_CTRL_EN (u : Nat) : Fld := ⟨(.bay u), 0x300, 0, 1⟩
abbrev BAY_WAVE_SCAN_LEN (u : Nat) : Fld := ⟨(.bay u), 0x304, 16, 11⟩
abbrev BAY_WAVE_SCAN_MASK (u : Nat) : Fld := ⟨(.bay u), 0x304, 0, 8⟩
abbrev BAY_WAVE_PLACE_START (u : Nat) : Fld := ⟨(.bay u), 0x308, 0, 21⟩
abbrev BAY_WAVE_STATUS_STATE (u : Nat) : Fld := ⟨(.bay u), 0x30C, 29, 3⟩
abbrev BAY_WAVE_STATUS_REENABLE_PENDING (u : Nat) : Fld := ⟨(.bay u), 0x30C, 28, 1⟩
abbrev BAY_WAVE_STATUS_HELD_WRITES (u : Nat) : Fld := ⟨(.bay u), 0x30C, 27, 1⟩
abbrev BAY_WAVE_STATUS_BUSY (u : Nat) : Fld := ⟨(.bay u), 0x30C, 26, 1⟩
abbrev BAY_WAVE_STATUS_CAL_BUSY (u : Nat) : Fld := ⟨(.bay u), 0x30C, 25, 1⟩
abbrev BAY_WAVE_STATUS_POINTER (u : Nat) : Fld := ⟨(.bay u), 0x30C, 22, 3⟩
abbrev BAY_WAVE_STATUS_TAP (u : Nat) : Fld := ⟨(.bay u), 0x30C, 19, 3⟩
abbrev BAY_WAVE_STATUS_SPARE_IN_USE (u : Nat) : Fld := ⟨(.bay u), 0x30C, 18, 1⟩
abbrev BAY_WAVE_STATUS_SPARE_FOR (u : Nat) : Fld := ⟨(.bay u), 0x30C, 16, 2⟩
abbrev BAY_WAVE_STATUS_URGENT (u : Nat) : Fld := ⟨(.bay u), 0x30C, 0, 3⟩
abbrev BAY_WAVE_HOST_REQ0_START (u : Nat) : Fld := ⟨(.bay u), 0x310, 0, 21⟩
abbrev BAY_WAVE_HOST_REQ1_GO (u : Nat) : Fld := ⟨(.bay u), 0x314, 31, 1⟩
abbrev BAY_WAVE_HOST_REQ1_HOST_DONE (u : Nat) : Fld := ⟨(.bay u), 0x314, 30, 1⟩
abbrev BAY_WAVE_HOST_REQ1_CH (u : Nat) : Fld := ⟨(.bay u), 0x314, 27, 3⟩
abbrev BAY_WAVE_HOST_REQ1_LEN (u : Nat) : Fld := ⟨(.bay u), 0x314, 0, 11⟩
abbrev BAY_WAVE_EST_EN (u : Nat) : Fld := ⟨(.bay u), 0x318, 31, 1⟩
abbrev BAY_WAVE_EST_PERIOD (u : Nat) : Fld := ⟨(.bay u), 0x318, 0, 16⟩
abbrev BAY_WAVE_HALO_PEAK (u : Nat) : Fld := ⟨(.bay u), 0x31C, 16, 16⟩
abbrev BAY_WAVE_HALO_INDEX (u : Nat) : Fld := ⟨(.bay u), 0x31C, 0, 11⟩
abbrev BAY_SLICE_STATUS_STATE (u : Nat) (i : Nat) : Fld := ⟨(.bay u), 0x320 + 0x10 * i, 29, 3⟩
abbrev BAY_SLICE_STATUS_BLEND_STEP (u : Nat) (i : Nat) : Fld := ⟨(.bay u), 0x320 + 0x10 * i, 24, 5⟩
abbrev BAY_SLICE_STATUS_LAST_RESULT (u : Nat) (i : Nat) : Fld := ⟨(.bay u), 0x320 + 0x10 * i, 22, 2⟩
abbrev BAY_SLICE_OFFGAIN_OFFSET (u : Nat) (i : Nat) : Fld := ⟨(.bay u), 0x324 + 0x10 * i, 16, 16⟩
abbrev BAY_SLICE_OFFGAIN_GAIN (u : Nat) (i : Nat) : Fld := ⟨(.bay u), 0x324 + 0x10 * i, 0, 16⟩
abbrev BAY_SLICE_SKEW_SKEW (u : Nat) (i : Nat) : Fld := ⟨(.bay u), 0x328 + 0x10 * i, 0, 16⟩
abbrev BAY_CAPTURES_COUNT (u : Nat) : Fld := ⟨(.bay u), 0x380, 0, 32⟩
abbrev BAY_URGENT_SERVED_COUNT (u : Nat) : Fld := ⟨(.bay u), 0x384, 0, 32⟩
abbrev BAY_URGENT_DROPPED_COUNT (u : Nat) : Fld := ⟨(.bay u), 0x388, 0, 32⟩
abbrev BAY_URGENT_EXPIRED_COUNT (u : Nat) : Fld := ⟨(.bay u), 0x38C, 0, 32⟩
abbrev BAY_CAP_NO_CHUNK_COUNT (u : Nat) : Fld := ⟨(.bay u), 0x390, 0, 32⟩
abbrev BAY_CAP_BUSY_COUNT (u : Nat) : Fld := ⟨(.bay u), 0x394, 0, 32⟩
abbrev BAY_CAP_LATE_COUNT (u : Nat) : Fld := ⟨(.bay u), 0x398, 0, 32⟩
abbrev BAY_CAP_REPLACED_COUNT (u : Nat) : Fld := ⟨(.bay u), 0x39C, 0, 32⟩
abbrev BAY_OVERRANGE_COUNT (u : Nat) : Fld := ⟨(.bay u), 0x3A0, 0, 32⟩

end F

end Sys2Proof.Machine
end

