-- ==== Sys2Proof/Machine/Regs.lean ====
section
/-! DEFINITION. The registers of every page as the spec's register tables give them (R44 to R53, R6, R7,
R65, R68, R82 and the register rules of each chapter; R619 lists them): offset, array strides, which bits a
write stores, which bits survive a warm or page reset, the reset word, and whether the register is shadowed.
Values the spec calls "boot" or "fused" are the ones log entry 3 names. -/
namespace Sys2Proof.Machine

/-- One row of a page's register list. The register lies at `base + i * s1 + j * s2` for `i < n1`, `j < n2`. -/
structure RegRow where
  /-- Offset of the first register. -/
  base : Nat
  /-- Count and stride of the outer index. -/
  n1 : Nat
  s1 : Nat
  /-- Count and stride of the inner index. -/
  n2 : Nat
  s2 : Nat
  /-- Bits that a write stores (RW and RWS fields, R21). -/
  rw : Nat
  /-- Bits that survive warm and page reset (RWS and ROS fields, R24). -/
  keep : Nat
  /-- Bits that act on a write without being stored (WO fields, R21). -/
  wo : Nat
  /-- Reset word. -/
  reset : Nat
  /-- 1: shadowed (R60). -/
  shadowed : Bool
  deriving DecidableEq, Repr

/-- The row holds the register at `off`. -/
def RegRow.hits (r : RegRow) (off : Nat) : Bool :=
  decide (r.base ≤ off) && decide ((off - r.base) / r.s1 < r.n1)
    && decide (((off - r.base) % r.s1) % r.s2 = 0) && decide (((off - r.base) % r.s1) / r.s2 < r.n2)

/-- R44, R45, R46, R47, R48, R49, R50, R51, R52, R53: registers of the common page header. -/
def headerRows : List RegRow := [
  ⟨0x0, 1, 0x4, 1, 0x4, 0x0, 0x0, 0x0, 0x1, false⟩,  -- PAGE_ID
  ⟨0x4, 1, 0x4, 1, 0x4, 0x0, 0x0, 0x0, 0x0, false⟩,  -- PAGE_CAPS
  ⟨0x8, 1, 0x4, 1, 0x4, 0x0, 0x0, 0x0, 0x0, false⟩,  -- PAGE_STATE
  ⟨0xC, 1, 0x4, 1, 0x4, 0x3, 0x0, 0xFF00010C, 0x0, false⟩,  -- PAGE_CTRL
  ⟨0x10, 1, 0x4, 1, 0x4, 0x0, 0x0, 0x0, 0x0, false⟩,  -- ERR_STATUS
  ⟨0x14, 1, 0x4, 1, 0x4, 0xFFFFFFFF, 0x0, 0x0, 0xFFFFFFFF, false⟩,  -- ERR_ENABLE
  ⟨0x18, 1, 0x4, 1, 0x4, 0x0, 0x0, 0x0, 0x0, false⟩,  -- ERR_FIRST
  ⟨0x1C, 1, 0x4, 1, 0x4, 0x0, 0x0, 0x0, 0x0, false⟩,  -- ERR_COUNT
  ⟨0x20, 1, 0x4, 1, 0x4, 0x0, 0x0, 0x0, 0x0, false⟩,  -- IRQ_STATUS
  ⟨0x24, 1, 0x4, 1, 0x4, 0xFFFFFFFF, 0x0, 0x0, 0x0, false⟩,  -- IRQ_ENABLE
  ⟨0x28, 1, 0x4, 1, 0x4, 0xFFFFFFF, 0x0, 0x0, 0x0, false⟩,  -- SEQ_APPLIED
  ⟨0x2C, 1, 0x4, 1, 0x4, 0x30000000, 0x0, 0x7, 0x10000000, false⟩]  -- SHADOW_CTRL

/-- R6, R7, R65, R614: registers of the CHIP page. -/
def chipRows : List RegRow := [
  ⟨0x40, 1, 0x4, 1, 0x4, 0x0, 0x0, 0x0, 0x13202000, false⟩,  -- PART_ID
  ⟨0x44, 1, 0x4, 1, 0x4, 0x0, 0x0, 0x0, 0x0, false⟩,  -- FW_VERSION
  ⟨0x48, 1, 0x4, 1, 0x4, 0x0, 0x0, 0xFFFF, 0x0, false⟩,  -- FENCE
  ⟨0x4C, 1, 0x4, 1, 0x4, 0x0, 0x0, 0x0, 0x0, false⟩,  -- FENCE_DONE
  ⟨0x50, 1, 0x4, 1, 0x4, 0x0, 0x0, 0xFF000001, 0x0, false⟩,  -- RESET_CTRL
  ⟨0x54, 1, 0x4, 1, 0x4, 0xFF00FFFF, 0xFF00FFFF, 0x0, 0x0, false⟩,  -- RESET_CAUSE
  ⟨0x58, 1, 0x4, 1, 0x4, 0xFF00000, 0xFF00000, 0x0, 0x0, false⟩,  -- BOOT_STATUS
  ⟨0x5C, 1, 0x4, 1, 0x4, 0x0, 0x0, 0x0, 0x0, false⟩]  -- READY

/-- R68: registers of the TASK page. -/
def taskRows : List RegRow := [
  ⟨0x100, 16, 0x20, 1, 0x4, 0x1FF00FF, 0x0, 0x0, 0x0, false⟩,  -- OP
  ⟨0x104, 16, 0x20, 1, 0x4, 0xFFFFFFFF, 0x0, 0x0, 0x0, false⟩,  -- ARG0
  ⟨0x108, 16, 0x20, 1, 0x4, 0xFFFFFFFF, 0x0, 0x0, 0x0, false⟩,  -- ARG1
  ⟨0x10C, 16, 0x20, 1, 0x4, 0xFFFFFFFF, 0x0, 0x0, 0x0, false⟩,  -- ARG2
  ⟨0x110, 16, 0x20, 1, 0x4, 0x0, 0x0, 0x7, 0x0, false⟩,  -- CTRL
  ⟨0x114, 16, 0x20, 1, 0x4, 0x0, 0xFF000001, 0x0, 0x0, false⟩,  -- STATUS
  ⟨0x118, 16, 0x20, 1, 0x4, 0x0, 0xFFFFFFFF, 0x0, 0x0, false⟩,  -- PROGRESS
  ⟨0x11C, 16, 0x20, 1, 0x4, 0x0, 0xFFFFFFFF, 0x0, 0x0, false⟩]  -- RESULT

/-- R82: registers of the IRQ page. -/
def irqRows : List RegRow := [
  ⟨0x400, 176, 0x4, 1, 0x4, 0xF000003F, 0x0, 0x0, 0x0, false⟩]  -- ROUTE

/-- R557: registers of the PWR page. -/
def pwrRows : List RegRow := [
  ⟨0x40, 4, 0x4, 1, 0x4, 0x0, 0x0, 0x0, 0x0, false⟩,  -- SUPPLY_ON
  ⟨0x50, 4, 0x4, 1, 0x4, 0xFFFFFFFF, 0x0, 0x0, 0xFFFFFFFF, false⟩,  -- OFF_ALLOW
  ⟨0x60, 1, 0x4, 1, 0x4, 0x0, 0x0, 0x0, 0x0, false⟩,  -- P_EST
  ⟨0x64, 1, 0x4, 1, 0x4, 0xFFFF, 0x0, 0x0, 0x5DC0, false⟩,  -- P_CEIL
  ⟨0x68, 1, 0x4, 1, 0x4, 0xFFFF, 0x0, 0x0, 0x1F4, false⟩,  -- P_HYST
  ⟨0x70, 4, 0x4, 1, 0x4, 0x0, 0x0, 0x0, 0x0, false⟩,  -- P_REGION
  ⟨0x80, 16, 0x4, 1, 0x4, 0x0, 0x0, 0x0, 0x0, false⟩]  -- IMON

/-- R558: registers of the THERM page. -/
def thermRows : List RegRow := [
  ⟨0x40, 1, 0x4, 1, 0x4, 0xFFFF, 0x0, 0x0, 0x64, false⟩,  -- CTRL
  ⟨0x44, 1, 0x4, 1, 0x4, 0x0, 0x0, 0x0, 0x80000000, false⟩,  -- STATUS
  ⟨0x48, 1, 0x4, 1, 0x4, 0x0, 0x0, 0x0, 0x0, false⟩,  -- GRACE_LEFT
  ⟨0x4C, 1, 0x4, 1, 0x4, 0xFFFF, 0x0, 0x0, 0x14, false⟩,  -- HYST
  ⟨0x50, 1, 0x4, 1, 0x4, 0x0, 0x0, 0x0, 0x3E8, false⟩,  -- ENG_CLOCK
  ⟨0x54, 1, 0x4, 1, 0x4, 0x0, 0x0, 0x0, 0x0, false⟩,  -- SHOT
  ⟨0x58, 1, 0x4, 1, 0x4, 0x0, 0x0, 0x0, 0x0, false⟩,  -- THROTTLE_MS
  ⟨0x5C, 1, 0x4, 1, 0x4, 0x0, 0x0, 0x0, 0x0, false⟩,  -- REQUESTS
  ⟨0x100, 24, 0x4, 1, 0x4, 0xFFFFFFFF, 0x0, 0x0, 0x4E2047E, false⟩,  -- NODE_LIMIT
  ⟨0x180, 24, 0x4, 1, 0x4, 0x0, 0x0, 0x0, 0x0, false⟩,  -- NODE_TEMP
  ⟨0x200, 12, 0x4, 1, 0x4, 0x0, 0x0, 0x0, 0x0, false⟩]  -- DIODE

/-- R158, R473, R474: registers of the TIME page. -/
def timeRows : List RegRow := [
  ⟨0x40, 1, 0x4, 1, 0x4, 0x3, 0x3, 0x0, 0x0, false⟩,  -- REF_CFG
  ⟨0x44, 1, 0x4, 1, 0x4, 0x0, 0x0, 0x0, 0x0, false⟩,  -- STATUS
  ⟨0x48, 1, 0x4, 1, 0x4, 0xFFFFFFFF, 0x0, 0x0, 0x14640064, false⟩,  -- QUAL_CFG
  ⟨0x4C, 1, 0x4, 1, 0x4, 0x0, 0x0, 0x0, 0x0, false⟩,  -- QUAL_LAST
  ⟨0x50, 1, 0x4, 1, 0x4, 0x0, 0x0, 0x0, 0x0, false⟩,  -- QUAL_OFFSET
  ⟨0x54, 1, 0x4, 1, 0x4, 0x0, 0x0, 0x0, 0x0, false⟩,  -- VERN_UNLOCK0
  ⟨0x58, 1, 0x4, 1, 0x4, 0x0, 0x0, 0x0, 0x0, false⟩,  -- VERN_UNLOCK1
  ⟨0x5C, 1, 0x4, 1, 0x4, 0x0, 0x0, 0x0, 0x0, false⟩,  -- SETTLE_LAST
  ⟨0x80, 1, 0x4, 1, 0x4, 0x0, 0x0, 0x0, 0x0, false⟩,  -- NOW_LO
  ⟨0x84, 1, 0x4, 1, 0x4, 0x0, 0x0, 0x0, 0x0, false⟩,  -- NOW_HI
  ⟨0x88, 1, 0x4, 1, 0x4, 0x1, 0x0, 0x0, 0x0, false⟩,  -- CAL_CTRL
  ⟨0x8C, 1, 0x4, 1, 0x4, 0xFFFF, 0x0, 0x0, 0x25, false⟩,  -- UTC_OFFSET
  ⟨0x90, 1, 0x4, 1, 0x4, 0x0, 0x0, 0x0, 0x0, false⟩,  -- TAI_BASE_LO
  ⟨0x94, 1, 0x4, 1, 0x4, 0x0, 0x0, 0x0, 0x0, false⟩,  -- TAI_BASE_HI
  ⟨0x98, 1, 0x4, 1, 0x4, 0x0, 0x0, 0x0, 0x0, false⟩,  -- M_BASE_LO
  ⟨0x9C, 1, 0x4, 1, 0x4, 0x0, 0x0, 0x0, 0x0, false⟩,  -- M_BASE_HI
  ⟨0xA0, 1, 0x4, 1, 0x4, 0x0, 0x0, 0x0, 0x0, false⟩,  -- RATE
  ⟨0xA4, 1, 0x4, 1, 0x4, 0xFFFFFFFF, 0x0, 0x0, 0x0, false⟩,  -- SET_TAI_LO
  ⟨0xA8, 1, 0x4, 1, 0x4, 0xFFFFFFFF, 0x0, 0x0, 0x0, false⟩,  -- SET_TAI_HI
  ⟨0xAC, 1, 0x4, 1, 0x4, 0xFFFFFFFF, 0x0, 0x0, 0x0, false⟩,  -- SET_M_LO
  ⟨0xB0, 1, 0x4, 1, 0x4, 0xFFFFFFFF, 0x0, 0x0, 0x0, false⟩,  -- SET_M_HI
  ⟨0xB4, 1, 0x4, 1, 0x4, 0x0, 0x0, 0x1, 0x0, false⟩,  -- SET_CTRL
  ⟨0xB8, 1, 0x4, 1, 0x4, 0xFFFF, 0x0, 0x0, 0xA, false⟩,  -- HOLD_CFG
  ⟨0x100, 16, 0x20, 1, 0x4, 0xFFFFFFFF, 0x0, 0x0, 0x0, false⟩,  -- ACT_TIME_LO
  ⟨0x104, 16, 0x20, 1, 0x4, 0xFFFFFFFF, 0x0, 0x0, 0x0, false⟩,  -- ACT_TIME_HI
  ⟨0x108, 16, 0x20, 1, 0x4, 0xFF030001, 0x0, 0x0, 0x0, false⟩,  -- ACT_CFG
  ⟨0x10C, 16, 0x20, 1, 0x4, 0xFFFFFFFF, 0x0, 0x0, 0x0, false⟩,  -- ACT_ARG0
  ⟨0x110, 16, 0x20, 1, 0x4, 0xFFFFFFFF, 0x0, 0x0, 0x0, false⟩,  -- ACT_ARG1
  ⟨0x114, 16, 0x20, 1, 0x4, 0x0, 0x0, 0x7, 0x0, false⟩,  -- ACT_CTRL
  ⟨0x118, 16, 0x20, 1, 0x4, 0x0, 0x0, 0x0, 0x0, false⟩,  -- ACT_STATUS
  ⟨0x11C, 16, 0x20, 1, 0x4, 0x0, 0x0, 0x0, 0x0, false⟩]  -- ACT_RESULT

/-- R475: registers of the CHAIN page. -/
def chainRows : List RegRow := [
  ⟨0x40, 1, 0x4, 1, 0x4, 0x3, 0x1, 0x30, 0x2, false⟩,  -- CTRL
  ⟨0x44, 1, 0x4, 1, 0x4, 0x0, 0x0, 0x0, 0x0, false⟩,  -- STATUS
  ⟨0x48, 1, 0x4, 1, 0x4, 0x0, 0x0, 0x0, 0x0, false⟩,  -- ROUND
  ⟨0x4C, 1, 0x4, 1, 0x4, 0x0, 0x0, 0x0, 0x0, false⟩,  -- UNITS
  ⟨0x50, 1, 0x4, 1, 0x4, 0xFFFF, 0x0, 0x0, 0x64, false⟩,  -- ENUM_CFG
  ⟨0x54, 1, 0x4, 1, 0x4, 0x0, 0x0, 0x0, 0x0, false⟩,  -- ALIGN_STATUS
  ⟨0x58, 1, 0x4, 1, 0x4, 0x0, 0x0, 0x0, 0x0, false⟩,  -- OFFSET
  ⟨0x5C, 1, 0x4, 1, 0x4, 0x0, 0x0, 0x0, 0x0, false⟩,  -- DELAY
  ⟨0x60, 1, 0x4, 1, 0x4, 0x0, 0x0, 0x0, 0x0, false⟩,  -- FREQ_CORR
  ⟨0x64, 1, 0x4, 1, 0x4, 0xFFFFFFFF, 0x0, 0x0, 0x800008, false⟩,  -- SERVO
  ⟨0x68, 1, 0x4, 1, 0x4, 0xFFFFFFFF, 0x0, 0x0, 0x3E80214, false⟩,  -- ALIGN_CFG
  ⟨0x6C, 1, 0x4, 1, 0x4, 0xFFFFFFFF, 0x0, 0x0, 0x3E8, false⟩,  -- STEP_LIMIT
  ⟨0x70, 1, 0x4, 1, 0x4, 0xFFFF, 0x0, 0x0, 0x0, false⟩,  -- PORT_ASYM_A
  ⟨0x74, 1, 0x4, 1, 0x4, 0xFFFF, 0x0, 0x0, 0x0, false⟩,  -- PORT_ASYM_B
  ⟨0x80, 1, 0x4, 1, 0x4, 0x7FF, 0x0, 0x0, 0x0, false⟩,  -- RA_UNIT
  ⟨0x84, 1, 0x4, 1, 0x4, 0xFFFFFFFF, 0x0, 0x0, 0x0, false⟩,  -- RA_ADDR
  ⟨0x88, 1, 0x4, 1, 0x4, 0xFFFFFFFF, 0x0, 0x0, 0x0, false⟩,  -- RA_DATA
  ⟨0x8C, 1, 0x4, 1, 0x4, 0x2, 0x0, 0x1, 0x0, false⟩,  -- RA_CTRL
  ⟨0x90, 1, 0x4, 1, 0x4, 0x0, 0x0, 0x0, 0x0, false⟩,  -- RA_STATUS
  ⟨0xA0, 1, 0x4, 1, 0x4, 0xFFFFFFFF, 0x0, 0x0, 0x0, true⟩,  -- COORD_ANCHOR_LO
  ⟨0xA4, 1, 0x4, 1, 0x4, 0xFFFFFFFF, 0x0, 0x0, 0x0, true⟩,  -- COORD_ANCHOR_HI
  ⟨0xA8, 1, 0x4, 1, 0x4, 0xFFFF, 0x0, 0x0, 0x3E8, true⟩,  -- COORD_PERIOD
  ⟨0xAC, 1, 0x4, 1, 0x4, 0xFFFFFFFF, 0x0, 0x0, 0x0, true⟩,  -- COORD_EN0
  ⟨0xB0, 1, 0x4, 1, 0x4, 0xFFFF, 0x0, 0x0, 0x0, true⟩,  -- COORD_EN1
  ⟨0xB4, 1, 0x4, 1, 0x4, 0xFFFFFFFF, 0x0, 0x0, 0x0, false⟩,  -- CONFIG_AT_LO
  ⟨0xB8, 1, 0x4, 1, 0x4, 0xFFFFFFFF, 0x0, 0x0, 0x0, false⟩,  -- CONFIG_AT_HI
  ⟨0xC0, 8, 0x4, 1, 0x4, 0x7FFF0FFF, 0x0, 0x0, 0x0, true⟩,  -- XL_CODE
  ⟨0xE0, 8, 0x4, 1, 0x4, 0x0, 0x0, 0x0, 0x20000000, false⟩,  -- XL_STATE
  ⟨0x100, 1, 0x4, 1, 0x4, 0x0, 0x0, 0x0, 0x0, false⟩,  -- CRC_ERR
  ⟨0x104, 1, 0x4, 1, 0x4, 0x0, 0x0, 0x0, 0x0, false⟩,  -- JOINS
  ⟨0x400, 64, 0x4, 1, 0x4, 0x0, 0x0, 0x0, 0x0, false⟩]  -- PRESENT

/-- R476: registers of the PTP page. -/
def ptpRows : List RegRow := [
  ⟨0x40, 1, 0x4, 1, 0x4, 0xFFFF0003, 0x0, 0x0, 0x0, false⟩,  -- CFG
  ⟨0x44, 1, 0x4, 1, 0x4, 0xFFFFFFFF, 0x0, 0x0, 0x640320, false⟩,  -- THRESH
  ⟨0x48, 1, 0x4, 1, 0x4, 0xFFFFFFFF, 0x0, 0x0, 0x1000010, false⟩,  -- SERVO
  ⟨0x4C, 1, 0x4, 1, 0x4, 0x0, 0x0, 0x0, 0x0, false⟩,  -- STATUS
  ⟨0x50, 1, 0x4, 1, 0x4, 0x0, 0x0, 0x0, 0x0, false⟩,  -- OFFSET
  ⟨0x54, 1, 0x4, 1, 0x4, 0x0, 0x0, 0x0, 0x0, false⟩,  -- PATH_DELAY
  ⟨0x58, 1, 0x4, 1, 0x4, 0x0, 0x0, 0x0, 0x0, false⟩,  -- GM_ID_LO
  ⟨0x5C, 1, 0x4, 1, 0x4, 0x0, 0x0, 0x0, 0x0, false⟩,  -- GM_ID_HI
  ⟨0x60, 1, 0x4, 1, 0x4, 0x0, 0x0, 0x0, 0x0, false⟩]  -- SYNC_RX

/-- R509: registers of the NW page. -/
def nwRows : List RegRow := [
  ⟨0x40, 1, 0x4, 1, 0x4, 0x0, 0x0, 0x0, 0x0, false⟩,  -- STATUS
  ⟨0x44, 1, 0x4, 1, 0x4, 0x0, 0x0, 0x0, 0x0, false⟩,  -- TRIP_ACTIVE
  ⟨0x48, 1, 0x4, 1, 0x4, 0x0, 0x0, 0x0, 0x0, false⟩,  -- TRIP_LATCHED
  ⟨0x4C, 1, 0x4, 1, 0x4, 0x0, 0x0, 0x0, 0x0, false⟩,  -- RESET_STATUS
  ⟨0x50, 1, 0x4, 1, 0x4, 0x0, 0x0, 0xFFFFFFFF, 0x0, false⟩,  -- UNLOCK
  ⟨0x54, 1, 0x4, 1, 0x4, 0x0, 0x0, 0x3, 0x0, false⟩,  -- CMD
  ⟨0x58, 1, 0x4, 1, 0x4, 0x0, 0x0, 0xFFFFFFFF, 0x0, false⟩,  -- SEAL
  ⟨0x5C, 1, 0x4, 1, 0x4, 0x0, 0x0, 0x0, 0x0, false⟩,  -- CFG_CRC
  ⟨0x60, 1, 0x4, 1, 0x4, 0xFF0B, 0x0, 0x0, 0xA03, false⟩,  -- CFG
  ⟨0x64, 1, 0x4, 1, 0x4, 0x0, 0x0, 0xFFFFFFFF, 0x0, false⟩,  -- WATCHDOG
  ⟨0x68, 1, 0x4, 1, 0x4, 0xFFFF03FF, 0x0, 0x0, 0x3E8012C, false⟩,  -- TP_CFG
  ⟨0x6C, 1, 0x4, 1, 0x4, 0xFFF, 0x0, 0x0, 0x14, false⟩,  -- FB_CFG
  ⟨0x70, 1, 0x4, 1, 0x4, 0x0, 0x0, 0x0, 0x0, false⟩,  -- PERMIT_STATUS
  ⟨0x74, 1, 0x4, 1, 0x4, 0xFFFFFFFF, 0x0, 0x0, 0x0, false⟩,  -- ECLIPSE_REL0
  ⟨0x78, 1, 0x4, 1, 0x4, 0xFFFF, 0x0, 0x0, 0x0, false⟩,  -- ECLIPSE_REL1
  ⟨0x7C, 1, 0x4, 1, 0x4, 0x0, 0x0, 0x0, 0x0, false⟩,  -- OSC_CHECK
  ⟨0x80, 8, 0x4, 1, 0x4, 0xE1FFFF00, 0x0, 0x0, 0x640A00, false⟩,  -- IN_CFG
  ⟨0xA0, 8, 0x4, 1, 0x4, 0x0, 0x0, 0x0, 0x0, false⟩,  -- IN_STATUS
  ⟨0xC0, 3, 0x4, 1, 0x4, 0xFF1F, 0x0, 0x0, 0xFF00, false⟩,  -- WIN_CFG
  ⟨0xCC, 1, 0x4, 1, 0x4, 0xFFFF, 0x0, 0x0, 0x100, false⟩,  -- LEDGER_CFG
  ⟨0xD0, 1, 0x4, 1, 0x4, 0x3F7F03, 0x0, 0x0, 0x0, false⟩,  -- LEDGER_SEL
  ⟨0xD4, 1, 0x4, 1, 0x4, 0x0, 0x0, 0x0, 0x0, false⟩,  -- LEDGER_SUM
  ⟨0xD8, 1, 0x4, 1, 0x4, 0x0, 0x0, 0x0, 0x0, false⟩,  -- LEDGER_CEIL
  ⟨0xDC, 1, 0x4, 1, 0x4, 0x0, 0x0, 0x0, 0x0, false⟩,  -- LEDGER_RESERVE
  ⟨0xE0, 1, 0x4, 1, 0x4, 0x0, 0x0, 0x0, 0x18000000, false⟩,  -- LEDGER_STATUS
  ⟨0xE4, 1, 0x4, 1, 0x4, 0x0, 0x0, 0x0, 0x0, false⟩,  -- TRIPS
  ⟨0xE8, 1, 0x4, 1, 0x4, 0x0, 0x0, 0x0, 0x0, false⟩,  -- RESETS_REJECTED
  ⟨0xEC, 1, 0x4, 1, 0x4, 0x0, 0x0, 0x0, 0x0, false⟩,  -- DISC_AMBIG
  ⟨0xF0, 1, 0x4, 1, 0x4, 0x0, 0x0, 0x0, 0x0, false⟩,  -- ECLIPSES
  ⟨0xF4, 1, 0x4, 1, 0x4, 0x0, 0x0, 0x0, 0x0, false⟩,  -- TESTS
  ⟨0xF8, 1, 0x4, 1, 0x4, 0x0, 0x0, 0x0, 0x0, false⟩,  -- TESTS_ABANDONED
  ⟨0x100, 48, 0x4, 1, 0x4, 0xFFFF, 0x0, 0x0, 0xFFFF, false⟩,  -- ECOEF
  ⟨0x200, 48, 0x10, 3, 0x4, 0xFFFFFFFF, 0x0, 0x0, 0x0, false⟩,  -- CEIL
  ⟨0x500, 32, 0x4, 1, 0x4, 0xFFFFFFFF, 0x0, 0x0, 0x80808080, false⟩]  -- SECTOR_SCALE

/-- R534, R535, R536: registers of the MON page. -/
def monRows : List RegRow := [
  ⟨0x40, 1, 0x4, 1, 0x4, 0x1B, 0x0, 0x4, 0x10, false⟩,  -- CTRL
  ⟨0x44, 1, 0x4, 1, 0x4, 0x0, 0x0, 0x0, 0x0, false⟩,  -- STATUS
  ⟨0x48, 1, 0x4, 1, 0x4, 0x3F, 0x0, 0x0, 0x0, false⟩,  -- SEQ_LEN
  ⟨0x4C, 1, 0x4, 1, 0x4, 0xFFFF00FF, 0x0, 0x0, 0x64000A, false⟩,  -- IMP_CFG
  ⟨0x54, 1, 0x4, 1, 0x4, 0x0, 0x0, 0x0, 0x0, false⟩,  -- SYNC_COUNTS
  ⟨0x58, 1, 0x4, 1, 0x4, 0x0, 0x0, 0x0, 0x0, false⟩,  -- SYNC_LAST
  ⟨0x5C, 1, 0x4, 1, 0x4, 0x0, 0x0, 0x0, 0x0, false⟩,  -- NOTCH_STATUS
  ⟨0x60, 4, 0x8, 1, 0x4, 0x3FFFFF, 0x0, 0x0, 0x0, false⟩,  -- NOTCH_F
  ⟨0x64, 4, 0x8, 1, 0x4, 0xFFFF, 0x0, 0x0, 0x1, false⟩,  -- NOTCH_BW
  ⟨0x80, 32, 0x4, 1, 0x4, 0x1F0000FF, 0x0, 0x0, 0x1, false⟩,  -- SEQ
  ⟨0x100, 24, 0x10, 1, 0x4, 0x8FFFDF1F, 0x0, 0x0, 0x8100, false⟩,  -- CH_CFG
  ⟨0x104, 24, 0x10, 1, 0x4, 0xB000007F, 0x0, 0x0, 0x1, false⟩,  -- CH_EXC
  ⟨0x108, 24, 0x10, 1, 0x4, 0x3FFFFFFF, 0x0, 0x0, 0x0, false⟩,  -- CH_AUX
  ⟨0x10C, 24, 0x10, 1, 0x4, 0xFFFFFF, 0x0, 0x0, 0x186A0, false⟩,  -- CH_ZLIM
  ⟨0x300, 24, 0x10, 1, 0x4, 0x0, 0x0, 0x0, 0x0, false⟩,  -- CH_RAW
  ⟨0x304, 24, 0x10, 1, 0x4, 0x0, 0x0, 0x0, 0x0, false⟩,  -- CH_VALUE
  ⟨0x308, 24, 0x10, 1, 0x4, 0x0, 0x0, 0x0, 0x0, false⟩,  -- CH_TIME
  ⟨0x30C, 24, 0x10, 1, 0x4, 0x0, 0x0, 0x0, 0x0, false⟩,  -- CH_IMP
  ⟨0x500, 8, 0x10, 1, 0x4, 0xFFFFFFFF, 0x0, 0x0, 0x461C4000, false⟩,  -- CURVE_P0
  ⟨0x504, 8, 0x10, 1, 0x4, 0xFFFFFFFF, 0x0, 0x0, 0x43951333, false⟩,  -- CURVE_P1
  ⟨0x508, 8, 0x10, 1, 0x4, 0xFFFFFFFF, 0x0, 0x0, 0x4556B000, false⟩,  -- CURVE_P2
  ⟨0x600, 1, 0x4, 1, 0x4, 0x373F, 0x0, 0x0, 0x100, false⟩,  -- COEF_ADDR
  ⟨0x604, 1, 0x4, 1, 0x4, 0xFFFFFF, 0x0, 0x0, 0x0, false⟩,  -- COEF_DATA
  ⟨0x610, 4, 0x4, 1, 0x4, 0x1FFFFFF, 0x0, 0x0, 0x0, false⟩]  -- SHIFT

/-- R235: registers of the SCAN page. -/
def scanRows : List RegRow := [
  ⟨0x40, 1, 0x4, 1, 0x4, 0x3307, 0x0, 0x8, 0x1000, false⟩,  -- CTRL
  ⟨0x44, 1, 0x4, 1, 0x4, 0x0, 0x0, 0x0, 0x0, false⟩,  -- STATUS
  ⟨0x48, 1, 0x4, 1, 0x4, 0x33FFF, 0x0, 0x0, 0x1000, true⟩,  -- FRAME_CFG
  ⟨0x4C, 1, 0x4, 1, 0x4, 0xFFFFFFFF, 0x0, 0x0, 0x9C40, true⟩,  -- FRAME_PERIOD
  ⟨0x50, 1, 0x4, 1, 0x4, 0xFFFFFFFF, 0x0, 0x0, 0x8CA0, true⟩,  -- FRAME_ACTIVE
  ⟨0x54, 1, 0x4, 1, 0x4, 0xFFFFFFFF, 0x0, 0x0, 0x0, true⟩,  -- FRAME_ANCHOR_LO
  ⟨0x58, 1, 0x4, 1, 0x4, 0xFFFFFFFF, 0x0, 0x0, 0x0, true⟩,  -- FRAME_ANCHOR_HI
  ⟨0x5C, 1, 0x4, 1, 0x4, 0xFFFFFFFF, 0x0, 0x0, 0x320000, true⟩,  -- SYNC_CFG
  ⟨0x60, 1, 0x4, 1, 0x4, 0x13FFF, 0x0, 0x0, 0x10040, true⟩,  -- FAST_CFG
  ⟨0x64, 1, 0x4, 1, 0x4, 0xFFFFFFFF, 0x0, 0x0, 0x657D9A83, true⟩,  -- FAST_ACTIVE
  ⟨0x68, 1, 0x4, 1, 0x4, 0xFFFFFFFF, 0x0, 0x0, 0x40007530, false⟩,  -- FAST_TARGET
  ⟨0x6C, 1, 0x4, 1, 0x4, 0xFFFFFFFF, 0x0, 0x0, 0xB6012C, false⟩,  -- FAST_TOL
  ⟨0x70, 1, 0x4, 1, 0x4, 0xFFFFFFFF, 0x0, 0x0, 0x1000040, false⟩,  -- FAST_GAIN
  ⟨0x74, 1, 0x4, 1, 0x4, 0xFFFFFFFF, 0x0, 0x0, 0x7D001F4, false⟩,  -- FAST_FREQ_LIM
  ⟨0x78, 1, 0x4, 1, 0x4, 0x0, 0x0, 0x0, 0x0, false⟩,  -- FAST_MEAS
  ⟨0x7C, 1, 0x4, 1, 0x4, 0x0, 0x0, 0x0, 0x0, false⟩,  -- FAST_AMP
  ⟨0x80, 1, 0x4, 1, 0x4, 0xFFFFFFFF, 0x0, 0x0, 0x61000, false⟩,  -- POLY_CFG
  ⟨0x84, 1, 0x4, 1, 0x4, 0xFFFFFFFF, 0x0, 0x0, 0x0, false⟩,  -- POLY_TARGET
  ⟨0x88, 1, 0x4, 1, 0x4, 0xFFFFFFFF, 0x0, 0x0, 0xC807D0, false⟩,  -- START_CFG
  ⟨0x8C, 1, 0x4, 1, 0x4, 0xFFFFFFFF, 0x0, 0x0, 0x4E20B1E0, true⟩,  -- SLOW_RANGE
  ⟨0x90, 1, 0x4, 1, 0x4, 0xFFFFFFFF, 0x0, 0x0, 0x111700, true⟩,  -- SLOW_VSCAN
  ⟨0x94, 1, 0x4, 1, 0x4, 0xFFFFFFFF, 0x0, 0x0, 0x1C9C380, true⟩,  -- SLOW_VMAX
  ⟨0x98, 1, 0x4, 1, 0x4, 0xFFFFFFFF, 0x0, 0x0, 0x1312D00, true⟩,  -- SLOW_AMAX
  ⟨0x9C, 1, 0x4, 1, 0x4, 0xFFFFFFFF, 0x0, 0x0, 0x5F5E100, true⟩,  -- SLOW_JMAX
  ⟨0xA0, 1, 0x4, 1, 0x4, 0xFFFFFFFF, 0x0, 0x0, 0x0, true⟩,  -- SLOW_HOLD
  ⟨0xA4, 1, 0x4, 1, 0x4, 0xFFFFFFFF, 0x0, 0x0, 0x2000010, false⟩,  -- SLOW_GAIN0
  ⟨0xA8, 1, 0x4, 1, 0x4, 0xFFFFFFFF, 0x0, 0x0, 0x4000000, false⟩,  -- SLOW_GAIN1
  ⟨0xAC, 1, 0x4, 1, 0x4, 0xFFFF, 0x0, 0x0, 0x0, false⟩,  -- SLOW_BIAS
  ⟨0xB0, 1, 0x4, 1, 0x4, 0x0, 0x0, 0x0, 0x0, false⟩,  -- SLOW_TIMES
  ⟨0xB4, 1, 0x4, 1, 0x4, 0xFFFFFFFF, 0x0, 0x0, 0x10000000, false⟩,  -- SENSE_FAST
  ⟨0xB8, 1, 0x4, 1, 0x4, 0xFFFFFFFF, 0x0, 0x0, 0x10000000, false⟩,  -- SENSE_SLOW
  ⟨0xBC, 1, 0x4, 1, 0x4, 0xFFFF, 0x0, 0x0, 0x0, false⟩,  -- SENSE_DELAY
  ⟨0xC0, 1, 0x4, 1, 0x4, 0xFFFFFFFF, 0x0, 0x0, 0x3E807D0, false⟩,  -- PLAUS_TOL
  ⟨0xC4, 1, 0x4, 1, 0x4, 0xFFFF000F, 0x0, 0x0, 0x640004, false⟩,  -- PLAUS_CNT
  ⟨0xC8, 1, 0x4, 1, 0x4, 0x0, 0x0, 0x0, 0x0, false⟩,  -- ENC_STATUS
  ⟨0xD0, 4, 0x4, 1, 0x4, 0x9FFF1FFF, 0x0, 0x0, 0x0, true⟩,  -- SUPPRESS
  ⟨0xE0, 4, 0x4, 1, 0x4, 0xE000FFFF, 0x0, 0x0, 0x0, false⟩,  -- DAC_CFG
  ⟨0xF0, 4, 0x4, 1, 0x4, 0xFFFF, 0x0, 0x0, 0x0, false⟩,  -- DAC_SAFE
  ⟨0x100, 1, 0x4, 1, 0x4, 0x0, 0x0, 0x0, 0x0, false⟩,  -- FRAME_NUM
  ⟨0x104, 1, 0x4, 1, 0x4, 0x0, 0x0, 0x0, 0x0, false⟩,  -- LAST_FRAME
  ⟨0x108, 1, 0x4, 1, 0x4, 0x0, 0x0, 0x0, 0x0, false⟩,  -- FRAME_COUNTS
  ⟨0x10C, 1, 0x4, 1, 0x4, 0x0, 0x0, 0x0, 0x0, false⟩]  -- SYNC_COUNTS

/-- R201, R202, R203: registers of the EMIT page. -/
def emitRows : List RegRow := [
  ⟨0x40, 1, 0x4, 1, 0x4, 0x7, 0x0, 0x0, 0x6, false⟩,  -- CTRL
  ⟨0x44, 1, 0x4, 1, 0x4, 0xFFFFFFFF, 0x0, 0x0, 0xC803E8, true⟩,  -- COLUMN_TIMING
  ⟨0x48, 1, 0x4, 1, 0x4, 0x1FFFFF, 0x0, 0x0, 0x64, false⟩,  -- DIAG_CFG
  ⟨0x4C, 1, 0x4, 1, 0x4, 0xFFFF00FF, 0x0, 0x0, 0x2000020, false⟩,  -- DWELL_CFG
  ⟨0x50, 1, 0x4, 1, 0x4, 0x3, 0x0, 0x0, 0x0, true⟩,  -- STARLINE_CFG
  ⟨0x54, 1, 0x4, 1, 0x4, 0x1F1F1F1F, 0x0, 0x0, 0x0, true⟩,  -- STARLINE_LEN
  ⟨0x58, 1, 0x4, 1, 0x4, 0x0, 0x0, 0x0, 0x0, false⟩,  -- STARLINE_STATUS
  ⟨0x5C, 1, 0x4, 1, 0x4, 0xFFFFFFFF, 0x0, 0x0, 0xFFFFFFFF, true⟩,  -- TEMP_SRC
  ⟨0x60, 4, 0x4, 1, 0x4, 0xFFFFFFFF, 0x0, 0x0, 0x352041A, true⟩,  -- GROUP_DERATE
  ⟨0x70, 4, 0x4, 1, 0x4, 0x0, 0x0, 0x0, 0x0, false⟩,  -- GROUP_TEMP
  ⟨0x80, 1, 0x4, 1, 0x4, 0x0, 0x0, 0xFFFFFFFF, 0x0, false⟩,  -- PORT_CLEAR0
  ⟨0x84, 1, 0x4, 1, 0x4, 0x0, 0x0, 0xFFFF, 0x0, false⟩,  -- PORT_CLEAR1
  ⟨0x100, 48, 0x10, 1, 0x4, 0xFF1F01FF, 0x0, 0x0, 0x8, true⟩,  -- PORT_CFG
  ⟨0x104, 48, 0x10, 1, 0x4, 0xFFF0FFF, 0x0, 0x0, 0x0, true⟩,  -- PORT_CODE
  ⟨0x108, 48, 0x10, 1, 0x4, 0x7FFFFF, 0x0, 0x0, 0x0, true⟩,  -- PORT_CURRENT
  ⟨0x10C, 48, 0x10, 1, 0x4, 0x0, 0x0, 0x0, 0x0, false⟩,  -- PORT_STATUS
  ⟨0x400, 48, 0x20, 1, 0x4, 0x0, 0x0, 0x0, 0x0, false⟩,  -- FIRED
  ⟨0x404, 48, 0x20, 1, 0x4, 0x0, 0x0, 0x0, 0x0, false⟩,  -- PROOF
  ⟨0x408, 48, 0x20, 1, 0x4, 0x0, 0x0, 0x0, 0x0, false⟩,  -- SKIPPED
  ⟨0x40C, 48, 0x20, 1, 0x4, 0x0, 0x0, 0x0, 0x0, false⟩,  -- INHIBITED
  ⟨0x410, 48, 0x20, 1, 0x4, 0x0, 0x0, 0x0, 0xFFFF, false⟩,  -- HALO_AGE
  ⟨0x414, 48, 0x20, 1, 0x4, 0x0, 0x0, 0x0, 0x0, false⟩,  -- DWELL
  ⟨0xC00, 4, 0x40, 16, 0x4, 0xFFFFFFFF, 0x0, 0x0, 0xFA8000, true⟩]  -- COMP_TAB (R204)

/-- R205: registers of the CODE page. -/
def codeRows : List RegRow := [
  ⟨0x40, 1, 0x4, 1, 0x4, 0x701F0000, 0x0, 0x0, 0x30040000, true⟩,  -- CODE_CFG
  ⟨0x44, 1, 0x4, 1, 0x4, 0xFFFFFFFF, 0x0, 0x0, 0x0, true⟩,  -- SEED
  ⟨0x48, 1, 0x4, 1, 0x4, 0x0, 0x0, 0x0, 0x47, false⟩,  -- CODE_STATUS
  ⟨0x4C, 1, 0x4, 1, 0x4, 0xFFF, 0x0, 0x0, 0x0, false⟩,  -- CODE_SEL
  ⟨0x50, 1, 0x4, 1, 0x4, 0x0, 0x0, 0x0, 0x0, false⟩,  -- CODE_READ0
  ⟨0x54, 1, 0x4, 1, 0x4, 0x0, 0x0, 0x0, 0x0, false⟩,  -- CODE_READ1
  ⟨0x58, 1, 0x4, 1, 0x4, 0x0, 0x0, 0x0, 0x0, false⟩,  -- CODE_READ2
  ⟨0x80, 8, 0x4, 1, 0x4, 0x87FF3F3F, 0x0, 0x0, 0x0, true⟩]  -- XL

/-- R159, R160: registers of the CAL page. -/
def calRows : List RegRow := [
  ⟨0x40, 1, 0x4, 1, 0x4, 0x7, 0x0, 0x8, 0x7, false⟩,  -- CTRL
  ⟨0x44, 1, 0x4, 1, 0x4, 0xFFFF00FF, 0x0, 0x0, 0x320010, false⟩,  -- TDC_ACCEPT
  ⟨0x48, 1, 0x4, 1, 0x4, 0x1F, 0x0, 0x0, 0x14, false⟩,  -- TDC_RUN
  ⟨0x4C, 1, 0x4, 1, 0x4, 0xFFFFFFFF, 0x0, 0x0, 0x2580032, false⟩,  -- AUTO_CFG
  ⟨0x50, 1, 0x4, 1, 0x4, 0xFFFFFF00, 0x0, 0x0, 0x50A1000, false⟩,  -- WAVE_ACCEPT
  ⟨0x54, 1, 0x4, 1, 0x4, 0xFFFFFFFF, 0x0, 0x0, 0x10400100, false⟩,  -- RZ_CFG
  ⟨0x58, 1, 0x4, 1, 0x4, 0x0, 0x0, 0x0, 0x0, false⟩,  -- EPOCH
  ⟨0x5C, 1, 0x4, 1, 0x4, 0x0, 0x0, 0x0, 0x0, false⟩,  -- BLEND_STATUS
  ⟨0x60, 1, 0x4, 1, 0x4, 0x3F1F, 0x0, 0x0, 0x0, false⟩,  -- CONV_SEL
  ⟨0x64, 1, 0x4, 1, 0x4, 0x0, 0x0, 0x0, 0x0, false⟩,  -- CONV_STATUS
  ⟨0x68, 1, 0x4, 1, 0x4, 0x0, 0x0, 0x0, 0x0, false⟩,  -- CONV_QUALITY
  ⟨0x6C, 1, 0x4, 1, 0x4, 0x0, 0x0, 0x0, 0x0, false⟩,  -- CONV_DRIFT
  ⟨0x70, 1, 0x4, 1, 0x4, 0x0, 0x0, 0x0, 0x0, false⟩,  -- CONV_LAST_DIFF
  ⟨0x200, 48, 0x4, 1, 0x4, 0xFFFFFFFF, 0x0, 0x0, 0x180, true⟩,  -- HALO_WIN
  ⟨0x300, 48, 0x4, 1, 0x4, 0xE000FFFF, 0x0, 0x0, 0x0, false⟩,  -- HALO_REF
  ⟨0x400, 48, 0x4, 1, 0x4, 0x0, 0x0, 0x0, 0x0, false⟩,  -- RZ
  ⟨0x500, 48, 0x4, 1, 0x4, 0x0, 0x0, 0x0, 0x0, false⟩]  -- RZ_EST

/-- R367: registers of the SKY page. -/
def skyRows : List RegRow := [
  ⟨0x40, 1, 0x4, 1, 0x4, 0x7, 0x0, 0x0, 0x2, false⟩,  -- CTRL
  ⟨0x44, 1, 0x4, 1, 0x4, 0x0, 0x0, 0x1, 0x0, false⟩,  -- EXPO_COMMIT
  ⟨0x48, 1, 0x4, 1, 0x4, 0x0, 0x0, 0x0, 0x0, false⟩,  -- GEN
  ⟨0x4C, 1, 0x4, 1, 0x4, 0xFFFFFFFF, 0x0, 0x0, 0x6401F4, true⟩,  -- LISTEN_SHORT
  ⟨0x50, 1, 0x4, 1, 0x4, 0xFFFFFFFF, 0x0, 0x0, 0x641770, true⟩,  -- LISTEN_LONG
  ⟨0x54, 1, 0x4, 1, 0x4, 0x3FF, 0x0, 0x0, 0x300, true⟩,  -- MERGE
  ⟨0x58, 1, 0x4, 1, 0x4, 0xFFFFFFFF, 0x0, 0x0, 0x2804002, false⟩,  -- AE_CFG
  ⟨0x5C, 1, 0x4, 1, 0x4, 0x3FF03FF, 0x0, 0x0, 0x1900014, false⟩,  -- AE_LIMITS
  ⟨0x60, 1, 0x4, 1, 0x4, 0x0, 0x0, 0x0, 0x0, false⟩,  -- STATS_FRAME
  ⟨0x64, 1, 0x4, 1, 0x4, 0x0, 0x0, 0x0, 0x0, false⟩,  -- STATS_GEN
  ⟨0x68, 1, 0x4, 1, 0x4, 0x0, 0x0, 0x0, 0x0, false⟩,  -- STATS_STATUS
  ⟨0x6C, 1, 0x4, 1, 0x4, 0x0, 0x0, 0x0, 0x0, false⟩,  -- AMB_NO_CHUNK
  ⟨0x70, 1, 0x4, 1, 0x4, 0x0, 0x0, 0x0, 0x0, false⟩,  -- SKY_LATE
  ⟨0x74, 1, 0x4, 1, 0x4, 0x0, 0x0, 0x0, 0x0, false⟩,  -- AE_SKIPPED
  ⟨0x100, 21, 0x4, 1, 0x4, 0xFFF, 0x0, 0x0, 0x0, true⟩,  -- TONE
  ⟨0x200, 48, 0x20, 8, 0x4, 0xFFFFFFFF, 0x0, 0x0, 0x0, true⟩,  -- PILEUP
  ⟨0x800, 128, 0x4, 1, 0x4, 0x0, 0x0, 0x0, 0x0, false⟩,  -- ZONE_AVG
  ⟨0xA00, 4, 0x100, 64, 0x4, 0x0, 0x0, 0x0, 0x0, false⟩]  -- REGION_HIST

/-- R403: registers of the STREAM page. -/
def streamRows : List RegRow := [
  ⟨0x40, 1, 0x4, 1, 0x4, 0xF3, 0x0, 0x0, 0x0, false⟩,  -- CTRL
  ⟨0x44, 1, 0x4, 1, 0x4, 0x0, 0x0, 0x0, 0x0, false⟩,  -- STATUS
  ⟨0x48, 1, 0x4, 1, 0x4, 0x0, 0xFFFFFFFF, 0x0, 0x0, false⟩,  -- SEQ_NEXT
  ⟨0x4C, 1, 0x4, 1, 0x4, 0xFF, 0x0, 0x0, 0x32, false⟩,  -- FLUSH
  ⟨0x50, 1, 0x4, 1, 0x4, 0xFFFFF000, 0x0, 0x0, 0x0, false⟩,  -- RING_BASE_LO
  ⟨0x54, 1, 0x4, 1, 0x4, 0xFFFFFFFF, 0x0, 0x0, 0x0, false⟩,  -- RING_BASE_HI
  ⟨0x58, 1, 0x4, 1, 0x4, 0x1F, 0x0, 0x0, 0x14, false⟩,  -- RING_SIZE
  ⟨0x5C, 1, 0x4, 1, 0x4, 0x0, 0x0, 0x0, 0x0, false⟩,  -- RING_WPTR
  ⟨0x60, 1, 0x4, 1, 0x4, 0xFFFFFFFF, 0x0, 0x0, 0x0, false⟩,  -- RING_RPTR
  ⟨0x64, 1, 0x4, 1, 0x4, 0xFFFFFFFC, 0x0, 0x0, 0x0, false⟩,  -- WB_ADDR_LO
  ⟨0x68, 1, 0x4, 1, 0x4, 0xFFFFFFFF, 0x0, 0x0, 0x0, false⟩,  -- WB_ADDR_HI
  ⟨0x6C, 1, 0x4, 1, 0x4, 0xFFFFFFFF, 0x0, 0x0, 0x640040, false⟩,  -- COALESCE
  ⟨0x70, 1, 0x4, 1, 0x4, 0xFFFFFFFF, 0x0, 0x0, 0x1405A0, false⟩,  -- UDP_CFG
  ⟨0x74, 1, 0x4, 1, 0x4, 0x0, 0x0, 0xFFFF, 0x0, false⟩,  -- FENCE
  ⟨0x78, 1, 0x4, 1, 0x4, 0x0, 0x0, 0x0, 0x0, false⟩,  -- FENCE_DONE
  ⟨0x7C, 1, 0x4, 1, 0x4, 0x0, 0x0, 0x0, 0x0, false⟩,  -- PACKETS
  ⟨0x80, 1, 0x4, 1, 0x4, 0x0, 0x0, 0x0, 0x0, false⟩,  -- BLOCKS
  ⟨0x84, 1, 0x4, 1, 0x4, 0x0, 0x0, 0x0, 0x0, false⟩,  -- DISCARDED
  ⟨0x88, 1, 0x4, 1, 0x4, 0x0, 0x0, 0x0, 0x0, false⟩,  -- DISCARD_LAST
  ⟨0x8C, 1, 0x4, 1, 0x4, 0x0, 0x0, 0x0, 0x0, false⟩,  -- LATE_RECORDS
  ⟨0x90, 1, 0x4, 1, 0x4, 0x0, 0x0, 0x0, 0x0, false⟩,  -- FRAMES_SIGNED
  ⟨0x94, 1, 0x4, 1, 0x4, 0x0, 0x0, 0x0, 0x0, false⟩,  -- LAST_CLOSED
  ⟨0x98, 1, 0x4, 1, 0x4, 0x0, 0x0, 0x0, 0x0, false⟩,  -- EXPORT_CONSUMED
  ⟨0x9C, 1, 0x4, 1, 0x4, 0x0, 0x0, 0x0, 0x0, false⟩,  -- EXPORT_PRODUCED
  ⟨0xA0, 1, 0x4, 1, 0x4, 0x0, 0x0, 0x0, 0x0, false⟩,  -- KEY_ID
  ⟨0xA4, 1, 0x4, 1, 0x4, 0x0, 0x0, 0x0, 0x0, false⟩,  -- FORWARDED
  ⟨0xA8, 1, 0x4, 1, 0x4, 0x0, 0x0, 0x0, 0x0, false⟩]  -- FORWARD_DISCARDED

/-- R404: registers of the COMP page. -/
def compRows : List RegRow := [
  ⟨0x40, 1, 0x4, 1, 0x4, 0x1, 0x0, 0x0, 0x1, false⟩,  -- CTRL
  ⟨0x44, 1, 0x4, 1, 0x4, 0x0, 0x0, 0x0, 0x0, false⟩,  -- CODED
  ⟨0x48, 1, 0x4, 1, 0x4, 0x0, 0x0, 0x0, 0x0, false⟩,  -- RAW_FIT
  ⟨0x4C, 1, 0x4, 1, 0x4, 0x0, 0x0, 0x0, 0x0, false⟩,  -- VERIFY_FAIL
  ⟨0x50, 1, 0x4, 1, 0x4, 0x0, 0x0, 0x0, 0x0, false⟩]  -- LAST_BITS

/-- R434: registers of the HOST page. -/
def hostRows : List RegRow := [
  ⟨0x40, 1, 0x4, 1, 0x4, 0x0, 0x0, 0x0, 0x0, false⟩,  -- LINK_STATUS
  ⟨0x44, 1, 0x4, 1, 0x4, 0x17, 0x0, 0x8, 0x4, false⟩,  -- LINK_CTRL
  ⟨0x48, 1, 0x4, 1, 0x4, 0x0, 0x0, 0x0, 0x0, false⟩,  -- LINK_DOWNS
  ⟨0x4C, 1, 0x4, 1, 0x4, 0x0, 0x0, 0x0, 0x0, false⟩,  -- AER_CE
  ⟨0x50, 1, 0x4, 1, 0x4, 0x0, 0x0, 0x0, 0x0, false⟩]  -- AER_UCE

/-- R435: registers of the NET page. -/
def netRows : List RegRow := [
  ⟨0x40, 1, 0x4, 1, 0x4, 0xF9, 0x0, 0x0, 0x0, false⟩,  -- CTRL
  ⟨0x44, 1, 0x4, 1, 0x4, 0x0, 0x0, 0x0, 0x0, false⟩,  -- STATUS
  ⟨0x48, 1, 0x4, 1, 0x4, 0xFFFFFFFF, 0x0, 0x0, 0x0, false⟩,  -- MAC_LO
  ⟨0x4C, 1, 0x4, 1, 0x4, 0xFFFF, 0x0, 0x0, 0x0, false⟩,  -- MAC_HI
  ⟨0x50, 1, 0x4, 1, 0x4, 0xFFFFFFFF, 0x0, 0x0, 0x0, false⟩,  -- DEST_MAC_LO
  ⟨0x54, 1, 0x4, 1, 0x4, 0xFFFF, 0x0, 0x0, 0x0, false⟩,  -- DEST_MAC_HI
  ⟨0x58, 1, 0x4, 1, 0x4, 0xEFFF, 0x0, 0x0, 0x0, false⟩,  -- VLAN
  ⟨0x5C, 1, 0x4, 1, 0x4, 0xFFFFFFFF, 0x0, 0x0, 0x48964896, false⟩,  -- UDP_PORTS
  ⟨0x60, 1, 0x4, 1, 0x4, 0xFFFFFFFF, 0x0, 0x0, 0x48984897, false⟩,  -- RA_PORT
  ⟨0x64, 1, 0x4, 1, 0x4, 0xF, 0x0, 0x0, 0x0, false⟩,  -- RA_SRC_EN
  ⟨0x70, 4, 0x4, 1, 0x4, 0xFFFFFFFF, 0x0, 0x0, 0x0, false⟩,  -- OWN_IP
  ⟨0x80, 4, 0x4, 1, 0x4, 0xFFFFFFFF, 0x0, 0x0, 0x0, false⟩,  -- DEST_IP
  ⟨0x90, 4, 0x10, 4, 0x4, 0xFFFFFFFF, 0x0, 0x0, 0x0, false⟩,  -- RA_SRC
  ⟨0xD0, 1, 0x4, 1, 0x4, 0x0, 0x0, 0x0, 0x0, false⟩,  -- TX_FRAMES
  ⟨0xD4, 1, 0x4, 1, 0x4, 0x0, 0x0, 0x0, 0x0, false⟩,  -- RX_FRAMES
  ⟨0xD8, 1, 0x4, 1, 0x4, 0x0, 0x0, 0x0, 0x0, false⟩,  -- RX_FCS_ERR
  ⟨0xDC, 1, 0x4, 1, 0x4, 0x0, 0x0, 0x0, 0x0, false⟩,  -- RX_DROPPED
  ⟨0xE0, 1, 0x4, 1, 0x4, 0x0, 0x0, 0x0, 0x0, false⟩]  -- RA_REJECTED

/-- R585: registers of the SEC page. -/
def secRows : List RegRow := [
  ⟨0x40, 1, 0x4, 1, 0x4, 0x0, 0x0, 0x0, 0x0, false⟩,  -- STATUS
  ⟨0x44, 1, 0x4, 1, 0x4, 0x0, 0x0, 0x3, 0x0, false⟩,  -- CTRL
  ⟨0x48, 1, 0x4, 1, 0x4, 0x0, 0x0, 0x0, 0x0, false⟩,  -- ROLLBACK
  ⟨0x4C, 1, 0x4, 1, 0x4, 0x0, 0x0, 0x37F, 0x0, false⟩,  -- ROLLBACK_ADV
  ⟨0x50, 1, 0x4, 1, 0x4, 0x0, 0x0, 0x0, 0x0, false⟩,  -- BOOT_COUNT
  ⟨0x54, 1, 0x4, 1, 0x4, 0x0, 0x0, 0x0, 0x0, false⟩,  -- FK_ID
  ⟨0x58, 1, 0x4, 1, 0x4, 0xF0000FFF, 0x0, 0x0, 0x0, false⟩,  -- WIN_SEL
  ⟨0x5C, 1, 0x4, 1, 0x4, 0x0, 0x0, 0x0, 0x0, false⟩,  -- WIN_DATA
  ⟨0x60, 8, 0x4, 1, 0x4, 0xFFFFFFFF, 0x0, 0x0, 0x0, false⟩]  -- NONCE

/-- R586: registers of the ALM page. -/
def almRows : List RegRow := [
  ⟨0x40, 1, 0x4, 1, 0x4, 0x0, 0x0, 0x1, 0x0, false⟩,  -- CTRL
  ⟨0x44, 1, 0x4, 1, 0x4, 0x0, 0x0, 0x0, 0x0, false⟩,  -- STATUS
  ⟨0x48, 1, 0x4, 1, 0x4, 0x0, 0x0, 0x0, 0x0, false⟩,  -- NEXT_SEQ
  ⟨0x4C, 1, 0x4, 1, 0x4, 0x0, 0x0, 0x0, 0x0, false⟩,  -- FLUSHED_SEQ
  ⟨0x50, 1, 0x4, 1, 0x4, 0x0, 0x0, 0x0, 0x0, false⟩,  -- OLDEST_SEQ
  ⟨0x54, 1, 0x4, 1, 0x4, 0x0, 0x0, 0x0, 0x0, false⟩,  -- WRAPS
  ⟨0x58, 1, 0x4, 1, 0x4, 0x0, 0x0, 0x0, 0x0, false⟩,  -- LOST
  ⟨0x5C, 1, 0x4, 1, 0x4, 0xFFFFFFFF, 0x0, 0x0, 0x0, false⟩,  -- READ_SEQ
  ⟨0x60, 1, 0x4, 1, 0x4, 0x0, 0x0, 0x0, 0x0, false⟩,  -- FLUSHES
  ⟨0x80, 32, 0x4, 1, 0x4, 0x0, 0x0, 0x0, 0x0, false⟩]  -- WINDOW

/-- R596: registers of the RES page. -/
def resRows : List RegRow := [
  ⟨0x40, 1, 0x4, 1, 0x4, 0x3F, 0x0, 0x0, 0x3F, false⟩,  -- CTRL
  ⟨0x44, 1, 0x4, 1, 0x4, 0xFFFF, 0x0, 0x0, 0x203C, false⟩,  -- WEAR_CFG
  ⟨0x48, 1, 0x4, 1, 0x4, 0xFFFF, 0x0, 0x0, 0x12C, false⟩,  -- AGE_CFG
  ⟨0x4C, 1, 0x4, 1, 0x4, 0xFFFF, 0x0, 0x0, 0x18, false⟩,  -- BIST_CFG
  ⟨0x50, 1, 0x4, 1, 0x4, 0x0, 0x0, 0x0, 0x0, false⟩,  -- REMAIN
  ⟨0x54, 1, 0x4, 1, 0x4, 0x0, 0x0, 0x0, 0x0, false⟩,  -- RESERVE_GEN
  ⟨0x58, 1, 0x4, 1, 0x4, 0x0, 0x0, 0x0, 0x0, false⟩,  -- LANE_SPARE
  ⟨0x5C, 1, 0x4, 1, 0x4, 0x0, 0x0, 0x0, 0x0, false⟩,  -- LANE_SPARE_B
  ⟨0x60, 32, 0x4, 1, 0x4, 0x0, 0x0, 0x0, 0x0, false⟩,  -- ENG_SWAP
  ⟨0xE0, 48, 0x4, 1, 0x4, 0x0, 0x0, 0x0, 0x0, false⟩,  -- BAY_SWAP
  ⟨0x1A0, 4, 0x4, 1, 0x4, 0x0, 0x0, 0x0, 0x0, false⟩,  -- BANK_SWAP
  ⟨0x1C0, 6, 0x4, 1, 0x4, 0x0, 0x0, 0x0, 0x0, false⟩]  -- AGE

/-- R587: registers of the FLASH page. -/
def flashRows : List RegRow := [
  ⟨0x40, 1, 0x4, 1, 0x4, 0x0, 0x0, 0x0, 0x0, false⟩,  -- INFO
  ⟨0x44, 1, 0x4, 1, 0x4, 0xFFFFFFFF, 0x0, 0x0, 0x0, false⟩,  -- ADDR
  ⟨0x48, 1, 0x4, 1, 0x4, 0x3, 0x0, 0x80000000, 0x3, false⟩,  -- CMD
  ⟨0x4C, 1, 0x4, 1, 0x4, 0x0, 0x0, 0x0, 0x0, false⟩,  -- STATUS
  ⟨0x100, 64, 0x4, 1, 0x4, 0xFFFFFFFF, 0x0, 0x0, 0x0, false⟩]  -- BUF

/-- R433: registers of the LANE page. -/
def laneRows : List RegRow := [
  ⟨0x40, 1, 0x4, 1, 0x4, 0xBE03, 0x0, 0x4100, 0x0, false⟩,  -- LANE_CTRL
  ⟨0x44, 1, 0x4, 1, 0x4, 0x0, 0x0, 0x0, 0x10000000, false⟩,  -- LINK_STATUS
  ⟨0x48, 1, 0x4, 1, 0x4, 0xFFFF0000, 0x0, 0x0, 0x7D00000, false⟩,  -- LINK_TIMING
  ⟨0x4C, 1, 0x4, 1, 0x4, 0xF03F0000, 0x0, 0x8000000, 0xC0000000, false⟩,  -- PRBS_CTRL
  ⟨0x50, 1, 0x4, 1, 0x4, 0x0, 0x0, 0x0, 0x0, false⟩,  -- PRBS_STATUS
  ⟨0x54, 1, 0x4, 1, 0x4, 0x0, 0x0, 0x0, 0x0, false⟩,  -- PRBS_ERRORS
  ⟨0x58, 1, 0x4, 1, 0x4, 0x0, 0x0, 0x0, 0x0, false⟩,  -- SYNC_HDR_ERR
  ⟨0x5C, 1, 0x4, 1, 0x4, 0x0, 0x0, 0x0, 0x0, false⟩,  -- ELASTIC
  ⟨0x60, 1, 0x4, 1, 0x4, 0x0, 0x0, 0x0, 0x0, false⟩,  -- FILL_COUNTS
  ⟨0x64, 1, 0x4, 1, 0x4, 0x0, 0x0, 0x0, 0x0, false⟩,  -- MARGIN
  ⟨0x68, 1, 0x4, 1, 0x4, 0xFF, 0x0, 0x0, 0x10, false⟩,  -- MARGIN_MIN
  ⟨0x6C, 1, 0x4, 1, 0x4, 0x0, 0x0, 0x0, 0x0, false⟩]  -- LOS_COUNT

/-- R281: registers of the QTR page. -/
def qtrRows : List RegRow := [
  ⟨0x40, 1, 0x4, 1, 0x4, 0x3FF, 0x0, 0x0, 0x14, false⟩,  -- DISPATCH_LIMIT
  ⟨0x44, 1, 0x4, 1, 0x4, 0x3F, 0x0, 0x0, 0x20, false⟩,  -- QUEUE_DEPTH
  ⟨0x48, 1, 0x4, 1, 0x4, 0x0, 0x0, 0x0, 0x7800FF, false⟩,  -- CLUSTERS
  ⟨0x4C, 1, 0x4, 1, 0x4, 0x0, 0x0, 0x0, 0x0, false⟩,  -- DISPATCHED
  ⟨0x50, 1, 0x4, 1, 0x4, 0x0, 0x0, 0x0, 0x0, false⟩,  -- LATE
  ⟨0x54, 1, 0x4, 1, 0x4, 0x0, 0x0, 0x0, 0x0, false⟩,  -- HELD
  ⟨0x60, 12, 0x4, 1, 0x4, 0x0, 0x0, 0x0, 0x0, false⟩]  -- BAYQ

/-- R280: registers of the POOL page. -/
def poolRows : List RegRow := [
  ⟨0x40, 1, 0x4, 1, 0x4, 0x3FFF, 0x0, 0x0, 0x7D0, false⟩,  -- WAIT_LIMIT
  ⟨0x44, 1, 0x4, 1, 0x4, 0x1FFF, 0x0, 0x0, 0x800, true⟩,  -- C_CAP
  ⟨0x48, 1, 0x4, 1, 0x4, 0x0, 0x0, 0x0, 0xD001000, false⟩,  -- FREE
  ⟨0x4C, 1, 0x4, 1, 0x4, 0x0, 0x0, 0x0, 0xD000300, false⟩,  -- SHARED
  ⟨0x50, 1, 0x4, 1, 0x4, 0x0, 0x0, 0x0, 0x0, false⟩,  -- WAITING
  ⟨0x54, 1, 0x4, 1, 0x4, 0xFFFFFFFF, 0x0, 0x0, 0x1003E8, false⟩,  -- ECC_CFG
  ⟨0x58, 1, 0x4, 1, 0x4, 0x0, 0x0, 0x0, 0x0, false⟩,  -- ECC_STATUS
  ⟨0x5C, 1, 0x4, 1, 0x4, 0x0, 0x0, 0x0, 0x0, false⟩,  -- LIST_FULL
  ⟨0x60, 3, 0x4, 1, 0x4, 0x0, 0x0, 0x0, 0x0, false⟩,  -- GRANTS
  ⟨0x70, 3, 0x4, 1, 0x4, 0x0, 0x0, 0x0, 0x0, false⟩,  -- REFUSED
  ⟨0x80, 12, 0x4, 1, 0x4, 0x1FFF, 0x0, 0x0, 0x40, true⟩,  -- FLOOR
  ⟨0x100, 33, 0x4, 1, 0x4, 0x0, 0x0, 0x0, 0x0, false⟩]  -- BANK_CE

/-- R309, R311, R321: registers of the CLU page. -/
def cluRows : List RegRow := [
  ⟨0x40, 1, 0x4, 1, 0x4, 0x5, 0x0, 0x8, 0x5, false⟩,  -- CTRL
  ⟨0x44, 1, 0x4, 1, 0x4, 0x0, 0x0, 0x0, 0x7FFF0000, false⟩,  -- ENG_MASKS
  ⟨0x48, 1, 0x4, 1, 0x4, 0x0, 0x0, 0x0, 0x0, false⟩,  -- ENG_BUSY
  ⟨0x4C, 1, 0x4, 1, 0x4, 0x0, 0x0, 0xFFFF, 0x0, false⟩,  -- ENG_RELEASE
  ⟨0x50, 1, 0x4, 1, 0x4, 0x3FFFF, 0x0, 0x0, 0xC350, false⟩,  -- CYCLE_LIMIT
  ⟨0x54, 1, 0x4, 1, 0x4, 0x0, 0x0, 0x0, 0x0, false⟩,  -- CYCLES_MAX
  ⟨0x58, 1, 0x4, 1, 0x4, 0x0, 0x0, 0x0, 0x0, false⟩,  -- CYCLES_AVG
  ⟨0x5C, 1, 0x4, 1, 0x4, 0x0, 0x0, 0x0, 0x0, false⟩,  -- DISPATCHES
  ⟨0x60, 1, 0x4, 1, 0x4, 0x0, 0x0, 0x0, 0x0, false⟩,  -- TRAPS
  ⟨0x64, 1, 0x4, 1, 0x4, 0x0, 0x0, 0x0, 0x0, false⟩,  -- TRAP_LAST
  ⟨0x68, 1, 0x4, 1, 0x4, 0xFF, 0x0, 0x0, 0x3, true⟩,  -- TRAP_CFG
  ⟨0x6C, 1, 0x4, 1, 0x4, 0x0, 0x0, 0x0, 0x0, false⟩,  -- KBANK
  ⟨0x70, 1, 0x4, 1, 0x4, 0x0, 0x0, 0x0, 0x0, false⟩,  -- KBLOCK
  ⟨0x74, 1, 0x4, 1, 0x4, 0x0, 0x0, 0xFF, 0x0, false⟩,  -- KUNBLOCK
  ⟨0x78, 1, 0x4, 1, 0x4, 0x0, 0x0, 0x0, 0x0, false⟩,  -- DWELL_POSTED
  ⟨0x7C, 1, 0x4, 1, 0x4, 0x0, 0x0, 0x0, 0x0, false⟩,  -- DWELL_DROPPED
  ⟨0x80, 1, 0x4, 1, 0x4, 0x0, 0x0, 0x0, 0x0, false⟩,  -- CAPTURE_POSTED
  ⟨0x84, 1, 0x4, 1, 0x4, 0x0, 0x0, 0x0, 0x0, false⟩,  -- SHARED_ECC
  ⟨0x88, 1, 0x4, 1, 0x4, 0x77777777, 0x0, 0x0, 0x0, true⟩,  -- BAY_PSET0
  ⟨0x8C, 1, 0x4, 1, 0x4, 0x7777, 0x0, 0x0, 0x0, true⟩,  -- BAY_PSET1
  ⟨0x100, 16, 0x4, 1, 0x4, 0x0, 0x0, 0x0, 0x0, false⟩,  -- ENG_STATUS
  ⟨0x400, 8, 0x80, 32, 0x4, 0xFFFFFFFF, 0x0, 0x0, 0x0, true⟩,  -- PSET
  ⟨0x800, 96, 0x8, 1, 0x4, 0xFFFFF, 0x0, 0x0, 0x0, true⟩,  -- PIXCAL_OFFSET
  ⟨0x804, 96, 0x8, 1, 0x4, 0xFFFF, 0x0, 0x0, 0x400, true⟩,  -- PIXCAL_GAIN
  ⟨0xB00, 12, 0x40, 16, 0x4, 0xFFFFFFFF, 0x0, 0x0, 0x0, true⟩]  -- WALK

/-- R121, R122, R279, R345: registers of the BAY page. -/
def bayRows : List RegRow := [
  ⟨0x40, 1, 0x4, 1, 0x4, 0x3, 0x0, 0x0, 0x2, false⟩,  -- TDC_CTRL
  ⟨0x44, 1, 0x4, 1, 0x4, 0xFFF2FFFF, 0x0, 0x0, 0x40004008, true⟩,  -- TDC_TIMING
  ⟨0x48, 1, 0x4, 1, 0x4, 0xFF, 0x0, 0x0, 0xFF, true⟩,  -- CH_ENABLE
  ⟨0x4C, 1, 0x4, 1, 0x4, 0x0, 0x0, 0x0, 0x0, false⟩,  -- CH_QUAR
  ⟨0x50, 1, 0x4, 1, 0x4, 0x0, 0x0, 0xFF, 0x0, false⟩,  -- CH_RELEASE
  ⟨0x54, 1, 0x4, 1, 0x4, 0x0, 0x0, 0x0, 0x0, false⟩,  -- SPARE_STATUS
  ⟨0x58, 1, 0x4, 1, 0x4, 0x80FF00FF, 0x0, 0x0, 0x801000FF, true⟩,  -- EC_CTRL
  ⟨0x5C, 1, 0x4, 1, 0x4, 0xFFFFFFFF, 0x0, 0x0, 0x18006AC, true⟩,  -- EC_WINDOW
  ⟨0x60, 1, 0x4, 1, 0x4, 0x0, 0x0, 0x0, 0x0, false⟩,  -- EC_COUNT
  ⟨0x64, 1, 0x4, 1, 0x4, 0x0, 0x0, 0x0, 0x0, false⟩,  -- EC_LAST
  ⟨0x68, 1, 0x4, 1, 0x4, 0x0, 0x0, 0x0, 0x0, false⟩,  -- EC_STREAK
  ⟨0x6C, 1, 0x4, 1, 0x4, 0xFF03FF, 0x0, 0x0, 0x40000A, false⟩,  -- FAULT_CTRL
  ⟨0x70, 1, 0x4, 1, 0x4, 0x3FFFFFF, 0x0, 0x0, 0x2580340, false⟩,  -- SELFTEST_CFG
  ⟨0x100, 8, 0x20, 1, 0x4, 0x3FF03FF, 0x0, 0x0, 0x280050, true⟩,  -- CH_THRESH
  ⟨0x104, 8, 0x20, 1, 0x4, 0x1F1, 0x0, 0x0, 0x150, true⟩,  -- CH_CFG
  ⟨0x108, 8, 0x20, 1, 0x4, 0x0, 0x0, 0x0, 0x20000000, false⟩,  -- CH_STATUS
  ⟨0x10C, 8, 0x20, 1, 0x4, 0x0, 0x0, 0x0, 0x0, false⟩,  -- CH_EVENTS
  ⟨0x110, 8, 0x20, 1, 0x4, 0x0, 0x0, 0x0, 0x0, false⟩,  -- CH_MISSED
  ⟨0x114, 8, 0x20, 1, 0x4, 0x0, 0x0, 0x0, 0x0, false⟩,  -- CH_TIMEOUTS
  ⟨0x118, 8, 0x20, 1, 0x4, 0x0, 0x0, 0x0, 0x0, false⟩,  -- CH_ARMONLY
  ⟨0x11C, 8, 0x20, 1, 0x4, 0x0, 0x0, 0x0, 0x0, false⟩,  -- CH_SELFTEST
  ⟨0x200, 1, 0x4, 1, 0x4, 0x3373, 0x0, 0x0, 0x1103, true⟩,  -- HIST_CFG
  ⟨0x204, 1, 0x4, 1, 0x4, 0xFFFFF, 0x0, 0x0, 0x0, true⟩,  -- GATE_OPEN
  ⟨0x208, 1, 0x4, 1, 0x4, 0x1FFFFF, 0x0, 0x0, 0x100000, true⟩,  -- GATE_CLOSE
  ⟨0x20C, 1, 0x4, 1, 0x4, 0x0, 0x0, 0x0, 0x30800, false⟩,  -- HIST_GEOM
  ⟨0x210, 1, 0x4, 1, 0x4, 0x0, 0x0, 0x0, 0x100000, false⟩,  -- VOTE_STATUS
  ⟨0x214, 1, 0x4, 1, 0x4, 0x0, 0x0, 0x0, 0x0, false⟩,  -- VOTE_DEMAND
  ⟨0x220, 8, 0x8, 1, 0x4, 0x9FFF1FFF, 0x0, 0x0, 0x0, true⟩,  -- ZONE_COLS
  ⟨0x224, 8, 0x8, 1, 0x4, 0x300FF, 0x0, 0x0, 0x0, true⟩,  -- ZONE_ROWS
  ⟨0x260, 1, 0x4, 1, 0x4, 0x0, 0x0, 0x0, 0x0, false⟩,  -- VOTES_CAST
  ⟨0x264, 1, 0x4, 1, 0x4, 0x0, 0x0, 0x0, 0x0, false⟩,  -- EVENTS_THINNED
  ⟨0x268, 1, 0x4, 1, 0x4, 0x0, 0x0, 0x0, 0x0, false⟩,  -- EVENTS_C_DROPPED
  ⟨0x26C, 1, 0x4, 1, 0x4, 0x0, 0x0, 0x0, 0x0, false⟩,  -- HIST_GRANTED
  ⟨0x270, 1, 0x4, 1, 0x4, 0x0, 0x0, 0x0, 0x0, false⟩,  -- HIST_DISPATCHED
  ⟨0x274, 1, 0x4, 1, 0x4, 0x0, 0x0, 0x0, 0x0, false⟩,  -- POOL_DELAYED
  ⟨0x278, 1, 0x4, 1, 0x4, 0x0, 0x0, 0x0, 0x0, false⟩,  -- POOL_REFUSED
  ⟨0x27C, 1, 0x4, 1, 0x4, 0x0, 0x0, 0x0, 0x0, false⟩,  -- POOL_WAIT_MAX
  ⟨0x280, 1, 0x4, 1, 0x4, 0x0, 0x0, 0x0, 0x0, false⟩,  -- DISPATCH_HELD
  ⟨0x284, 1, 0x4, 1, 0x4, 0x0, 0x0, 0x0, 0x0, false⟩,  -- ENGINE_LATE
  ⟨0x288, 1, 0x4, 1, 0x4, 0x0, 0x0, 0x0, 0x0, false⟩,  -- CHUNKS
  ⟨0x28C, 1, 0x4, 1, 0x4, 0x0, 0x0, 0x0, 0x0, false⟩,  -- AMBIENT
  ⟨0x300, 1, 0x4, 1, 0x4, 0x7, 0x0, 0x0, 0x3, false⟩,  -- WAVE_CTRL
  ⟨0x304, 1, 0x4, 1, 0x4, 0x7FF00FF, 0x0, 0x0, 0x8000FF, true⟩,  -- WAVE_SCAN
  ⟨0x308, 1, 0x4, 1, 0x4, 0x1FFFFF, 0x0, 0x0, 0x0, true⟩,  -- WAVE_PLACE
  ⟨0x30C, 1, 0x4, 1, 0x4, 0x0, 0x0, 0x0, 0x40000000, false⟩,  -- WAVE_STATUS
  ⟨0x310, 1, 0x4, 1, 0x4, 0x1FFFFF, 0x0, 0x0, 0x0, false⟩,  -- WAVE_HOST_REQ0
  ⟨0x314, 1, 0x4, 1, 0x4, 0x380007FF, 0x0, 0x80000000, 0x7FF, false⟩,  -- WAVE_HOST_REQ1
  ⟨0x318, 1, 0x4, 1, 0x4, 0x8000FFFF, 0x0, 0x0, 0x80000064, false⟩,  -- WAVE_EST
  ⟨0x31C, 1, 0x4, 1, 0x4, 0x0, 0x0, 0x0, 0x0, false⟩,  -- WAVE_HALO
  ⟨0x320, 5, 0x10, 1, 0x4, 0x0, 0x0, 0x0, 0x0, false⟩,  -- SLICE_STATUS
  ⟨0x324, 5, 0x10, 1, 0x4, 0x0, 0x0, 0x0, 0x0, false⟩,  -- SLICE_OFFGAIN
  ⟨0x328, 5, 0x10, 1, 0x4, 0x0, 0x0, 0x0, 0x0, false⟩,  -- SLICE_SKEW
  ⟨0x380, 1, 0x4, 1, 0x4, 0x0, 0x0, 0x0, 0x0, false⟩,  -- CAPTURES
  ⟨0x384, 1, 0x4, 1, 0x4, 0x0, 0x0, 0x0, 0x0, false⟩,  -- URGENT_SERVED
  ⟨0x388, 1, 0x4, 1, 0x4, 0x0, 0x0, 0x0, 0x0, false⟩,  -- URGENT_DROPPED
  ⟨0x38C, 1, 0x4, 1, 0x4, 0x0, 0x0, 0x0, 0x0, false⟩,  -- URGENT_EXPIRED
  ⟨0x390, 1, 0x4, 1, 0x4, 0x0, 0x0, 0x0, 0x0, false⟩,  -- CAP_NO_CHUNK
  ⟨0x394, 1, 0x4, 1, 0x4, 0x0, 0x0, 0x0, 0x0, false⟩,  -- CAP_BUSY
  ⟨0x398, 1, 0x4, 1, 0x4, 0x0, 0x0, 0x0, 0x0, false⟩,  -- CAP_LATE
  ⟨0x39C, 1, 0x4, 1, 0x4, 0x0, 0x0, 0x0, 0x0, false⟩,  -- CAP_REPLACED
  ⟨0x3A0, 1, 0x4, 1, 0x4, 0x0, 0x0, 0x0, 0x0, false⟩]  -- OVERRANGE

/-- The page-specific register list of a page. -/
def pageRows : Page → List RegRow
  | .chip => chipRows | .task => taskRows | .irq => irqRows | .pwr => pwrRows | .therm => thermRows
  | .time => timeRows | .chain => chainRows | .ptp => ptpRows | .nw => nwRows | .mon => monRows
  | .scan => scanRows | .emit => emitRows | .code => codeRows | .cal => calRows | .sky => skyRows
  | .stream => streamRows | .comp => compRows | .host => hostRows | .net _ => netRows | .sec => secRows
  | .alm => almRows | .res => resRows | .flash => flashRows | .lane _ => laneRows | .qtr _ => qtrRows
  | .pool _ => poolRows | .clu _ => cluRows | .bay _ => bayRows

/-- Nothing of the register can be written: a write is ignored, in every state and without an error (R21). -/
def RegRow.readOnly (r : RegRow) : Bool := r.rw == 0 && r.wo == 0

/-- The row of the register at `off` of page `g`, header registers included; `none` at a reserved offset. -/
def regRow (g : Page) (off : Nat) : Option RegRow :=
  if off < 0x040 then headerRows.find? (fun r => r.hits off) else (pageRows g).find? (fun r => r.hits off)

end Sys2Proof.Machine
end

