-- ==== Sys2Proof/Machine/State.lean ====
section
/-! DEFINITION. The state of the block as plain data: the register file, the internal state the spec's rules
name but no register shows, what the block has sent, and the queue of waiting commands. -/
namespace Sys2Proof.Machine

/-- Faults. No rule of the spec stops the block, so no meaning answers one. -/
inductive Fault where
  /-- Answered by nothing: kept because the interface asks for the type. Safe. -/
  | stopped
  deriving DecidableEq, Repr

/-- Refusals. -/
inductive Refusal where
  /-- Answered by `exec` for a command that has no meaning yet. Safe: nothing is claimed of it. -/
  | notModelled (mnemonic : String)
  deriving DecidableEq, Repr

/-- An Almanac record as it stands in the staging buffer (R577). -/
structure AlmRec where
  seq : Nat
  code : Nat
  sev : Severity
  meridian : Bool
  source : Nat
  time : Nat
  p0 : Nat
  p1 : Nat
  p2 : Nat
  deriving DecidableEq, Repr

/-- A report of an error on its way up the levels (R78): where it was detected, its cause bit and error word
(R633), its severity, and the page it has reached. -/
structure Report where
  origin : Page
  bit : Nat
  word : Nat
  sev : Severity
  at_ : Page
  /-- An ERROR_ESCALATED record is due for it (R633). -/
  esc : Bool := true
  /-- It is still below `at_`: the channel or engine of that page that reports it (R49, R78). -/
  cell : Option Nat := none
  deriving DecidableEq, Repr

/-- What a page keeps beside its registers: the open shadow set and the latched one (R60, R61), held writes
in the order of their last write with their requester (R55), what waits for the next frame start or the end of a drain
(of a page reset: whether the page read ON, R58), and the highest severity LOWER has received (R631), with whether an UNSAFE one came from a page other than NW (R510). -/
structure PageX where
  setOpen : List (Nat × Word) := []
  setExpo : Bool := false
  latched : List (Nat × Word) := []
  latchedExpo : Bool := false
  latchT : Nat := 0
  /-- Commits latched together apply together (R62, R364): the number they share. -/
  group : Nat := 0
  held : List (Nat × Word × Requester) := []
  resumeReq : Bool := false
  quiesceReq : Bool := false
  drainHold : Bool := false
  resetPend : Option Bool := none
  lowerSev : Nat := 0
  lowerUnsafe : Bool := false
  /-- The quiesce start, ns (R632). -/
  quietFrom : Nat := 0
  /-- The task step in progress then, as its slot and the steps done before it; its deadline has passed meanwhile (R632). -/
  quietStep : Option (Nat × Nat) := none
  quietLate : Bool := false
  /-- Of a QTR page: its bays and clusters drain with it (R539). -/
  regionDrain : Bool := false
  /-- What the page-specific registers read since the page left ON, by offset (R56). -/
  frozen : Option (FMap Word) := none
  /-- When the drain of a page whose EN was cleared while it woke starts, ns (R540). -/
  drainAt : Option Nat := none
  deriving DecidableEq, Repr

/-- A stream fence that waits (R392): its token, and the frame and column it follows. -/
structure SFence where
  token : Nat
  frame : Nat
  col : Option Nat
  /-- The columns of the frame begun when it was placed. -/
  begun : Nat := 0
  deriving DecidableEq, Repr

/-- The request that an answer goes to (R86, R471, R472): an Ethernet port (0 or 1) or the chain (2); the operation, the
packet's UNIT and SEQUENCE, and its source address (of a REG_REQ: the unit that sent it). -/
structure ReplyX where
  port : Nat
  op : Nat
  unit : Nat
  seq : Nat
  src : Nat
  /-- The UDP port that the request came from (R413). -/
  srcPort : Nat := 0
  deriving DecidableEq, Repr

/-- An incomplete fence (R65, R66): its token, the pages that held a write of the requester when it was placed, whether a
write issued before it still waits behind an ARM (R197), and the FENCE packet it answers (R87). -/
structure FenceX where
  token : Option Nat
  pages : List Nat := []
  waits : Bool := false
  reply : Option ReplyX := none
  deriving DecidableEq, Repr

/-- A READ packet with reads of the EMIT page that wait behind an ARM (R197): who answers, the entries with the data of the
reads that did not wait. -/
structure ReadX where
  req : Requester
  reply : ReplyX
  entries : List (Word × Option Word)
  deriving DecidableEq, Repr

/-- What is kept for one requester (R43): its incomplete fences, oldest first (R66), and its stream fences (R392). -/
structure ReqX where
  fences : List FenceX := []
  sFences : List SFence := []
  deriving DecidableEq, Repr

/-- What a task keeps beside its slot's registers (R68, R71): its code and target once submitted, the request
to cancel it, and the outcome of steps done so far (a mask of rejected units); its arguments once submitted. -/
structure TaskX where
  code : Nat := 0
  target : Nat := 0
  cancel : Bool := false
  rejected : Nat := 0
  args : List Nat := []
  packets : Nat := 0
  /-- Steps of the task; when a SWITCH latched, ns (R592); the count of checks or estimates that VERIFY must see pass. -/
  total : Nat := 0
  latchAt : Option Nat := none
  mark : Nat := 0
  /-- Sections of an image (R565): flash offset and type; the kernel IDs of the sections checked (R305). -/
  sections : List (Nat × Nat) := []
  kernels : List Nat := []
  deriving DecidableEq, Repr

/-- An open or closed event of a return channel (R92): times in ticks. -/
structure ChEvent where
  lead : Nat
  trail : Option Nat := none
  validated : Bool := false
  deriving DecidableEq, Repr

/-- An outstanding start (R101) and what happened during it (R102, R105). -/
structure StartX where
  ref : Nat
  hadEvent : Bool := false
  asserted : Bool := false
  lost : Bool := false
  deriving DecidableEq, Repr

/-- A return channel's own state (R92 to R105): since when each comparator is asserted, the event in formation, the
events closed and not yet emitted, the last converted edges, the outstanding starts, the storm count, and the edges
lost since the last MISSED word. -/
structure ChanX where
  armHigh : Option Nat := none
  valHigh : Option Nat := none
  open_ : Option ChEvent := none
  closed : List ChEvent := []
  lastLead : Option Nat := none
  lastTrail : Option Nat := none
  starts : List StartX := []
  storm : Nat := 0
  missed : Nat := 0
  lastLost : Nat := 0
  lastMissedAt : Option Nat := none
  /-- The release check has passed: ACTIVE from the next frame start (R108). -/
  releasePass : Bool := false
  /-- Self-checks so far, and whether the last passed (R106, R592). -/
  checks : Nat := 0
  checkOk : Bool := true
  /-- The stored reference delay, ticks (R106; DESIGN CHOICE, log 89: no rule gives its value). -/
  refDelay : Int := 0
  deriving DecidableEq, Repr

/-- TYPE of an event word (R103). -/
inductive EvType where
  | edge | timeout | test | missed
  deriving DecidableEq, Repr

/-- The event word of R103. -/
structure EvWord where
  type : EvType
  ch : Nat
  uncal : Bool := false
  val : Bool := false
  noTrail : Bool := false
  tot : Nat := 0
  time : Nat
  deriving DecidableEq, Repr

/-- A converter's calibration state (R133 to R149): tables hold the boundaries B_1 to B_255 in 1/64 tick, empty where
there is none. -/
structure ConvX where
  table : List Nat := []
  old : List Nat := []
  step : Nat := 0
  pendingNew : List Nat := []
  pendingAt : Nat := 0
  /-- The last accepted table, in force or not yet, and its moment. -/
  accepted : List Nat := []
  acceptedAt : Nat := 0
  lastResult : Nat := 0
  q : Nat := 0
  qLast : Nat := 0
  driftBin : Nat := 0
  drift : Nat := 0
  diffBin : Nat := 0
  diff : Nat := 0
  slowUnlock : Bool := false
  fastUnlock : Bool := false
  suspended : Bool := false
  /-- Detached from its comparator, and the change due at the next frame start (R142). -/
  detached : Bool := false
  detachReq : Bool := false
  attachReq : Bool := false
  /-- Background: the spare stands in while it is detached (R142). -/
  standIn : Bool := false
  /-- The edge generator drives it, and the counts of its finished runs (R135, R136). -/
  running : Bool := false
  runs : List (List Nat) := []
  aborted : Bool := false
  /-- Edges of a run as a power of 2 (R140); the temperature of the bay's node at the last acceptance, 0.1 C (R145). -/
  hits : Nat := 20
  acceptedTemp : Int := 0
  /-- Acceptances in a row with a drift above DRIFT_LIMIT (R590). -/
  driftRow : Nat := 0
  /-- Blends started so far, so that two blend steps can be told apart (R248). -/
  blends : Nat := 0
  deriving DecidableEq, Repr

/-- The warm-up qualifier (R128 to R131) and the range-zero period (R153): whether the next gate is the first since a
start, when that start was, when the last gate ended, gates out of limit in a row, frames of the period so far. -/
structure TimeX where
  first : Bool := true
  start : Nat := 0
  gateAt : Nat := 0
  bad : Nat := 0
  rzFrames : Nat := 0
  /-- The first period has begun (R153). -/
  rzOpen : Bool := false
  /-- REF_CFG.FREQ as the PLL's ratio was set by (R125); a correction applied at once since the last EPOCH (R612). -/
  freq : Nat := 0
  epochDue : Bool := false
  slewEnd : Nat := 0
  deriving DecidableEq, Repr

/-- A port's range-zero tracker (R152 to R156): offsets in 1/64 tick. -/
structure RzX where
  new : Int := 0
  old : Int := 0
  step : Nat := 0
  valid : Bool := false
  pending : Option Int := none
  pendingAt : Nat := 0
  sum : Int := 0
  count : Nat := 0
  lastEst : Option Int := none
  reseed : Bool := false
  /-- The last accepted offset was not applied (R155). -/
  held : Bool := false
  deriving DecidableEq, Repr

/-- One correction of a slice (R325): offset in 0.01 LSB, gain in 0.001 %, skew in 1/64 tick. -/
structure SliceCorr where
  offset : Int := 0
  gain : Int := 0
  skew : Int := 0
  deriving DecidableEq, Repr

/-- A slice's correction state (R151, R326 to R328), one per slice and one per phase of the spare. -/
structure SliceX where
  valid : Bool := false
  new : SliceCorr := {}
  old : SliceCorr := {}
  step : Nat := 0
  pending : Option SliceCorr := none
  pendingAt : Nat := 0
  lastEst : Option SliceCorr := none
  outRun : Nat := 0
  calEst : List SliceCorr := []
  /-- Estimates formed so far, and whether the last lay within range (R328, R592). -/
  ests : Nat := 0
  estOk : Bool := true
  deriving DecidableEq, Repr

/-- A capture request or a capture (R329 to R339). -/
structure CaptureX where
  source : Nat
  ch : Nat
  start : Nat
  len : Nat
  frame : Nat := 0
  col : Nat := 0
  arrived : Nat := 0
  burst : Nat := 0
  ref : Nat := 0
  t0 : Nat := 0
  /-- Grid numbers of the first and the last sample instant (R324). -/
  g0 : Nat := 0
  gEnd : Nat := 0
  /-- HALO_WIN.CLOSE of a HALO capture, ticks from the burst reference (R341). -/
  close : Nat := 0
  cls : Nat := 2
  chunks : List Nat := []
  floorServed : Bool := false
  /-- Its chunks were released before it was written (R337, R338, R340). -/
  lost : Bool := false
  clipped : Bool := false
  written : Bool := false
  blending : Bool := false
  uncorrected : Bool := false
  spare : Bool := false
  epoch : Nat := 0
  gen : Nat := 0
  overrange : Nat := 0
  samples : List Int := []
  deriving DecidableEq, Repr

/-- One entry of the fine-event store (R258). -/
structure FesX where
  rel : Nat
  sub : Nat
  burst : Nat
  tot : Nat
  uncal : Bool
  val : Bool
  bin : Nat
  deriving DecidableEq, Repr

/-- Where a histogram is in its life (R247 to R252). -/
inductive HistState where
  | waiting | granted | held | queued | taken
  deriving DecidableEq, Repr

/-- A pixel histogram with its request (R247 to R257). Times in ticks unless named otherwise. -/
structure HistX where
  bay : Nat
  ch : Nat
  cross : Option Nat := none
  frame : Nat
  col : Nat
  cls : Nat
  binW : Nat
  nbins : Nat
  gOpen : Nat
  gClose : Nat
  depth : Nat
  fesEn : Bool
  voteUnval : Bool
  pset : Nat
  need : Nat
  st : HistState := .waiting
  reqAt : Nat
  floorServed : Bool := false
  chunks : List Nat := []
  grantAt : Nat := 0
  planned : Nat := 0
  launched : Nat := 0
  voted : Nat := 0
  firstRef : Nat := 0
  refLast : Nat := 0
  closedAt : Nat := 0
  thinned : Nat := 0
  edgesLost : Nat := 0
  fesDropped : Nat := 0
  uncal : Bool := false
  eclipsed : Bool := false
  refUnsettled : Bool := false
  emitterUnver : Bool := false
  saturated : Bool := false
  thinFlag : Bool := false
  cDropped : Bool := false
  lateGrant : Bool := false
  epochSplit : Bool := false
  blendStep : Option Nat := none
  gen : Nat := 0
  epoch : Nat := 0
  code : Nat := 0
  codeStep : Nat := 0
  bins : FMap Nat := []
  scout : List Nat := []
  fes : List FesX := []
  capture : Option CaptureX := none
  /-- The moment it leaves as ENGINE_LATE, from the DISPATCH_LIMIT in force at its close (R272, R273). -/
  lateAt : Nat := 0
  consumed : Bool := false
  deriving DecidableEq, Repr

/-- The counts of one channel in one column of an ambient batch (R347, R351). -/
structure AmbCell where
  active : Bool := false
  thinned : Bool := false
  long : Nat := 0
  short : Nat := 0
  deriving DecidableEq, Repr

/-- An ambient block (R350 to R352): its columns' effective window lengths and its cells, keyed 8 * column + channel. -/
structure AmbBlock where
  bay : Nat
  frame : Nat
  first : Nat
  ncol : Nat := 0
  chunk : Option Nat
  floorServed : Bool := false
  lens : List (Nat × Nat) := []
  cells : FMap AmbCell := []
  gen : Nat := 0
  epoch : Nat := 0
  pset : Nat := 0
  st : HistState := .granted
  deriving DecidableEq, Repr

/-- The listen windows of a bay's column (R347, R348): its ambient block, its place there, its start. -/
structure ListenX where
  amb : Nat
  idx : Nat
  startTick : Nat
  /-- The end of the column, once it has ended (R348). -/
  endTick : Option Nat := none
  active : Nat
  /-- Thinning intervals of the column with a vote level other than NORMAL, in ticks (R349). -/
  thins : List (Nat × Nat) := []
  /-- References of proof bursts of the paired port whose exclusion may reach the windows (R348). -/
  proofs : List Nat := []
  deriving DecidableEq, Repr

/-- A dispatch descriptor waiting in a bay's queue (R251, R287): a histogram or an ambient block by its number. -/
structure DescX where
  sky : Bool
  id : Nat
  cls : Nat
  closedAt : Nat
  /-- When it entered the queue, ns (R271), and the moment it leaves as late (R272, R273). -/
  enq : Nat
  lateAt : Nat
  deriving DecidableEq, Repr

/-- The digitiser of a bay (R331 to R344). -/
structure WaveX where
  urgent : List CaptureX := []
  /-- Captures taken and not yet written, in the order in which they end. -/
  inFlight : List CaptureX := []
  hostCap : Option CaptureX := none
  /-- When the last CAL capture was taken, ns, and CAL captures written since the last step of CAL_WAVE (R331, R342). -/
  calAt : Nat := 0
  calCaps : Nat := 0
  /-- When each slice delivered its last background estimate, ns, the spare as slice 4 (R326). -/
  estAt : FMap Nat := []
  held : List (Nat × Word × Requester) := []
  /-- The phase the shadowing spare estimates next (R327). -/
  estRound : Nat := 0
  /-- EN was cleared while WAKING: the drain follows the wake (R54). -/
  offPend : Bool := false
  deriving DecidableEq, Repr

/-- A receive bay's own state beside its registers (R91, R94, R103, R112, R249, R258 to R261, R272, R348, R350): TDC_CTRL.EN as it
is in force, the words on their way to the fabric, the thinning's accumulator. -/
structure BayX where
  tdcEn : Bool := false
  /-- Each with the moment it left its channel, ns; the channel served last (R27, R259). -/
  events : List (Nat × EvWord) := []
  lastCh : Nat := 7
  thinAcc : Nat := 0
  /-- When the vote queue was last drained, ns (R259). -/
  voteAt : Nat := 0
  /-- The end of the last thinning interval, ns (R260). -/
  thinEnd : Nat := 0
  /-- Votes asked for in the present interval, all and of classes A and B (R260, R261), and the frame whose thinning is reported. -/
  demand : Nat := 0
  demandAB : Nat := 0
  thinFrame : Nat := 0
  /-- Descriptors that wait for an engine, and those that HELD counts (R251, R271, R272). -/
  dq : List DescX := []
  heldDesc : List DescX := []
  /-- The number of the open ambient block (R350). -/
  batch : Option Nat := none
  /-- The listen windows of the open column and of the one before (R348). -/
  listen : Option ListenX := none
  listenPrev : Option ListenX := none
  /-- References of the paired port's latest proof bursts, inside a column or outside (R348). -/
  proofs : List Nat := []
  wave : WaveX := {}
  /-- An Eclipse detection in the most recent burst (R111, R112), and a bay stopped by containment (R28). -/
  ecDetected : Bool := false
  stopped : Bool := false
  deriving DecidableEq, Repr

/-- A burst of a port, newest kept first (R163, R164, R242): the mask of launched sub-pulses, its code's slots. -/
structure BurstX where
  ref : Nat
  frame : Nat
  col : Nat
  idx : Nat
  slots : List Nat
  width : Nat
  launched : Nat
  code : Nat := 0
  proof : Bool := false
  seen : Bool := false
  windowClosed : Bool := false
  charged : Bool := false
  current : Nat := 0
  /-- The fast-axis model position at its reference (R496). -/
  pos : Int := 0
  deriving DecidableEq, Repr

/-- A planned burst of a column (R177, R183): its index in the column, its instant in ns, its code index. -/
structure PlanX where
  idx : Nat
  t : Nat
  codeIdx : Nat
  frame : Nat
  col : Nat
  dwell : Bool
  deriving DecidableEq, Repr

/-- A dwell request or an active grant (R181 to R184): the columns left of it and the extra bursts. -/
structure DwellX where
  bay : Nat
  first : Nat
  count : Nat
  extra : Nat
  frame : Nat
  deriving DecidableEq, Repr

/-- A trigger port's own state (R166 to R190). -/
structure PortX where
  plan : List PlanX := []
  bursts : List BurstX := []
  /-- Column bursts numbered so far in the frame (R174). -/
  m : Nat := 0
  lastRef : Option Nat := none
  /-- The last counted burst whose Halo window has closed: its time, ns, and whether it showed its Halo (R186). -/
  lastCounted : Option (Nat × Bool) := none
  /-- When the last counted burst launched, ns (R187). -/
  lastCountedAt : Option Nat := none
  lastProofTry : Nat := 0
  latchedOpen : Bool := false
  /-- A resume check is due when the port next begins firing (R189), is running, or has ended in the open column. -/
  needResume : Bool := true
  resumeOn : Bool := false
  resumeMisses : Nat := 0
  resumeEnd : Bool := false
  haloAt : Option Nat := none
  deriving DecidableEq, Repr

/-- A Starline wire (R194 to R199): a transfer in progress, whether another must follow, and the words staged last. -/
structure StarX where
  busy : Bool := false
  words : List Nat := []
  staged : List Nat := []
  /-- When the transfer and its gap end, ns (R194). -/
  doneAt : Nat := 0
  deriving DecidableEq, Repr

/-- Emission control beside the EMIT and CODE registers (R166, R173, R181, R193 to R199): CTRL.SCHED_EN as the frame took it. -/
structure EmitX where
  schedEn : Bool := false
  /-- Wires; what the running transfers carry (none 0, shadow preload 1, compensation update 2, restage 3), what must
  follow them, what is staged, and the current codes carried and staged, by port (R195, R197, R199). -/
  star : FMap StarX := []
  kind : Nat := 0
  again : Nat := 0
  stagedKind : Nat := 0
  carried : FMap Nat := []
  stagedCodes : FMap Nat := []
  /-- When the apply pulse of the pending set was sent, ns (R199). -/
  applyAt : Option Nat := none
  /-- One more than the time of a group's last valid sample since its source was named, and when it was named (R193). -/
  tempAt : FMap Nat := []
  tempNamed : FMap Nat := []
  tempDead : Nat := 0
  /-- Dwell requests on their way to the scheduler, with their engine (R181). -/
  dwellFlight : List (Nat × DwellX) := []
  dwellQueue : List DwellX := []
  grants : List DwellX := []
  /-- CODE_CFG, SEED and chain address of the active code bank and of the one being filled (R173). -/
  codeCfg : Nat := 0x30040000
  codeSeed : Nat := 0
  codeAddr : Nat := 0
  regenAt : Option Nat := none
  /-- The end of the last sub-pulse launched, and the start of the last apply pulse, ns (R194, R199). -/
  lastSubEnd : Nat := 0
  pulseAt : Option Nat := none
  /-- Ports whose code derating has brought to 0, as a mask (R193). -/
  derated : Nat := 0
  /-- ARM writes that wait for a transfer to end, and the accesses that wait behind them (R197). -/
  armWait : List (Requester × Nat) := []
  armHeld : List (Requester × Nat × Word) := []
  readHeld : List ReadX := []
  deriving DecidableEq, Repr

/-- The exposure ledger (R498, R499): the buckets of cell c and window w under key 4 c + w, newest first; the cells that
are open. -/
structure LedgerX where
  sums : FMap (List Nat) := []
  open_ : FMap Bool := []
  /-- By window: the bucket boundaries of Nightwatch time that have passed (R498). -/
  bucket : FMap Nat := []
  deriving DecidableEq, Repr

/-- A rest-to-rest move of the slow axis (R216), and when it started, ns. -/
structure MoveX where
  from_ : Int
  dest : Int
  vmax : Nat
  start : Nat
  deriving DecidableEq, Repr

/-- The crossing that scan control has fixed 1 us ahead (R215): boundary, direction (reverse), predicted time and column
duration in ns, and whether it begins column `col` of frame `frame` (R223). -/
structure CrossX where
  k : Nat
  rev : Bool
  t : Nat
  dur : Nat
  begins : Bool
  frame : Nat
  col : Nat
  deriving DecidableEq, Repr

/-- A column that has ended, with its interval, ns (R245). -/
structure ColSpan where
  frame : Nat
  col : Nat
  start : Nat
  stop : Nat
  deriving DecidableEq, Repr

/-- Scan control beside the SCAN registers (R207 to R234). -/
structure ScanX where
  fastPos : Int := 0
  slowPos : Int := 0
  modelPrev : Int := 0
  fastPrev : Int := 0
  slowPrev : Int := 0
  cmdPrev : Int := 0
  /-- The start sweep runs (R211); the oscillator's frequency in mHz and the drive amplitude (the polygon's speed command). -/
  sweeping : Bool := false
  freq : Int := 0
  amp : Int := 0
  /-- The oscillator's phase at its last change of frequency, in 10^-12 turns, and when that was, ns (R211). -/
  theta : Nat := 0
  thetaAt : Nat := 0
  /-- The sense's amplitude and phase (1/65,536 turn) as last measured (R211); the encoder's count in the facet, its last
  edge and the time from the edge before, ns (R213, R215). -/
  measAmp : Int := 0
  measPhase : Nat := 0
  encCount : Nat := 0
  encAt : Nat := 0
  encStep : Nat := 0
  polyInt : Int := 0
  /-- Half-periods or facets in a row inside and outside tolerance (R212, R213). -/
  good : Nat := 0
  bad : Nat := 0
  /-- Consecutive control cycles of the supervisor's conditions (R231). -/
  nFast : Nat := 0
  nSlow : Nat := 0
  nStallF : Nat := 0
  nStallS : Nat := 0
  /-- The slow loop: the last error, its integral, the move in progress, the position held without one, and the cycles
  in a row at the hold position (R218, R222). -/
  ePrev : Int := 0
  integ : Int := 0
  move : Option MoveX := none
  hold : Int := 0
  holdCnt : Nat := 0
  lastDrive : Int := 0
  /-- The outputs hold SAFE_CODE (R233, R234); the slow axis is driven open loop (R233). -/
  safe : Bool := false
  openLoop : Bool := false
  /-- The codes on the four outputs (R209). -/
  dac : List Int := [0, 0, 0, 0]
  /-- The fast drive has been ramped to 0 and stays there (R233). -/
  parked : Bool := false
  /-- When the ramp of the fast drive started, ns (R230, R233). -/
  rampAt : Option Nat := none
  /-- When STARTING and READY were entered and FRAME_EN applied, ns (R220, R230). -/
  startAt : Nat := 0
  readyAt : Nat := 0
  enAt : Nat := 0
  /-- The last scheduled start, a start set under SYNC, whether without an edge, and the end of the last return move. -/
  lastSched : Option Nat := none
  /-- FRAME_SRC as the last scheduled instant took it (R235). -/
  src : Bool := false
  syncAt : Option Nat := none
  syncLost : Bool := false
  returnEnd : Nat := 0
  /-- The crossing fixed ahead, columns begun, the line, the last boundary crossed, and whether FAST_EN has cleared in
  the frame (R223). -/
  cross : Option CrossX := none
  begun : Nat := 0
  line : Nat := 0
  /-- The columns that ended last, newest first, as far back as an event may follow a burst (R245). -/
  past : List ColSpan := []
  lastK : Option (Nat × Bool) := none
  noMore : Bool := false
  deriving DecidableEq, Repr

/-- A dwell entry of a column header (R388): EVENT is DECIDED (0), APPLIED (1) or ENDED (2). -/
structure DwellEntry where
  bay : Nat
  event : Nat
  reason : Nat
  extra : Nat
  deriving DecidableEq, Repr

/-- The open column (R223, R388). -/
structure ColumnX where
  frame : Nat
  col : Nat
  start : Nat
  dur : Nat
  line : Nat
  reverse : Bool
  fastPos : Int
  slowPos : Int
  throttled : Bool := false
  dwell : List DwellEntry := []
  /-- Ports that fired dwell bursts in the column. -/
  dwellFired : Nat := 0
  deriving DecidableEq, Repr

/-- Skyglow accumulation of one zone of a frame (R358). -/
structure ZoneX where
  sum : Nat := 0
  n : Nat := 0
  sat : Nat := 0
  deriving DecidableEq, Repr

/-- A packet (R369): the payload in little-endian words. -/
structure Packet where
  kind : Nat
  source : Nat
  coded : Bool := false
  seq : Nat
  frame : Nat
  unit : Nat
  payload : List Word
  fwd : Bool := false
  deriving DecidableEq, Repr

/-- An open block of the output merge (R383). -/
structure BlockX where
  source : Nat
  frame : Nat
  recs : List Nat
  firstAt : Nat
  deriving DecidableEq, Repr

/-- A frame from its start until it has closed (R222 to R225, R374, R389, R390). `regs` is the register file
right after the frame start: the settings and the frame context in force for the frame (R248, R285, R308). -/
structure FrameX where
  num : Nat
  start : Nat
  columns : Nat
  active : Nat
  nb : Nat := 0
  suppressed : Nat := 0
  short : Bool := false
  long : Bool := false
  syncLost : Bool := false
  unlocked : Bool := false
  scanFault : Bool := false
  chipFault : Bool := false
  refUnsettled : Bool := false
  throttled : Bool := false
  flyback : Bool := false
  scanClosed : Bool := false
  lastColEnd : Nat := 0
  regs : FMap Word := []
  gen : Nat := 0
  packets : Nat := 0
  records : Nat := 0
  gaps : Nat := 0
  discarded : Nat := 0
  codedBlocks : Nat := 0
  rawBlocks : Nat := 0
  late : Nat := 0
  acc : FMap Nat := []
  lost : FMap Nat := []
  launched : FMap Nat := []
  hashed : List Packet := []
  zones : FMap ZoneX := []
  rhist : FMap Nat := []
  skyPublished : Bool := false
  /-- The rows that CHANNEL_MAP shows enabled (R387), and the STATS payloads that wait for the close (R373). -/
  chanMap : Nat := 0
  statsOut : List (List Word) := []
  streamed : Bool := false
  /-- Its closing packets are out, by a chip fault (R29), though its scan goes on. -/
  closed : Bool := false
  missed : List (Nat × Nat) := []
  deriving DecidableEq, Repr

/-- A region's pool (R264 to R270): chunks in use in rising order, those held from the shared capacity, and those
of them that class C holds; the end of the last scrub period, ns, and by bank the corrections on read since (R277). -/
structure PoolX where
  used : List Nat := []
  shared : Nat := 0
  cShared : Nat := 0
  scrubAt : Nat := 0
  found : FMap Nat := []
  deriving DecidableEq, Repr

/-- A peak-list entry (R291). `state` is ACTIVE (0), MERGED (1), TRUNCATED (2), INTERFERENCE (3), GHOST (4),
WEATHER_SUPPRESSED (5), or another value that an owner kernel left; `own` holds the fields that are free for owner kernels. -/
structure Peak where
  time : Int
  count : Nat
  snr : Nat
  width : Nat
  plateau : Nat
  tot16 : Nat
  entries : Nat
  subShare : Nat
  burstShare : Nat
  cls : Nat := 0
  state : Nat := 0
  cap : Bool := false
  mergedIn : Bool := false
  fine : Bool := false
  conf : Nat := 0
  range : Nat := 0
  clamped : Bool := false
  inten : Nat := 0
  ridx : Nat := 0
  own : List Nat := []
  deriving DecidableEq, Repr

/-- What a chain has produced so far: the peak list with background and threshold in 1/16 count, and what its standard kernels
have yet to post: records with their stage, dwell requests and capture requests. -/
structure KernX where
  peaks : List Peak := []
  b16 : Nat := 0
  t16 : Nat := 0
  recs : List (Nat × Nat) := []
  dwells : List (Nat × Nat) := []
  caps : List (List Nat) := []
  interf : Bool := false
  suppressed : Bool := false
  /-- MULTI has assigned the return indexes (R315). -/
  ordered : Bool := false
  deriving DecidableEq, Repr

/-- A running kernel chain (R288 to R296): its histogram or ambient block, its kernel IDs, the stages that have ended, what they
have produced, and what has been posted. -/
structure RunX where
  sky : Bool
  id : Nat
  frame : Nat
  chain : List Nat
  stage : Nat := 0
  kern : KernX := {}
  /-- The descriptor names a capture (R284). -/
  linked : Bool := false
  records : List Nat := []
  dwellPosted : Bool := false
  capPosted : Bool := false
  consumed : Bool := false
  takenAt : Nat := 0
  /-- The free values of the chain begin here (log 2). -/
  freeAt : Nat := 0
  deriving DecidableEq, Repr

/-- An Echo engine's own state: its chain, whether a trap of class HARDWARE quarantined it (R303), and the words of its
local memory whose content is known (R284, R286). -/
structure EngX where
  run : Option RunX := none
  hw : Bool := false
  mem : FMap (Option Word) := []
  deriving DecidableEq, Repr

/-- A cluster's own state (R28, R306, R320, R322). -/
structure CluX where
  stopped : Bool := false
  /-- For each local bay, one more than the start of the column in which it last had a dwell request forwarded (R320). -/
  dwellAt : FMap Nat := []
  /-- The words of shared memory whose content is known, and whether its kernel area is still clear (R284). -/
  mem : FMap (Option Word) := []
  clear : Bool := false
  /-- Cycles and number of the chains that have ended since the last frame start (R296). -/
  cycSum : Nat := 0
  cycN : Nat := 0
  deriving DecidableEq, Repr

/-- A region's own state (R28, R301): whether it is quarantined, the blocked kernels in the order they were blocked,
and the KERNEL traps of the frame in progress as frame, kernel and engine. -/
structure RegionX where
  quarantined : Bool := false
  blocked : List Nat := []
  traps : List (Nat × Nat × Nat) := []
  deriving DecidableEq, Repr

/-- The two kernel banks (R283, R306): the kernel IDs of the active one; a bundle waiting for its switch with its version; the
contents of both stores, bank 0 and bank 1, as bytes, the same in every cluster. -/
structure KBankX where
  ids : List Nat := []
  next : Option (List Nat × Nat) := none
  nextAt : Nat := 0
  bank0 : List Nat := []
  bank1 : List Nat := []
  deriving DecidableEq, Repr

/-- A frame that waits for its signature (R395): H_f, and the key and the chain start as they stood at its FRAME_CLOSE. -/
structure SignX where
  frame : Nat
  hash : Nat
  key : Nat
  start : Bool
  deriving DecidableEq, Repr

/-- The output stream beside its registers (R371, R395 to R401). -/
structure StreamX where
  buf : List Packet := []
  wait : List Packet := []
  blocks : List BlockX := []
  chainP : Nat := 0
  chainStart : Bool := true
  signPend : List SignX := []
  unsignalled : Nat := 0
  unsignalledAt : Nat := 0
  /-- The datagram under assembly on each Ethernet port, and when its first packet joined, ns (R400). -/
  dgram : FMap (List Packet) := []
  dgramAt : FMap Nat := []
  compEn : Bool := true
  /-- The region whose block was sent last (R27). -/
  rrLast : Nat := 3
  /-- Gap records of the present fabric cycle, with when they were made, ns, and their frame (R31). -/
  fresh : List (Nat × Nat × Nat) := []
  /-- After a function-level reset packets cannot be written to the ring (R410). -/
  dead : Bool := false
  deriving DecidableEq, Repr

/-- A lane's own state (R418 to R431): the attempt in progress and its start, the wait's start and its first length
(all ns), TRAIN blocks and ACKs in a row, whether the transmitter or receiver is waking, whether a SLEEP_NOTICE was seen,
the last LANE_MARK, and since when the PRBS checker sees error-free bits. -/
structure LaneX where
  attempt : Option Nat := none
  waitAt : Nat := 0
  trainRx : Nat := 0
  ackRx : Nat := 0
  wakeTx : Bool := false
  wakeRx : Bool := false
  notice : Bool := false
  mark : Option (Nat × Nat) := none
  cleanAt : Nat := 0
  /-- When INJECT_RATE inverted a bit last, or began to count, ns (R431). -/
  injAt : Nat := 0
  lowRun : Nat := 0
  /-- When the eye was measured last, or the lane became ACTIVE, ns (R433). -/
  eyeAt : Nat := 0
  /-- The transmit scrambler's register, the latest scrambled bit as bit 0, and when the last blocks known were sent, ns (R416). -/
  scram : BitVec 58 := 0
  scramAt : Option Nat := none
  deriving DecidableEq, Repr

/-- A chain port: whether its lanes are deskewed or have failed to, the port its partner names, whether its loss was
reported, whether its partner holds an address of the round, the credit from the partner and to it, bytes sent and packets
received and not yet passed on (R445), and the DELAY exchange under way (R453): its number, t1, and answers missed. -/
structure LinkX where
  deskewed : Bool := false
  deskFail : Bool := false
  names : Option Nat := none
  lost : Bool := true
  partner : Bool := false
  granted : Nat := 0
  sent : Nat := 0
  given : Nat := 0
  fwd : List Packet := []
  seq : Nat := 0
  t1 : Option Nat := none
  lane : Nat := 0
  missed : Nat := 0
  deriving DecidableEq, Repr

/-- A remote access that waits for its REG_RESP (R471, R472): its requester, the packet to be answered (none: the requester's
RA registers), the unit, the sequence number of the REG_REQ, its operation and addresses, and its time limit (R85), ns. -/
structure RemoteX where
  req : Requester
  reply : Option ReplyX
  unit : Nat
  seq : Nat
  op : Nat
  limit : Nat
  deriving DecidableEq, Repr

/-- Chain state (R437 to R472): the ports, the port ENUM arrived on, the enumeration step awaited (port A 1, port B 2) and
since when, whether the round found a ring, the links lost, the servo's frequency term and its counts in a row, the address to apply at a frame start,
PORT_INFO answers by XL entry (one more than a code of the answer), remote accesses, and the times of CAL_TIME. -/
structure ChainX where
  links : FMap LinkX := []
  enumPort : Option Nat := none
  /-- LAST of the ENUM_END that a unit received from its downstream side: the address at that end (R446). -/
  downEnd : Nat := 0
  step : Nat := 0
  stepAt : Nat := 0
  ring : Bool := false
  lostLinks : List Nat := []
  y : Int := 0
  good : Nat := 0
  bad : Nat := 0
  missed : Nat := 0
  pendAddr : Option (Nat × Nat) := none
  /-- The other port serves as upstream in a ring (R455), and when the last exchange started, ns. -/
  alt : Bool := false
  syncAt : Nat := 0
  xl : FMap (List Nat) := []
  asked : Nat := 0
  remote : List RemoteX := []
  nextSeq : Nat := 0
  calAt : Nat := 0
  /-- When CAL_TIME was broadcast last, ns (R466). -/
  calSent : Nat := 0
  /-- CONFIGs waiting for their time: T in ticks, and the values (R468). -/
  config : List (Nat × List Nat) := []
  deriving DecidableEq, Repr

/-- The PTP function (R464, R465): mean link delays by port (one more than the value), the Announce kept per port, Syncs in a
row within LOCK_NS, when the last Sync arrived and its interval, and since when HOLDOVER holds, ns. -/
structure PtpX where
  delay : FMap Nat := []
  announce : FMap (List Int) := []
  good : Nat := 0
  lastSync : Nat := 0
  interval : Nat := 125000000
  holdAt : Option Nat := none
  pdelaySeq : FMap Nat := []
  /-- When Pdelay_Req was sent last, ns (R464). -/
  pdelayAt : Nat := 0
  deriving DecidableEq, Repr

/-- A PCIe function's MSI-X table and pending bits (R83, R408), by word and as a mask. -/
structure HostX where
  msix : FMap Word := []
  pba : Nat := 0
  deriving DecidableEq, Repr

/-- Nightwatch beside its registers (R480 to R508). Its time runs on when the Meridian counter does not (`skew`). -/
structure NwX where
  /-- Nightwatch time less Meridian time, ns. -/
  skew : Int := 0
  /-- The self-test's outcome, whether SEALED has read 1 since cold reset, and whether the oscillator comparison runs. -/
  tested : Option Bool := none
  sealedOnce : Bool := false
  oscRun : Bool := false
  /-- Sources newly latched or momentary since they were last evaluated (R483), and feedback channels in mismatch. -/
  fresh : Nat := 0
  fbBad : Nat := 0
  /-- By requester: UNLOCK steps done (R506) and, after the second, when it came. -/
  unlock : FMap Nat := []
  unlockAt : FMap Nat := []
  /-- The last watchdog value, when it came, and services in a row since the miss, up to 2 (R482, R484). -/
  wdLast : Nat := 0
  wdAt : Nat := 0
  wdOk : Nat := 0
  /-- A service was missed and none has come since (R482). -/
  wdMissed : Bool := false
  /-- By pair: one more than the start of the disagreement (R490); pairs whose present disagreement has latched, pairs in
  DISC_FAULT, those of them whose channels have since been in demand together, pairs that have not passed their start-up
  test, and those of them seen in demand together (R491). -/
  discAt : FMap Nat := []
  discDone : Nat := 0
  discFault : Nat := 0
  discBoth : Nat := 0
  startPend : Nat := 255
  startBoth : Nat := 0
  /-- When the reset edge came that waits for feedback (R486), when RELEASING began (R487), and whether NW_RST was held
  too long (R485). -/
  edgeAt : Option Nat := none
  relAt : Nat := 0
  stuck : Bool := false
  /-- The test pulse in progress with its start, the end of the last test window, the channel tested last and when PERMIT
  or the last pulse began (R492). -/
  test : Option (Nat × Nat) := none
  testEnd : Nat := 0
  lastTest : Nat := 3
  testAt : Nat := 0
  /-- Bays whose Eclipse release was cleared since the last frame start (R503). -/
  eclRestore : Nat := 0
  deriving DecidableEq, Repr

/-- A decimation chain (R513): the integrators and combs of its sinc stage, the delay lines of its FIR stages, newest first; the
modulator cycle at which its output grid began, and the samples completed since (R520, R530). -/
structure DecX where
  integ : List Int := []
  comb : List Int := []
  lines : FMap (List Int) := []
  grid : Nat := 0
  count : Nat := 0
  deriving DecidableEq, Repr

/-- The monitor beside its registers (R511 to R533). -/
structure MonX where
  /-- By channel: samples of the settling still to come, CH_EXC in force; as masks: channels whose last sample was OPEN,
  OVERRANGE or CURVE_RANGE, and those in HIGH_Z. -/
  settle : FMap Nat := []
  exc : FMap Word := []
  openM : Nat := 0
  overM : Nat := 0
  rangeM : Nat := 0
  highZ : Nat := 0
  /-- The dwell in progress, if any: its channel; the comparison phase runs; the entry acts as three-wire; the modulator cycle at
  which the dwell began; the valid codes of the own phase, and how many of the comparison phase have been paired (R519 to R521). -/
  dwell : Option Nat := none
  comp : Bool := false
  three : Bool := false
  start : Nat := 0
  own : List Int := []
  paired : Nat := 0
  /-- FIR coefficients written, by preset, stage and tap (R534): 512 preset + 64 stage + tap. -/
  coefs : FMap (Option Nat) := []
  /-- The decimation chains of M0, M1 and M2 (R513). -/
  chains : FMap DecX := []
  /-- By channel: one more than the modulator cycle at which its last impedance check began (R527). -/
  impAt : FMap Nat := []
  deriving DecidableEq, Repr

/-- What a comparison with a threshold keeps (R547): whether it is exceeded, and the samples in a row above it and at or
below it less the hysteresis. -/
structure ThresX where
  on : Bool := false
  up : Nat := 0
  down : Nat := 0
  deriving DecidableEq, Repr

/-- A thermal node (R545, R547): its two thresholds, samples in a row far from and near to its diode. -/
structure NodeX where
  thr : ThresX := {}
  crit : ThresX := {}
  far : Nat := 0
  near : Nat := 0
  deriving DecidableEq, Repr

/-- The thermal manager beside its registers (R543 to R556). -/
structure ThermX where
  nodes : FMap NodeX := []
  power : ThresX := {}
  badDiodes : Nat := 0
  /-- The last sample, ns; samples in a row with no node near its threshold; the time throttled, us. -/
  lastAt : Nat := 0
  cool : Nat := 0
  throttledUs : Nat := 0
  /-- The end of the grace that runs, ns. -/
  graceEnd : Option Nat := none
  /-- What exceeded its threshold when the grace started: the nodes by bit, the power ceiling as bit 24 (R555). -/
  graceFor : Nat := 0
  /-- Whether the first frame start of R553 has come, the end of its 1 s, and whether holdover and quarantines were seen. -/
  served : Bool := false
  guardTo : Nat := 0
  sawHold : Bool := false
  sawQuar : Nat := 0
  deriving DecidableEq, Repr

/-- A slot of the Almanac ring (R577, R581): a record, or one torn by a power loss with the free value its bytes follow. -/
inductive RingSlot where
  | empty
  | valid (r : AlmRec)
  | torn (f : Nat)
  deriving DecidableEq, Repr

/-- The Almanac recorder beside its registers (R578 to R581): the ring in MRAM by slot, when the flush in progress started
and when the last one ended, ns, and whether a loss since the last RECORDS_LOST was raised. -/
structure AlmX where
  ring : FMap RingSlot := []
  /-- The boot's ring scan has run, so that records have their final numbers (R581). -/
  scanned : Bool := false
  /-- Nightwatch's own records that the control complex has not taken yet, at most 16, oldest first (R582). -/
  nwHeld : List AlmRec := []
  flushAt : Nat := 0
  /-- Records that the flush in progress has written so far. -/
  flushed : Nat := 0
  lastFlush : Nat := 0
  lossRaised : Bool := false
  /-- The task step in progress at the power-fail warning: its slot and the steps committed before it (R580). -/
  pfwStep : Option (Nat × Nat) := none
  deriving DecidableEq, Repr

/-- MRAM outside the Almanac (R575), bytes by offset, and what the firmware keeps in FW_DATA and CAL in a form of its own:
converter tables (R149), slice corrections and range-zero offsets (R605), reserve assignments (R589), boot count, boot
preference with whether it was written (R564, R566), and the ageing baselines. -/
structure MramX where
  bytes : FMap Nat := []
  tables : FMap (List Nat) := []
  slices : FMap SliceCorr := []
  rz : FMap Int := []
  preferB : Bool := false
  boots : Nat := 0
  /-- The flash offset of the last kernel bundle accepted (R608). -/
  kernelOff : Option Nat := none
  /-- Reserve assignments in effect, by kind and unit replaced, and RESERVE_GEN (R589, R593). -/
  swaps : List (Nat × Nat) := []
  reserveGen : Nat := 0
  deriving DecidableEq, Repr

/-- The reserve manager beside its registers (R590, R595): wear indicators that have reached their threshold and not been
acted on, by kind and unit, and the pages on which a BIST is still to be submitted, by number. -/
structure ResX where
  due : List (Nat × Nat) := []
  bist : List Nat := []
  /-- When the ageing sensors were read and BISTs submitted last, ns; the sensors found above LIMIT, by bit (R590, R595). -/
  ageAt : Nat := 0
  bistAt : Nat := 0
  aged : Nat := 0
  deriving DecidableEq, Repr

/-- Where a boot stands beside BOOT_STATUS (R599 to R611): POR_N has been released; the reference has been measured since the
cold reset; the boot follows a warm reset; RECOVERY was entered and no boot has completed since. -/
structure BootX where
  released : Bool := false
  measured : Bool := false
  warm : Bool := false
  recovered : Bool := false
  deriving DecidableEq, Repr

/-- A flash operation in progress (R587): its code, its address, and the words to program. -/
structure FlashX where
  bytes : FMap Nat := []
  op : Option (Nat × Nat × List Nat) := none
  deriving DecidableEq, Repr

/-- The security engine beside its registers (R560 to R574). The frame key is known by its KEY_ID; OTP holds the owner key
hashes (slot states and counters stand in SEC.STATUS and SEC.ROLLBACK). -/
structure SecX where
  meas : List Nat := [0, 0, 0, 0]
  /-- The measurement log: register, TYPE, VERSION, d, Meridian ns. -/
  log : List (Nat × Nat × Nat × Nat × Nat) := []
  challenge : Nat := 0
  quotePend : Option (List Nat) := none
  quote : List Nat := []
  fkPend : Bool := false
  fkStatement : List Nat := []
  keyFault : Bool := false
  ownerHash : List Nat := [0, 0, 0, 0]
  /-- ROLLBACK of the running firmware, of the active bank's sections and, once it switches, the next bank's with their
  digests (R567, R569). -/
  fwRollback : Nat := 0
  kernRollback : Nat × Nat := (0, 0)
  kernNext : List (Nat × Nat × Nat × Nat) := []
  /-- The bundle buffer: payload, its length and its section's ROLLBACK (R566). -/
  bundle : FMap Nat := []
  bundleLen : Nat := 0
  bundleRollback : Option Nat := none
  deriving DecidableEq, Repr

/-- The addressing of a UDP datagram (R400, R413, R414, R435): VLAN tag, own MAC and destination MAC, IP version and addresses,
source and destination port. What no rule states for the datagram is none. -/
structure UdpX where
  vlan : Option Nat
  mac : Nat
  destMac : Option Nat
  v6 : Bool
  src : Nat
  dst : Nat
  srcPort : Option Nat
  dstPort : Nat
  deriving DecidableEq, Repr

/-- What the block has sent, newest last. Words are as the receiver sees them. -/
inductive Out where
  /-- An MSI-X message of a vector (R83). -/
  | msi (vector : Nat)
  /-- An interrupt notification packet on an Ethernet port (R82, R414): where it goes and the packet as its bytes. -/
  | notify (port : Nat) (udp : UdpX) (bytes : List Nat)
  /-- A Krylink message on a chain port, as its bytes (R440). -/
  | krylink (port : Nat) (bytes : List Nat)
  /-- 66-bit blocks of a lane, each as its bits in the order they are sent, bit 0 first (R416). -/
  | blocks (lane : Nat) (wire : List (BitVec 66))
  /-- SLEEP_NOTICE blocks of a lane (R407, R426). -/
  | sleepNotice (lane count : Nat)
  /-- A TRAIN block of a lane with its ACK bit (R421). -/
  | train (lane : Nat) (ack : Bool)
  /-- One transmitted bit of a lane inverted (R431). -/
  | invertBit (lane : Nat)
  /-- A request to retrain the PCIe link at a highest rate (R434). -/
  | linkRetrain (speed : Nat)
  /-- The answer to an ARP request or a neighbour solicitation (R411). -/
  | arpReply (port : Nat) (addr : List Word) (mac : Nat) (vlan : Option Nat)
  /-- A gPTP message (R464): its kind (Pdelay_Req 0, Pdelay_Resp 1, Pdelay_Resp_Follow_Up 2) and its time, ns. -/
  | ptp (port kind seq time : Nat)
  /-- The value a register read returned to its requester. -/
  | value (req : Requester) (data : Word)
  /-- A write into host memory over PCIe: address and words (R399). -/
  | dma (addr : Nat) (words : List Word)
  /-- A UDP datagram of whole packets on an Ethernet port (R400). -/
  | datagram (port : Nat) (udp : UdpX) (packets : List Packet)
  /-- A transfer on a Starline wire: its bit period in ns and its words, coded on the line as `starLine` says (R194, R195). -/
  | starline (wire bitNs : Nat) (words : List Nat)
  /-- The apply pulse on the four Starline wires: high for 4.0 us from `t`, ns (R194, R199). -/
  | applyPulse (t : Nat)
  /-- A launched burst's trigger edges on a port: reference in ticks, slots, width code (R163). -/
  | burst (port : Nat) (ref : Nat) (slots : List Nat) (width : Nat)
  /-- The 100 ns pulse on SYNC0 at a frame start (R221). -/
  | sync0 (t : Nat)
  /-- A register-access response (R86, R413): where it goes and the response as its bytes. -/
  | ra (port : Nat) (udp : UdpX) (bytes : List Nat)
  deriving DecidableEq, Repr

/-- What the last request executed from a source address was answered (R87): none until the answer is known. -/
structure AnsX where
  src : Nat
  seq : Nat
  op : Nat
  answer : Option (Nat × List (Word × Word)) := none
  deriving DecidableEq, Repr

/-- What an Ethernet port keeps (R411, R414, R415): the end of a PAUSE, ns, the responses held while its link is down, and the
number of the next notification. -/
structure NetX where
  pausedUntil : Nat := 0
  held : List Out := []
  notifySeq : Nat := 0
  deriving DecidableEq, Repr

/-- Everything the block holds but the queue of commands. -/
structure Dev where
  /-- The register file: every register of every page, status registers included, keyed `regKey` (R616, R619). -/
  regs : FMap Word := []
  /-- The Meridian counter (R19, R125), in ns, and whether it runs. -/
  now : Nat := 0
  running : Bool := false
  /-- What each page keeps beside its registers, keyed by `Page.num` (R55, R60). -/
  pages : FMap PageX := []
  /-- What is kept for each requester, keyed by its code (R43, R66). -/
  reqs : FMap ReqX := []
  /-- The number of the last group of commits latched together (R62). -/
  commitNo : Nat := 0
  /-- Task slots, the queue of submitted tasks and the running ones, both in GO order, and the slot that stepped last
  (R70, R71). -/
  tasks : FMap TaskX := []
  taskQueue : List Nat := []
  taskRun : List Nat := []
  taskLast : Nat := 15
  /-- Reports on their way up (R78), oldest first. -/
  reports : List Report := []
  /-- Pixel data losses already escalated: page number, cause bit and frame number (R633). -/
  escalated : List (Nat × Nat × Nat) := []
  /-- When each page's ERR_FIRST was captured, ns, by page number (R80). -/
  firstAt : FMap Nat := []
  /-- The Almanac's staging buffer, oldest first, and the records dropped since the last RECORDS_LOST (R578). -/
  staging : List AlmRec := []
  lostSince : Nat := 0
  /-- Interrupt lines as last driven: the OR of each vector (mask), and the two pins (R83). -/
  vectors : Nat := 0
  int0 : Bool := false
  int1 : Bool := false
  /-- Return channels keyed 8 b + c, bays, converters keyed 17 b + i, slices keyed 8 b + s (R12, R98, R324). -/
  chans : FMap ChanX := []
  bays : FMap BayX := []
  convs : FMap ConvX := []
  slices : FMap SliceX := []
  /-- The reference qualifier and what follows the time base (R125 to R129). -/
  time : TimeX := {}
  /-- Ports and their range-zero trackers (R152 to R155, R163). -/
  ports : FMap PortX := []
  rz : FMap RzX := []
  /-- Emission control, the exposure ledger and scan control (R163, R207, R498). -/
  emit : EmitX := {}
  ledger : LedgerX := {}
  scan : ScanX := {}
  /-- The open column, and the frames that have not closed, oldest first (R223, R374). -/
  column : Option ColumnX := none
  frames : List FrameX := []
  /-- Histograms and ambient blocks by number, with the next number (R241, R350). -/
  hists : List (Nat × HistX) := []
  nextHist : Nat := 0
  ambs : List (Nat × AmbBlock) := []
  nextAmb : Nat := 0
  /-- Pools, engines, clusters, regions, the kernel banks and the output stream (R264, R281, R306, R371). -/
  pools : FMap PoolX := []
  engs : FMap EngX := []
  clus : FMap CluX := []
  regions : FMap RegionX := []
  kbank : KBankX := {}
  stream : StreamX := {}
  /-- Lanes, chain, PTP, the host controller and the Ethernet ports (R408, R411, R417, R435, R464). -/
  lanes : FMap LaneX := []
  chain : ChainX := {}
  ptp : PtpX := {}
  host : HostX := {}
  nets : FMap NetX := []
  /-- The last request executed from each source address, with its answer (R87). -/
  answered : List AnsX := []
  /-- Nightwatch, monitor, thermal manager, Almanac, MRAM, flash, security engine, reserves and boot (R478, R511, R543, R577, R575,
  R584, R560, R589, R603). -/
  nw : NwX := {}
  mon : MonX := {}
  therm : ThermX := {}
  alm : AlmX := {}
  mram : MramX := {}
  flash : FlashX := {}
  sec : SecX := {}
  res : ResX := {}
  boot : BootX := {}
  /-- The next free value (model's own, log 2). -/
  freeCtr : Nat := 0
  /-- What the block has sent. -/
  out : List Out := []
  deriving DecidableEq, Repr

/-- The state: the block and the commands that wait for it, first in first out. -/
structure State where
  dev : Dev
  pending : List Instr
  deriving DecidableEq, Repr

/-- The block right after a cold reset (R23, R24): every register at its reset value, nothing in progress. -/
def Dev.reset : Dev := {}

/-- The machine right after reset: the block after a cold reset and no command waiting. -/
def State.reset : State := { dev := Dev.reset, pending := [] }

/-- The outcome type of the meanings. -/
abbrev Res := Host.Outcome State Fault Refusal

end Sys2Proof.Machine
end

