-- ==== Sys2Proof/Machine/RegFile.lean ====
section
/-! DEFINITION. The register file: the reset word of every register (R23), the one place where a register or a
field of one is read or written, and the address map (R616). -/
namespace Sys2Proof

/-- PAGE_CAPS.SWITCHABLE (R45, R538 to R541): the page's domain can be powered down. -/
def Page.switchable : Page → Bool
  | .bay _ | .clu _ | .qtr _ | .lane _ | .scan => true
  | _ => false

/-- PAGE_CAPS.SHADOWED (R45): the page has a shadowed register. -/
def Page.shadowed : Page → Bool
  | .bay _ | .clu _ | .pool _ | .cal | .emit | .code | .scan | .sky | .chain => true
  | _ => false

/-- PAGE_CAPS.FRAME_BOUND (R45): shadowed settings apply only at frame starts. -/
def Page.frameBound : Page → Bool := Page.shadowed

/-- PAGE_CAPS.QUIESCE (R45). DEDUCED from the pages R632 describes (log 10). -/
def Page.quiesces : Page → Bool
  | .bay _ | .clu _ | .pool _ | .qtr _ => true
  | _ => false

/-- PAGE_CAPS.TASKS (R45): the page can be the target of a task (R140, R342, R394, R565, R576, R591, R595). -/
def Page.takesTasks : Page → Bool
  | .bay _ | .clu _ | .pool _ | .sec | .stream => true
  | .lane n => decide (6 ≤ n)
  | _ => false

/-- PAGE_ID.TYPE (R618). -/
def Page.type : Page → Nat
  | .lane _ => 0x20 | .qtr _ => 0x40 | .pool _ => 0x41 | .clu _ => 0x42 | .bay _ => 0x43
  | g => g.num

/-- PAGE_ID.INSTANCE (R618). -/
def Page.inst : Page → Nat
  | .lane n => n | .qtr q => q | .pool q => q | .clu k => k | .bay b => b
  | _ => 0

/-- 1 or 0. -/
def b2n (b : Bool) : Nat := if b then 1 else 0

/-- The PAGE_CAPS word (R45); no FEATURES bit is set (log 3). -/
def Page.caps (g : Page) : Nat :=
  b2n g.switchable * 2^31 + b2n g.shadowed * 2^30 + b2n g.quiesces * 2^29 + b2n g.takesTasks * 2^28
    + b2n g.frameBound * 2^27

/-- The base address of a page divided by 0x1000 (R616, R68). -/
def Page.base : Page → Nat
  | .qtr q => 0x100 + 0x20 * q
  | .pool q => 0x101 + 0x20 * q
  | .clu k => 0x102 + 0x20 * (k / 8) + k % 8
  | .bay b => 0x110 + 0x20 * (b / 12) + b % 12
  | g => g.num

end Sys2Proof

namespace Sys2Proof.Machine

/-- The page with number `n` among source numbers and page numbers (R81, R616). -/
def pageOfNum (n : Nat) : Option Page :=
  match n with
  | 0x00 => some .chip | 0x01 => some .task | 0x02 => some .irq | 0x03 => some .pwr | 0x04 => some .therm
  | 0x05 => some .time | 0x06 => some .chain | 0x07 => some .ptp | 0x08 => some .nw | 0x09 => some .mon
  | 0x0A => some .scan | 0x0B => some .emit | 0x0C => some .code | 0x0D => some .cal | 0x0E => some .sky
  | 0x0F => some .stream | 0x10 => some .comp | 0x11 => some .host | 0x12 => some (.net 0)
  | 0x13 => some (.net 1) | 0x14 => some .sec | 0x15 => some .alm | 0x16 => some .res | 0x17 => some .flash
  | n => if 0x20 ≤ n ∧ n < 0x2C then some (.lane (n - 0x20))
    else if 64 ≤ n ∧ n < 68 then some (.qtr (n - 64))
    else if 68 ≤ n ∧ n < 72 then some (.pool (n - 68))
    else if 96 ≤ n ∧ n < 128 then some (.clu (n - 96))
    else if 128 ≤ n ∧ n < 176 then some (.bay (n - 128))
    else none

/-- The parameter-set words at reset (R309, R310). -/
def psetReset (w : Nat) : Nat :=
  match w with
  | 0 => 0x05040201 | 1 => 0x00070603 | 2 => 80 * 65536 + 6 | 3 => 7 * 65536 + 4 * 256 + 4
  | 4 => 16 * 256 + 16 + 4 | 5 => 8 * 65536 + 192 * 256 + 128 | 6 => 65536 + 2 * 256 + 16 | 7 => 0 | 8 => 0
  | 9 => 48 * 256 + 60 | 10 => 8 * 2^24 + 25 * 65536 + 16
  | 11 => 128 * 2^24 + 128 * 65536 + 96 * 256 + 160
  | 12 => 3 * 2^24 + 8 * 65536 + 32 * 256 + 16 | 13 => 270 | _ => 0

/-- The reset FACTOR of PILEUP point `i` (R366). -/
def pileupFactor (i : Nat) : Nat := [4096, 4551, 5120, 5851, 6827, 8192, 10240, 13653].getD i 0

/-- The node of diode `d` (R545). -/
def diodeNode (d : Nat) : Nat := [1, 3, 4, 6, 9, 10, 13, 14, 17, 19, 20, 22].getD d 0

/-- Reset words that depend on an index (R309, R366, R302, R304, R509, R535: PRESET of channels 0 and 1, R557, R558); ROLE of a lane as no swap has changed it (R406, R433). -/
def indexedReset (g : Page) (off : Nat) : Option Nat :=
  match g with
  | .sky => if 0x100 ≤ off ∧ off < 0x154 then some (4095 * ((off - 0x100) / 4) / 20)
    else if 0x200 ≤ off ∧ off < 0x800 then
      let i := (off - 0x200) % 0x20 / 4
      some (1600 * i * 65536 + pileupFactor i)
    else none
  | .therm => if 0x200 ≤ off ∧ off < 0x230 then some (diodeNode ((off - 0x200) / 4) * 65536) else none
  | .mon => if off = 0x100 ∨ off = 0x110 then some 0x8000 else none
  | .pwr => if off = 0x4C then some 0xF else none
  | .nw => if off = 0x0C0 then some (255 * 256 + 7) else if off = 0x0C4 then some (255 * 256 + 14)
    else if off = 0x0C8 then some (255 * 256 + 24) else none
  | .lane n => if off = 0x44 then
      some (2^28 + (if n < 6 then 3 else (n - 6) % 3) * 2^22) else none
  | .clu _ => if 0x100 ≤ off ∧ off < 0x140 then some ((if off = 0x13C then 6 else 1) * 2^28) else if 0x400 ≤ off ∧ off < 0x800 then some (psetReset ((off - 0x400) % 0x80 / 4)) else none
  | _ => none

/-- The reset word of the register at `off` of page `g` (R23, R44 to R53). Header words that depend on the page
are computed; a page that is not switchable is on and enabled (log 3). -/
def resetWord (g : Page) (off : Nat) : Word :=
  if off = 0x00 then BitVec.ofNat 32 (g.type * 2^24 + g.inst * 4096 + 1)
  else if off = 0x04 then BitVec.ofNat 32 g.caps
  else if off = 0x08 then (if g.switchable then 0#32 else 2#32)
  else if off = 0x0C then (if g.switchable then 0#32 else 1#32)
  else match indexedReset g off with
    | some v => BitVec.ofNat 32 v
    | none => match regRow g off with
      | some r => BitVec.ofNat 32 r.reset
      | none => 0#32

/-- What an unwritten key of the register file reads as. A requester's own copy of a register (R43) lies above
2^20 and reads as the shared register's reset word. -/
def regDefault (k : Nat) : Word :=
  let k := k % 2^20
  match pageOfNum (k / 4096) with
  | some g => resetWord g (k % 4096)
  | none => 0#32

/-- A register of the region's parameter store (R307), SHADOW_CTRL of the CLU pages included. -/
def inStore (off : Nat) : Bool :=
  off == 0x2C || off == 0x68 || off == 0x70 || off == 0x74 || off == 0x88 || off == 0x8C || decide (0x400 ≤ off)

/-- Where a register is stored: the CLU pages of one region share the parameter store, and KBANK is one for the
device (R307). -/
def home (g : Page) (off : Nat) : Page :=
  match g with
  | .clu k => if off = 0x6C then .clu 0 else if inStore off then .clu (k / 8 * 8) else .clu k
  | g => g

/-- The key of a register. -/
def Reg.key (r : Reg) : Nat := regKey (home r.pg r.off) r.off

/-- The key of a requester's own copy of a register. -/
def Reg.keyOf (req : Requester) (r : Reg) : Nat := (req.code + 1) * 2^20 + r.key

/-- The register that holds a field. -/
def Fld.reg (f : Fld) : Reg := ⟨f.pg, f.off⟩

/-- Bits `lo` to `lo + len - 1` of a word. -/
def bits (w : Word) (lo len : Nat) : Nat := w.toNat / 2^lo % 2^len

/-- The word with bits `lo` to `lo + len - 1` replaced by `v` modulo 2^len. -/
def setBits (w : Word) (lo len v : Nat) : Word :=
  BitVec.ofNat 32 (w.toNat % 2^lo + (v % 2^len) * 2^lo + w.toNat / 2^(lo + len) * 2^(lo + len))

/-- A number of `len` bits read as two's complement. -/
def toSigned (len v : Nat) : Int := if v < 2^(len - 1) then (v : Int) else (v : Int) - (2^len : Nat)

/-- The two's complement of `len` bits of an integer, as a number. -/
def ofSigned (len : Nat) (v : Int) : Nat := (v % (2^len : Nat)).toNat

/-- Read a register. -/
def Dev.rd (s : Dev) (r : Reg) : Word := fget regDefault s.regs r.key
/-- Write a whole register. -/
def Dev.wr (s : Dev) (r : Reg) (w : Word) : Dev := { s with regs := fset regDefault s.regs r.key w }
/-- Read a field. -/
def Dev.gf (s : Dev) (f : Fld) : Nat := bits (s.rd f.reg) f.lo f.len
/-- Write a field; the register's other bits stay. -/
def Dev.sf (s : Dev) (f : Fld) (v : Nat) : Dev := s.wr f.reg (setBits (s.rd f.reg) f.lo f.len v)
/-- A field of one bit, as a Bool. -/
def Dev.on (s : Dev) (f : Fld) : Bool := s.gf f == 1
/-- Write a field of one bit. -/
def Dev.sb (s : Dev) (f : Fld) (b : Bool) : Dev := s.sf f (b2n b)
/-- Read a signed field. -/
def Dev.gi (s : Dev) (f : Fld) : Int := toSigned f.len (s.gf f)
/-- Write a signed field. -/
def Dev.si (s : Dev) (f : Fld) (v : Int) : Dev := s.sf f (ofSigned f.len v)
/-- Add to a counter that wraps. -/
def Dev.inc (s : Dev) (f : Fld) (n : Nat := 1) : Dev := s.sf f (s.gf f + n)
/-- Add to a counter that saturates at its highest value. -/
def Dev.incSat (s : Dev) (f : Fld) (n : Nat := 1) : Dev := s.sf f (min (s.gf f + n) (2^f.len - 1))

/-- Read a requester's own copy of a register (R43, R65). -/
def Dev.rdQ (s : Dev) (q : Requester) (r : Reg) : Word := fget regDefault s.regs (r.keyOf q)
/-- Write a requester's own copy of a register. -/
def Dev.wrQ (s : Dev) (q : Requester) (r : Reg) (w : Word) : Dev :=
  { s with regs := fset regDefault s.regs (r.keyOf q) w }
/-- Read a field of a requester's own copy. -/
def Dev.gfQ (s : Dev) (q : Requester) (f : Fld) : Nat := bits (s.rdQ q f.reg) f.lo f.len
/-- Write a field of a requester's own copy. -/
def Dev.sfQ (s : Dev) (q : Requester) (f : Fld) (v : Nat) : Dev :=
  s.wrQ q f.reg (setBits (s.rdQ q f.reg) f.lo f.len v)

/-- The page and offset at a register address, `none` where no page lies (R616, R617). -/
def decodeAddr (a : Nat) : Option (Page × Nat) :=
  let off := a % 4096
  let n := a / 4096
  if n < 0x18 ∨ (0x20 ≤ n ∧ n < 0x2C) then (pageOfNum n).map (fun g => (g, off))
  else if 0x100 ≤ n ∧ n < 0x180 then
    let q := (n - 0x100) / 0x20
    let w := (n - 0x100) % 0x20
    if w = 0 then some (.qtr q, off)
    else if w = 1 then some (.pool q, off)
    else if w < 10 then some (.clu (8 * q + (w - 2)), off)
    else if 0x10 ≤ w ∧ w < 0x1C then some (.bay (12 * q + (w - 0x10)), off)
    else none
  else none

/-- The bits of word `w` of a parameter set that are not reserved (R309, R310). -/
def psetMask (w : Nat) : Nat :=
  match w with
  | 3 => 0x7FFFF | 4 => 0xFF1F | 5 => 0xFFFFFF | 6 => 0x1FFFF | 9 => 0x1F01FFFF | 13 => 0xFFFF | 14 => 0 | 15 => 0
  | _ => 0xFFFFFFFF

/-- The bits of a register that a write stores (R21, R22). -/
def rwMask (g : Page) (off : Nat) : Nat :=
  match g with
  | .clu _ => if 0x400 ≤ off ∧ off < 0x800 then psetMask ((off - 0x400) % 0x80 / 4)
    else match regRow g off with | some r => r.rw | none => 0
  | g => match regRow g off with | some r => r.rw | none => 0

/-- A word with the bits of `m` taken from `w`. -/
def mergeBits (old w : Word) (m : Nat) : Word := (old &&& ~~~(BitVec.ofNat 32 m)) ||| (w &&& BitVec.ofNat 32 m)

/-- Store the RW and RWS bits of a write (R21, R22); the other bits keep what they hold. -/
def Dev.storeReg (s : Dev) (g : Page) (off : Nat) (w : Word) : Dev :=
  s.wr ⟨g, off⟩ (mergeBits (s.rd ⟨g, off⟩) w (rwMask g off))

/-- The key-value store of what pages keep beside their registers. -/
def pageX0 (_ : Nat) : PageX := {}
/-- What a page keeps. The CLU pages of a region share their shadow set, which its first CLU page keeps. -/
def Dev.px (s : Dev) (g : Page) : PageX := fget pageX0 s.pages g.num
/-- Change what a page keeps. -/
def Dev.setPx (s : Dev) (g : Page) (x : PageX) : Dev := { s with pages := fset pageX0 s.pages g.num x }

/-- The next free value of the model and the state after it was taken (log 2). -/
def Dev.free (s : Dev) : Nat × Dev := (Config.free s.freeCtr, { s with freeCtr := s.freeCtr + 1 })

/-- The page and offset of a key of the register file. -/
def keyPage (k : Nat) : Option Page := pageOfNum (k % 2^20 / 4096)

/-- A register belongs to a page: its own, or the parameter store that the CLU pages of a region share (R307). -/
def ofPage (g h : Page) (off : Nat) : Bool :=
  match g with
  | .clu k => (h == .clu k && !(inStore off) && off != 0x6C) || (h == .clu (k / 8 * 8) && inStore off)
      || (h == .clu 0 && off == 0x6C)
  | g => g == h

/-- The registers of a page as they stand, by offset; one not listed reads its reset word. -/
def Dev.pageWords (s : Dev) (g : Page) : FMap Word :=
  (s.regs.filter (fun e => decide (e.1 < 2^20) && (match keyPage e.1 with | some h => ofPage g h (e.1 % 4096) | none => false))).foldl
    (fun m e => fset (resetWord g) m (e.1 % 4096) e.2) []

/-- Freeze what the registers of a page that is no longer ON read (R56). -/
def Dev.freeze (s : Dev) (g : Page) : Dev := s.setPx g { s.px g with frozen := some (s.pageWords g) }

/-- A page that reads ON shows its registers again. -/
def Dev.thaw (s : Dev) (g : Page) : Dev := if (s.px g).frozen.isNone then s else s.setPx g { s.px g with frozen := none }

/-- A register of a page that is not ON as it was frozen; of a page that has not been ON since its reset, as it stands. -/
def Dev.frozenRd (s : Dev) (g : Page) (off : Nat) : Word :=
  match (s.px g).frozen with
  | some m => fget (resetWord g) m off
  | none => s.rd ⟨g, off⟩

/-- Append to what the block has sent. -/
def Dev.send (s : Dev) (o : Out) : Dev := { s with out := s.out ++ [o] }

/-- Fold over the numbers below `n`, lowest first. -/
def forN {α : Type} (n : Nat) (f : Nat → α → α) : α → α :=
  match n with
  | 0 => id
  | n + 1 => fun a => f n (forN n f a)

/-- Whether bit `i` of a number is 1. -/
def bit (n i : Nat) : Bool := n / 2^i % 2 == 1
/-- Set or clear bit `i` of a number. -/
def setBit (n i : Nat) (b : Bool) : Nat :=
  if bit n i == b then n else if b then n + 2^i else n - 2^i

end Sys2Proof.Machine
end

