-- ==== Sys2Proof/Machine/Flags.lean ====
section
/-! DEFINITION. Errors, events, interrupt lines and Almanac records: every flag computation the page headers share
(R48 to R51, R77 to R83, R577 to R579, R633). -/
namespace Sys2Proof

/-- The page one level up, to which a page's reports go (R78). -/
def Page.parent : Page → Option Page
  | .bay b => some (.qtr (b / 12))
  | .clu k => some (.qtr (k / 8))
  | .pool q => some (.qtr q)
  | .chip => none
  | _ => some .chip

/-- SOURCE of a LOWER capture that names this page (R49). -/
def Page.sourceBelow : Page → Nat
  | .bay b => b % 12
  | .clu k => 16 + k % 8
  | .pool _ => 32
  | g => g.num

end Sys2Proof

namespace Sys2Proof.Machine

/-- The moment of capture in units of 1,024 ns, modulo 65,536 (R49). -/
def Dev.captureTime (s : Dev) : Nat := s.now / 1024 % 65536

/-- Set a page event in IRQ_STATUS (R51). -/
def Dev.event (s : Dev) (e : Event) : Dev := s.sf ⟨e.pg, 0x20, e.bit, 1⟩ 1
/-- IRQ_STATUS.STATE: POWER or RUN changed (R51). -/
def Dev.stateEvent (s : Dev) (g : Page) : Dev := s.sf ⟨g, 0x20, 30, 1⟩ 1
/-- IRQ_STATUS.COMMIT: a shadow commit applied (R51). -/
def Dev.commitEvent (s : Dev) (g : Page) : Dev := s.sf ⟨g, 0x20, 29, 1⟩ 1

/-- A word in the layout of ERR_FIRST with VALID = 1 (R49, R633). -/
def errWord (sev : Severity) (code source time : Nat) : Nat :=
  2^31 + sev.val * 2^29 + code % 32 * 2^24 + source % 256 * 2^16 + time % 65536

/-- A 64-bit value held in two registers, low word first. -/
def Dev.g64 (s : Dev) (lo hi : Fld) : Nat := s.gf lo + s.gf hi * 2^32
/-- Write a 64-bit value into two registers. -/
def Dev.s64 (s : Dev) (lo hi : Fld) (v : Nat) : Dev := (s.sf lo (v % 2^32)).sf hi (v / 2^32 % 2^32)

/-- TAI of a Meridian time under the mapping in force (R462). -/
def Dev.tai (s : Dev) (m : Nat) : Nat :=
  let d : Int := (m : Int) - (s.g64 F.TIME_M_BASE_LO_NS F.TIME_M_BASE_HI_NS : Nat)
  ofSigned 64 ((s.g64 F.TIME_TAI_BASE_LO_NS F.TIME_TAI_BASE_HI_NS : Nat) + d + d * s.gi F.TIME_RATE_RATE / (2^40 : Nat))

/-- The TAI time when TAI_VALID is 1, else the Meridian time, with the scale bit (R577, R466). -/
def Dev.almTime (s : Dev) : Nat × Bool :=
  if s.on F.TIME_CAL_CTRL_TAI_VALID then (s.tai s.now, false) else (s.now, true)

/-- Slots of the ring (R581). -/
def almSlots : Nat := 131072

/-- Default of the ring. -/
def slot0 (_ : Nat) : RingSlot := .empty

/-- Put a record into its ring slot. -/
def Dev.toRing (s : Dev) (r : RingSlot) (seq : Nat) : Dev :=
  let m := fset slot0 s.alm.ring (seq % almSlots) r
  { s with alm := { s.alm with ring := m } }

/-- FLUSHED_SEQ with what follows from it (R581, R582). -/
def Dev.setFlushed (s : Dev) (q : Nat) : Dev :=
  ((s.sf F.ALM_FLUSHED_SEQ_SEQ q).sf F.ALM_OLDEST_SEQ_SEQ (q - almSlots)).sf F.ALM_WRAPS_COUNT (q / almSlots)

/-- The first `n` staged records are in MRAM (R579, R586). -/
def Dev.flushN (s : Dev) (n : Nat) : Dev :=
  if n = 0 then s
  else
    let s' := (s.staging.take n).foldl (fun (s : Dev) r => s.toRing (.valid r) r.seq) s
    let l := s.staging.drop n
    let k := s.alm.flushed + (s.staging.length - l.length)
    let q := (s.gf F.ALM_FLUSHED_SEQ_SEQ + (s.staging.length - l.length)) % 2^32
    (({ s' with staging := l, alm := { s'.alm with flushed := k } }).setFlushed q).sf F.ALM_STATUS_STAGED l.length

/-- Records that the flush in progress has had the time to write since it last moved any, at 0.6 us each (R579). -/
def Dev.flushReady (s : Dev) : Nat :=
  if s.on F.ALM_STATUS_FLUSHING then (s.now - s.alm.flushAt) / 600 - s.alm.flushed else 0

/-- The flush in progress has written what its time allows; its last record is written as it ends. -/
def Dev.flushSync (s : Dev) : Dev := s.flushN (min s.flushReady (s.staging.length - 1))

/-- Start a flush if none is in progress (R579); with nothing staged it completes at once as an empty flush. Before the
boot's ring scan records have no final number, and a flush waits (R581). -/
def Dev.startFlush (s : Dev) : Dev :=
  if s.on F.ALM_STATUS_FLUSHING ∨ s.alm.scanned = false then s
  else if s.staging.isEmpty then ({ s with alm := { s.alm with lastFlush := s.now } }.inc F.ALM_FLUSHES_COUNT).event E.ALM_FLUSH_DONE
  else { s with alm := { s.alm with flushAt := s.now, flushed := 0 } }.sb F.ALM_STATUS_FLUSHING true

/-- Put a record into the staging buffer with the next SEQ (R578). -/
def Dev.enter (s : Dev) (r : AlmRec) : Dev :=
  let seq := s.gf F.ALM_NEXT_SEQ_SEQ
  let s := { s with staging := s.staging ++ [{ r with seq := seq }] }
  let s := s.sf F.ALM_NEXT_SEQ_SEQ (seq + 1)
  let s := s.sf F.ALM_STATUS_STAGED s.staging.length
  if s.staging.length ≥ 1024 ∨ r.sev.val ≥ 2 then s.startFlush else s

/-- A record of the present moment, without its SEQ (R577). -/
def Dev.newRec (s : Dev) (code : Nat) (sev : Severity) (source p0 p1 p2 : Nat) : AlmRec :=
  AlmRec.mk 0 code sev s.almTime.2 source s.almTime.1 (p0 % 2^32) (p1 % 2^32) (p2 % 2^32)

/-- A record of the present moment enters the staging buffer (R577, R578). -/
def Dev.stage (s : Dev) (code : Nat) (sev : Severity) (source p0 p1 p2 : Nat) : Dev :=
  s.enter (s.newRec code sev source p0 p1 p2)

/-- Whether the buffer has room for a record of this severity (R578). -/
def Dev.almRoom (s : Dev) (sev : Severity) : Bool :=
  if sev = .info then decide (s.staging.length < 1984) else decide (s.staging.length < 2048)

/-- A record finds its place in the staging buffer (R578): dropped and counted where there is no room; once room returns one
RECORDS_LOST record carries the count. -/
def Dev.admitRec (s : Dev) (r : AlmRec) : Dev :=
  let s := s.flushSync
  if s.almRoom r.sev then
    let s := if s.lostSince > 0 ∧ s.almRoom .info then
        { s.stage 0x0005 .degraded Page.alm.base s.lostSince 0 0 with lostSince := 0, alm := { s.alm with lossRaised := false } } else s
    if s.almRoom r.sev then s.enter r
    else { s.inc F.ALM_LOST_COUNT with lostSince := s.lostSince + 1 }
  else { s.inc F.ALM_LOST_COUNT with lostSince := s.lostSince + 1 }

/-- The firmware does not run: STAGE reads ROM (0) or RECOVERY (3). -/
def Dev.noFirmware (s : Dev) : Bool := s.gf F.CHIP_BOOT_STATUS_STAGE == 0 || s.gf F.CHIP_BOOT_STATUS_STAGE == 3

/-- Nightwatch's own event codes (R583). -/
def nwCode (code : Nat) : Bool := decide (0x30 ≤ code ∧ code ≤ 0x34)

/-- Write an Almanac record (R578). While no firmware takes them Nightwatch keeps its own, up to 16 of them (R582, log 58); in
RECOVERY no other is written (R610). -/
def Dev.record (s : Dev) (code : Nat) (sev : Severity) (source : Nat) (p0 p1 p2 : Nat := 0) : Dev :=
  let r := s.newRec code sev source p0 p1 p2
  if s.noFirmware && nwCode code then
    if s.alm.nwHeld.length < 16 then { s with alm := { s.alm with nwHeld := s.alm.nwHeld ++ [r] } } else s
  else if s.gf F.CHIP_BOOT_STATUS_STAGE = 3 then s
  else s.admitRec r

/-- The control complex takes the records Nightwatch kept, in order (R582). -/
def Dev.takeNwRecords (s : Dev) : Dev :=
  s.alm.nwHeld.foldl Dev.admitRec { s with alm := { s.alm with nwHeld := [] } }

/-- The causes whose lost data the point stream reports (R633). -/
def pixelLoss (g : Page) (bit : Nat) : Bool :=
  let is (c : Cause) : Bool := c.pg == g && c.bit == bit
  match g with
  | .bay b => is (C.BAY_TIMEOUT_STORM b) || is (C.BAY_COMP_STUCK b) || is (C.BAY_SELFCHECK_FAIL b)
      || is (C.BAY_POOL_REFUSED b) || is (C.BAY_ENGINE_LATE b) || is (C.BAY_BUILDER_FAULT b)
  | .pool q => is (C.POOL_ECC_UNCORRECTED q) || is (C.POOL_POOL_FAULT q)
  | .qtr q => is (C.QTR_FABRIC_FAULT q) || is (C.QTR_DISPATCH_FAULT q) || is (C.QTR_NO_ENGINES q)
  | .clu k => is (C.CLU_ENGINE_TRAP k) || is (C.CLU_KERNEL_BLOCKED k) || is (C.CLU_SHARED_ECC_UNCORRECTED k)
      || is (C.CLU_PARAM_MISMATCH k) || is (C.CLU_DISPATCH_PATH k)
  | .stream => is C.STREAM_STREAM_DISCARD || is C.STREAM_LATE_RECORDS || is C.STREAM_DEADLINE_CLOSE
      || is C.STREAM_FORWARD_DISCARD
  | _ => false

/-- ERR_FIRST takes an error (R80): nothing is held, or what is held was recorded in the same cycle with a lower severity, or
with the same one and a higher CODE. -/
def Dev.firstTakes (s : Dev) (g : Page) (bit : Nat) (sev : Severity) : Bool :=
  !(s.on (F.ERR_FIRST_VALID g)) || (s.running && fget (fun _ => 0) s.firstAt g.num == s.now &&
    (decide (s.gf (F.ERR_FIRST_SEVERITY g) < sev.val) ||
      (s.gf (F.ERR_FIRST_SEVERITY g) == sev.val && decide (bit < s.gf (F.ERR_FIRST_CODE g)))))

/-- Capture an error in ERR_FIRST (R49). -/
def Dev.captureFirst (s : Dev) (g : Page) (bit : Nat) (sev : Severity) (source : Nat) : Dev :=
  { s.wr (R.ERR_FIRST g) (BitVec.ofNat 32 (errWord sev bit source s.captureTime)) with
    firstAt := fset (fun _ => 0) s.firstAt g.num s.now }

/-- Record an error in a page's ERR_STATUS, ERR_COUNT and ERR_FIRST (R48 to R50, R80). -/
def Dev.recordError (s : Dev) (g : Page) (bit : Nat) (sev : Severity) (source : Nat) : Dev :=
  let s := s.sf ⟨g, 0x10, bit, 1⟩ 1
  let s := s.incSat (F.ERR_COUNT_ALL g)
  let s := if sev.val ≥ 2 then s.incSat (F.ERR_COUNT_SEVERE g) else s
  if s.firstTakes g bit sev then s.captureFirst g bit sev source else s

/-- Whether an error of this severity passes the page's ERR_ENABLE upward (R79). -/
def Dev.escalates (s : Dev) (g : Page) (bit : Nat) (sev : Severity) : Bool :=
  decide (sev.val ≥ 2) || s.on ⟨g, 0x14, bit, 1⟩

/-- The ERROR_ESCALATED record of an error that has reached the CHIP page (R633). -/
def Dev.writeEscalated (s : Dev) (r : Report) : Dev :=
  if r.sev.val ≥ 2 ∧ r.esc then s.record 0x0010 r.sev r.origin.base r.origin.base r.bit r.word else s

/-- Whether an ERROR_ESCALATED record is due: for a pixel data loss only for the first of its page and cause in a
frame (R633). -/
def Dev.escalationDue (s : Dev) (g : Page) (bit : Nat) : Bool :=
  !(pixelLoss g bit) || !(s.escalated.contains (g.num, bit, s.gf F.SCAN_FRAME_NUM_FRAME))

/-- Detect an error of bit `bit` and severity `sev` in page `g` (R78, R79): recorded in the page, reported one level
up; Nightwatch sees an UNSAFE bit itself (R482, Machine/Nightwatch.lean). -/
def Dev.raiseBit (s : Dev) (g : Page) (bit : Nat) (sev : Severity) (source : Nat) : Dev :=
  let word := errWord sev bit source s.captureTime
  let due := s.escalationDue g bit
  let frame := s.gf F.SCAN_FRAME_NUM_FRAME
  let s := s.recordError g bit sev source
  let s := if pixelLoss g bit ∧ due ∧ sev.val ≥ 2 then
      { s with escalated := (g.num, bit, frame) :: s.escalated.filter (fun e => e.2.2 == frame) } else s
  let r : Report := ⟨g, bit, word, sev, g, due, none⟩
  match g.parent with
  | none => s.writeEscalated r
  | some _ => if s.escalates g bit sev then { s with reports := s.reports ++ [r] } else s

/-- A channel or engine of a BAY or CLU page detects an error of that page's causes (R49, R78): it is recorded there, and its
report is on its way to the page, which will set LOWER with SOURCE the channel or engine. -/
def Dev.raiseCell (s : Dev) (c : Cause) (cell : Nat) : Dev :=
  let word := errWord c.sev c.bit cell s.captureTime
  let due := s.escalationDue c.pg c.bit
  let frame := s.gf F.SCAN_FRAME_NUM_FRAME
  let s := s.recordError c.pg c.bit c.sev cell
  let s := if pixelLoss c.pg c.bit ∧ due ∧ c.sev.val ≥ 2 then
      { s with escalated := (c.pg.num, c.bit, frame) :: s.escalated.filter (fun e => e.2.2 == frame) } else s
  { s with reports := s.reports ++ [⟨c.pg, c.bit, word, c.sev, c.pg, due, some cell⟩] }

/-- Detect the error `c` of the cause tables (R123 and the others). -/
def Dev.raise (s : Dev) (c : Cause) (source : Nat := 0) : Dev := s.raiseBit c.pg c.bit c.sev source

/-- A write or action was refused: ERR_STATUS.ACCESS (R48, R631). -/
def Dev.refuse (s : Dev) (g : Page) : Dev := s.raiseBit g 30 .info 0

/-- SOURCE of a LOWER capture of a report (R49): the channel or engine, or the page, that it comes from. -/
def Report.source (r : Report) : Nat := r.cell.getD r.at_.sourceBelow

/-- The page a report reaches next (R78): a channel's or engine's its own page, a page's the one a level up. -/
def Report.next (r : Report) : Option Page := if r.cell.isSome then some r.at_ else r.at_.parent

/-- A report reaches the page `g` one level up from `below`: LOWER is set with the reported severity, and the report
goes on upward (R78, R631). -/
def Dev.receiveReport (s : Dev) (g : Page) (r : Report) : Dev :=
  let s := s.recordError g 31 r.sev r.source
  let x := s.px g
  let u := x.lowerUnsafe || (r.sev == .unsafeSev && r.origin != .nw)
  let s := s.setPx g { x with lowerSev := max x.lowerSev r.sev.val, lowerUnsafe := u }
  match g.parent with
  | none => s.writeEscalated r
  | some _ => if s.escalates g 31 r.sev then { s with reports := s.reports ++ [{ r with at_ := g, cell := none }] } else s

/-- Deliver the oldest report one level up (R78). -/
def Dev.deliverReport (s : Dev) : Dev :=
  match s.reports with
  | [] => s
  | r :: rest =>
    let s := { s with reports := rest }
    match r.next with
    | some g => s.receiveReport g r
    | none => s

/-- IRQ_STATUS as it reads: ERR follows ERR_STATUS and ERR_ENABLE (R51). -/
def Dev.irqStatus (s : Dev) (g : Page) : Word :=
  setBits (s.rd (R.IRQ_STATUS g)) 31 1 (b2n (s.rd (R.ERR_STATUS g) &&& s.rd (R.ERR_ENABLE g) != 0#32))

/-- A page's interrupt line (R81). -/
def Dev.line (s : Dev) (g : Page) : Bool := s.irqStatus g &&& s.rd (R.IRQ_ENABLE g) != 0#32

/-- The routes that have been written: source number and ROUTE word (R81). -/
def Dev.routes (s : Dev) : List (Nat × Word) :=
  s.regs.filterMap (fun e =>
    if 0x2400 ≤ e.1 ∧ e.1 < 0x2400 + 176 * 4 then some ((e.1 - 0x2400) / 4, e.2) else none)

/-- The routed sources whose line is asserted, with their ROUTE word (R82). -/
def Dev.asserted (s : Dev) : List (Nat × Word) :=
  s.routes.filter (fun e => e.2.toNat / 2^31 == 1 &&
    match pageOfNum e.1 with | some g => s.line g | none => false)

/-- The vectors whose OR of routed lines is asserted, as a mask (R83). -/
def Dev.vectorMask (s : Dev) : Nat := s.asserted.foldl (fun m e => setBit m (bits e.2 0 6) true) 0

/-- An interrupt pin is asserted while any line routed to it is (R83). -/
def Dev.pinLevel (s : Dev) (n : Nat) : Bool := s.asserted.any (fun e => bit (bits e.2 28 2) n)

end Sys2Proof.Machine
end

