-- ==== Sys2Proof/Machine/Ops.lean ====
section
/-! DEFINITION. Shared operations over the block: the counter's advance to an event's instant, frames, checks. -/
namespace Sys2Proof.Machine

/-- An event with an instant of its own advances the counter to it (log 5). -/
def Dev.advanceTo (s : Dev) (t : Nat) : Dev := if s.running then { s with now := max s.now t } else s

/-- Present time in ticks of 1/256 ns (R17). -/
def Dev.tick (s : Dev) : Nat := s.now * 256

/-- The bytes of a word, least significant first. -/
def wordBytes (w : Word) : List Nat :=
  [w.toNat % 256, w.toNat / 256 % 256, w.toNat / 65536 % 256, w.toNat / 2^24]

/-- A number as `n` bytes, most significant first. -/
def bytesBE : Nat → Nat → List Nat
  | 0, _ => []
  | n + 1, v => v / 256^n % 256 :: bytesBE n v

/-- Eight steps of the CRC of R372 (polynomial x^16 + x^12 + x^5 + 1, MSB first). -/
def crc16Bits : Nat → Nat → Nat
  | 0, c => c
  | n + 1, c => crc16Bits n (if c ≥ 0x8000 then Nat.xor (c * 2 % 65536) 0x1021 else c * 2)

/-- The CRC-16 of R372 over bytes, from an initial value. -/
def crc16 (init : Nat) (bs : List Nat) : Nat := bs.foldl (fun c b => crc16Bits 8 (Nat.xor c (b * 256))) init

/-- Eight steps of the reflected CRC-32 of IEEE 802.3. -/
def crc32Bits : Nat → Nat → Nat
  | 0, c => c
  | n + 1, c => crc32Bits n (if c % 2 = 1 then Nat.xor (c / 2) 0xEDB88320 else c / 2)

/-- CRC-32 of IEEE 802.3 (R508, R577). -/
def crc32 (bs : List Nat) : Nat :=
  Nat.xor (bs.foldl (fun c b => crc32Bits 8 (Nat.xor c b)) 0xFFFFFFFF) 0xFFFFFFFF

/-- The chain address of this unit, 0 while none is assigned (R369). -/
def Dev.unit (s : Dev) : Nat := s.gf F.CHAIN_STATUS_ADDR

/-- The frame with a number among those not closed. -/
def Dev.frame? (s : Dev) (f : Nat) : Option FrameX := s.frames.find? (fun x => x.num == f)

/-- Change the frame with a number; no frame, no change. -/
def Dev.modFrame (s : Dev) (f : Nat) (g : FrameX → FrameX) : Dev :=
  { s with frames := s.frames.map (fun x => if x.num == f then g x else x) }

/-- The frame in progress is the newest. -/
def Dev.curFrame (s : Dev) : Option FrameX := s.frames.getLast?

/-- A field in the settings in force for a frame (R248). -/
def FrameX.gf (x : FrameX) (f : Fld) : Nat := bits (fget regDefault x.regs f.reg.key) f.lo f.len
/-- A one-bit field in the settings in force for a frame. -/
def FrameX.on (x : FrameX) (f : Fld) : Bool := x.gf f == 1
/-- A signed field in the settings in force for a frame. -/
def FrameX.gi (x : FrameX) (f : Fld) : Int := toSigned f.len (x.gf f)

/-- A field in the settings in force for frame `f`; for a frame that has closed, the settings in force now. -/
def Dev.gfAt (s : Dev) (f : Nat) (x : Fld) : Nat :=
  match s.frame? f with
  | some fr => fr.gf x
  | none => s.gf x

/-- The unit is the Pole unit (R437). -/
def Dev.pole (s : Dev) : Bool := s.on F.CHAIN_CTRL_POLE

/-- The UTC offset in force (R463): under PTP the received one while it is valid. -/
def Dev.utcOffset (s : Dev) : Nat :=
  if s.pole ∧ s.on F.TIME_CAL_CTRL_SRC ∧ s.on F.PTP_STATUS_UTC_VALID then s.gf F.PTP_STATUS_UTC_OFFSET else s.gf F.TIME_UTC_OFFSET_OFFSET

/-- A is before or equal to B modulo 2^32 (frame and sequence numbers wrap, R371). -/
def leqMod (a b : Nat) : Bool := decide ((b + 2^32 - a) % 2^32 < 2^31)

/-- Fewest bits that hold a number (R384). -/
def width (n : Nat) : Nat := if n = 0 then 0 else Nat.log2 n + 1

/-- Default of a store of channels. -/
def chan0 (_ : Nat) : ChanX := {}
/-- A return channel: bay `b`, index `c`. -/
def Dev.chan (s : Dev) (b c : Nat) : ChanX := fget chan0 s.chans (8 * b + c)
/-- Replace a return channel. -/
def Dev.setChan (s : Dev) (b c : Nat) (x : ChanX) : Dev := { s with chans := fset chan0 s.chans (8 * b + c) x }
/-- Default of a store of bays. -/
def bay0 (_ : Nat) : BayX := {}
/-- A bay. -/
def Dev.bay (s : Dev) (b : Nat) : BayX := fget bay0 s.bays b
/-- Replace a bay. -/
def Dev.setBay (s : Dev) (b : Nat) (x : BayX) : Dev := { s with bays := fset bay0 s.bays b x }
/-- Default of the store of converters. -/
def conv0 (_ : Nat) : ConvX := {}
/-- Converter `i` of a bay: 2 c leading, 2 c + 1 trailing, 16 the spare. -/
def Dev.conv (s : Dev) (b i : Nat) : ConvX := fget conv0 s.convs (17 * b + i)
/-- Replace a converter. -/
def Dev.setConv (s : Dev) (b i : Nat) (x : ConvX) : Dev := { s with convs := fset conv0 s.convs (17 * b + i) x }
/-- The converter that timestamps an edge of channel `c` (R109, R142): its own, or the spare that serves it. -/
def Dev.convFor (s : Dev) (b c : Nat) (trailing : Bool) : Nat :=
  let i := 2 * c + b2n trailing
  if s.on (F.BAY_SPARE_STATUS_IN_USE b) ∧ s.gf (F.BAY_SPARE_STATUS_CH b) = c ∧ s.on (F.BAY_SPARE_STATUS_EDGE b) = trailing then 16
  else if (s.conv b i).detached ∧ (s.conv b i).standIn then 16
  else i

/-- Default of a store of ports. -/
def port0 (_ : Nat) : PortX := {}
/-- A port. -/
def Dev.port (s : Dev) (p : Nat) : PortX := fget port0 s.ports p
/-- Replace a port. -/
def Dev.setPort (s : Dev) (p : Nat) (x : PortX) : Dev := { s with ports := fset port0 s.ports p x }
/-- Default of a store of pools. -/
def pool0 (_ : Nat) : PoolX := {}
/-- A region's pool. -/
def Dev.pool (s : Dev) (q : Nat) : PoolX := fget pool0 s.pools q
/-- Replace a region's pool. -/
def Dev.setPool (s : Dev) (q : Nat) (x : PoolX) : Dev := { s with pools := fset pool0 s.pools q x }
/-- Default of a store of engines. -/
def eng0 (_ : Nat) : EngX := {}
/-- Echo engine `e` of the device. -/
def Dev.eng (s : Dev) (e : Nat) : EngX := fget eng0 s.engs e
/-- Replace an engine. -/
def Dev.setEng (s : Dev) (e : Nat) (x : EngX) : Dev := { s with engs := fset eng0 s.engs e x }
/-- Default of a store of clusters. -/
def clu0 (_ : Nat) : CluX := {}
/-- A cluster. -/
def Dev.clu (s : Dev) (k : Nat) : CluX := fget clu0 s.clus k
/-- Replace a cluster. -/
def Dev.setClu (s : Dev) (k : Nat) (x : CluX) : Dev := { s with clus := fset clu0 s.clus k x }
/-- Default of a store of regions. -/
def region0 (_ : Nat) : RegionX := {}
/-- A region. -/
def Dev.region (s : Dev) (q : Nat) : RegionX := fget region0 s.regions q
/-- Replace a region. -/
def Dev.setRegion (s : Dev) (q : Nat) (x : RegionX) : Dev := { s with regions := fset region0 s.regions q x }
/-- Default of the store of requesters. -/
def req0 (_ : Nat) : ReqX := {}
/-- What is kept for a requester. -/
def Dev.req (s : Dev) (q : Requester) : ReqX := fget req0 s.reqs q.code
/-- Replace what is kept for a requester. -/
def Dev.setReq (s : Dev) (q : Requester) (x : ReqX) : Dev := { s with reqs := fset req0 s.reqs q.code x }

/-- The part is an AQ1 (R6, R9). -/
def Dev.aq1 (s : Dev) : Bool := s.gf F.CHIP_PART_ID_GRADE == 1
/-- The device power ceiling of the grade, mW (R9, R10). -/
def Dev.gradeCeil (s : Dev) : Nat := if s.aq1 then 16000 else 24000
/-- PWR registers whose reset value depends on the grade (R557, R609). -/
def Dev.gradePwr (s : Dev) : Dev := if s.aq1 then s.sf F.PWR_P_CEIL_MW s.gradeCeil else s
/-- THERM registers whose reset value depends on the grade (R558, R609). -/
def Dev.gradeTherm (s : Dev) : Dev :=
  if s.aq1 then forN 24 (fun n (s : Dev) => s.wr (R.THERM_NODE_LIMIT n) (BitVec.ofNat 32 (1500 * 65536 + 1400))) s else s
/-- Fields that a reset sets by the grade. -/
def Dev.gradeRegs (s : Dev) (g : Page) : Dev :=
  match g with
  | .pwr => s.gradePwr
  | .therm => s.gradeTherm
  | _ => s

/-- A wear indicator of R590 has reached its threshold: kind and unit wait for the reserve manager. -/
def Dev.wear (s : Dev) (kind unit : Nat) : Dev :=
  if s.res.due.contains (kind, unit) then s
  else
    let d := s.res.due ++ [(kind, unit)]
    { s with res := { s.res with due := d } }

/-- PAGE_STATE.POWER values (R46). -/
def pOff : Nat := 0
/-- WAKING. -/
def pWaking : Nat := 1
/-- ON. -/
def pOn : Nat := 2
/-- DRAINING. -/
def pDraining : Nat := 3
/-- QUARANTINED. -/
def pQuar : Nat := 4
/-- PAGE_STATE.RUN values (R46): ACTIVE. -/
def rActive : Nat := 0
/-- QUIESCING. -/
def rQuiescing : Nat := 1
/-- HELD. -/
def rHeld : Nat := 2
/-- PAUSED. -/
def rPaused : Nat := 3

/-- PAGE_STATE.POWER of a page. -/
def Dev.power (s : Dev) (g : Page) : Nat := s.gf (F.PAGE_STATE_POWER g)
/-- PAGE_STATE.RUN of a page. -/
def Dev.run (s : Dev) (g : Page) : Nat := s.gf (F.PAGE_STATE_RUN g)
/-- Set POWER; a change sets IRQ_STATUS.STATE (R51). A page that leaves ON freezes what its registers read (R56). -/
def Dev.setPower (s : Dev) (g : Page) (p : Nat) : Dev :=
  if s.power g = p then s
  else (((if s.power g = pOn then s.freeze g else if p = pOn then s.thaw g else s)).sf (F.PAGE_STATE_POWER g) p).stateEvent g
/-- Set RUN; a change sets IRQ_STATUS.STATE (R51). -/
def Dev.setRun (s : Dev) (g : Page) (r : Nat) : Dev :=
  if s.run g = r then s else (s.sf (F.PAGE_STATE_RUN g) r).stateEvent g
/-- The page reads ON. -/
def Dev.isOn (s : Dev) (g : Page) : Bool := s.power g == pOn
/-- RUN of a page reads QUIESCING or HELD: it takes no new work (R632). -/
def Dev.quiet (s : Dev) (g : Page) : Bool := s.run g == rQuiescing || s.run g == rHeld
/-- A region's pool or its fabric takes no new work: no request for chunks is accepted (R632). -/
def Dev.regionQuiet (s : Dev) (q : Nat) : Bool := s.quiet (.pool q) || s.quiet (.qtr q)
/-- The page reads ON with RUN = ACTIVE. -/
def Dev.active (s : Dev) (g : Page) : Bool := s.isOn g && s.run g == rActive

end Sys2Proof.Machine
end

