-- ==== Sys2Proof/Machine/Blocks.lean ====
section
/-! DEFINITION. Krylink blocks (R416 to R418, R441): sync headers, control blocks, the scrambler of a lane, the blocks of a
message, and the lanes that send them. -/
namespace Sys2Proof.Machine

/-! ## Lanes -/

/-- Default of the store of lanes. -/
def lane0 (_ : Nat) : LaneX := {}
/-- A lane's own state. -/
def Dev.laneX (s : Dev) (n : Nat) : LaneX := fget lane0 s.lanes n
/-- Replace a lane's own state. -/
def Dev.setLaneX (s : Dev) (n : Nat) (x : LaneX) : Dev := { s with lanes := fset lane0 s.lanes n x }

/-- LINK_STATUS.STATE of a lane. -/
def Dev.laneState (s : Dev) (n : Nat) : Nat := s.gf (F.LANE_LINK_STATUS_STATE n)
/-- A lane of the chain ports. -/
def krylink (n : Nat) : Bool := decide (6 ≤ n)
/-- The chain port of a lane. -/
def portOf (n : Nat) : Nat := (n - 6) / 3
/-- The lanes of a chain port (R406). -/
def portLanes (p : Nat) : List Nat := [6 + 3 * p, 7 + 3 * p, 8 + 3 * p]
/-- LINK_STATUS.ROLE. -/
def Dev.role (s : Dev) (n : Nat) : Nat := s.gf (F.LANE_LINK_STATUS_ROLE n)

/-- A lane carries its port's messages (R421, R426, R427). -/
def Dev.laneUp (s : Dev) (n : Nat) : Bool :=
  s.laneState n == 4 && decide (s.role n < 2) && !(s.on (F.LANE_LINK_STATUS_TX_ASLEEP n)) && !(s.on (F.LANE_LINK_STATUS_RX_ASLEEP n))
    && !(s.on (F.LANE_LINK_STATUS_REMOTE_SLEEP n))

/-! ## Blocks (R416, R417) -/

/-- A block before scrambling: control or data, and its payload. -/
structure KBlock where
  control : Bool
  payload : BitVec 64
  deriving DecidableEq, Repr

/-- The sync header of a block (R416). -/
def KBlock.header (b : KBlock) : BitVec 2 := if b.control then 0b10#2 else 0b01#2
/-- A sync header is valid (R416). -/
def headerValid (h : BitVec 2) : Bool := h == 0b01#2 || h == 0b10#2

/-- Bytes as a number, byte 0 lowest: bit 0 is sent first (R416), byte 0 before byte 1 (DEDUCED, log 97). -/
def leValue : List Nat → Nat
  | [] => 0
  | b :: bs => b % 256 + 256 * leValue bs

/-- A control block of a type with the bytes that follow it (R416, R417). -/
def ctrlBlock (type : Nat) (bs : List Nat) : KBlock := { control := true, payload := BitVec.ofNat 64 (leValue (type :: bs)) }
/-- A data block of 8 bytes. -/
def dataBlock (bs : List Nat) : KBlock := { control := false, payload := BitVec.ofNat 64 (leValue bs) }

/-- The block type of a control block: payload byte 0 (R416). -/
def KBlock.type (b : KBlock) : Nat := b.payload.toNat % 256

/-- A TRAIN block (R417, R421): ACK, SPARE, the logical lane and the port. -/
def trainBlock (ack : Bool) (role port : Nat) : KBlock := ctrlBlock 0x2D [b2n ack + 2 * b2n (role == 2), role, port, 0, 0, 0, 0]
/-- A SLEEP_NOTICE block (R417). -/
def sleepBlock : KBlock := ctrlBlock 0x55 [0, 0, 0, 0, 0, 0, 0]

/-- Bytes in groups of 8. -/
def groups8 : Nat → List Nat → List (List Nat)
  | 0, _ => []
  | n + 1, bs => bs.take 8 :: groups8 n (bs.drop 8)

/-- The blocks of a message of at least 7 bytes (R441): MSG_START with bytes 0 to 6, data blocks of 8, MSG_END with the rest. -/
def msgBlocks (m : List Nat) : List KBlock :=
  let rest := m.drop 7
  let n := rest.length / 8
  let end_ := rest.drop (8 * n)
  ctrlBlock 0x78 (m.take 7) :: (groups8 n rest).map dataBlock ++ [ctrlBlock 0x87 (end_.length :: end_)]

/-! ## The scrambler (R416) -/

/-- One bit through a register that keeps the last 58 scrambled bits, the latest as bit 0: x^58 + x^39 + 1. -/
def tapBit (st : BitVec 58) (b : Bool) : Bool := b ^^ (st.getLsbD 38 ^^ st.getLsbD 57)
/-- The register after one more scrambled bit. -/
def shiftBit (st : BitVec 58) (o : Bool) : BitVec 58 := (st <<< 1) ||| (BitVec.ofBool o).setWidth 58

/-- The first `n` bits of a payload scrambled, and the register after them. -/
def scrambleGo (st : BitVec 58) (p : BitVec 64) : Nat → BitVec 64 × BitVec 58
  | 0 => (0#64, st)
  | n + 1 =>
    let r := scrambleGo st p n
    let o := tapBit r.2 (p.getLsbD n)
    (r.1 ||| ((BitVec.ofBool o).setWidth 64 <<< n), shiftBit r.2 o)

/-- The first `n` bits of a scrambled payload descrambled, and the register after them: it needs no start value of its own. -/
def descrambleGo (st : BitVec 58) (p : BitVec 64) : Nat → BitVec 64 × BitVec 58
  | 0 => (0#64, st)
  | n + 1 =>
    let r := descrambleGo st p n
    let b := p.getLsbD n
    (r.1 ||| ((BitVec.ofBool (tapBit r.2 b)).setWidth 64 <<< n), shiftBit r.2 b)

/-- A payload scrambled. -/
def scramble (st : BitVec 58) (p : BitVec 64) : BitVec 64 × BitVec 58 := scrambleGo st p 64
/-- A payload descrambled. -/
def descramble (st : BitVec 58) (p : BitVec 64) : BitVec 64 × BitVec 58 := descrambleGo st p 64

/-- A block as the 66 bits of its lane, bit 0 sent first: the sync header, not scrambled, then the scrambled payload. -/
def KBlock.wire (b : KBlock) (st : BitVec 58) : BitVec 66 × BitVec 58 :=
  let r := scramble st b.payload
  (r.1 ++ b.header, r.2)

/-- Blocks one after the other on a lane. -/
def wireGo (st : BitVec 58) : List KBlock → List (BitVec 66) × BitVec 58
  | [] => ([], st)
  | b :: bs =>
    let r := b.wire st
    let t := wireGo r.2 bs
    (r.1 :: t.1, t.2)

/-! ## Sending -/

/-- The scrambler register of a lane as a run of blocks begins: as the last run left it where that ended at this instant; else
blocks that no command names have gone between, and it is a free value (R416, R419; log 97). -/
def Dev.scrambler (s : Dev) (n : Nat) : BitVec 58 × Dev :=
  let x := s.laneX n
  if x.scramAt = some s.now then (x.scram, s) else (BitVec.ofNat 58 s.free.1, s.free.2)

/-- A lane sends blocks; TX_POL_INV inverts what it sends (R416, R433). -/
def Dev.sendBlocks (s : Dev) (n : Nat) (bs : List KBlock) : Dev :=
  let r := s.scrambler n
  let w := wireGo r.1 bs
  let s := r.2.setLaneX n { r.2.laneX n with scram := w.2, scramAt := some s.now }
  s.send (.blocks n (if s.on (F.LANE_LANE_CTRL_TX_POL_INV n) then w.1.map (fun b => ~~~b) else w.1))

/-- A lane sends a TRAIN block with its logical lane and port (R421). -/
def Dev.sendTrain (s : Dev) (n : Nat) (ack : Bool) : Dev :=
  (s.send (.train n ack)).sendBlocks n [trainBlock ack (s.role n) (portOf n)]

/-- A lane announces that it falls silent (R407, R426): `k` SLEEP_NOTICE blocks. -/
def Dev.sendSleep (s : Dev) (n k : Nat) : Dev :=
  (s.send (.sleepNotice n k)).sendBlocks n (List.replicate k sleepBlock)

/-- Every second block of a list, from the first on. -/
def evens : List KBlock → List KBlock
  | [] => []
  | [b] => [b]
  | b :: _ :: bs => b :: evens bs

/-- A port sends a message (R418, R441): on two lanes its blocks alternate, logical lane 0 first where the message's first block
has an even stripe index, which the spec leaves to the blocks sent before (a free value, log 97). -/
def Dev.sendMsg (s : Dev) (p : Nat) (m : List Nat) : Dev :=
  let s := s.send (.krylink p m)
  let bs := msgBlocks m
  let up := (portLanes p).filter s.laneUp
  match up.find? (fun n => s.role n == 0), up.find? (fun n => s.role n == 1) with
  | some a, some b =>
    if s.gf (F.LANE_LINK_STATUS_PORT_WIDTH a) < 2 then s.sendBlocks a bs
    else
      let f := s.free
      let first := if f.1 % 2 = 0 then a else b
      let second := if f.1 % 2 = 0 then b else a
      (f.2.sendBlocks first (evens bs)).sendBlocks second (evens (bs.drop 1))
  | some a, none => s.sendBlocks a bs
  | none, some b => s.sendBlocks b bs
  | none, none => s

end Sys2Proof.Machine
end

