-- ==== Sys2Proof/Machine/Krylink.lean ====
section
/-! DEFINITION. Krylink messages (R440 to R445), the topology of the chain (R438, R439, R450) and the way of a message
through it. -/
namespace Sys2Proof.Machine

/-- Default of the store of chain ports. -/
def link0 (_ : Nat) : LinkX := {}
/-- A chain port: A is 0, B is 1. -/
def Dev.link (s : Dev) (p : Nat) : LinkX := fget link0 s.chain.links p
/-- Replace a chain port. -/
def Dev.setLink (s : Dev) (p : Nat) (x : LinkX) : Dev := { s with chain := { s.chain with links := fset link0 s.chain.links p x } }

/-- PORT_WIDTH of a chain port. -/
def Dev.portWidth (s : Dev) (p : Nat) : Nat := s.gf (F.LANE_LINK_STATUS_PORT_WIDTH (6 + 3 * p))
/-- A chain port carries messages (R421). -/
def Dev.carries (s : Dev) (p : Nat) : Bool := decide (s.portWidth p ≠ 0)

/-- The type values of R442. -/
def mEnum : Nat := 0x01
/-- ENUM_END. -/
def mEnumEnd : Nat := 0x02
/-- TOPOLOGY. -/
def mTopology : Nat := 0x03
/-- JOIN. -/
def mJoin : Nat := 0x04
/-- LINK_EVENT. -/
def mLinkEvent : Nat := 0x05
/-- CONFIG. -/
def mConfig : Nat := 0x06
/-- DELAY_REQ. -/
def mDelayReq : Nat := 0x10
/-- DELAY_RESP. -/
def mDelayResp : Nat := 0x11
/-- CAL_TIME. -/
def mCalTime : Nat := 0x12
/-- REG_REQ. -/
def mRegReq : Nat := 0x20
/-- REG_RESP. -/
def mRegResp : Nat := 0x21
/-- PORT_INFO. -/
def mPortInfo : Nat := 0x30
/-- STREAM_FWD. -/
def mStreamFwd : Nat := 0x40
/-- CREDIT. -/
def mCredit : Nat := 0x41

/-- A payload from fields of given lengths in bytes, each big-endian (R440). -/
def payloadOf (l : List (Nat × Nat)) : List Nat := l.flatMap (fun e => bytesBE e.1 e.2)

/-- The bytes of a message (R440, R441): PAD keeps (L - 7) mod 8 from being 7. -/
def msgBytes (type : Nat) (bcast : Bool) (dest src : Nat) (pay : List Nat) : List Nat :=
  let pad := decide ((12 + pay.length - 7) % 8 = 7)
  let b := [type, b2n bcast * 128 + b2n pad] ++ bytesBE 2 dest ++ bytesBE 2 src ++ bytesBE 2 pay.length ++ pay
    ++ (if pad then [0] else [])
  b ++ bytesBE 4 (crc32 b)

/-- Send a message on a port that carries messages. -/
def Dev.sendOn (s : Dev) (p type : Nat) (bcast : Bool) (dest src : Nat) (pay : List Nat) : Dev :=
  if s.carries p then s.sendMsg p (msgBytes type bcast dest src pay) else s

/-- Links from `a` on to before `z` all hold. -/
def ChainX.intact (c : ChainX) (a z : Nat) : Bool := c.lostLinks.all (fun i => !(decide (a ≤ i) && decide (i < z)))

/-- N. -/
def Dev.units (s : Dev) : Nat := s.gf F.CHAIN_UNITS_N
/-- A_LAST. -/
def Dev.aLast (s : Dev) : Nat := s.gf F.CHAIN_UNITS_A_LAST

/-- A unit is reached through the Pole unit's port A (R438). -/
def Dev.viaA (s : Dev) (a : Nat) : Bool := (s.chain.ring || decide (a ≤ s.aLast)) && s.chain.intact 1 a
/-- A unit is reached through the Pole unit's port B (R438). -/
def Dev.viaB (s : Dev) (a : Nat) : Bool :=
  if s.chain.ring then s.chain.intact a (s.units + 1) else decide (s.aLast < a) && s.chain.intact s.aLast a

/-- A ring with no link lost. -/
def Dev.fullRing (s : Dev) : Bool := s.chain.ring && s.chain.lostLinks.isEmpty

/-- Hops of a unit through port B. -/
def Dev.hopsB (s : Dev) (a : Nat) : Nat := if s.chain.ring then s.units - a + 1 else a - s.aLast

/-- h of a unit (R438), none where it is absent. -/
def Dev.hopOf (s : Dev) (a : Nat) : Option Nat :=
  if a = 0 ∨ s.units < a then none
  else if a = 1 then some 0
  else if s.fullRing then some (min (a - 1) (s.hopsB a))
  else if s.viaA a then some (a - 1)
  else if s.viaB a then some (s.hopsB a)
  else none

/-- Place of a unit along the line through the Pole unit: branch A counts up. -/
def Dev.placeOf (s : Dev) (a : Nat) : Int :=
  if a = 1 ∨ s.viaA a then (a : Int) - 1 else -(s.hopsB a : Nat)

/-- The distance of two units (R438), none where one is absent. -/
def Dev.distance (s : Dev) (a b : Nat) : Option Nat :=
  if (s.hopOf a).isNone ∨ (s.hopOf b).isNone then none
  else if s.fullRing then let d := max a b - min a b; some (min d (s.units - d))
  else some (s.placeOf a - s.placeOf b).natAbs

/-- The port ENUM arrived on; A where none has. -/
def Dev.enumSide (s : Dev) : Nat := s.chain.enumPort.getD 0

/-- The port that leads to rising places (R438, R443). -/
def Dev.upPort (s : Dev) : Nat :=
  let a := s.unit
  if a = 1 then 0 else if !s.chain.ring ∧ s.aLast < a then s.enumSide else 1 - s.enumSide

/-- The upstream port (R439). -/
def Dev.upstream (s : Dev) : Option Nat :=
  let a := s.unit
  if a ≤ 1 ∨ s.chain.enumPort.isNone ∨ (s.hopOf a).isNone then none
  else if !s.chain.ring then some s.enumSide
  else if s.fullRing then some (if (decide (a - 1 ≤ s.hopsB a)) != s.chain.alt then s.enumSide else 1 - s.enumSide)
  else some (if s.viaA a then s.enumSide else 1 - s.enumSide)

/-- The port an addressed message leaves through (R443), none where the unit is absent. -/
def Dev.portTo (s : Dev) (d : Nat) : Option Nat :=
  let a := s.unit
  if a = 0 ∨ (s.hopOf d).isNone ∨ d = a then none
  else
    let n := s.units
    let up := if s.fullRing then decide ((d + n - a) % n ≤ (a + n - d) % n) else decide (s.placeOf a < s.placeOf d)
    some (if up then s.upPort else 1 - s.upPort)

/-- Send an addressed message (R443). -/
def Dev.sendTo (s : Dev) (type dest src : Nat) (pay : List Nat) : Dev :=
  match s.portTo dest with
  | some p => s.sendOn p type false dest src pay
  | none => s

/-- Originate a broadcast (R443). -/
def Dev.broadcast (s : Dev) (type : Nat) (pay : List Nat) : Dev :=
  let s := s.sendOn 0 type true 0 s.unit pay
  if s.fullRing then s else s.sendOn 1 type true 0 s.unit pay

/-- Forward a broadcast on the other port (R443). -/
def Dev.relay (s : Dev) (port type src : Nat) (pay : List Nat) : Dev := s.sendOn (1 - port) type true 0 src pay

/-- The link a LINK_EVENT names (R450): its sender and the sender's port, A leading to rising addresses but in branch B
(log 60); this unit knows its own ports. -/
def Dev.linkOf (s : Dev) (a port : Nat) : Nat :=
  if a = 1 then (if port = 0 then 1 else if s.chain.ring then s.units else s.aLast)
  else if a = s.unit then (if port = s.enumSide then a - 1 else a)
  else if !s.chain.ring ∧ s.aLast < a then (if port = 1 then a else a - 1)
  else (if port = 0 then a else a - 1)

/-- STATUS.TOPO (R475). -/
def Dev.topo (s : Dev) : Nat :=
  if s.units = 0 then 0 else if !s.chain.ring then 1
  else match s.chain.lostLinks.length with | 0 => 2 | 1 => 3 | _ => 1

/-- Show the topology (R438, R439, R450): HOP, UPSTREAM, TOPO and PRESENT; a unit that becomes absent is UNIT_LOST. -/
def Dev.topoSync (s : Dev) : Dev :=
  let old := (s.rd R.CHAIN_STATUS, s.chain.lostLinks)
  let s := s.sf F.CHAIN_STATUS_TOPO s.topo
  let s := s.sf F.CHAIN_STATUS_HOP ((s.hopOf s.unit).getD (s.gf F.CHAIN_STATUS_HOP))
  let s := s.sf F.CHAIN_STATUS_UPSTREAM (match s.upstream with | some p => p + 1 | none => 0)
  let word := fun (w : Nat) => (List.range 32).foldl (fun n i => if (s.hopOf (32 * w + i)).isSome then n + 2^i else n) 0
  let r := (List.range (s.units / 32 + 1)).foldl (fun (a : Bool × Dev) w =>
    let was := a.2.gf (F.CHAIN_PRESENT_BITS w)
    let new := word w
    (a.1 || decide (Nat.land was new ≠ was), a.2.sf (F.CHAIN_PRESENT_BITS w) new)) (false, s)
  let s := if r.1 then r.2.raise C.CHAIN_UNIT_LOST (if (List.range (s.aLast + 1)).any (fun a => decide (2 ≤ a) && (s.hopOf a).isNone) then 0 else 1) else r.2
  if (s.rd R.CHAIN_STATUS, s.chain.lostLinks) = old then s else s.event E.CHAIN_TOPOLOGY_CHANGE

/-- Send one packet toward the Pole unit (R401, R445) if its port has the credit. -/
def Dev.sendFwd (s : Dev) (up : Nat) (bytes : List Nat) : Option Dev :=
  let x := s.link up
  if s.carries up ∧ x.sent + bytes.length ≤ x.granted then
    some ((s.setLink up { x with sent := x.sent + bytes.length }).sendOn up mStreamFwd false 1 s.unit bytes)
  else none

/-- Bytes of STREAM_FWD a port may hold (R445). -/
def fwdBuffer : Nat := 262144

/-- Return credit for received bytes that left the buffer (R445). -/
def Dev.giveCredit (s : Dev) (port n : Nat) : Dev :=
  let x := s.link port
  let g := x.given + n
  (s.setLink port { x with given := g }).sendOn port mCredit false 0 s.unit (payloadOf [(4, g % 2^32)])

end Sys2Proof.Machine
end

