-- ==== Sys2Proof/Machine/Stream.lean ====
section
/-! DEFINITION. The output stream (11_output_streams.md): records, blocks and their coding, packets, the output
buffer, frame closing, fences and transports. -/
namespace Sys2Proof.Machine

/-- Widths of the 13 fields of a record, in the order of R376. -/
def recWidths : List Nat := [4, 3, 24, 9, 13, 12, 12, 8, 3, 12, 12, 12, 4]
/-- Lowest bits of the 13 fields of a record (R376). -/
def recLows : List Nat := [124, 121, 97, 88, 75, 63, 51, 43, 40, 28, 16, 4, 0]

/-- Field `i` of a record. -/
def recField (r i : Nat) : Nat := r / 2^(recLows.getD i 0) % 2^(recWidths.getD i 0)
/-- A record from its 13 fields, each cut to its width (R376). -/
def mkRec (vs : List Nat) : Nat :=
  (List.range 13).foldl (fun a i => a + vs.getD i 0 % 2^(recWidths.getD i 0) * 2^(recLows.getD i 0)) 0

/-- A gap record (R381). -/
def gapRec (reason r0 r1 c0 c1 : Nat) (cross : Option Nat) (detail : Nat) : Nat :=
  2 * 2^124 + reason % 64 * 2^118 + r0 % 512 * 2^109 + r1 % 512 * 2^100 + c0 % 8192 * 2^87 + c1 % 8192 * 2^74
    + (match cross with | some x => 2^73 + x % 8 * 2^70 | none => 0) + detail % 65536 * 2^54

/-- A FILL record (R377). -/
def fillRec : Nat := 15 * 2^124

/-- Zigzag form of the residual of two successive values of a field of `w` bits (R384). -/
def zigzag (w a b : Nat) : Nat :=
  let d := toSigned w ((b + 2^w - a) % 2^w)
  if 0 ≤ d then (2 * d).toNat else (-2 * d - 1).toNat

/-- The residual a zigzag form stands for. -/
def unzigzag (z : Nat) : Int := if z % 2 = 0 then (z / 2 : Nat) else -((z / 2 : Nat) : Int) - 1

/-- The zigzag forms of a field's values after the first (R384). -/
def deltas (w : Nat) : List Nat → List Nat
  | a :: b :: vs => zigzag w a b :: deltas w (b :: vs)
  | _ => []

/-- The values after `a` that the zigzag forms stand for. -/
def undeltas (w : Nat) : Nat → List Nat → List Nat
  | _, [] => []
  | a, z :: zs => let b := ofSigned w ((a : Int) + unzigzag z); b :: undeltas w b zs

/-- The mode of a field, its k, and its coded size (R384). -/
def fieldMode (w : Nat) (vs : List Nat) : Bool × Nat × Nat :=
  let kr := width (vs.foldl max 0)
  let kd := width ((deltas w vs).foldl max 0)
  if w + 63 * kd < 64 * kr then (true, kd, w + 63 * kd) else (false, kr, 64 * kr)

/-- The 13 fields' values of a block's records. -/
def blockFields (recs : List Nat) : List (Nat × List Nat) :=
  (List.range 13).map (fun i => (recWidths.getD i 0, recs.map (fun r => recField r i)))

/-- The coded size of a block in bits (R384). -/
def codedSize (recs : List Nat) : Nat :=
  (blockFields recs).foldl (fun n f => n + (fieldMode f.1 f.2).2.2) 78

/-- Append a value of `k` bits, LSB first, to a bit string held as a number with its length. -/
def putBits (a : Nat × Nat) (k v : Nat) : Nat × Nat := (a.1 + v % 2^k * 2^a.2, a.2 + k)
/-- Append values of `k` bits each. -/
def putAll (a : Nat × Nat) (k : Nat) (vs : List Nat) : Nat × Nat := vs.foldl (fun a v => putBits a k v) a

/-- Append one field (R385). -/
def putField (a : Nat × Nat) (w : Nat) (vs : List Nat) : Nat × Nat :=
  let m := fieldMode w vs
  if m.1 then putAll (putBits a w (vs.headD 0)) m.2.1 (deltas w vs) else putAll a m.2.1 vs

/-- The coded payload of a block as a number of 4,096 bits (R385). -/
def codedBits (recs : List Nat) : Nat :=
  let fs := blockFields recs
  let a := fs.foldl (fun a f => let m := fieldMode f.1 f.2; putBits (putBits a 1 (b2n m.1)) 5 m.2.1) (0, 0)
  (fs.foldl (fun a f => putField a f.1 f.2) a).1

/-- Take `n` values of `k` bits from a bit string. -/
def takeBits (k : Nat) : Nat → Nat → List Nat × Nat
  | 0, x => ([], x)
  | n + 1, x => let r := takeBits k n (x / 2^k); (x % 2^k :: r.1, r.2)

/-- Decode the fields after the mode bits (R385). -/
def takeFields : List (Nat × Bool × Nat) → Nat → List (List Nat)
  | [], _ => []
  | (w, d, k) :: fs, x =>
    if d then
      let v := x % 2^w
      let r := takeBits k 63 (x / 2^w)
      (v :: undeltas w v r.1) :: takeFields fs r.2
    else
      let r := takeBits k 64 x
      r.1 :: takeFields fs r.2

/-- Decode a coded payload into its 64 records (R385, R386). -/
def decodeBits (x : Nat) : List Nat :=
  let modes := (List.range 13).map (fun i => let h := x / 2^(6 * i); (recWidths.getD i 0, h % 2 == 1, h / 2 % 32))
  let cols := takeFields modes (x / 2^78)
  (List.range 64).map (fun i => mkRec (cols.map (fun c => c.getD i 0)))

/-- `n` words of a bit string, lowest bits first. -/
def toWords : Nat → Nat → List Word
  | 0, _ => []
  | n + 1, x => BitVec.ofNat 32 x :: toWords n (x / 2^32)

/-- The payload of a packet padded to whole 16-byte units (R369). -/
def padUnits (ws : List Word) : List Word := ws ++ List.replicate ((4 - ws.length % 4) % 4) 0#32

/-- Packet kinds (R370). -/
def kPad : Nat := 0x00
/-- FRAME_OPEN. -/
def kFrameOpen : Nat := 0x01
/-- COLUMN. -/
def kColumn : Nat := 0x02
/-- BLOCK. -/
def kBlock : Nat := 0x03
/-- STATS. -/
def kStats : Nat := 0x04
/-- IMAGE. -/
def kImage : Nat := 0x05
/-- FRAME_CLOSE. -/
def kFrameClose : Nat := 0x06
/-- COMPLETENESS. -/
def kCompleteness : Nat := 0x07
/-- SIGNATURE. -/
def kSignature : Nat := 0x08
/-- FENCE. -/
def kFence : Nat := 0x10
/-- SNAPSHOT. -/
def kSnapshot : Nat := 0x11
/-- SOURCE of chip packets (R369). -/
def srcChip : Nat := 4

/-- Length of a packet in 16-byte units, header included (R369). -/
def Packet.units (p : Packet) : Nat := 1 + p.payload.length / 4
/-- Length in bytes. -/
def Packet.bytes (p : Packet) : Nat := 16 * p.units

/-- The header of a packet with its check (R369, R372). -/
def Packet.header (p : Packet) : List Word :=
  let w0 := BitVec.ofNat 32 (p.kind * 2^24 + p.source * 2^21 + b2n p.coded * 2^20
    + (if p.kind = kPad then 0 else p.units))
  let w1 := BitVec.ofNat 32 p.seq
  let w2 := BitVec.ofNat 32 p.frame
  let hi := p.unit * 2^5
  let c := crc16 0xFFFF (wordBytes w0 ++ wordBytes w1 ++ wordBytes w2 ++ [hi % 256, hi / 256])
  [w0, w1, w2, BitVec.ofNat 32 (hi * 65536 + c)]

/-- A packet as stored (R369). -/
def Packet.words (p : Packet) : List Word := p.header ++ p.payload
/-- A packet as bytes, little-endian words (R369). -/
def Packet.byteList (p : Packet) : List Nat := p.words.flatMap wordBytes

/-- Kinds that the frame digest covers (R370). -/
def hashedKind (k : Nat) : Bool := decide (1 ≤ k) && decide (k ≤ 7)
/-- Kinds that are discarded when there is no room outside the reserve (R397). -/
def dataKind (k : Nat) : Bool := k == kBlock || k == kColumn || k == kImage || k == kStats

/-- Size of the output buffer and of its reserve (R397). -/
def bufSize : Nat := 2097152
/-- The reserve. -/
def bufReserve : Nat := 65536

/-- Bytes in the output buffer. -/
def StreamX.fill (x : StreamX) : Nat := x.buf.foldl (fun n p => n + p.bytes) 0

/-- Change the stream's own state and show the occupancy (R403). -/
def Dev.setStream (s : Dev) (x : StreamX) : Dev :=
  { s with stream := x }.sf F.STREAM_STATUS_FILL (x.fill / 1024)

/-- STREAM.STATUS.STATE values (R403): OFF, RUNNING, STOPPING. -/
def Dev.streamState (s : Dev) : Nat := s.gf F.STREAM_STATUS_STATE
/-- Set STREAM.STATUS.STATE; a change sets STATE_CHANGE. -/
def Dev.setStreamState (s : Dev) (v : Nat) : Dev :=
  if s.streamState = v then s else (s.sf F.STREAM_STATUS_STATE v).event E.STREAM_STATE_CHANGE

/-- The Ethernet port a packet leaves on under UDP (R400). -/
def Dev.udpPort (s : Dev) (p : Packet) : Nat :=
  match s.gf F.STREAM_CTRL_UDP_PORTS with
  | 1 => 1
  | 2 => if p.source < 4 then p.source % 2 else 0
  | _ => 0

/-- Count a packet that has left (R403). -/
def Dev.countSent (s : Dev) (p : Packet) : Dev :=
  let s := s.inc F.STREAM_PACKETS_COUNT
  let s := if p.kind = kBlock then s.inc F.STREAM_BLOCKS_COUNT else s
  if p.fwd then s.inc F.STREAM_FORWARDED_COUNT else s

/-- The room that a packet may take (R394, R397): the reserve is for the packets that close and mark the stream, not for SNAPSHOT
packets. -/
def roomFor (kind : Nat) : Nat := if dataKind kind || kind == kSnapshot then bufSize - bufReserve else bufSize

/-- The packets of one waiting kind enter the buffer in order while it has room (R397): SNAPSHOT packets (`snap`) or the others. -/
def refillGo (snap : Bool) : Nat → StreamX → StreamX
  | 0, x => x
  | n + 1, x => match x.wait.find? (fun p => (p.kind == kSnapshot) == snap) with
    | none => x
    | some p =>
      if x.fill + p.bytes ≤ roomFor p.kind then refillGo snap n { x with buf := x.buf ++ [p], wait := x.wait.erase p } else x

/-- Packets waiting for room enter the buffer. -/
def Dev.refill (s : Dev) : Dev :=
  let n := s.stream.wait.length
  s.setStream (refillGo true n (refillGo false n s.stream))

/-- A packet of this kind waits for room (R397): a SNAPSHOT packet keeps back only later SNAPSHOT packets. -/
def StreamX.waits (x : StreamX) (kind : Nat) : Bool := x.wait.any (fun p => (p.kind == kSnapshot) == (kind == kSnapshot))

/-- A packet finds room in the output buffer (R394, R397). -/
def StreamX.hasRoom (x : StreamX) (kind bytes : Nat) : Bool := decide (x.fill + bytes ≤ roomFor kind) && !x.waits kind

/-- Default of the datagrams under assembly. -/
def dgram0 (_ : Nat) : List Packet := []
/-- Default of when a datagram under assembly began. -/
def dgramAt0 (_ : Nat) : Nat := 0
/-- Bytes of a datagram under assembly. -/
def dgramBytes (ps : List Packet) : Nat := ps.foldl (fun n p => n + p.bytes) 0

/-- The largest UDP payload (R400, R403). -/
def Dev.udpMax (s : Dev) : Nat := min 8960 (max 1040 (s.gf F.STREAM_UDP_CFG_MAX))

/-- Default of the store of Ethernet ports. -/
def net0 (_ : Nat) : NetX := {}
/-- An Ethernet port. -/
def Dev.net (s : Dev) (p : Nat) : NetX := fget net0 s.nets p
/-- Replace an Ethernet port. -/
def Dev.setNet (s : Dev) (p : Nat) (x : NetX) : Dev := { s with nets := fset net0 s.nets p x }

/-- The link of an Ethernet port is up, the port enabled and not paused (R411). -/
def Dev.netUp (s : Dev) (port : Nat) : Bool :=
  s.on (F.NET_STATUS_LINK_UP port) && s.on (F.NET_CTRL_EN port) && decide ((s.net port).pausedUntil ≤ s.now)

/-- A register array of four words as an IP address of the port's version (R435). -/
def Dev.netIp (s : Dev) (p : Nat) (w : Nat → Reg) : Nat :=
  if s.on (F.NET_CTRL_IP_VER p) then (List.range 4).foldl (fun n i => n * 2^32 + (s.rd (w i)).toNat) 0 else (s.rd (w 0)).toNat

/-- The tag of the frames that a port transmits (R435). -/
def Dev.netVlan (s : Dev) (p : Nat) : Option Nat := if s.on (F.NET_CTRL_VLAN_EN p) then some (s.rd (R.NET_VLAN p)).toNat else none

/-- The port's own MAC address (R435). -/
def Dev.netMac (s : Dev) (p : Nat) : Nat := s.gf (F.NET_MAC_HI_ADDR p) * 2^32 + s.gf (F.NET_MAC_LO_ADDR p)

/-- The addressing of a datagram to the destination set in the NET page (R400, R414). -/
def Dev.udpTo (s : Dev) (p : Nat) (srcPort : Option Nat) (dstPort : Nat) : UdpX :=
  { vlan := s.netVlan p, mac := s.netMac p,
    destMac := some (s.gf (F.NET_DEST_MAC_HI_ADDR p) * 2^32 + s.gf (F.NET_DEST_MAC_LO_ADDR p)),
    v6 := s.on (F.NET_CTRL_IP_VER p), src := s.netIp p (R.NET_OWN_IP p), dst := s.netIp p (R.NET_DEST_IP p),
    srcPort := srcPort, dstPort := dstPort }

/-- Send the datagram under assembly on a port, unless the port cannot transmit (R400). -/
def Dev.sendDatagram (s : Dev) (port : Nat) : Dev :=
  match fget dgram0 s.stream.dgram port with
  | [] => s
  | ps =>
    if !(s.netUp port) then s
    else
      let s := s.setStream { s.stream with dgram := fset dgram0 s.stream.dgram port [] }
      let udp := s.udpTo port (some (s.gf (F.NET_UDP_PORTS_SRC port))) (s.gf (F.NET_UDP_PORTS_DST port))
      (ps.foldl (fun (s : Dev) p => s.countSent p) (s.inc (F.NET_TX_FRAMES_COUNT port))).send (.datagram port udp ps)

/-- The packets of a datagram under assembly wait in the output buffer again, for the port's link goes down (R400). -/
def Dev.unsendDatagram (s : Dev) (port : Nat) : Dev :=
  let x := s.stream
  s.setStream { x with buf := fget dgram0 x.dgram port ++ x.buf, dgram := fset dgram0 x.dgram port [] }

/-- Move the packets of an up port from the buffer into datagrams, in SEQ order (R400). -/
def udpPumpGo : List Packet → Dev → Dev
  | [], s => s
  | p :: ps, s =>
    let port := s.udpPort p
    if s.netUp port then
      let s := if dgramBytes (fget dgram0 s.stream.dgram port) + p.bytes > s.udpMax then s.sendDatagram port else s
      let x := s.stream
      let d := fget dgram0 x.dgram port
      udpPumpGo ps (s.setStream
        { x with buf := x.buf.erase p, dgram := fset dgram0 x.dgram port (d ++ [p]),
                 dgramAt := if d.isEmpty then fset dgramAt0 x.dgramAt port s.now else x.dgramAt })
    else udpPumpGo ps s

/-- Pass on packets received for forwarding on a port, oldest first, while the upstream port has credit (R445). -/
def fwdPumpGo (from_ up : Nat) : List Packet → Dev → Dev
  | [], s => s
  | p :: ps, s =>
    match s.sendFwd up p.byteList with
    | some s =>
      let s := (s.setLink from_ { s.link from_ with fwd := ps }).inc F.STREAM_FORWARDED_COUNT
      fwdPumpGo from_ up ps (s.giveCredit from_ p.bytes)
    | none => s

/-- Send the unit's own packets to the Pole unit, in SEQ order, while the upstream port has credit (R401). -/
def ownPumpGo (up : Nat) : List Packet → Dev → Dev
  | [], s => s
  | p :: ps, s =>
    match s.sendFwd up p.byteList with
    | some s => ownPumpGo up ps ((s.setStream { s.stream with buf := ps }).countSent p)
    | none => s

/-- Packets on their way to the Pole unit: those received first, then the unit's own (log 61). -/
def Dev.chainPump (s : Dev) : Dev :=
  match s.upstream with
  | none => s
  | some up =>
    let s := fwdPumpGo (1 - up) up (s.link (1 - up)).fwd s
    if s.gf F.STREAM_CTRL_TRANSPORT = 2 then (ownPumpGo up s.stream.buf s).refill else s

/-- Under UDP, waiting packets join datagrams (R400); under CHAIN they leave as credit allows (R401). -/
def Dev.pump (s : Dev) : Dev :=
  (if s.gf F.STREAM_CTRL_TRANSPORT = 1 then (udpPumpGo s.stream.buf s).refill else s).chainPump

/-- Discard a data packet whole (R397). -/
def Dev.discard (s : Dev) (p : Packet) : Dev :=
  let s := s.inc F.STREAM_DISCARDED_COUNT
  let s := s.sf F.STREAM_DISCARD_LAST_SEQ p.seq
  let s := s.modFrame p.frame (fun f => { f with discarded := f.discarded + 1 })
  s.raise C.STREAM_STREAM_DISCARD p.source

/-- Enter the output buffer, be discarded, or wait (R397). `late` counts the discard in the packet's frame. -/
def Dev.enterBuffer (s : Dev) (p : Packet) : Dev :=
  let x := s.stream
  if x.hasRoom p.kind p.bytes then s.setStream { x with buf := x.buf ++ [p] }
  else if !(dataKind p.kind) then s.setStream { x with wait := x.wait ++ [p] }
  else if p.fwd then (s.inc F.STREAM_FORWARD_DISCARDED_COUNT).raise C.STREAM_FORWARD_DISCARD p.source
  else s.discard p

/-- Whether a data packet would be discarded now (R397). -/
def Dev.wouldDiscard (s : Dev) (bytes : Nat) : Bool := !(s.stream.hasRoom kBlock bytes)

/-- Generate a packet of this unit: it takes the next SEQ and is offered to the output buffer (R371, R395, R397). -/
def Dev.emit_ (s : Dev) (kind source : Nat) (coded : Bool) (frame : Nat) (payload : List Word) : Dev :=
  let seq := s.gf F.STREAM_SEQ_NEXT_SEQ
  let p : Packet := { kind := kind, source := source, coded := coded, seq := seq, frame := frame, unit := s.unit,
                      payload := padUnits payload }
  let s := s.sf F.STREAM_SEQ_NEXT_SEQ (seq + 1)
  let s := if hashedKind kind then
      s.modFrame frame (fun f => { f with packets := f.packets + 1, hashed := f.hashed ++ [p] }) else s
  (s.enterBuffer p).pump

/-- Default of a store of masks. -/
def mask0 (_ : Nat) : Nat := 0

/-- Mark rows `r0` to `r1` of a column in a store of row masks keyed 4 * column + region. -/
def markRows (m : FMap Nat) (r0 r1 col : Nat) : FMap Nat :=
  forN (r1 + 1 - r0) (fun i m =>
    let r := r0 + i
    fset mask0 m (4 * col + r / 96) (setBit (fget mask0 m (4 * col + r / 96)) (r % 96) true)) m

/-- Mark the pixels a record accounts for (R390). -/
def markRec (m : FMap Nat) (r : Nat) : FMap Nat :=
  match r / 2^124 with
  | 0 => markRows m (recField r 3) (recField r 3) (recField r 4)
  | 1 => if recField r 2 / 2^23 = 0 then markRows m (recField r 3) (recField r 3) (recField r 4) else m
  | 2 =>
    if r / 2^73 % 2 = 1 ∨ r / 2^118 % 64 = 8 then m
    else forN (r / 2^74 % 8192 + 1 - r / 2^87 % 8192)
      (fun i m => markRows m (r / 2^109 % 512) (r / 2^100 % 512) (r / 2^87 % 8192 + i)) m
  | _ => m

/-- Close the open block of a source and frame: code it where R384 allows, verify (R386), send it. -/
def Dev.closeBlock (s : Dev) (source frame : Nat) : Dev :=
  match s.stream.blocks.find? (fun b => b.source == source && b.frame == frame) with
  | none => s
  | some b =>
    let s := s.setStream { s.stream with blocks := s.stream.blocks.erase b }
    let recs := b.recs ++ List.replicate (64 - b.recs.length) fillRec
    let size := codedSize recs
    let x := codedBits recs
    let fits := s.stream.compEn && decide (size ≤ 4096)
    let same := decodeBits x == recs
    let coded := fits && same
    let s := s.sf F.COMP_LAST_BITS_BITS (min size 8191)
    let s := if size > 4096 then s.inc F.COMP_RAW_FIT_COUNT else s
    let s := if fits ∧ !same then (s.inc F.COMP_VERIFY_FAIL_COUNT).raise C.COMP_VERIFY_FAIL source else s
    let s := if coded then s.inc F.COMP_CODED_COUNT else s
    let lost := s.wouldDiscard (if coded then 528 else 1040)
    let s := s.modFrame frame (fun f =>
      { f with codedBlocks := f.codedBlocks + b2n coded, rawBlocks := f.rawBlocks + b2n (!coded),
               acc := if lost then f.acc else b.recs.foldl markRec f.acc,
               lost := if lost then b.recs.foldl markRec f.lost else f.lost })
    let s := if source < 4 then s.setStream { s.stream with rrLast := source } else s
    s.emit_ kBlock source coded frame (if coded then toWords 128 x else recs.flatMap (toWords 4))

/-- A record reaches the output merge of its source (R375, R383). A record of a frame that is not in the stream
is dropped with no packet (R398); one of a frame that has closed is late (R375). -/
def Dev.mergeRecord (s : Dev) (source frame rec : Nat) : Dev :=
  match s.frame? frame with
  | none =>
    if s.streamState = 0 then s
    else (s.inc F.STREAM_LATE_RECORDS_COUNT).raise C.STREAM_LATE_RECORDS source
  | some f =>
    if !f.streamed then s
    else if f.closed then
      ((s.modFrame frame (fun f => { f with late := f.late + 1 })).inc F.STREAM_LATE_RECORDS_COUNT).raise C.STREAM_LATE_RECORDS source
    else
      let isGap := decide (rec / 2^124 = 2)
      let s := s.modFrame frame (fun f =>
        { f with records := f.records + b2n (!isGap), gaps := f.gaps + b2n isGap })
      let b := (s.stream.blocks.find? (fun b => b.source == source && b.frame == frame)).getD
        { source := source, frame := frame, recs := [], firstAt := s.now }
      let b' := { b with recs := b.recs ++ [rec] }
      let s := s.setStream { s.stream with blocks := s.stream.blocks.filter (fun c => !(c.source == source && c.frame == frame)) ++ [b'] }
      if b'.recs.length ≥ 64 then s.closeBlock source frame else s

/-- The fabric cycle of 1.25 ns in which a moment falls (R27, R31). -/
def cycleOf (t : Nat) : Nat := t * 4 / 5

/-- Report a rectangle of pixels of one region as a gap (R381). -/
def Dev.gap (s : Dev) (frame reason r0 r1 c0 c1 : Nat) (cross : Option Nat := none) (detail : Nat := 0) : Dev :=
  let r := gapRec reason r0 r1 c0 c1 cross detail
  let s := s.mergeRecord (r0 / 96) frame r
  if s.running then
    let old := s.stream.fresh.filter (fun g => cycleOf g.1 == cycleOf s.now)
    s.setStream { s.stream with fresh := old ++ [(s.now, frame, r)] }
  else s

/-- Replace one record of an open block. -/
def BlockX.relabel (b : BlockX) (frame r r' : Nat) : BlockX :=
  if b.frame = frame then { b with recs := b.recs.replace r r' } else b

/-- A higher level's fault is contained in the same fabric cycle (R31): the gap records of `level` and the rows `r0` to `r1` made
in it carry the higher level's reason instead. One whose block has left already keeps its reason (log 94). -/
def Dev.supersede (s : Dev) (lower : List Nat) (r0 r1 reason : Nat) : Dev :=
  let hit := fun (g : Nat × Nat × Nat) => s.running && cycleOf g.1 == cycleOf s.now && lower.contains (g.2.2 / 2^118 % 64)
    && decide (r0 ≤ g.2.2 / 2^109 % 512) && decide (g.2.2 / 2^100 % 512 ≤ r1)
  let up := fun (r : Nat) => r - r / 2^118 % 64 * 2^118 + reason * 2^118 - r / 2^54 % 65536 * 2^54
  let blocks := (s.stream.fresh.filter hit).foldl (fun (bs : List BlockX) g => bs.map (·.relabel g.2.1 g.2.2 (up g.2.2)))
    s.stream.blocks
  s.setStream { s.stream with blocks := blocks, fresh := s.stream.fresh.map (fun g => if hit g then (g.1, g.2.1, up g.2.2) else g) }

/-- BLOCK_FLUSH_TIMEOUT (R383): STREAM.FLUSH.US has passed since the block's first record. -/
def Dev.blockFlushTimeout (s : Dev) (source : Fin 5) (frame : Nat) : Dev :=
  match s.stream.blocks.find? (fun b => b.source == source.val && b.frame == frame) with
  | none => s
  | some b => (s.advanceTo (b.firstAt + max 1 (s.gf F.STREAM_FLUSH_US) * 1000)).closeBlock source.val frame

/-- The ACCOUNTED bit of region `q` in column `j` (R390). Columns not begun are accounted for by the SCAN_SHORT gap of a short
frame; those of a frame closed by a fault are not (R29, R233). -/
def FrameX.accounted (f : FrameX) (q j : Nat) : Bool :=
  let en := f.chanMap / 2^(96 * q) % 2^96
  let bad := fget mask0 f.lost (4 * j + q)
  if f.nb ≤ j then en == 0 || f.short && Nat.land en bad == 0
  else Nat.land en (fget mask0 f.acc (4 * j + q)) == en && Nat.land en bad == 0

/-- The FULL bit of region `q` in column `j` (R390). -/
def FrameX.full (f : FrameX) (q j : Nat) : Bool :=
  decide (j < f.nb) && (List.range 12).all (fun l =>
    let p := 12 * q + l
    !(f.on (F.EMIT_PORT_CFG_EN p)) || decide (f.gf (F.EMIT_PORT_CFG_BURSTS p) ≤ fget mask0 f.launched (48 * j + p)))

/-- The byte of column `j` in the completeness map (R390). -/
def FrameX.mapByte (f : FrameX) (j : Nat) : Nat :=
  (List.range 4).foldl (fun n q => n + b2n (f.accounted q j) * 2^q + b2n (f.full q j) * 2^(4 + q)) 0

/-- Some ACCOUNTED bit of the frame is 0. -/
def FrameX.incomplete (f : FrameX) : Bool :=
  (List.range f.columns).any (fun j => (List.range 4).any (fun q => !(f.accounted q j)))

/-- Bytes as words, little-endian, padded with zeros. -/
def packBytes : List Nat → List Word
  | a :: b :: c :: d :: r => BitVec.ofNat 32 (a + b * 256 + c * 65536 + d * 2^24) :: packBytes r
  | [] => []
  | [a] => [BitVec.ofNat 32 a]
  | [a, b] => [BitVec.ofNat 32 (a + b * 256)]
  | [a, b, c] => [BitVec.ofNat 32 (a + b * 256 + c * 65536)]

/-- Payload of one COMPLETENESS packet from column `c0` on (R390). -/
def FrameX.mapPayload (f : FrameX) (c0 : Nat) : List Word :=
  let n := min 1008 (f.columns - c0)
  [BitVec.ofNat 32 f.num, BitVec.ofNat 32 c0, BitVec.ofNat 32 n, 0#32]
    ++ packBytes ((List.range n).map (fun i => f.mapByte (c0 + i)))

/-- Payload of FRAME_CLOSE (R389). -/
def FrameX.closePayload (f : FrameX) (signs deadline : Bool) : List Word :=
  [BitVec.ofNat 32 f.num,
   BitVec.ofNat 32 (f.nb * 65536 + f.columns),
   BitVec.ofNat 32 (min f.suppressed 65535 * 65536 + b2n signs * 1024 + b2n deadline * 512 + b2n f.chipFault * 256
     + b2n f.incomplete * 128 + b2n f.throttled * 64 + b2n f.refUnsettled * 32 + b2n f.scanFault * 16
     + b2n f.unlocked * 8 + b2n f.syncLost * 4 + b2n f.long * 2 + b2n f.short),
   BitVec.ofNat 32 f.packets, BitVec.ofNat 32 f.records, BitVec.ofNat 32 f.gaps, BitVec.ofNat 32 f.discarded,
   BitVec.ofNat 32 f.codedBlocks, BitVec.ofNat 32 f.rawBlocks, BitVec.ofNat 32 f.late, 0#32, 0#32]

/-- The digest H_f over the frame's hashed packets in SEQ order (R395). -/
def FrameX.digest (f : FrameX) : Nat := Config.sha256 (f.hashed.flatMap Packet.byteList)

/-- The frame's descriptors have all ended. -/
def Dev.descsEnded (s : Dev) (frame : Nat) : Bool :=
  s.hists.all (fun h => h.2.frame != frame) && s.ambs.all (fun a => a.2.frame != frame)

/-- A frame is over: it goes, unless its scan still runs or histograms and ambient blocks of it remain, which take their settings
from it (R29, R248, R285). -/
def Dev.retireFrame (s : Dev) (f : FrameX) : Dev :=
  if f.scanClosed && s.descsEnded f.num then { s with frames := s.frames.filter (fun x => x.num != f.num) }
  else s.modFrame f.num (fun x => { x with closed := true })

/-- Close a frame: its open blocks, the regions in turn after the one served last (R27), then its STATS, FRAME_CLOSE and
COMPLETENESS packets (R373, R374, R390), and its SIGNATURE when it is signed (R395, R396). The frame is then closed; later
records of it are late. -/
def Dev.closeFrame (s : Dev) (frame : Nat) (deadline : Bool) : Dev :=
  let first := s.stream.rrLast + 1
  let s := (List.range 4).foldl (fun (s : Dev) i => s.closeBlock ((first + i) % 4) frame) s
  let s := s.closeBlock srcChip frame
  match s.frame? frame with
  | none => s
  | some f =>
    if !f.streamed then s.retireFrame f
    else
    let s := f.statsOut.foldl (fun (s : Dev) w => s.emit_ kStats srcChip false frame w) s
    let want := s.on F.STREAM_CTRL_SIGN_EN
    let signs := want && s.on F.SEC_STATUS_FK_VALID
    let s := if want ∧ !signs then s.raise C.STREAM_SIGN_UNAVAILABLE srcChip else s
    let s := match s.frame? frame with
      | some f => s.emit_ kFrameClose srcChip false frame (f.closePayload signs deadline)
      | none => s
    let s := match s.frame? frame with
      | some f => (List.range ((f.columns + 1007) / 1008)).foldl
          (fun (s : Dev) i => s.emit_ kCompleteness srcChip false frame (f.mapPayload (1008 * i))) s
      | none => s
    let h := match s.frame? frame with | some f => f.digest | none => 0
    let x := s.stream
    let s := s.setStream (if signs then
        { x with signPend := x.signPend ++ [⟨frame, h, s.gf F.SEC_FK_ID_KEY_ID, x.chainStart⟩], chainStart := false }
      else { x with chainStart := true })
    let s := s.retireFrame f
    ((s.sf F.STREAM_LAST_CLOSED_FRAME frame).event E.STREAM_FRAME_CLOSED)

/-- Every histogram and SKYGLOW descriptor of the frame has ended, and every column header is out (R374). -/
def Dev.frameDone (s : Dev) (f : FrameX) : Bool :=
  f.scanClosed && s.descsEnded f.num
    && (match s.column with | some c => c.frame != f.num | none => true)
    && (!(f.on F.SKY_CTRL_EN) || f.skyPublished)

/-- FRAME_CLOSE (R374): the oldest frame closes once everything of it has ended. -/
def Dev.frameClose (s : Dev) : Dev :=
  match s.frames.find? (fun f => !f.closed) with
  | none => s
  | some f => if s.frameDone f then s.closeFrame f.num false else s

/-- A frame that has closed is over once its scan and its descriptors are, and its statistics are out (R29, R359). -/
def Dev.dropClosed (s : Dev) : Dev :=
  if s.frames.any (fun f => f.closed && s.frameDone f) then
    { s with frames := s.frames.filter (fun f => !(f.closed && s.frameDone f)) }
  else s

/-- Engine cycles in ns at the present engine clock, rounded up (R374, R547). -/
def Dev.cyclesNs (s : Dev) (cycles : Nat) : Nat :=
  let mhz := max 1 (s.gf F.THERM_ENG_CLOCK_MHZ)
  (cycles * 1000 + mhz - 1) / mhz

/-- The close deadline of a frame whose last column has ended (R374). -/
def Dev.closeDeadline (s : Dev) (f : FrameX) : Nat :=
  let dl := (List.range 4).foldl (fun m q => max m (min 1000 (max 1 (s.gf (F.QTR_DISPATCH_LIMIT_LIMIT q))))) 0
  let cl := (List.range 32).foldl (fun m k => max m (max 1000 (s.gf (F.CLU_CYCLE_LIMIT_LIMIT k)))) 0
  f.lastColEnd + dl * 1000 + s.cyclesNs cl + 50000

/-- SIGNATURE_EMIT (R395, R396): the signature record of the oldest closed frame that waits for one. -/
def Dev.signatureEmit (s : Dev) : Dev :=
  match s.stream.signPend with
  | [] => s
  | x :: rest =>
    let p := if x.start then 0 else s.stream.chainP
    let m := bytesBE 2 s.unit ++ bytesBE 4 x.frame ++ bytesBE 32 p ++ bytesBE 32 x.hash
    let d := Config.sha256 m % 2^256
    let sig := Config.sign (Config.frameKey x.key) d % 2^512
    let be := fun v => (toWords 8 (v % 2^256)).reverse.map (fun w => packBytes (wordBytes w).reverse) |>.flatten
    let s := s.setStream { s.stream with signPend := rest, chainP := d }
    let s := s.emit_ kSignature srcChip false x.frame
      ([BitVec.ofNat 32 x.frame, BitVec.ofNat 32 (b2n x.start * 65536 + s.unit), BitVec.ofNat 32 x.key, 0#32]
        ++ be p ++ be x.hash ++ be (sig / 2^256) ++ be sig)
    s.inc F.STREAM_FRAMES_SIGNED_COUNT

/-- A frame's settings of the stream that act from its start: STREAM.CTRL.EN and COMP.CTRL.EN (R398, R404). -/
def Dev.streamAtFrame (s : Dev) : Dev :=
  let s := { s with stream := { s.stream with compEn := s.on F.COMP_CTRL_EN } }
  if s.streamState = 0 ∧ s.on F.STREAM_CTRL_EN then s.setStreamState 1 else s

/-- Payload of FRAME_OPEN (R387); BLENDING counts the corrections at a step below 16 (R148). -/
def Dev.openPayload (s : Dev) (f : FrameX) : List Word :=
  let tv := s.on F.TIME_CAL_CTRL_TAI_VALID
  let wave := (s.slices.filter (fun e => e.2.valid && decide (e.2.step < 16))).length
  let blending := s.gf F.CAL_BLEND_STATUS_TDC + s.gf F.CAL_BLEND_STATUS_RZ + wave
  [BitVec.ofNat 32 f.num,
   BitVec.ofNat 32 (b2n tv * 2^17 + s.gf F.TIME_STATUS_REF_SETTLED * 2^16 + f.columns)]
   ++ toWords 2 f.start ++ toWords 2 (if tv then s.tai f.start else 0)
   ++ [BitVec.ofNat 32 s.utcOffset, BitVec.ofNat 32 (s.gf F.SKY_GEN_G),
       BitVec.ofNat 32 (min blending 65535 * 65536 + s.gf F.CAL_EPOCH_EPOCH),
       BitVec.ofNat 32 (s.gf F.RES_RESERVE_GEN_GEN), BitVec.ofNat 32 (s.gf (F.CLU_KBANK_VERSION 0) * 65536), 0#32]
   ++ toWords 12 f.chanMap

/-- Emit FRAME_OPEN of a frame in the stream (R370). -/
def Dev.emitFrameOpen (s : Dev) (f : FrameX) : Dev :=
  if f.streamed then s.emit_ kFrameOpen srcChip false f.num (s.openPayload f) else s

/-- Payload of the COLUMN packet of the open column (R388). -/
def Dev.columnPayload (c : ColumnX) (f : FrameX) : List Word :=
  let nd := min 32 c.dwell.length
  let ports := (List.range 48).map (fun p =>
    min 511 (fget mask0 f.launched (48 * c.col + p)) + b2n (bit c.dwellFired p) * 512)
  [BitVec.ofNat 32 c.frame,
   BitVec.ofNat 32 (c.col * 2^19 + b2n c.reverse * 2^18 + b2n c.throttled * 2^17 + b2n (decide (c.dwell.length > 32)) * 65536
     + c.line % 65536)]
   ++ toWords 2 c.start ++ [BitVec.ofNat 32 (nd * 65536),
     BitVec.ofNat 32 (ofSigned 16 c.slowPos * 65536 + ofSigned 16 c.fastPos), 0#32, 0#32]
   ++ packBytes (ports.flatMap (fun v => [v % 256, v / 256]))
   ++ (c.dwell.take 32).map (fun d => BitVec.ofNat 32 (d.bay * 2^26 + d.event * 2^24 + d.reason * 2^21 + d.extra * 256))

/-- Emit the COLUMN packet of a column that ends (R370, R388). -/
def Dev.emitColumn (s : Dev) (c : ColumnX) : Dev :=
  match s.frame? c.frame with
  | some f => if f.streamed && !f.closed then s.emit_ kColumn srcChip false c.frame (Dev.columnPayload c f) else s
  | none => s

/-- A stream fence as it is placed (R392). -/
def Dev.newFence (s : Dev) (token : Nat) : SFence :=
  let f := s.gf F.SCAN_FRAME_NUM_FRAME
  { token := token, frame := f, col := s.column.map (·.col), begun := match s.frame? f with | some f => f.nb | none => 0 }

/-- STREAM_FENCE (R392): place a FENCE packet. Refused with 4 pending, and while the stream is OFF (log 20). -/
def Dev.streamFence (s : Dev) (q : Requester) (token : BitVec 16) : Dev :=
  let x := s.req q
  if s.streamState = 0 ∨ x.sFences.length ≥ 4 then s.refuse .stream
  else
    let s := s.setReq q { x with sFences := x.sFences ++ [s.newFence token.toNat] }
    s.sfQ q F.STREAM_FENCE_DONE_BUSY 1

/-- A column had begun when a fence was placed (R392). -/
def SFence.covers (fe : SFence) (frame col : Nat) : Bool :=
  if frame = fe.frame then decide (col < fe.begun) else leqMod frame fe.frame

/-- Everything a fence follows has been emitted (R392). -/
def Dev.fenceReady (s : Dev) (fe : SFence) : Bool :=
  s.hists.all (fun h => !(fe.covers h.2.frame h.2.col))
    && (match s.column with | some c => !(fe.covers c.frame c.col) | none => true)
    && s.stream.blocks.all (fun b => b.recs.all (fun r =>
        !(fe.covers b.frame (if r / 2^124 = 2 then r / 2^87 % 8192 else recField r 4))))

/-- FENCE_PACKET_EMIT (R392): the oldest fence of the requester, once what it follows has been emitted. -/
def Dev.fencePacketEmit (s : Dev) (q : Requester) : Dev :=
  let x := s.req q
  match x.sFences with
  | [] => s
  | fe :: rest =>
    if s.fenceReady fe ∧ s.streamState ≠ 0 then
      let s := s.emit_ kFence srcChip false (s.gf F.SCAN_FRAME_NUM_FRAME)
        [BitVec.ofNat 32 (q.code * 65536 + fe.token), BitVec.ofNat 32 fe.frame, BitVec.ofNat 32 (fe.col.getD 0x1FFF), 0#32]
      let s := s.setReq q { x with sFences := rest }
      let s := s.sfQ q F.STREAM_FENCE_DONE_TOKEN fe.token
      let s := s.sfQ q F.STREAM_FENCE_DONE_BUSY (b2n (!rest.isEmpty))
      s.event E.STREAM_FENCE_DONE
    else s

/-- STREAM_ENABLE (R398): EN acts at the next frame start. -/
def Dev.streamEnable (s : Dev) (_ : Requester) : Dev := s.sb F.STREAM_CTRL_EN true

/-- STREAM_DISABLE (R398): STATE moves to STOPPING while the stream runs. -/
def Dev.streamDisable (s : Dev) (_ : Requester) : Dev :=
  let s := s.sb F.STREAM_CTRL_EN false
  if s.streamState = 1 then s.setStreamState 2 else s

/-- The frame in progress has closed and been signed and the buffer has drained: STATE reads OFF (R398). -/
def Dev.streamDrained (s : Dev) : Dev :=
  if s.streamState = 2 ∧ s.frames.all (fun f => !f.streamed || f.closed) ∧ s.stream.buf.isEmpty ∧ s.stream.wait.isEmpty
      ∧ s.stream.signPend.isEmpty ∧ s.stream.dgram.isEmpty
  then { s with stream := { s.stream with dead := false } }.setStreamState 0 else s

/-- Size of the host ring in bytes (R399, R403). -/
def Dev.ringSize (s : Dev) : Nat := 2^(min 30 (max 16 (s.gf F.STREAM_RING_SIZE_LOG2)))
/-- Bytes in use in the ring (R399). -/
def Dev.ringUsed (s : Dev) : Nat :=
  (s.gf F.STREAM_RING_WPTR_PTR + s.ringSize - s.gf F.STREAM_RING_RPTR_PTR % s.ringSize) % s.ringSize
/-- Ring base address (R399). -/
def Dev.ringBase (s : Dev) : Nat :=
  s.gf F.STREAM_RING_BASE_LO_ADDR * 4096 + s.gf F.STREAM_RING_BASE_HI_ADDR * 2^32

/-- RING_WRITE (R399): the oldest packet is written to the host ring where it fits; where it would wrap, a PAD comes first, and
the packet follows where it fits then. -/
def Dev.ringWrite (s : Dev) : Dev :=
  match s.stream.buf with
  | [] => s
  | p :: rest =>
    let size := s.ringSize
    if s.stream.dead then
      let s := s.setStream { s.stream with buf := rest }
      (if dataKind p.kind then s.discard p else s).refill
    else if s.gf F.STREAM_CTRL_TRANSPORT = 1 ∨ s.gf F.STREAM_CTRL_TRANSPORT = 2 ∨ !(s.on F.HOST_LINK_STATUS_DL_UP)
        ∨ s.ringUsed + p.bytes + 16 > size then s
    else
      let w := s.gf F.STREAM_RING_WPTR_PTR
      let pad : Packet := { kind := kPad, source := srcChip, seq := 0, frame := 0, unit := s.unit, payload := [] }
      let s := if w + p.bytes > size then
          (s.send (.dma (s.ringBase + w) pad.header)).sf F.STREAM_RING_WPTR_PTR 0 else s
      let w := s.gf F.STREAM_RING_WPTR_PTR
      if s.ringUsed + p.bytes + 16 > size then s else
      let s := s.send (.dma (s.ringBase + w) p.words)
      let s := s.setStream { s.stream with buf := rest }
      let w := (w + p.bytes) % size
      let s := s.sf F.STREAM_RING_WPTR_PTR w
      let s := s.send (.dma (s.gf F.STREAM_WB_ADDR_LO_ADDR * 4 + s.gf F.STREAM_WB_ADDR_HI_ADDR * 2^32) [BitVec.ofNat 32 w])
      let s := s.countSent p
      let n := s.stream.unsignalled + 1
      let s := if n ≥ max 1 (s.gf F.STREAM_COALESCE_COUNT) then
          (s.setStream { s.stream with unsignalled := 0 }).event E.STREAM_RING
        else s.setStream { s.stream with unsignalled := n, unsignalledAt := if n = 1 then s.now else s.stream.unsignalledAt }
      s.refill

/-- RING_COALESCE_TIMEOUT (R399): COALESCE.TIME after the first packet not yet signalled. -/
def Dev.ringCoalesceTimeout (s : Dev) : Dev :=
  if s.stream.unsignalled = 0 then s
  else
    let s := s.advanceTo (s.stream.unsignalledAt + max 1 (s.gf F.STREAM_COALESCE_TIME) * 1000)
    (s.setStream { s.stream with unsignalled := 0 }).event E.STREAM_RING

/-- RING_RPTR_WRITE (R399). An offset outside the ring would make `used` exceed its size (log 21). -/
def Dev.ringRptrWrite (s : Dev) (_ : Requester) (val : Word) : Dev :=
  if val.toNat ≥ s.ringSize then s.refuse .stream else s.sf F.STREAM_RING_RPTR_PTR val.toNat

/-- UDP_AGG_TIMEOUT (R400): UDP_CFG.AGG_US, at most 1,000, has passed since the first packet of the datagram under assembly on the
port, and it is sent. -/
def Dev.udpAggTimeout (s : Dev) (port : Fin 2) : Dev :=
  if (fget dgram0 s.stream.dgram port.val).isEmpty then s
  else (s.advanceTo (fget dgramAt0 s.stream.dgramAt port.val + min 1000 (s.gf F.STREAM_UDP_CFG_AGG_US) * 1000)).sendDatagram port.val

end Sys2Proof.Machine
end

