-- ==== Sys2Proof/Machine/Hist.lean ====
section
/-! DEFINITION. Pixel histograms and the buffer pool (07_histograms_and_pool.md): requests, grants, refusals,
votes, closing, and the descriptors that wait for an engine. -/
namespace Sys2Proof.Machine

/-- The row of a histogram (R12). -/
def HistX.row (h : HistX) : Nat := 8 * h.bay + h.ch
/-- The region of a histogram's bay. -/
def HistX.region (h : HistX) : Nat := h.bay / 12

/-- A histogram by its number. -/
def Dev.hist? (s : Dev) (id : Nat) : Option HistX := (s.hists.find? (fun e => e.1 == id)).map (·.2)
/-- Change a histogram. -/
def Dev.modHist (s : Dev) (id : Nat) (g : HistX → HistX) : Dev :=
  { s with hists := s.hists.map (fun e => if e.1 == id then (e.1, g e.2) else e) }

/-- The first `n` numbers from `c` on that a rising list does not hold, below 4,096. -/
def takeFree : Nat → Nat → List Nat → Nat → List Nat
  | 0, _, _, _ => []
  | _, _, _, 0 => []
  | f + 1, c, used, n + 1 =>
    match used with
    | u :: us => if u = c then takeFree f (c + 1) us (n + 1) else c :: takeFree f (c + 1) used n
    | [] => c :: takeFree f (c + 1) [] n

/-- Put a number into a rising list. -/
def insertNat (n : Nat) : List Nat → List Nat
  | [] => [n]
  | m :: ms => if n ≤ m then n :: m :: ms else m :: insertNat n ms

/-- Floor chunks held beyond the floors in force count as shared use (R269). -/
def Dev.floorExcess (s : Dev) (q : Nat) : Nat :=
  (List.range 12).foldl (fun n l => n + (s.gf (F.POOL_FLOOR_HELD q l) - s.gf (F.POOL_FLOOR_FLOOR q l))) 0

/-- Free chunks of the shared capacity (R264, R269). -/
def Dev.sharedFree (s : Dev) (q : Nat) : Nat :=
  s.gf (F.POOL_SHARED_SHARED_CAP q) - ((s.pool q).shared + s.floorExcess q)

/-- Show the pool's occupancy in FREE (R280). -/
def Dev.poolSync (s : Dev) (q : Nat) : Dev :=
  (s.sf (F.POOL_FREE_TOTAL_FREE q) (4096 - (s.pool q).used.length)).sf (F.POOL_FREE_SHARED_FREE q) (s.sharedFree q)

/-- The waiting requests of a region. -/
def Dev.waiting (s : Dev) (q : Nat) : List (Nat × HistX) :=
  s.hists.filter (fun e => e.2.st == .waiting && e.2.region == q)

/-- Show the waiting requests by class in WAITING (R280). -/
def Dev.waitSync (s : Dev) (q : Nat) : Dev :=
  let n := fun c => min 255 ((s.waiting q).filter (fun e => e.2.cls == c)).length
  ((s.sf (F.POOL_WAITING_A q) (n 0)).sf (F.POOL_WAITING_B q) (n 1)).sf (F.POOL_WAITING_C q) (n 2)

/-- A request is floor-served (R265). -/
def Dev.floorServes (s : Dev) (b need : Nat) : Bool :=
  decide (s.gf (F.POOL_FLOOR_HELD (b / 12) (b % 12)) + need ≤ s.gf (F.POOL_FLOOR_FLOOR (b / 12) (b % 12)))

/-- Enough shared chunks are free, and class C is below its cap (R266). -/
def Dev.canShare (s : Dev) (q cls need : Nat) : Bool :=
  decide (need ≤ s.sharedFree q) && (cls != 2 || decide ((s.pool q).cShared < s.gf (F.POOL_C_CAP_CAP q)))

/-- Take `need` chunks for bay `b` from its floor or from the shared capacity; the lowest-numbered free chunks are
taken (DESIGN CHOICE, log 22). -/
def Dev.takeChunks (s : Dev) (b need cls : Nat) (floor : Bool) : List Nat × Dev :=
  let q := b / 12
  let p := s.pool q
  let cs := takeFree 4096 0 p.used need
  let s := s.setPool q { p with used := cs.foldl (fun u c => insertNat c u) p.used,
                                shared := if floor then p.shared else p.shared + need,
                                cShared := if !floor && cls == 2 then p.cShared + need else p.cShared }
  let s := if floor then s.inc (F.POOL_FLOOR_HELD q (b % 12)) need else s.inc (F.POOL_GRANTS_COUNT q (min cls 2))
  let s := s.inc (F.BAY_CHUNKS_HELD b) need
  let s := s.sf (F.BAY_CHUNKS_PEAK b) (max (s.gf (F.BAY_CHUNKS_PEAK b)) (s.gf (F.BAY_CHUNKS_HELD b)))
  (cs, s.poolSync q)

/-- Release chunks of bay `b` (R252). -/
def Dev.freeChunks (s : Dev) (b cls : Nat) (floor : Bool) (cs : List Nat) : Dev :=
  if cs.isEmpty then s
  else
    let q := b / 12
    let p := s.pool q
    let n := cs.length
    let s := s.setPool q { p with used := p.used.filter (fun c => !cs.contains c),
                                  shared := if floor then p.shared else p.shared - n,
                                  cShared := if !floor && cls == 2 then p.cShared - n else p.cShared }
    let s := if floor then s.sf (F.POOL_FLOOR_HELD q (b % 12)) (s.gf (F.POOL_FLOOR_HELD q (b % 12)) - n) else s
    let s := s.sf (F.BAY_CHUNKS_HELD b) (s.gf (F.BAY_CHUNKS_HELD b) - n)
    s.poolSync q

/-- Show the occupancy of a bay's dispatch queue (R281). -/
def Dev.queueSync (s : Dev) (b : Nat) : Dev :=
  s.sf (F.QTR_BAYQ_OCCUPANCY (b / 12) (b % 12)) (s.bay b).dq.length

/-- A capture loses its place before it is written: what is still sampled of it is stored nowhere (R337, R338). -/
def Dev.loseCapture (s : Dev) (b g0 : Nat) : Dev :=
  let x := s.bay b
  let f := x.wave.inFlight.map (fun c => if c.g0 = g0 then { c with lost := true } else c)
  s.setBay b { x with wave := { x.wave with inFlight := f } }

/-- Release a linked capture: its chunks, and what is still being written of it (R252, R337, R338). -/
def Dev.releaseCapture (s : Dev) (b : Nat) (c : CaptureX) : Dev :=
  let s := s.freeChunks b c.cls c.floorServed c.chunks
  if c.written then s else s.loseCapture b c.g0

/-- Forget a histogram: its chunks, its capture, its descriptors and itself (R252, R338). -/
def Dev.endHist (s : Dev) (id : Nat) : Dev :=
  match s.hist? id with
  | none => s
  | some h =>
    let s := s.freeChunks h.bay h.cls h.floorServed h.chunks
    let s := match h.capture with
      | some c => s.releaseCapture h.bay c
      | none => s
    let s := { s with hists := s.hists.filter (fun e => e.1 != id) }
    let x := s.bay h.bay
    let drop := fun (l : List DescX) => l.filter (fun d => d.sky || d.id != id)
    let s := s.setBay h.bay { x with dq := drop x.dq, heldDesc := drop x.heldDesc }
    (s.queueSync h.bay).waitSync h.region

/-- End a histogram as a gap of one pixel (R274). -/
def Dev.histGap (s : Dev) (id reason detail : Nat) : Dev :=
  match s.hist? id with
  | none => s
  | some h => (s.gap h.frame reason h.row h.row h.col h.col h.cross detail).endHist id

/-- Order of shared requests (R266): class, fabric cycle of the request, bay, channel, then the pixel's own before its cross
ones. -/
def HistX.order (h : HistX) : Nat :=
  h.cls * 2^90 + cycleOf h.reqAt * 2^20 + h.bay % 12 * 2^12 + h.ch * 2^4 + (match h.cross with | some x => x + 1 | none => 0)

/-- The entry with the least key of a list. -/
def minBy {α : Type} (key : α → Nat) : List α → Option α
  | [] => none
  | a :: as => match minBy key as with
    | none => some a
    | some b => if key a ≤ key b then some a else some b

/-- The moment a request without a grant is refused (R267). -/
def Dev.waitUntil (s : Dev) (h : HistX) : Nat := h.reqAt + min 10000 (s.gf (F.POOL_WAIT_LIMIT_LIMIT h.region))

/-- The present fabric cycle begins before the moment `t` (R267, R272). -/
def Dev.cycleBefore (s : Dev) (t : Nat) : Bool := decide (cycleOf s.now * 5 < t * 4)

/-- A burst of the histogram's column is still to come (R249). -/
def Dev.burstToCome (s : Dev) (h : HistX) : Bool := decide (s.tick ≤ h.refLast)

/-- Grant a request (R247, R249, R267). -/
def Dev.grantHist (s : Dev) (id : Nat) (floor waited : Bool) : Dev :=
  match s.hist? id with
  | none => s
  | some h =>
    let (cs, s) := s.takeChunks h.bay h.need h.cls floor
    let s := s.modHist id (fun h => { h with st := .granted, chunks := cs, floorServed := floor, grantAt := s.now })
    let s := s.inc (F.BAY_HIST_GRANTED_COUNT h.bay)
    let s := if waited then
        let w := min 65535 (s.now - h.reqAt)
        let s := s.inc (F.BAY_POOL_DELAYED_COUNT h.bay)
        s.sf (F.BAY_POOL_WAIT_MAX_NS h.bay) (max w (s.gf (F.BAY_POOL_WAIT_MAX_NS h.bay)))
      else s
    s.waitSync h.region

/-- Two requests lie in one gap run: adjacent rows of one bay, column and class (R268, R382). -/
def adjacent (a b : HistX) : Bool :=
  a.bay == b.bay && a.frame == b.frame && a.col == b.col && a.cls == b.cls && a.cross == b.cross && b.row == a.row + 1

/-- Runs of adjacent rows, each as its first and last histogram. -/
def rowRuns : List HistX → List (HistX × HistX)
  | [] => []
  | h :: hs => match rowRuns hs with
    | (a, z) :: rs => if adjacent h a then (h, z) :: rs else (h, h) :: (a, z) :: rs
    | [] => [(h, h)]

/-- Key that puts requests of one column and class side by side in row order. -/
def HistX.rowKey (h : HistX) : Nat :=
  (match h.cross with | some x => x + 1 | none => 0) * 2^80 + h.frame * 2^40 + h.col * 2^20 + h.row

/-- Insert by key. -/
def insertBy {α : Type} (key : α → Nat) (a : α) : List α → List α
  | [] => [a]
  | b :: bs => if key a ≤ key b then a :: b :: bs else b :: insertBy key a bs
/-- Sort by key. -/
def sortBy {α : Type} (key : α → Nat) (l : List α) : List α := l.foldr (insertBy key) []

/-- Count one refusal (R268). -/
def Dev.countRefusal (s : Dev) (h : HistX) : Dev :=
  let s := s.inc (F.BAY_POOL_REFUSED_COUNT h.bay)
  let s := s.inc (F.POOL_REFUSED_COUNT h.region (min h.cls 2))
  (s.raise (C.BAY_POOL_REFUSED h.bay) h.ch).event (E.BAY_REFUSAL h.bay)

/-- Refuse requests at one moment: one gap per run of adjacent rows (R268). -/
def Dev.refuseHists (s : Dev) (ids : List Nat) : Dev :=
  let hs := sortBy HistX.rowKey (ids.filterMap s.hist?)
  let s := hs.foldl Dev.countRefusal s
  let s := (rowRuns hs).foldl (fun (s : Dev) r => s.gap r.1.frame 9 r.1.row r.2.row r.1.col r.1.col r.1.cross r.1.cls) s
  ids.foldl Dev.endHist s

/-- A request arrives (R265 to R268). Answers the state and whether it is refused on arrival. -/
def Dev.requestHist (s : Dev) (h : HistX) : Bool × Dev :=
  let id := s.nextHist
  let full := decide (256 ≤ (s.waiting h.region).length)
  let first := (s.waiting h.region).all (fun e => decide (h.order < e.2.order))
  let s := { s with hists := s.hists ++ [(id, h)], nextHist := id + 1 }
  if s.floorServes h.bay h.need then (false, s.grantHist id true false)
  else if first ∧ s.canShare h.region h.cls h.need then (false, s.grantHist id false false)
  else if full then (true, s.inc (F.POOL_LIST_FULL_COUNT h.region))
  else if s.gf (F.POOL_WAIT_LIMIT_LIMIT h.region) = 0 then (true, s)
  else (false, s.waitSync h.region)

/-- The requests of one column at one moment, in the order of R266 (R247); those refused on arrival are reported together
(R268). -/
def Dev.requestAll (s : Dev) (hs : List HistX) : Dev :=
  let r := (sortBy HistX.order hs).foldl (fun (a : List Nat × Dev) h =>
    let id := a.2.nextHist
    let x := a.2.requestHist h
    (if x.1 then a.1 ++ [id] else a.1, x.2)) ([], s)
  r.2.refuseHists r.1

/-- The requests whose time has run out are refused (R267). -/
def Dev.refuseExpired (s : Dev) (q : Fin 4) : Dev :=
  s.refuseHists (((s.waiting q).filter (fun e => !(s.cycleBefore (s.waitUntil e.2)))).map (·.1))

/-- POOL_GRANT (R266, R267, R249): the first request in priority order is granted when it can be; while the first has no burst
still to come it is refused instead, together with those after it of which the same is true. -/
def Dev.poolGrant (s : Dev) (q : Fin 4) : Dev :=
  let s := s.refuseExpired q
  let ws := sortBy (fun (e : Nat × HistX) => e.2.order) (s.waiting q)
  match ws with
  | [] => s
  | (id, h) :: _ =>
    if s.canShare q h.cls h.need then
      if s.burstToCome h then s.grantHist id false true
      else s.refuseHists ((ws.takeWhile (fun e => s.canShare q e.2.cls e.2.need && !(s.burstToCome e.2))).map (·.1))
    else s

/-- POOL_REFUSAL (R267, R268): the requests whose time has run out, oldest first. -/
def Dev.poolRefusal (s : Dev) (q : Fin 4) : Dev :=
  match minBy (fun e => s.waitUntil e.2) (s.waiting q) with
  | none => s
  | some (_, h) =>
    let t := s.waitUntil h
    let s := s.advanceTo t
    s.refuseHists (((s.waiting q).filter (fun e => decide (s.waitUntil e.2 ≤ max t s.now))).map (·.1))

/-- Bins of a histogram (R238). -/
def binsOf (open_ close w : Nat) : Nat := (close - open_ + w - 1) / w
/-- Chunks of a histogram (R247). -/
def chunksOf (nbins : Nat) (fes : Bool) : Nat := (2 * nbins + (if fes then 640 else 128) + 2047) / 2048

/-- The class of a pixel: the enabled zone with the lowest number that contains it, else the default (R279). -/
def FrameX.pixelClass (f : FrameX) (b c j : Nat) : Nat :=
  let cl := fun v => if v = 3 then 1 else v
  match (List.range 8).find? (fun z => f.on (F.BAY_ZONE_COLS_EN b z) && decide (f.gf (F.BAY_ZONE_COLS_FIRST b z) ≤ j)
      && decide (j ≤ f.gf (F.BAY_ZONE_COLS_LAST b z)) && bit (f.gf (F.BAY_ZONE_ROWS_MASK b z)) c) with
  | some z => cl (f.gf (F.BAY_ZONE_ROWS_CLASS b z))
  | none => cl (f.gf (F.BAY_HIST_CFG_DEFAULT_CLASS b))

/-- The request for one histogram under the settings in force for its frame (R247, R248). -/
def Dev.newHist (s : Dev) (f : FrameX) (b c j : Nat) (cross : Option Nat) (planned firstRef refLast : Nat) : HistX :=
  let w := 64 * 2^(f.gf (F.BAY_HIST_CFG_BIN_W b))
  let o := f.gf (F.BAY_GATE_OPEN_OPEN b)
  let cl := f.gf (F.BAY_GATE_CLOSE_CLOSE b)
  let fes := f.on (F.BAY_HIST_CFG_FES_EN b)
  let l := b % 12
  let home := b / 12 * 8
  { bay := b, ch := c, cross := cross, frame := f.num, col := j, cls := f.pixelClass b c j, binW := w,
    nbins := binsOf o cl w, gOpen := o, gClose := cl, depth := f.gf (F.BAY_HIST_CFG_DEPTH b) + 1, fesEn := fes,
    voteUnval := f.on (F.BAY_HIST_CFG_VOTE_UNVAL b),
    pset := if l < 8 then f.gf (F.CLU_BAY_PSET0_SET home) / 16^l % 8 else f.gf (F.CLU_BAY_PSET1_SET home) / 16^(l - 8) % 8,
    need := chunksOf (binsOf o cl w) fes, reqAt := s.now, planned := planned, firstRef := firstRef, refLast := refLast,
    gen := f.gf F.SKY_GEN_G % 65536, epoch := f.gf F.CAL_EPOCH_EPOCH,
    codeStep := f.gf (F.EMIT_PORT_CODE_STEP b) }

/-- Default of a store of counts. -/
def count0 (_ : Nat) : Nat := 0

/-- The scout after a vote raised bin `x` (R253): the list, and the bin that left it. -/
def scoutVote (bins : FMap Nat) (scout : List Nat) (x : Nat) : List Nat × Option Nat :=
  if scout.contains x then (scout, none)
  else if scout.length < 8 then (scout ++ [x], none)
  else
    let key := fun b => fget count0 bins b * 4096 + (4095 - b)
    match minBy key scout with
    | some m => if fget count0 bins m < fget count0 bins x then (scout.filter (· != m) ++ [x], some m) else (scout, none)
    | none => (scout, none)

/-- One vote into bin `x` of a histogram (R253, R254, R256, R240). -/
def HistX.vote (h : HistX) (x rel sub burst : Nat) (ev : EvWord) : HistX :=
  let c := fget count0 h.bins x
  let h := { h with uncal := h.uncal || ev.uncal }
  if c ≥ 65535 then { h with saturated := true }
  else
    let bins := fset count0 h.bins x (c + 1)
    let (sc, left) := scoutVote bins h.scout x
    let fes := match left with | some m => h.fes.filter (fun e => e.bin != m) | none => h.fes
    let h := { h with bins := bins, scout := sc, fes := fes }
    if h.fesEn && sc.contains x then
      if h.fes.length < 64 then
        { h with fes := h.fes ++ [{ rel := rel, sub := sub, burst := burst, tot := min ev.tot 65535, uncal := ev.uncal,
                                    val := ev.val, bin := x }] }
      else { h with fesDropped := min 255 (h.fesDropped + 1) }
    else h

/-- The low 32 bits of Meridian time in ticks. -/
def low32 (t : Nat) : Nat := t % 2^32

/-- Put a closed descriptor into the bay's queue in the QTR page, or hold it in the bay (R251, R281). -/
def Dev.enqueue (s : Dev) (b : Nat) (d : DescX) : Dev :=
  let q := b / 12
  let x := s.bay b
  let depth := min 32 (max 1 (s.gf (F.QTR_QUEUE_DEPTH_DEPTH q)))
  if x.dq.length < depth ∧ x.heldDesc.isEmpty then (s.setBay b { x with dq := x.dq ++ [d] }).queueSync b
  else
    let s := s.setBay b { x with heldDesc := x.heldDesc ++ [d] }
    (s.inc (F.BAY_DISPATCH_HELD_COUNT b)).inc (F.QTR_HELD_COUNT q)

/-- DESCRIPTOR_ENQUEUE (R251): a held descriptor enters the queue once a place is free. -/
def Dev.descriptorEnqueue (s : Dev) (b : Fin 48) : Dev :=
  let x := s.bay b
  let depth := min 32 (max 1 (s.gf (F.QTR_QUEUE_DEPTH_DEPTH (b.val / 12))))
  match x.heldDesc with
  | d :: rest =>
    if x.dq.length < depth then
      (s.setBay b { x with dq := x.dq ++ [{ d with enq := s.now }], heldDesc := rest }).queueSync b else s
  | [] => s

/-- The tick at which a histogram closes (R250). -/
def HistX.closeTick (h : HistX) : Nat := h.refLast + h.gClose

/-- The order in which a bay's histograms close (R250): by closing tick, then channel, the pixel's own before its cross ones. -/
def HistX.closeKey (h : HistX) : Nat :=
  h.closeTick * 256 + h.ch * 16 + (match h.cross with | some x => x + 1 | none => 0)

/-- The open column and those that ended last, newest first; the open one runs up to `now` at least. -/
def Dev.spans (s : Dev) : List ColSpan :=
  match s.column with
  | some c => { frame := c.frame, col := c.col, start := c.start, stop := max (s.now + 1) (c.start + 2 * c.dur) } :: s.scan.past
  | none => s.scan.past

/-- COORD_PERIOD in force, ns (R467). -/
def Dev.gridPeriod (s : Dev) : Nat := max 1000 (s.gf F.CHAIN_COORD_PERIOD_PERIOD)
/-- The foreign grid point 0 of an XL entry, ns (R469). -/
def Dev.foreignBase (s : Dev) (x : Nat) : Nat :=
  s.g64 F.CHAIN_COORD_ANCHOR_LO_NS F.CHAIN_COORD_ANCHOR_HI_NS + s.gf (F.CHAIN_XL_CODE_PHASE x) * 64
/-- The first foreign grid point of an entry at or after an instant, as its index (R469). -/
def Dev.foreignFirst (s : Dev) (x t : Nat) : Nat := (t - s.foreignBase x + s.gridPeriod - 1) / s.gridPeriod
/-- The code of foreign burst `n` of an entry (R469). -/
def Dev.foreignCode (s : Dev) (x n : Nat) : Nat :=
  (s.gf (F.CHAIN_XL_CODE_BASE x) + n * s.gf (F.CHAIN_XL_CODE_STEP x)) % 4096

/-- The foreign bursts of a cross histogram's column up to now, and those of them at or after its grant (R249, R469). -/
def Dev.foreignCount (s : Dev) (h : HistX) (x : Nat) : Nat × Nat :=
  match s.spans.find? (fun c => c.frame == h.frame && c.col == h.col) with
  | none => (h.planned, h.planned)
  | some c =>
    let n0 := s.foreignFirst x c.start
    let n1 := s.foreignFirst x (min c.stop s.now)
    (min 256 (n1 - n0), min 256 (n1 - max n0 (s.foreignFirst x h.grantAt)))

/-- Close a histogram (R250, R251): with no launched burst its chunks are released and its pixel is an
EMISSION_INHIBITED gap (R167) unless it is a cross histogram; otherwise its descriptor goes to the queue. -/
def Dev.closeHist (s : Dev) (id : Nat) : Dev :=
  match s.hist? id with
  | none => s
  | some h =>
    let n := match h.cross with | some x => s.foreignCount h x | none => (h.launched, h.voted)
    if n.1 = 0 then
      match h.cross with
      | none => s.histGap id 7 (bits (s.rd (R.EMIT_PORT_STATUS h.bay)) 24 4)
      | some _ => s.endHist id
    else
      let lim := max 1 (s.gf (F.QTR_DISPATCH_LIMIT_LIMIT h.region))
      let s := s.modHist id (fun h =>
        { h with st := .queued, closedAt := h.closeTick, launched := n.1, voted := n.2, lateGrant := decide (n.2 < n.1),
                 lateAt := h.closeTick / 256 + lim * 1000,
                 refUnsettled := h.refUnsettled || !(s.on F.TIME_STATUS_REF_SETTLED)
                   || ((s.frame? h.frame).map (·.refUnsettled)).getD false })
      s.enqueue h.bay { sky := false, id := id, cls := h.cls, closedAt := h.closeTick, enq := s.now,
                         lateAt := h.closeTick / 256 + lim * 1000 }

/-- End every waiting or open histogram of a bay as a gap of the level's reason (R29, R57, R270, R274). -/
def Dev.endOpen (s : Dev) (b reason : Nat) : Dev :=
  let ids := (s.hists.filter (fun e => e.2.bay == b && (e.2.st == .waiting || e.2.st == .granted))).map (·.1)
  ids.foldl (fun (s : Dev) id => s.histGap id reason 0) s

/-- A single-bit error of a pool bank is corrected on a read (R277). -/
def Dev.bankCorrected (s : Dev) (q bank : Nat) : Dev :=
  let p := s.pool q
  let s := s.setPool q { p with found := fset count0 p.found bank (fget count0 p.found bank + 1) }
  (s.incSat (F.POOL_BANK_CE_TOTAL q bank)).raise (C.POOL_ECC_CORRECTED q) bank

/-- The scrub period in force, ns (R280). -/
def Dev.scrubPeriod (s : Dev) (q : Nat) : Nat := min 10000 (max 100 (s.gf (F.POOL_ECC_CFG_SCRUB_PERIOD q))) * 1000000

/-- SCRUB_PERIOD_END (R277): a period ends, with the corrections the scrubber itself made in each bank beside those found on
other reads. -/
def Dev.scrubPeriodEnd (s : Dev) (q : Fin 4) (corrections : List Nat) : Dev :=
  let s := s.advanceTo ((s.pool q).scrubAt + s.scrubPeriod q)
  let found := (s.pool q).found
  let s := s.setPool q { s.pool q with scrubAt := s.now, found := [] }
  let lim := s.gf (F.POOL_ECC_CFG_CE_LIMIT q)
  forN 33 (fun k s =>
    let n := corrections.getD k 0
    let all := n + fget count0 found k
    let s := s.sf (F.POOL_BANK_CE_LAST q k) (min all 65535)
    let s := s.incSat (F.POOL_BANK_CE_TOTAL q k) n
    let s := if n > 0 then s.raise (C.POOL_ECC_CORRECTED q) k else s
    if all > lim then ((s.raise (C.POOL_SPARE_NEEDED q) k).event (E.POOL_SPARE_NEEDED q)).wear 3 (33 * q.val + k) else s) s

/-- The 64-byte header, the scout, the fine-event store and the bins of a histogram as bytes (R255, R257, R258). -/
def HistX.bytes (h : HistX) : List Nat :=
  let w := fun (v : Nat) => wordBytes (BitVec.ofNat 32 v)
  let x := h.cross.getD 0
  let hdr := [h.bay * 2^26 + h.ch * 2^23 + b2n h.cross.isSome * 2^22 + x * 2^19 + h.cls * 2^17
      + (width (h.binW / 64) - 1) * 2^15 + h.nbins,
    h.frame, h.col * 2^19 + h.row * 2^10, h.planned % 512 * 2^23 + h.launched * 2^14 + h.voted * 2^5, h.gOpen, h.gClose,
    h.firstRef, h.firstRef / 2^32, low32 h.closedAt,
    min 65535 (h.grantAt - h.reqAt) * 65536 + min 65535 h.thinned,
    min 65535 h.edgesLost * 65536 + h.fes.length * 256 + h.fesDropped,
    b2n h.epochSplit * 256 + b2n h.lateGrant * 128 + b2n h.cDropped * 64 + b2n h.thinFlag * 32 + b2n h.saturated * 16
      + b2n h.emitterUnver * 8 + b2n h.refUnsettled * 4 + b2n h.eclipsed * 2 + b2n h.uncal,
    h.gen * 65536 + h.epoch % 65536, h.code % 4096 * 2^20 + h.codeStep % 4096 * 256, 0, 0]
  let sc := sortBy (fun b => (65535 - fget count0 h.bins b) * 4096 + b) h.scout
  let scout := (List.range 8).map (fun i => match sc[i]? with
    | some b => fget count0 h.bins b * 2^48 + b * 2^32 + (h.fes.filter (fun e => e.bin == b)).length * 2^25 + 2^24
    | none => 0)
  let fes := if h.fesEn then (List.range 64).map (fun i => match h.fes[i]? with
    | some e => e.rel * 2^44 + e.sub * 2^41 + e.burst * 2^33 + e.tot * 2^17 + b2n e.uncal * 65536 + b2n e.val * 32768
    | none => 0) else []
  (hdr.flatMap w) ++ (scout ++ fes).flatMap (fun v => w v ++ w (v / 2^32))
    ++ (List.range h.nbins).flatMap (fun i => let c := fget count0 h.bins i; [c % 256, c / 256])

end Sys2Proof.Machine
end

