-- ==== Sys2Proof/Machine/Kernels.lean ====
section
/-! DEFINITION. What the standard kernels compute (R309 to R320) from a closed histogram under the settings of its
frame, and the Skyglow pixel (R354 to R357). -/
namespace Sys2Proof.Machine

/-- Largest r with r * r ≤ n among those built from the bits below `b`. -/
def isqrtGo (n : Nat) : Nat → Nat → Nat
  | 0, r => r
  | b + 1, r => if (r + 2^b) * (r + 2^b) ≤ n then isqrtGo n b (r + 2^b) else isqrtGo n b r
/-- Integer square root, rounded down. -/
def isqrt (n : Nat) : Nat := isqrtGo n (width n / 2 + 1) 0

/-- Round the quotient of an integer by a positive number to nearest, halves up. -/
def roundDiv (n : Int) (d : Nat) : Int := (2 * n + d) / (2 * d : Nat)

/-- Interpolate in a table of points (x, y) under R192: below the first point its value, at or above the last
its value, between two points linear and rounded down. -/
def interp : List (Int × Int) → Int → Int
  | [], _ => 0
  | [(_, y)], _ => y
  | (x0, y0) :: (x1, y1) :: ps, x =>
    if x < x0 then y0
    else if x < x1 then y0 + (y1 - y0) * (x - x0) / (x1 - x0)
    else interp ((x1, y1) :: ps) x

/-- What a chain reads beside the histogram: the settings of the histogram's frame, the words of its parameter set, the present
stage, and free numbers for what the spec leaves open. -/
structure KernEnv where
  g : Fld → Nat
  h : HistX
  n : Nat
  free : Nat → Nat

/-- Word `w` of the histogram's parameter set (R309). -/
def KernEnv.w (e : KernEnv) (w : Nat) : Nat := e.g (F.CLU_PSET_WORD (e.h.bay / 12 * 8) e.h.pset w)
/-- A field of a word of the parameter set. -/
def KernEnv.p (e : KernEnv) (w lo len : Nat) : Nat := e.w w / 2^lo % 2^len
/-- Count of a bin. -/
def KernEnv.c (e : KernEnv) (x : Nat) : Nat := fget count0 e.h.bins x

/-- The kernel IDs of a parameter set up to the first 0x00 (R289). -/
def chainIds (w0 w1 : Nat) : List Nat :=
  ((List.range 8).map (fun i => (if i < 4 then w0 / 256^i else w1 / 256^(i - 4)) % 256)).takeWhile (· != 0)

/-- The background (R313): mean of the bins more than BG_GUARD bins from every scout candidate, in 1/16 count. -/
def KernEnv.background (e : KernEnv) : Nat :=
  let guard := e.p 3 0 8
  let far := (List.range e.h.nbins).filter (fun x =>
    e.h.scout.all (fun m => decide (guard < (if x ≤ m then m - x else x - m))))
  if far.isEmpty then 0 else 16 * far.foldl (fun n x => n + e.c x) 0 / far.length

/-- Split rising bins into runs of adjacent bins. -/
def binRuns : List Nat → List (List Nat)
  | [] => []
  | x :: xs => match binRuns xs with
    | (y :: ys) :: rs => if y = x + 1 then (x :: y :: ys) :: rs else [x] :: (y :: ys) :: rs
    | rs => [x] :: rs

/-- Contiguous bins below `x` with the property, nearest first. -/
def countDown (p : Nat → Bool) : Nat → Nat
  | 0 => 0
  | x + 1 => if p x then countDown p x + 1 else 0
/-- Contiguous bins from `x` up with the property, at most `f` of them. -/
def countUp (p : Nat → Bool) : Nat → Nat → Nat
  | 0, _ => 0
  | f + 1, x => if p x then countUp p f (x + 1) + 1 else 0

/-- Largest number of entries that share a key. -/
def largestShare (key : FesX → Nat) (es : List FesX) : Nat :=
  es.foldl (fun m e => max m (es.filter (fun f => key f == key e)).length) 0

/-- One peak from a run of candidate bins (R291, R313, R314). -/
def KernEnv.peak (e : KernEnv) (b16 t16 : Nat) (run : List Nat) : Peak :=
  let x := (minBy (fun b => (65535 - e.c b) * 4096 + b) run).getD 0
  let c0 := e.c x
  let es := e.h.fes.filter (fun f => run.contains f.bin)
  let n := es.length
  let fine := decide (0 < n) && decide (e.p 3 8 8 ≤ n)
  let w := e.h.binW
  let base : Int := 64 * e.h.gOpen + 64 * w * x + 32 * w
  let num : Int := if x = 0 ∨ x + 1 ≥ e.h.nbins then 0 else (e.c (x - 1) : Int) - e.c (x + 1)
  let den : Int := 2 * ((e.c (x - 1) : Int) - 2 * c0 + e.c (x + 1))
  let time : Int :=
    if fine then roundDiv (64 * es.foldl (fun a f => a + f.rel) 0 : Nat) n
    else if den = 0 ∨ num = 0 then base
    else
      let d := den.natAbs
      let m : Int := if den < 0 then -num else num
      let m2 : Int := max (-(d : Int)) (min (d : Int) (2 * m))
      roundDiv (2 * d * base + 64 * w * m2) (2 * d)
  let half := fun y => decide (16 * c0 + b16 ≤ 32 * e.c y)
  let up := countUp half (e.h.nbins - (x + 1)) (x + 1)
  let down := countDown half x
  let shoulder := countDown (fun y => decide (b16 + t16 ≤ 32 * e.c y)) (x - down)
  let m := max b16 16
  let sig := (16 * c0 - b16) * 4
  { time := time, count := c0, snr := min 65535 (isqrt (sig * sig / m)), width := min 65535 (w * (down + 1 + up)),
    plateau := shoulder, tot16 := if n = 0 then 0 else min 4095 (es.foldl (fun a f => a + f.tot) 0 / (16 * n)),
    entries := n, subShare := if n = 0 then 0 else min 255 (256 * largestShare (·.sub) es / n),
    burstShare := if n = 0 then 0 else min 255 (256 * largestShare (·.burst) es / n),
    mergedIn := decide (1 < run.length), fine := fine }

/-- PEAK (R313, R314). -/
def KernEnv.peakStage (e : KernEnv) (x : KernX) : KernX :=
  let b16 := e.background
  let k := e.p 2 16 16
  let t16 := max (16 * e.p 2 0 16) (b16 + isqrt (k * k * b16 / 16))
  let cand := sortBy (fun b => b) (e.h.scout.filter (fun b => decide (t16 ≤ 16 * e.c b)))
  let ps := sortBy (fun p => 65535 - p.count) ((binRuns cand).map (e.peak b16 t16))
  { x with peaks := ps.take (e.p 3 16 3 + 1), b16 := b16, t16 := t16, ordered := false }

/-- Merge the peaks that lie too close to a stronger ACTIVE one (R315). `i` numbers the pairs for the linked
capture's outcome, which the spec leaves open. -/
def mergeGo (sep : Int) (linked : Bool) (free : Nat → Nat) : Nat → List Peak → List Peak → List Peak
  | _, done, [] => done
  | i, done, p :: ps =>
    let near := fun q => decide (q.state = 0) && decide ((q.time - p.time).natAbs < sep.toNat)
    if p.state = 0 ∧ done.any near then
      if linked ∧ free i % 2 = 1 then
        mergeGo sep linked free (i + 1) (done.map (fun q => if near q then { q with cap := true } else q) ++ [{ p with cap := true }]) ps
      else
        mergeGo sep linked free (i + 1) (done.map (fun q => if near q then { q with mergedIn := true } else q)
          ++ [{ p with state := 1 }]) ps
    else mergeGo sep linked free (i + 1) (done ++ [p]) ps

/-- Number the ACTIVE peaks in a given order (R315); peaks of equal key take their order in the list (DESIGN CHOICE, log 95). -/
def numberPeaks (key : Peak → Int) (ps : List Peak) : List Peak :=
  let qs := ps.zipIdx
  qs.map (fun p => { p.1 with ridx := (qs.filter (fun q => decide (q.1.state = 0)
    && (decide (key q.1 < key p.1) || decide (key q.1 = key p.1) && decide (q.2 < p.2)))).length })

/-- Keep the first `n` ACTIVE peaks of a list in descending count and truncate the rest (R315). -/
def truncateGo : Nat → List Peak → List Peak
  | _, [] => []
  | n, p :: ps =>
    if p.state = 0 then
      match n with
      | 0 => { p with state := 2 } :: truncateGo 0 ps
      | m + 1 => p :: truncateGo m ps
    else p :: truncateGo n ps

/-- MULTI (R315). START and LEN of the capture request are left open by the spec (log 30). -/
def KernEnv.multiStage (e : KernEnv) (x : KernX) : KernX :=
  let linked := match e.h.capture with | some c => c.written | none => false
  let ps := mergeGo (4096 * e.p 4 8 8 : Nat) linked e.free 0 [] x.peaks
  let merged := decide ((x.peaks.filter (fun p => p.state == 1)).length < (ps.filter (fun p => p.state == 1)).length)
  let mr := e.p 4 0 3
  let ps := truncateGo (if mr = 0 then 1 else min mr 4) ps
  let ps := numberPeaks (fun p => if e.p 4 3 1 = 1 then -(p.count : Int) else p.time) ps
  let caps := if merged ∧ e.p 4 4 1 = 1 then
      x.caps ++ [[e.h.bay * 2^26 + e.h.ch * 2^23 + (e.h.col + 1) % 8192 * 2^10, e.free 64 % 2^21, e.free 65 % 992 + 1,
        e.h.frame % 65536]] else x.caps
  { x with peaks := ps, caps := caps, ordered := true }

/-- INTERF (R316). -/
def KernEnv.interfStage (e : KernEnv) (x : KernX) : KernX :=
  let one := e.g F.CODE_CODE_CFG_PULSES = 0
  let bad := fun (p : Peak) => p.state == 0 && decide (e.p 5 16 8 ≤ p.entries)
    && ((!one && decide (e.p 5 0 8 < p.subShare)) || decide (e.p 5 8 8 < p.burstShare))
  { x with peaks := x.peaks.map (fun p => if bad p then { p with state := 3 } else p),
           interf := x.interf || x.peaks.any bad }

/-- The range-zero offset of the local port in the histogram's frame (R285, R156). -/
def KernEnv.rz (e : KernEnv) : Int := toSigned 20 (e.g (F.CAL_RZ_OFFSET e.h.bay))

/-- GHOST (R317): pairs among the peaks ACTIVE when the stage starts. -/
def KernEnv.ghostStage (e : KernEnv) (x : KernX) : KernX :=
  let ratio := e.p 6 0 8
  let tol : Int := (4096 * e.p 6 8 8 : Nat)
  let delays := [e.p 7 0 16, e.p 7 16 16, e.p 8 0 16, e.p 8 16 16].filter (· != 0)
  let rz := e.rz
  let ghostOf := fun (p s : Peak) =>
    let tp := p.time - rz
    let ts := s.time - rz
    s.state == 0 && decide (p.count < s.count) && decide (p.count * 256 ≤ ratio * s.count)
      && (delays.any (fun d => decide (((tp - ts - (4096 * d : Nat)).natAbs : Int) ≤ tol))
        || (e.p 6 16 1 == 1 && decide (((tp - 2 * ts).natAbs : Int) ≤ tol)
            && decide (p.count * 65536 ≤ ratio * ratio * s.count)))
  { x with peaks := x.peaks.map (fun p => if p.state == 0 && x.peaks.any (ghostOf p) then { p with state := 4 } else p) }

/-- WALK at a time over threshold (R311). -/
def KernEnv.walk (e : KernEnv) (tot16 : Nat) : Int :=
  let home := e.h.bay / 12 * 8
  interp ((List.range 16).map (fun i => ((e.g (F.CLU_WALK_TOT16 home (e.h.bay % 12) i) : Int),
    toSigned 16 (e.g (F.CLU_WALK_WALK home (e.h.bay % 12) i))))) tot16

/-- The row within the region, which names the PIXCAL entry (R311). -/
def KernEnv.pixRow (e : KernEnv) : Nat := e.h.row % 96

/-- Range of a peak in 0.25 mm and whether it was clamped (R319). -/
def KernEnv.range (e : KernEnv) (p : Peak) : Nat × Bool :=
  let home := e.h.bay / 12 * 8
  let d := p.time - e.rz - toSigned 20 (e.g (F.CLU_PIXCAL_OFFSET_OFFSET home e.pixRow)) - e.walk p.tot16
  if d < 0 then (0, true)
  else
    let r := (roundDiv (d * 299792458) (8192 * (1000000 + e.p 13 0 16))).toNat
    if r > 16777215 then (16777215, true) else (r, false)

/-- Width ratio of a peak in 1/16 (R318). -/
def KernEnv.widthRatio (e : KernEnv) (p : Peak) : Nat := 16 * p.width / ((4 + min 28 (e.g F.CODE_CODE_CFG_WIDTH)) * 64)

/-- The weather class of a peak: the first row of the table of R318 that holds. -/
def KernEnv.weatherClass (e : KernEnv) (p : Peak) : Nat :=
  let r := (e.range p).1
  let wide := decide (e.p 9 8 8 ≤ e.widthRatio p)
  if r < 4000 * e.p 10 24 8 ∧ wide ∧ e.p 11 16 8 ≤ p.burstShare then 5
  else if r < 4000 * e.p 10 16 8 ∧ wide then 3
  else if e.p 10 0 16 ≤ p.plateau ∧ wide then 2
  else if r < 4000 * e.p 9 0 8 ∧ wide then 4
  else if r < 4000 * e.p 9 0 8 ∧ !wide ∧ p.snr < e.p 11 0 8 ∧ e.p 11 8 8 ≤ p.burstShare then 1
  else 0

/-- WEATHER (R318). -/
def KernEnv.weatherStage (e : KernEnv) (x : KernX) : KernX :=
  let sup := fun c => decide (0 < c) && e.p 9 16 1 == 1 && bit (e.p 9 24 5) (c - 1)
  let ps := x.peaks.map (fun p => if p.state = 0 then
    let c := e.weatherClass p
    { p with cls := c, state := if sup c then 5 else 0 } else p)
  { x with peaks := ps, suppressed := x.suppressed || (ps.any (fun p => p.state == 5)) }

/-- The flags a histogram header gives its records (R378). -/
def HistX.flags (h : HistX) : Nat :=
  b2n h.uncal + b2n h.refUnsettled * 2 + b2n h.eclipsed * 4 + b2n h.emitterUnver * 8 + b2n h.saturated * 16
    + b2n h.cDropped * 32 + b2n h.thinFlag * 64 + b2n h.lateGrant * 128 + b2n h.epochSplit * 256

/-- TYPE of a return of this histogram (R377). -/
def HistX.returnType (h : HistX) : Nat := match h.cross with | some x => 4 + x | none => 0

/-- ASSEMBLE (R319). LATENCY is filled in at the end of the chain. -/
def KernEnv.assembleStage (e : KernEnv) (x : KernX) : KernX :=
  let home := e.h.bay / 12 * 8
  let fill := fun (p : Peak) =>
    let r := e.range p
    let base := min 255 (p.snr)
    { p with range := r.1, clamped := r.2,
             inten := min 4095 (p.tot16 * e.g (F.CLU_PIXCAL_GAIN_GAIN home e.pixRow) / 256),
             conf := if p.cls = 0 then base else base * e.p 11 24 8 / 256 }
  let ps := x.peaks.map (fun p => if p.state = 0 then fill p else p)
  let ps := if x.ordered then ps else numberPeaks (fun _ => 0) ps
  let act := sortBy (·.ridx) (ps.filter (·.state == 0))
  let fl := e.h.flags + b2n x.interf * 512 + b2n x.suppressed * 1024
  let recs := act.map (fun p => mkRec [e.h.returnType, p.ridx, p.range, e.h.row, e.h.col, p.inten, p.tot16, p.conf, p.cls,
    fl + b2n p.clamped * 2048, 0, min 4095 e.h.thinned, 0])
  { x with peaks := ps, recs := x.recs ++ recs.map (fun r => (e.n, r)) }

/-- DWELL (R320). -/
def KernEnv.dwellStage (e : KernEnv) (x : KernX) : KernX :=
  match minBy (fun p => 65535 - p.count) (x.peaks.filter (·.state == 0)) with
  | none => x
  | some p =>
    if e.p 12 0 8 * 4 ≤ p.snr ∧ p.snr < e.p 12 8 8 * 4 ∧ !e.h.lateGrant ∧ !e.h.emitterUnver then
      { x with dwells := x.dwells ++ [(e.h.bay * 2^26 + (e.h.col + 2) % 8192 * 2^13 + e.p 12 24 8 * 2^5, e.p 12 16 8)] }
    else x

/-- A peak-list entry as any 8 words spell it (R291). -/
def Peak.ofWords (w : Nat → Nat) : Peak :=
  { time := ((w 0 % 2^32 : Nat) : Int), count := w 1 / 65536 % 65536, snr := w 1 % 65536, width := w 2 / 65536 % 65536,
    plateau := w 2 % 65536, tot16 := w 3 / 2^20 % 4096, entries := w 3 / 4096 % 256, subShare := w 4 / 2^24 % 256,
    burstShare := w 4 / 65536 % 256, cls := w 4 / 2^13 % 8, state := w 4 / 256 % 32, cap := bit (w 4) 2, mergedIn := bit (w 4) 1,
    fine := bit (w 4) 0, conf := w 5 / 2^24 % 256, range := w 5 % 2^24, inten := w 6 / 2^20 % 4096,
    own := [w 3 % 4096, w 4 / 8 % 32, w 6 % 2^20, w 7 % 2^32] }

/-- A kernel outside the standard set leaves a peak list the model does not know: free entries (log 95). -/
def KernEnv.ownerStage (e : KernEnv) (x : KernX) : KernX :=
  { x with peaks := (List.range (e.free 0 % 9)).map (fun i => Peak.ofWords (fun j => e.free (3 + 8 * i + j))),
           b16 := e.free 1 % 2^32, t16 := e.free 2 % 2^32, ordered := false }

/-- An ID of the standard set (R312). -/
def stdKernel (id : Nat) : Bool := decide (1 ≤ id) && decide (id ≤ 8)

/-- One stage (R289, R312); SKYGLOW does nothing to a histogram. -/
def KernEnv.stage (e : KernEnv) (x : KernX) (id : Nat) : KernX :=
  match id with
  | 1 => e.peakStage x
  | 2 => e.multiStage x
  | 3 => e.weatherStage x
  | 4 => e.interfStage x
  | 5 => e.ghostStage x
  | 6 => e.assembleStage x
  | 7 => e.dwellStage x
  | 8 => x
  | _ => e.ownerStage x

/-- The NO_RETURN record of a histogram (R293, R316, R318, R380), without its LATENCY: it carries INTERFERENCE and
WEATHER_SUPPRESSED where its chain has found them. -/
def HistX.noReturn (h : HistX) (k : KernX) : Nat :=
  mkRec [1, 0, (match h.cross with | some x => 2^23 + x * 2^20 | none => 0), h.row, h.col, 0, 0, 0, 0,
    h.flags + b2n k.interf * 512 + b2n k.suppressed * 1024, 0,
    min 4095 h.thinned, 0]

/-- A peak-list entry as 8 words (R291). -/
def Peak.words (p : Peak) : List Word :=
  let o := fun i => p.own.getD i 0
  [BitVec.ofInt 32 p.time, BitVec.ofNat 32 (p.count * 65536 + p.snr), BitVec.ofNat 32 (p.width * 65536 + min 65535 p.plateau),
   BitVec.ofNat 32 (p.tot16 * 2^20 + p.entries * 4096 + o 0),
   BitVec.ofNat 32 (p.subShare * 2^24 + p.burstShare * 65536 + p.cls * 2^13 + p.state * 256 + o 1 * 8 + b2n p.cap * 4
     + b2n p.mergedIn * 2 + b2n p.fine),
   BitVec.ofNat 32 (p.conf * 2^24 + p.range), BitVec.ofNat 32 (p.inten * 2^20 + o 2), BitVec.ofNat 32 (o 3)]

/-- The peak-list header and the list as words (R290, R291). -/
def KernX.words (x : KernX) : List Word :=
  [BitVec.ofNat 32 x.peaks.length, BitVec.ofNat 32 x.b16, BitVec.ofNat 32 x.t16, 0#32, 0#32, 0#32, 0#32, 0#32]
    ++ x.peaks.flatMap Peak.words

/-- Default of a store of ambient cells. -/
def cell0 (_ : Nat) : AmbCell := {}

/-- Observed rate of a window in 1/64 event per µs (R354). -/
def skyRate (n len : Nat) : Nat := n * 64000 / len

/-- A Skyglow pixel: state, HDR and value (R354 to R356). -/
structure SkyPix where
  state : Nat
  hdr : Nat := 0
  value : Nat := 0
  thinned : Bool := false
  short : Bool := false
  deriving DecidableEq, Repr

/-- The pixel word (R357). -/
def SkyPix.word (p : SkyPix) : Nat :=
  p.state * 16384 + b2n p.thinned * 8192 + b2n p.short * 4096 + (if p.state = 2 then 0 else p.value)

/-- The tone curve (R356). -/
def toneOf (g : Fld → Nat) (hdr : Nat) : Nat :=
  let k := width (hdr + 1) - 1
  let a : Int := g (F.SKY_TONE_CODE k)
  let b : Int := g (F.SKY_TONE_CODE (k + 1))
  (a + Int.tdiv ((b - a) * ((hdr : Int) - 2^k + 1)) ((2^k : Nat) : Int)).toNat

/-- SKYGLOW for one pixel of bay `b` (R354 to R357). -/
def skyPixel (g : Fld → Nat) (b lenL lenS : Nat) (c : AmbCell) : SkyPix :=
  let tab := (List.range 8).map (fun i => ((g (F.SKY_PILEUP_RATE b i) : Int), (g (F.SKY_PILEUP_FACTOR b i) : Int)))
  let top := g (F.SKY_PILEUP_RATE b 7)
  let lin := fun (n len : Nat) => let m := skyRate n len; m * (interp tab m).toNat / 4096
  let bright := fun (n len : Nat) => decide (0 < len) && decide (top < skyRate n len)
  let cut := decide (lenL < g F.SKY_LISTEN_LONG_LEN) || decide (lenS < g F.SKY_LISTEN_SHORT_LEN)
  if !c.active ∨ (lenL = 0 ∧ lenS = 0) then { state := 2, thinned := c.thinned, short := cut }
  else
    let knee := min 1022 (g F.SKY_MERGE_KNEE)
    let rl : Int := lin c.long lenL
    let rs : Int := lin c.short lenS
    let wn : Int := ((min 1023 (max knee c.long) - knee : Nat) : Int)
    let hdr : Int := if lenS = 0 then rl else if lenL = 0 then rs
      else rl + Int.tdiv ((rs - rl) * wn) ((1023 - knee : Nat) : Int)
    let h := min 1048574 hdr.toNat
    let sat := bright c.long lenL || bright c.short lenS
      || (decide (0 < lenL) && c.long == 1023 && (lenS == 0 || c.short == 1023))
    { state := b2n sat, hdr := h, value := toneOf g h, thinned := c.thinned, short := cut }

end Sys2Proof.Machine
end

