-- ==== Sys2Proof/Machine/Wave.lean ====
section
/-! DEFINITION. The waveform digitisers (09_waveform_digitisers.md): shots, the scan rotation, urgent requests,
captures and their way to a histogram, the estimator, firmware or the stream. -/
namespace Sys2Proof.Machine

/-- Sources of a capture (R329): the scan rotation. -/
def srcRotation : Nat := 0
/-- An Echo engine. -/
def srcEngine : Nat := 1
/-- A CAL_WAVE task. -/
def srcCal : Nat := 2
/-- A resume check. -/
def srcHalo : Nat := 3
/-- WAVE_HOST_REQ. -/
def srcHost : Nat := 4

/-- LEN limit of a source (R329). -/
def capLimit (src : Nat) : Nat := if src = srcCal ∨ src = srcHost then 2048 else 992
/-- Chunks of a capture (R335). -/
def capChunks (len : Nat) : Nat := if len ≤ 992 then 1 else if len ≤ 2016 then 2 else 3
/-- First sample instant at or after a tick (R324, R330). -/
def sampleAt (t : Nat) : Nat := (5 * t + 255) / 256

/-- WAVE_STATUS.STATE values (R345): OFF, WAKING, ON, DRAINING. -/
def Dev.waveState (s : Dev) (b : Nat) : Nat := s.gf (F.BAY_WAVE_STATUS_STATE b)
/-- Set WAVE_STATUS.STATE; a change sets WAVE_STATE (R346). -/
def Dev.setWaveState (s : Dev) (b v : Nat) : Dev :=
  if s.waveState b = v then s else (s.sf (F.BAY_WAVE_STATUS_STATE b) v).event (E.BAY_WAVE_STATE b)

/-- A bay's digitiser. -/
def Dev.wave (s : Dev) (b : Nat) : WaveX := (s.bay b).wave
/-- Replace a bay's digitiser; URGENT follows (R345). -/
def Dev.setWave (s : Dev) (b : Nat) (w : WaveX) : Dev :=
  (s.setBay b { s.bay b with wave := w }).sf (F.BAY_WAVE_STATUS_URGENT b) w.urgent.length

/-- WAVE_STATUS.BUSY (R345): a capture is sampling, from its first sample instant to its last. -/
def Dev.sampling (s : Dev) (b : Nat) : Bool :=
  (s.wave b).inFlight.any (fun c => decide (c.g0 ≤ 5 * s.now) && decide (5 * s.now ≤ c.gEnd))

/-- CH_STATUS.STATE is ACTIVE (R104). -/
def Dev.chActive (s : Dev) (b c : Nat) : Bool := s.gf (F.BAY_CH_STATUS_STATE b c) == 0

/-- The frame number that the low 16 bits name: the nearest to the frame in progress. -/
def frameNear (cur low : Nat) : Nat := ofSigned 32 ((cur : Int) + toSigned 16 ((low + 65536 - cur % 65536) % 65536))

/-- A frame has ended: it is before the frame in progress, or its flyback has begun (R332). -/
def Dev.frameEnded (s : Dev) (f : Nat) : Bool :=
  let cur := s.gf F.SCAN_FRAME_NUM_FRAME
  if f = cur then (match s.frame? f with | some x => x.flyback | none => false) else leqMod f cur

/-- Drop an urgent request (R332). -/
def Dev.dropUrgent (s : Dev) (b : Nat) : Dev :=
  (s.inc (F.BAY_URGENT_DROPPED_COUNT b)).raise (C.BAY_WAVE_CAP_LOST b)

/-- An urgent request arrives (R332). Answers whether it was queued. -/
def Dev.urgent (s : Dev) (b : Nat) (c : CaptureX) (region : Nat) (named : Bool) : Bool × Dev :=
  let w := s.wave b
  if 4 ≤ w.urgent.length ∨ !(s.chActive b c.ch) ∨ b / 12 ≠ region ∨ c.len = 0 ∨ (named ∧ s.frameEnded c.frame) then
    (false, s.dropUrgent b)
  else (true, s.setWave b { w with urgent := w.urgent ++ [{ c with arrived := s.now }] })

/-- The next channel of the rotation after `c`, wrapping (R333). -/
def Dev.nextPointer (s : Dev) (b c : Nat) : Option Nat :=
  ((List.range 8).map (fun i => (c + 1 + i) % 8)).find? (fun k =>
    bit (s.gf (F.BAY_WAVE_SCAN_MASK b)) k && s.chActive b k)

/-- The channel the rotation captures: the pointer's, or the next enabled one (R333, R334). -/
def Dev.pointer (s : Dev) (b : Nat) : Option Nat := s.nextPointer b ((s.gf (F.BAY_WAVE_STATUS_POINTER b) + 7) % 8)

/-- The pointer leaves a channel that is masked or not ACTIVE (R333, R334); it stands still while the bay is paused, ROT_EN
is 0 or CAL_WAVE runs (R343). -/
def Dev.pointerSync (s : Dev) (b : Nat) : Dev :=
  if s.on (F.BAY_WAVE_CTRL_ROT_EN b) && s.run (.bay b) != rPaused && !(s.on (F.BAY_WAVE_STATUS_CAL_BUSY b)) then
    match s.pointer b with
    | some k => s.sf (F.BAY_WAVE_STATUS_POINTER b) k
    | none => s
  else s

/-- Priority of a source among urgent requests (R331): HALO, CAL, ENGINE, HOST. -/
def srcRank (src : Nat) : Nat := if src = srcHalo then 0 else if src = srcCal then 1 else if src = srcEngine then 2 else 3

/-- An urgent request can be served by a shot at `ref` of column `col` of frame `frame` (R332, R340). -/
def CaptureX.servable (c : CaptureX) (ref frame col : Nat) (calBusy : Bool) : Bool :=
  if c.source = srcHalo then true
  else !calBusy && decide (c.arrived * 256 + 51200 ≤ ref)
    && (c.source == srcHost || (c.frame == frame && decide (c.col ≤ col)))

/-- The captures' correction state of one sample's slice: whether the spare serves it, and the correction held
(R325, R327). Slices are keyed 8 b + s, the phases of the spare 8 b + 4 + s. -/
def slice0 (_ : Nat) : SliceX := {}
/-- Slice `i` of bay `b`: 0 to 3 the slices, 4 to 7 the spare's phases. -/
def Dev.slice (s : Dev) (b i : Nat) : SliceX := fget slice0 s.slices (8 * b + i)
/-- Replace a slice. -/
def Dev.setSlice (s : Dev) (b i : Nat) (x : SliceX) : Dev := { s with slices := fset slice0 s.slices (8 * b + i) x }

/-- The spare slice serves phase `k` (R324). -/
def Dev.spareServes (s : Dev) (b k : Nat) : Bool :=
  s.on (F.BAY_WAVE_STATUS_SPARE_IN_USE b) && s.gf (F.BAY_WAVE_STATUS_SPARE_FOR b) == k

/-- What takes the samples of phase `k`. -/
def Dev.phaseSlice (s : Dev) (b k : Nat) : Nat := if s.spareServes b k then 4 + k else k

/-- The blend of two numbers at step `n` of 16, rounded down (R146, R151). -/
def blend16 (old new : Int) (n : Nat) : Int := old + (new - old) * n / 16

/-- The correction in force of a slice (R151). -/
def SliceX.force (x : SliceX) : SliceCorr :=
  if 16 ≤ x.step then x.new
  else { offset := blend16 x.old.offset x.new.offset x.step, gain := blend16 x.old.gain x.new.gain x.step,
         skew := blend16 x.old.skew x.new.skew x.step }

/-- A stored sample of a raw code (R325). -/
def stored (c : SliceCorr) (code : Int) : Int :=
  let v := Int.tdiv ((3200 * code - 32 * c.offset) * (100000 - c.gain)) 10000000
  max (-16384) (min 16383 v)

/-- The phases a capture of `len` samples from `g0` uses. -/
def phasesOf (g0 len : Nat) : List Nat := (List.range (min 4 len)).map (fun i => (g0 + i) % 4)

/-- Raise WAVE_UNCORRECTED for the phases of a list whose slice in use has no accepted correction (R328). -/
def Dev.uncorrected (s : Dev) (b : Nat) (ks : List Nat) : Dev :=
  (ks.filter (fun k => !(s.slice b (s.phaseSlice b k)).valid)).foldl (fun (s : Dev) k =>
    s.raise (C.BAY_WAVE_UNCORRECTED b) (if s.spareServes b k then 4 else k)) s

/-- The samples a capture of a source may hold from its placement on (R329, R330, R341): a HALO capture runs to
HALO_WIN.CLOSE. -/
def CaptureX.wanted (c : CaptureX) (ref start : Nat) : Nat :=
  if c.source = srcHalo then sampleAt (ref + c.close) - sampleAt (ref + start) else c.len

/-- A taken ROTATION or ENGINE capture meets the histogram of its channel for its shot's column (R337): it is linked, takes the
place of one of the same or a lower source, or is released; with no such histogram it is released. -/
def Dev.linkCapture (s : Dev) (b : Nat) (c : CaptureX) : Dev :=
  match s.hists.find? (fun e => e.2.bay == b && e.2.ch == c.ch && e.2.frame == c.frame && e.2.col == c.col
      && e.2.cross == none && (e.2.st == .waiting || e.2.st == .granted)) with
  | none => s.releaseCapture b c
  | some (id, h) =>
    match h.capture with
    | none => s.modHist id (fun h => { h with capture := some c })
    | some old =>
      let s := s.inc (F.BAY_CAP_REPLACED_COUNT b)
      if old.source ≤ c.source then (s.releaseCapture b old).modHist id (fun h => { h with capture := some c })
      else s.releaseCapture b c

/-- Take a capture (R330, R331, R335): clip its placement, request its chunks, start sampling, and link it (R337). Answers
whether a capture was taken. -/
def Dev.takeCapture (s : Dev) (b : Nat) (c : CaptureX) (ref frame col idx cls : Nat) : Bool × Dev :=
  let w := s.wave b
  let cal := c.source == srcCal
  let open_ := s.gf (F.BAY_GATE_OPEN_OPEN b)
  let close := s.gf (F.BAY_GATE_CLOSE_CLOSE b)
  let start := if cal then c.start else max c.start open_
  let g0 := sampleAt (ref + start)
  let want := c.wanted ref start
  let len1 := min want (capLimit c.source)
  let len := if cal then len1 else min len1 (sampleAt (ref + close) - g0)
  if len = 0 then (false, s)
  else if w.inFlight.any (fun a => decide (a.g0 < g0 + len) && decide (g0 ≤ a.gEnd)) then
    (false, s.inc (F.BAY_CAP_BUSY_COUNT b))
  else
    let need := capChunks len
    let floor := s.floorServes b need
    let free := s.canShare (b / 12) cls need && (s.waiting (b / 12)).all (fun e => decide (cls < e.2.cls))
    if s.regionQuiet (b / 12) ∨ (!floor ∧ !free) then (false, s.inc (F.BAY_CAP_NO_CHUNK_COUNT b))
    else
      let (cs, s) := s.takeChunks b need cls floor
      let ph := phasesOf g0 len
      let bad := ph.filter (fun k => !(s.slice b (s.phaseSlice b k)).valid)
      let blending := (List.range 8).any (fun i => let x := s.slice b i; x.valid && decide (x.step < 16))
      let cap := { c with len := len, start := start, frame := frame, col := col, burst := idx, ref := ref, g0 := g0,
                          gEnd := g0 + len - 1, t0 := 256 * g0 - 5 * ref, cls := cls, chunks := cs, floorServed := floor,
                          clipped := c.clipped || decide (len < want) || decide (start ≠ c.start),
                          blending := blending, uncorrected := !bad.isEmpty, spare := ph.any (s.spareServes b),
                          epoch := s.gf F.CAL_EPOCH_EPOCH, gen := s.gf F.SKY_GEN_G % 65536 }
      let s := s.uncorrected b ph
      let s := s.setWave b { w with inFlight := sortBy (fun a => a.gEnd) (w.inFlight ++ [cap]),
                                    calAt := if cal then s.now else w.calAt }
      let s := if cal then s else s.sf (F.BAY_WAVE_STATUS_TAP b) c.ch
      (true, if c.source ≤ srcEngine then s.linkCapture b cap else s)

/-- The pool class of a capture (R329). -/
def Dev.capClass (s : Dev) (b : Nat) (c : CaptureX) (frame col : Nat) : Nat :=
  if c.source = srcHalo then 0
  else if c.source = srcCal ∨ c.source = srcHost then 2
  else match s.frame? frame with
    | some f => f.pixelClass b c.ch col
    | none => 1

/-- Remove the first element with the property. -/
def removeFirst {α : Type} (p : α → Bool) : List α → List α
  | [] => []
  | a :: as => if p a then as else a :: removeFirst p as

/-- A shot: the capture of a launched burst (R331). -/
def Dev.shot (s : Dev) (b ref frame col idx : Nat) (proof : Bool) : Dev :=
  if s.waveState b ≠ 2 then s
  else
    let w := s.wave b
    let calBusy := s.on (F.BAY_WAVE_STATUS_CAL_BUSY b)
    let cands := w.urgent.filter (fun c => if proof then c.source == srcHalo else c.servable ref frame col calBusy)
    match minBy (fun c => srcRank c.source) (if calBusy ∧ cands.all (fun c => c.source ≠ srcHalo) then [] else cands) with
    | some c =>
      let r := s.takeCapture b c ref frame col idx (s.capClass b c frame col)
      if r.1 then
        let w := r.2.wave b
        (r.2.setWave b { w with urgent := removeFirst (· == c) w.urgent }).inc (F.BAY_URGENT_SERVED_COUNT b)
      else r.2
    | none =>
      if proof then s
      else if calBusy then (s.takeCapture b { source := srcCal, ch := 0, start := 0, len := 2048 } ref frame col idx 2).2
      else if s.on (F.BAY_WAVE_CTRL_ROT_EN b) then
        match s.pointer b with
        | none => s
        | some k =>
          let s := s.sf (F.BAY_WAVE_STATUS_POINTER b) k
          let c : CaptureX := { source := srcRotation, ch := k, start := s.gf (F.BAY_WAVE_PLACE_START b),
                                len := max 1 (min 992 (s.gf (F.BAY_WAVE_SCAN_LEN b))) }
          let r := s.takeCapture b c ref frame col idx (s.capClass b c frame col)
          if r.1 then
            match r.2.nextPointer b k with
            | some k' => r.2.sf (F.BAY_WAVE_STATUS_POINTER b) k'
            | none => r.2
          else r.2
      else s

/-- A resume check's proof burst at `ref` requests a HALO capture, which names no frame (R341). -/
def Dev.haloRequest (s : Dev) (p ref : Nat) : Dev :=
  if s.on (F.BAY_WAVE_CTRL_HALO_CAP p) ∧ s.waveState p = 2 then
    let o := s.gf (F.CAL_HALO_WIN_OPEN p)
    let c := s.gf (F.CAL_HALO_WIN_CLOSE p)
    (s.urgent p { source := srcHalo, ch := s.gf (F.CAL_HALO_REF_CH p), start := o, close := c,
                  len := sampleAt (ref + c) - sampleAt (ref + o) } (p / 12) false).2
  else s

/-- Urgent requests still pending at the flyback of the frame they name expire (R332). -/
def Dev.waveFlyback (s : Dev) (b : Nat) : Dev :=
  let w := s.wave b
  let names := fun (c : CaptureX) => c.source != srcHost && c.source != srcHalo
  let dead := w.urgent.filter (fun c => names c && s.frameEnded c.frame)
  if dead.isEmpty then s
  else
    let s := s.setWave b { w with urgent := w.urgent.filter (fun c => !(names c && s.frameEnded c.frame)) }
    dead.foldl (fun (s : Dev) _ => (s.inc (F.BAY_URGENT_EXPIRED_COUNT b)).raise (C.BAY_WAVE_CAP_LOST b)) s

/-- The linked capture that has been written stands in its histogram's chunks (R336, R337). -/
def Dev.fillCapture (s : Dev) (b : Nat) (c : CaptureX) : Dev :=
  let mine := fun (a : CaptureX) => a.g0 == c.g0 && !a.written
  { s with hists := s.hists.map (fun e =>
      if e.2.bay = b ∧ e.2.capture.any mine then (e.1, { e.2 with capture := some c }) else e) }

/-- The index of the first largest element and that element. -/
def peakOf (vs : List Int) : Nat × Int :=
  let m := vs.foldl max (vs.headD 0)
  (vs.findIdx (· == m), m)

/-- CAPTURE_WRITTEN (R323, R325, R336 to R341): the bay's oldest capture is in its chunks. `samples` are the raw
codes its slices gave. -/
def Dev.captureWritten (s : Dev) (bay : Fin 48) (samples : List Int) : Dev :=
  let b := bay.val
  let w := s.wave b
  match w.inFlight with
  | [] => s
  | c :: rest =>
    let s := s.advanceTo ((c.gEnd + 4) / 5)
    let code := fun i => max (-512) (min 511 (samples.getD i 0))
    let corr := fun k => let x := s.slice b (s.phaseSlice b k); if x.valid then x.force else {}
    let vs := (List.range c.len).map (fun i => stored (corr ((c.g0 + i) % 4)) (code i))
    let clipped := ((List.range c.len).filter (fun i => code i == -512 || code i == 511)).length
    let c := { c with samples := vs, overrange := min 65535 clipped, written := true }
    let s := s.setWave b { w with inFlight := rest }
    let s := s.inc (F.BAY_OVERRANGE_COUNT b) clipped
    if c.lost then s else
    let s := s.inc (F.BAY_CAPTURES_COUNT b)
    if c.source = srcHalo then
      let p := peakOf vs
      let s := s.wr (R.BAY_WAVE_HALO b) (BitVec.ofNat 32 (ofSigned 16 p.2 * 65536 + p.1))
      s.freeChunks b c.cls c.floorServed c.chunks
    else if c.source = srcHost then s.setWave b { s.wave b with hostCap := some c }
    else if c.source = srcCal then
      (s.setWave b { s.wave b with calCaps := (s.wave b).calCaps + 1 }).freeChunks b c.cls c.floorServed c.chunks
    else s.fillCapture b c

/-- A linked capture not yet written when its histogram closes is released (R338). -/
def Dev.lateCaptures (s : Dev) (id : Nat) (h : HistX) : Dev :=
  match h.capture.filter (fun c => !c.written) with
  | some c => ((s.releaseCapture h.bay c).inc (F.BAY_CAP_LATE_COUNT h.bay)).modHist id (fun h => { h with capture := none })
  | none => s

/-- HISTOGRAM_CLOSE (R250): the bay's granted histogram with the earliest closing time closes at that time,
without a capture still being written (R338). -/
def Dev.histogramClose (s : Dev) (b : Fin 48) : Dev :=
  match minBy (fun e => e.2.closeKey) (s.hists.filter (fun e => e.2.bay == b.val && e.2.st == .granted)) with
  | none => s
  | some (id, h) => ((s.advanceTo ((h.closeTick + 255) / 256)).lateCaptures id h).closeHist id

/-- CAL_IDLE_CAPTURE (R331): the digitiser is idle under a CAL_WAVE task and takes a capture of the tone generator, 2 us after
the last. -/
def Dev.calIdleCapture (s : Dev) (bay : Fin 48) : Dev :=
  let b := bay.val
  if s.waveState b = 2 ∧ s.on (F.BAY_WAVE_STATUS_CAL_BUSY b) ∧ (s.wave b).inFlight.isEmpty then
    let s := s.advanceTo ((s.wave b).calAt + 2000)
    (s.takeCapture b { source := srcCal, ch := 0, start := 0, len := 2048 } s.tick (s.gf F.SCAN_FRAME_NUM_FRAME) 0 0 2).2
  else s

/-- Hold a write of a waveform register (R344), in the order of last writes. -/
def Dev.holdWave (s : Dev) (b off : Nat) (data : Word) (q : Requester) : Dev :=
  let w := s.wave b
  (s.setWave b { w with held := w.held.filter (fun e => e.1 != off) ++ [(off, data, q)] }).sb
    (F.BAY_WAVE_STATUS_HELD_WRITES b) true

/-- A HOST request is pending, or its capture is not yet delivered (R340). -/
def WaveX.hostBusy (w : WaveX) : Bool :=
  w.urgent.any (fun c => c.source == srcHost) || w.inFlight.any (fun c => c.source == srcHost && !c.lost) || w.hostCap.isSome

/-- A write of WAVE_HOST_REQ1 with GO while the digitiser is ON (R340). -/
def Dev.hostGo (s : Dev) (b : Nat) (data : Word) : Dev :=
  let w := s.wave b
  if w.hostBusy ∨ s.streamState ≠ 1 then s.refuse (.bay b)
  else
    let s := (s.sf (F.BAY_WAVE_HOST_REQ1_CH b) (bits data 27 3)).sf (F.BAY_WAVE_HOST_REQ1_LEN b) (bits data 0 11)
    let s := if bits data 30 1 = 1 then s.sf (F.BAY_WAVE_HOST_REQ1_HOST_DONE b) 0 else s
    let r := s.urgent b { source := srcHost, ch := bits data 27 3, start := s.gf (F.BAY_WAVE_HOST_REQ0_START b),
                          len := bits data 0 11 + 1 } (b / 12) false
    r.2

/-- A capture as bytes (R336). -/
def CaptureX.bytes (c : CaptureX) (b spareFor : Nat) : List Nat :=
  let w := fun (v : Nat) => wordBytes (BitVec.ofNat 32 v)
  let hdr := [b * 2^26 + (if c.source = srcCal then 0 else c.ch) * 2^23 + c.source * 2^20 + c.chunks.length * 2^18 + c.len,
    c.frame, c.col * 2^19 + (8 * b + c.ch) * 2^10 + c.burst % 256 * 4, low32 c.ref, c.t0 % 2^23,
    c.overrange * 65536 + b2n (c.source == srcCal) * 128 + b2n c.clipped * 64 + b2n c.spare * 32 + b2n c.blending * 16
      + b2n c.uncorrected * 8 + (if c.spare then spareFor else 0),
    c.gen * 65536 + c.epoch % 65536]
  (hdr ++ List.replicate 9 0).flatMap w ++ c.samples.flatMap (fun v => let u := ofSigned 16 v; [u % 256, u / 256])

/-- Split bytes into packets of at most 1,008. -/
def slices1008 : Nat → Nat → List Nat → List (Nat × List Nat)
  | 0, _, _ => []
  | n + 1, off, bs => if bs.isEmpty then [] else (off, bs.take 1008) :: slices1008 n (off + 1008) (bs.drop 1008)

/-- Payload of a SNAPSHOT packet (R393). -/
def snapPayload (source slot off total : Nat) (bs : List Nat) : List Word :=
  [BitVec.ofNat 32 (source * 2^28 + slot * 2^24), BitVec.ofNat 32 off, BitVec.ofNat 32 total, BitVec.ofNat 32 bs.length]
    ++ packBytes bs

/-- The SNAPSHOT packets of a HOST capture as offsets and data (R393). -/
def Dev.hostSlices (s : Dev) (b : Nat) (c : CaptureX) : List (Nat × List Nat) :=
  let bs := c.bytes b (s.gf (F.BAY_WAVE_STATUS_SPARE_FOR b))
  slices1008 bs.length 0 bs

/-- A HOST capture's SNAPSHOT packets enter the output buffer, its chunks are released and HOST_DONE is set (R340, R393). -/
def Dev.hostDeliver (s : Dev) (b : Nat) (c : CaptureX) : Dev :=
  let ps := s.hostSlices b c
  let total := ps.foldl (fun n p => n + p.2.length) 0
  let s := ps.foldl (fun (s : Dev) p =>
    s.emit_ kSnapshot srcChip false (s.gf F.SCAN_FRAME_NUM_FRAME) (snapPayload 2 15 p.1 total p.2)) s
  let s := (s.freeChunks b c.cls c.floorServed c.chunks).setWave b { s.wave b with hostCap := none }
  (s.sf (F.BAY_WAVE_HOST_REQ1_HOST_DONE b) 1).event (E.BAY_HOST_DONE b)

/-- HOST_CAPTURE_DELIVERED (R340, R393, R394): a HOST capture is delivered once the output buffer has room for its packets outside
the reserve, and waits until then. -/
def Dev.hostCaptureDelivered (s : Dev) (bay : Fin 48) : Dev :=
  let b := bay.val
  match (s.wave b).hostCap with
  | none => s
  | some c =>
    let bytes := (s.hostSlices b c).foldl (fun n p => n + 32 + (p.2.length + 15) / 16 * 16) 0
    if s.stream.hasRoom kSnapshot bytes then s.hostDeliver b c else s

/-- The stream has reached OFF: a pending HOST request and a capture not yet delivered are dropped (R340). -/
def Dev.dropHost (s : Dev) (b : Nat) : Dev :=
  let w := s.wave b
  let s := if w.urgent.any (fun c => c.source == srcHost) then
      (s.setWave b { w with urgent := w.urgent.filter (fun c => c.source != srcHost) }).dropUrgent b else s
  let w := s.wave b
  let s := if w.inFlight.any (fun c => c.source == srcHost && !c.lost) then
      let s := (w.inFlight.filter (fun c => c.source == srcHost && !c.lost)).foldl
        (fun (s : Dev) c => (s.freeChunks b c.cls c.floorServed c.chunks).dropUrgent b) s
      s.setWave b { w with inFlight := w.inFlight.map (fun c => if c.source = srcHost then { c with lost := true } else c) }
    else s
  match (s.wave b).hostCap with
  | some c =>
    ((s.freeChunks b c.cls c.floorServed c.chunks).setWave b { s.wave b with hostCap := none }).dropUrgent b
  | none => s

/-- The HOST requests and captures of every bay are dropped, for the stream is OFF (R340). -/
def Dev.dropHosts (s : Dev) : Dev := forN 48 (fun b (s : Dev) => s.dropHost b) s

/-- What a digitiser holds in the pool for no histogram is released, for its registers are reset (R58). -/
def Dev.clearWave (s : Dev) (b : Nat) : Dev :=
  let w := s.wave b
  let own := (w.inFlight.filter (fun c => decide (srcEngine < c.source) && !c.lost)) ++ w.hostCap.toList
  own.foldl (fun (s : Dev) c => s.freeChunks b c.cls c.floorServed c.chunks) s

/-- STREAM_STOPPED (R398, R340): everything accepted has left, and STATE reads OFF. -/
def Dev.streamStopped (s : Dev) : Dev :=
  let t := s.streamDrained
  if s.streamState ≠ 0 ∧ t.streamState = 0 then t.dropHosts else t

/-- Start the digitiser's drain (R344): pending urgent requests are dropped. -/
def Dev.drainWave (s : Dev) (b : Nat) : Dev :=
  if s.waveState b = 2 then
    let w := s.wave b
    let n := w.urgent.length
    let s := (s.setWave b { w with urgent := [], offPend := false }).inc (F.BAY_URGENT_DROPPED_COUNT b) n
    s.setWaveState b 3
  else if s.waveState b = 1 then s.setWave b { s.wave b with offPend := true }
  else if s.waveState b = 3 then s.sb (F.BAY_WAVE_STATUS_REENABLE_PENDING b) false
  else s

/-- Start the digitiser (R344): a drain in progress is not aborted. -/
def Dev.wakeWave (s : Dev) (b : Nat) : Dev :=
  if s.waveState b = 0 then s.setWaveState b 1
  else if s.waveState b = 3 then s.sb (F.BAY_WAVE_STATUS_REENABLE_PENDING b) true
  else if s.waveState b = 1 then s.setWave b { s.wave b with offPend := false }
  else s

/-- WAVE_DISABLE (R344). -/
def Dev.waveDisable (s : Dev) (bay : Fin 48) (_ : Requester) : Dev :=
  (s.sb (F.BAY_WAVE_CTRL_EN bay.val) false).drainWave bay.val

/-- WAVE_ENABLE (R344): the digitiser wakes where its bay is ON and not paused. -/
def Dev.waveEnable (s : Dev) (bay : Fin 48) (_ : Requester) : Dev :=
  let s := s.sb (F.BAY_WAVE_CTRL_EN bay.val) true
  if s.isOn (.bay bay.val) ∧ s.run (.bay bay.val) ≠ rPaused then s.wakeWave bay.val else s

/-- The digitiser of a bay that works again wakes where EN is set (R344). -/
def Dev.waveResume (s : Dev) (b : Nat) : Dev :=
  if s.on (F.BAY_WAVE_CTRL_EN b) ∧ s.isOn (.bay b) ∧ s.run (.bay b) ≠ rPaused ∧ !(s.region (b / 12)).quarantined then
    (s.wakeWave b).pointerSync b
  else s

/-- Background estimation of a bay starts anew: each slice's first estimate is a PERIOD away (R326, R344). -/
def Dev.restartEst (s : Dev) (b : Nat) : Dev :=
  let s := s.setWave b { s.wave b with estAt := forN 5 (fun i m => fset count0 m i s.now) [] }
  forN 8 (fun i (s : Dev) => s.setSlice b i { s.slice b i with lastEst := none }) s

/-- WAVE_DRAIN_COMPLETE (R344): the capture that was sampling is stored and the supply switch opens. -/
def Dev.waveDrainComplete (s : Dev) (bay : Fin 48) : Dev :=
  let b := bay.val
  if s.waveState b = 3 ∧ (s.wave b).inFlight.isEmpty then
    let again := s.on (F.BAY_WAVE_STATUS_REENABLE_PENDING b)
    (s.sb (F.BAY_WAVE_STATUS_REENABLE_PENDING b) false).setWaveState b (if again then 1 else 0)
  else s

end Sys2Proof.Machine
end

