-- ==== Sys2Proof/Machine/Sky.lean ====
section
/-! DEFINITION. The Skyglow image (10_skyglow_image.md): listen windows, ambient blocks, their results and the
statistics of a frame. -/
namespace Sys2Proof.Machine

/-- An ambient block by its number. -/
def Dev.amb? (s : Dev) (id : Nat) : Option AmbBlock := (s.ambs.find? (fun e => e.1 == id)).map (·.2)
/-- Change an ambient block. -/
def Dev.modAmb (s : Dev) (id : Nat) (g : AmbBlock → AmbBlock) : Dev :=
  { s with ambs := s.ambs.map (fun e => if e.1 == id then (e.1, g e.2) else e) }

/-- TDC_TIMING.TIMEOUT of a bay in ticks (R101). -/
def Dev.timeoutTicks (s : Dev) (b : Nat) : Nat := s.gf (F.BAY_TDC_TIMING_TIMEOUT b) * 4 * 256

/-- Ticks of the interval [a, z) outside every [ref, ref + t), the references in rising order (R348). -/
def uncovered (t : Nat) : Nat → Nat → List Nat → Nat
  | a, z, [] => z - a
  | a, z, r :: rs => (min z r - a) + uncovered t (max a (r + t)) z rs

/-- An interval of ticks overlaps a window of a column that ends at tick `stop` (R349). -/
def overlapsWindow (x : ListenX) (open_ len stop : Nat) (i : Nat × Nat) : Bool :=
  let a := x.startTick + 256 * open_
  let z := min (a + 256 * len) stop
  decide (a < z) && decide (i.1 < z) && decide (a < i.2)

/-- Effective length in ns of a window of a column (R348). -/
def effLen (x : ListenX) (open_ len t stop : Nat) : Nat :=
  let a := x.startTick + 256 * open_
  uncovered t a (min (a + 256 * len) stop) (sortBy (fun r => r) x.proofs) / 256

/-- Whether a TIME lies in a window of a column (R347, R348). -/
def inWindow (x : ListenX) (open_ len time : Nat) : Bool :=
  let a := x.startTick + 256 * open_
  decide (a ≤ time) && decide (time < a + 256 * len) && (match x.endTick with | some z => decide (time < z) | none => true)

/-- A setting of the frame that an ambient block belongs to (R353, R362). -/
def Dev.ambSet (s : Dev) (id : Nat) (f : Fld) : Nat :=
  match s.amb? id with
  | some a => s.gfAt a.frame f
  | none => s.gf f

/-- An ambient event is counted in the windows of one column that hold it (R347). -/
def Dev.countIn (s : Dev) (c time : Nat) (x : ListenX) : Dev :=
  let add := fun (n : Nat) (hit : Bool) => min 1023 (n + b2n hit)
  let g := s.ambSet x.amb
  let l := inWindow x (g F.SKY_LISTEN_LONG_OPEN) (g F.SKY_LISTEN_LONG_LEN) time
  let h := inWindow x (g F.SKY_LISTEN_SHORT_OPEN) (g F.SKY_LISTEN_SHORT_LEN) time
  if bit x.active c && (l || h) then
    s.modAmb x.amb (fun a =>
      let k := 8 * x.idx + c
      let v := fget cell0 a.cells k
      { a with cells := fset cell0 a.cells k { v with long := add v.long l, short := add v.short h } })
  else s

/-- An ambient event at TIME `time` of channel `c` (R246, R347). -/
def Dev.ambient (s : Dev) (b c time : Nat) : Dev :=
  let x := s.bay b
  let s := match x.listenPrev with | some p => s.countIn c time p | none => s
  match x.listen with | some p => s.countIn c time p | none => s

/-- A proof burst of the paired port excludes its interval from the windows it reaches (R348). -/
def Dev.listenProof (s : Dev) (b ref : Nat) : Dev :=
  let x := s.bay b
  s.setBay b { x with proofs := x.proofs.filter (fun r => decide (s.tick < r + s.timeoutTicks b)) ++ [ref],
                      listen := x.listen.map (fun (l : ListenX) => { l with proofs := l.proofs ++ [ref] }) }

/-- The IMAGE packet of a batch (R391, R370). -/
def Dev.emitImage (s : Dev) (a : AmbBlock) (pix : Nat → Nat → Nat) : Dev :=
  match s.frame? a.frame with
  | some f =>
    if f.streamed ∧ !f.closed ∧ a.ncol ≠ 0 ∧ f.on F.SKY_CTRL_EN ∧ s.on F.SKY_CTRL_IMAGE_OUT then
      let px := (List.range 128).map (fun i => if i / 8 < a.ncol then pix (i / 8) (i % 8) else 0)
      s.emit_ kImage (a.bay / 12) false a.frame
        ([BitVec.ofNat 32 a.frame, BitVec.ofNat 32 (a.bay * 2^26 + a.ncol * 2^21 + a.first), BitVec.ofNat 32 (a.gen * 65536 + a.epoch % 65536),
          0#32] ++ packBytes (px.flatMap (fun v => [v % 256, v / 256])))
    else s
  | none => s

/-- Default of a store of zones. -/
def zone0 (_ : Nat) : ZoneX := {}

/-- A pixel's share in the statistics of its frame (R358). -/
def FrameX.addPixel (f : FrameX) (row col : Nat) (p : SkyPix) : FrameX :=
  if p.state = 2 then f
  else
    let z := 16 * (row / 48) + 16 * col / max 1 f.columns
    let v := fget zone0 f.zones z
    let k := 64 * (row / 96) + p.value / 64
    { f with zones := fset zone0 f.zones z { sum := v.sum + p.hdr, n := v.n + 1, sat := v.sat + p.state },
             rhist := fset count0 f.rhist k (fget count0 f.rhist k + 1) }

/-- An ambient block ends: its pixels (`ok`) or NONE (R352), its share in the statistics and its IMAGE packet; its
chunk is released. -/
def Dev.endBatch (s : Dev) (id : Nat) (ok : Bool) : Dev :=
  match s.amb? id with
  | none => s
  | some a =>
    let g := fun (x : Fld) => s.gfAt a.frame x
    let pix := fun (i c : Nat) => if ok then
        let l := a.lens.getD i (0, 0)
        skyPixel g a.bay l.1 l.2 (fget cell0 a.cells (8 * i + c))
      else { state := 2 }
    let s := s.modFrame a.frame (fun f => (List.range (8 * a.ncol)).foldl (fun f k =>
      f.addPixel (8 * a.bay + k % 8) (a.first + k / 8) (pix (k / 8) (k % 8))) f)
    let s := s.emitImage a (fun i c => (pix i c).word)
    let s := match a.chunk with | some n => s.freeChunks a.bay 1 a.floorServed [n] | none => s
    let s := { s with ambs := s.ambs.filter (fun e => e.1 != id) }
    let x := s.bay a.bay
    let drop := fun (l : List DescX) => l.filter (fun d => !d.sky || d.id != id)
    (s.setBay a.bay { x with dq := drop x.dq, heldDesc := drop x.heldDesc,
                             batch := if x.batch = some id then none else x.batch }).queueSync a.bay

/-- Close a bay's open ambient block (R352): its descriptor goes to the dispatch queue, or, with no chunk or no column that has
ended, its pixels read NONE. -/
def Dev.closeBatch (s : Dev) (b : Nat) : Dev :=
  let x := s.bay b
  match x.batch with
  | none => s
  | some id =>
    let s := s.setBay b { x with batch := none }
    match s.amb? id with
    | none => s
    | some a =>
      if a.chunk.isNone ∨ a.ncol = 0 then s.endBatch id false
      else
        let lim := max 1 (s.gf (F.QTR_DISPATCH_LIMIT_LIMIT (b / 12)))
        (s.modAmb id (fun a => { a with st := .queued })).enqueue b
          { sky := true, id := id, cls := 1, closedAt := s.tick, enq := s.now, lateAt := s.now + lim * 1000 }

/-- Stop a bay's listening: the column in progress gives no pixel, and the open ambient block closes (R352). -/
def Dev.stopListening (s : Dev) (b : Nat) : Dev :=
  (s.setBay b { s.bay b with listen := none }).closeBatch b

/-- A column ends for a bay at tick `stop` (R348, R349, R352); `last` says that it is the last of its frame. -/
def Dev.skyColumnEnd (s : Dev) (b stop : Nat) (last : Bool) : Dev :=
  let x := s.bay b
  match x.listen with
  | none => s
  | some l =>
    let t := s.timeoutTicks b
    let g := s.ambSet l.amb
    let ll := effLen l (g F.SKY_LISTEN_LONG_OPEN) (g F.SKY_LISTEN_LONG_LEN) t stop
    let ls := effLen l (g F.SKY_LISTEN_SHORT_OPEN) (g F.SKY_LISTEN_SHORT_LEN) t stop
    let on := fun c => bit l.active c && s.chActive b c
    let thins := if s.gf (F.BAY_VOTE_STATUS_LEVEL b) = 0 then l.thins else l.thins ++ [(256 * x.thinEnd, stop)]
    let thinned := thins.any (fun i => overlapsWindow l (g F.SKY_LISTEN_LONG_OPEN) (g F.SKY_LISTEN_LONG_LEN) stop i
      || overlapsWindow l (g F.SKY_LISTEN_SHORT_OPEN) (g F.SKY_LISTEN_SHORT_LEN) stop i)
    let s := s.modAmb l.amb (fun a =>
      { a with ncol := l.idx + 1, lens := a.lens ++ List.replicate (l.idx - a.lens.length) (0, 0) ++ [(ll, ls)],
               cells := forN 8 (fun c m =>
                 let v := fget cell0 m (8 * l.idx + c)
                 fset cell0 m (8 * l.idx + c) { v with active := on c, thinned := thinned }) a.cells })
    let s := s.setBay b { s.bay b with listen := none, listenPrev := some { l with endTick := some stop } }
    if l.idx = 15 ∨ last then s.closeBatch b else s

/-- Request the chunk of a batch (R350); a region that quiesces grants none (R632; DEDUCED, log 94). -/
def Dev.batchChunk (s : Dev) (b : Nat) : Option (Nat × Bool) × Dev :=
  let q := b / 12
  let floor := s.floorServes b 1
  if s.regionQuiet q then (none, (s.inc F.SKY_AMB_NO_CHUNK_COUNT).raise C.SKY_AMB_NO_CHUNK b)
  else if floor ∨ (s.canShare q 1 1 ∧ (s.waiting q).all (fun e => decide (1 < e.2.cls))) then
    let r := s.takeChunks b 1 1 floor
    (r.1.head?.map (fun n => (n, floor)), r.2)
  else (none, (s.inc F.SKY_AMB_NO_CHUNK_COUNT).raise C.SKY_AMB_NO_CHUNK b)

/-- Column `col` of a frame starts for a bay at S_j = `start` ns (R347, R350): the first of a batch opens its block. -/
def Dev.skyColumnStart (s : Dev) (f : FrameX) (b col start : Nat) : Dev :=
  if !(f.on F.SKY_CTRL_EN) then s
  else
    let up := s.active (.bay b) && !(s.region (b / 12)).quarantined
    let s := if col % 16 = 0 then
        let s := s.closeBatch b
        let r : Option (Nat × Bool) × Dev := if up then s.batchChunk b else (none, s)
        let s := r.2
        let l := b % 12
        let home := b / 12 * 8
        let id := s.nextAmb
        let a : AmbBlock :=
          { bay := b, frame := f.num, first := col / 16 * 16, chunk := r.1.map (·.1), floorServed := (r.1.map (·.2)).getD false,
            gen := f.gf F.SKY_GEN_G % 65536, epoch := f.gf F.CAL_EPOCH_EPOCH,
            pset := if l < 8 then f.gf (F.CLU_BAY_PSET0_SET home) / 16^l % 8 else f.gf (F.CLU_BAY_PSET1_SET home) / 16^(l - 8) % 8 }
        { s with ambs := s.ambs ++ [(id, a)], nextAmb := id + 1 }.setBay b { s.bay b with batch := some id }
      else s
    match (s.bay b).batch with
    | none => s
    | some id =>
      let x := s.bay b
      let act := (List.range 8).foldl (fun m c => if up && s.chActive b c then m + 2^c else m) 0
      let old := x.proofs.filter (fun r => decide (256 * start < r + s.timeoutTicks b))
      s.setBay b { x with listen := some { amb := id, idx := col % 16, startTick := 256 * start, active := act, proofs := old } }

/-- A thinning interval of a bay whose level was not NORMAL has ended (R349), from `a` to `z` ns. -/
def Dev.skyThinned (s : Dev) (b a z : Nat) : Dev :=
  let x := s.bay b
  s.setBay b { x with listen := x.listen.map (fun (l : ListenX) => { l with thins := l.thins ++ [(256 * a, 256 * z)] }) }

/-- Every bay's open ambient block closes (R352). -/
def Dev.closeBatches (s : Dev) : Dev := forN 48 (fun b (s : Dev) => s.stopListening b) s

/-- A chip fault (R28, R29, R352): the current frame closes at once, with its open ambient blocks, its unfinished columns marked in
its completeness map; earlier frames close before it (R373). -/
def Dev.chipFault (s : Dev) : Dev :=
  match s.curFrame with
  | none => s
  | some f =>
    if f.flyback || f.scanClosed || f.closed then s
    else
      let older := s.frames.filter (fun x => x.num != f.num && !x.closed)
      let s := older.foldl (fun (s : Dev) x => s.closeFrame x.num false) s.closeBatches
      (s.modFrame f.num (fun x => { x with chipFault := true })).closeFrame f.num false

/-- The bytes of an ambient block (R351). -/
def AmbBlock.bytes (a : AmbBlock) : List Nat :=
  let len := fun i => let l := a.lens.getD i (0, 0); l.1 % 65536 * 65536 + l.2 % 65536
  let cell := fun k => let c := fget cell0 a.cells k
    b2n c.active * 2^31 + b2n c.thinned * 2^30 + c.long * 1024 + c.short
  ([a.bay * 2^26 + a.ncol * 2^21, a.frame, a.first * 2^19, a.gen * 65536 + a.epoch % 65536] ++ List.replicate 12 0
    ++ (List.range 16).map len ++ (List.range 128).map cell).flatMap (fun (v : Nat) => wordBytes (BitVec.ofNat 32 v))

/-- Every SKYGLOW descriptor of a frame has ended and its last column is over (R359). -/
def Dev.skyDone (s : Dev) (f : FrameX) : Bool :=
  f.scanClosed && s.ambs.all (fun a => a.2.frame != f.num)

/-- ZONE_AVG of a zone (R358). -/
def ZoneX.word (z : ZoneX) : Nat :=
  if z.n = 0 then 0xFFFFFF else min 255 (256 * z.sat / z.n) * 2^24 + z.sum / z.n

/-- Payload of part `k` of the STATS packet (R391). -/
def statsPayload (s : Dev) (k : Nat) : List Word :=
  let hdr := [s.rd R.SKY_STATS_FRAME, s.rd R.SKY_STATS_GEN, BitVec.ofNat 32 k, s.rd R.SKY_STATS_STATUS]
  if k = 0 then hdr ++ (List.range 128).map (fun z => s.rd (R.SKY_ZONE_AVG z))
  else hdr ++ (List.range 64).map (fun i => s.rd (R.SKY_REGION_HIST (k - 1) i))

/-- Publish the statistics of a frame (R359): registers, STATS_READY, and the STATS packets, which follow every other
packet of the frame (R373). -/
def Dev.publishStats (s : Dev) (f : FrameX) : Dev :=
  let none := 384 * f.nb - (List.range 128).foldl (fun n z => n + (fget zone0 f.zones z).n) 0
  let s := forN 128 (fun z (s : Dev) => s.wr (R.SKY_ZONE_AVG z) (BitVec.ofNat 32 (fget zone0 f.zones z).word)) s
  let s := forN 256 (fun k (s : Dev) => s.sf (F.SKY_REGION_HIST_COUNT (k / 64) (k % 64)) (fget count0 f.rhist k)) s
  let s := (s.sf F.SKY_STATS_FRAME_FRAME f.num).sf F.SKY_STATS_GEN_G (f.gf F.SKY_GEN_G)
  let s := (s.sf F.SKY_STATS_STATUS_VALID 1).sf F.SKY_STATS_STATUS_NONE (min none 65535)
  let s := s.sb F.SKY_STATS_STATUS_INCOMPLETE (decide (0 < none) || f.short || f.scanFault)
  let s := s.modFrame f.num (fun f => { f with skyPublished := true, statsOut := (List.range 5).map (statsPayload s) })
  s.event E.SKY_STATS_READY

end Sys2Proof.Machine
end

