-- ==== Sys2Proof/Machine/Engine.lean ====
section
/-! DEFINITION. Dispatch, the kernel contract, traps and the engines' states (08_echo_engines.md; R271 to R275). -/
namespace Sys2Proof.Machine

/-- Cluster of an engine. -/
def cluOf (e : Nat) : Nat := e / 16
/-- ENG_STATUS.STATE of engine `e`: OFF while its cluster's domain is off or waking (R302). -/
def Dev.engState (s : Dev) (e : Nat) : Nat :=
  if s.power (.clu (e / 16)) < pOn then 0 else s.gf (F.CLU_ENG_STATUS_STATE (e / 16) (e % 16))

/-- ENGINES and DISPATCH_MASK of a region follow its clusters (R281, R304); NO_ENGINES is raised when the last engine
leaves service (R273). -/
def Dev.engineSync (s : Dev) (q : Nat) : Dev :=
  let up := fun (i : Nat) => let k := 8 * q + i; s.isOn (.clu k) && !(s.clu k).stopped
  let n := (List.range 8).foldl (fun n i => if up i then
    n + ((List.range 16).filter (fun l => bit (s.gf (F.CLU_ENG_MASKS_SERVICE (8 * q + i))) l)).length else n) 0
  let m := (List.range 8).foldl (fun m i => let k := 8 * q + i
    if up i && s.run (.clu k) == rActive && s.on (F.CLU_CTRL_DISPATCH_EN k) then m + 2^i else m) 0
  let was := s.gf (F.QTR_CLUSTERS_ENGINES q)
  let s := (s.sf (F.QTR_CLUSTERS_ENGINES q) n).sf (F.QTR_CLUSTERS_DISPATCH_MASK q) m
  if n = 0 ∧ was ≠ 0 then s.raise (C.QTR_NO_ENGINES q) else s

/-- Engine `l` of cluster `k` is retired (R589): the cluster's reserve serves in its place. -/
def Dev.retiredEngine (s : Dev) (k l : Nat) : Bool := s.on (F.RES_ENG_SWAP_USED k) && s.gf (F.RES_ENG_SWAP_REPLACED k) == l

/-- Set an engine's STATE; the masks and the region's count follow (R302, R321). -/
def Dev.setEngState (s : Dev) (e st : Nat) : Dev :=
  let k := e / 16
  let l := e % 16
  let gone := s.retiredEngine k l
  let st := if gone ∧ st ≠ 2 then 3 else st
  let s := s.sf (F.CLU_ENG_STATUS_STATE k l) st
  let s := s.sf (F.CLU_ENG_MASKS_QUAR k) (setBit (s.gf (F.CLU_ENG_MASKS_QUAR k)) l (st == 3 || st == 4))
  let s := s.sf (F.CLU_ENG_BUSY_BUSY k) (setBit (s.gf (F.CLU_ENG_BUSY_BUSY k)) l (st == 2))
  let s := if st = 0 then s else
    s.sf (F.CLU_ENG_MASKS_SERVICE k) (setBit (s.gf (F.CLU_ENG_MASKS_SERVICE k)) l ((st == 1 || st == 2) && !gone))
  s.engineSync (k / 8)

/-- The dispatch descriptor of a histogram (R287). -/
def HistX.descriptor (h : HistX) : List Word :=
  let c := fun i => h.chunks.getD i 0
  let cap := match h.capture with | some x => x.chunks.headD 0 | none => 0
  [BitVec.ofNat 32 (h.bay % 12 * 2^28 + h.ch * 2^25 + b2n h.cross.isSome * 2^24 + h.cls * 2^22 + h.chunks.length * 2^20
      + h.pset * 2^17 + b2n h.capture.isSome * 2^14),
   BitVec.ofNat 32 (c 1 * 4096 + c 0), BitVec.ofNat 32 (cap * 4096 + c 2), BitVec.ofNat 32 h.closedAt]

/-- The dispatch descriptor of an ambient block (R352). -/
def AmbBlock.descriptor (a : AmbBlock) (closed : Nat) : List Word :=
  [BitVec.ofNat 32 (a.bay % 12 * 2^28 + 1 * 2^22 + 1 * 2^20 + a.pset * 2^17 + 2^15), BitVec.ofNat 32 (a.chunk.getD 0), 0#32,
   BitVec.ofNat 32 closed]

/-- Default of a memory whose content is not known: a word that is not listed reads as a free value (log 40). -/
def mem0 (_ : Nat) : Option Word := none

/-- Write words into a memory from a word index on. -/
def memWrite (m : FMap (Option Word)) (i : Nat) : List Word → FMap (Option Word)
  | [] => m
  | w :: ws => memWrite (fset mem0 m i (some w)) (i + 1) ws

/-- Parameter-set word `w` of set `ps` of a region in force for a frame (R308). -/
def Dev.psetAt (s : Dev) (frame q ps w : Nat) : Nat := s.gfAt frame (F.CLU_PSET_WORD (8 * q) ps w)

/-- The chain a histogram's parameter set names (R289). -/
def Dev.chainOf (s : Dev) (h : HistX) : List Nat :=
  chainIds (s.psetAt h.frame h.region h.pset 0) (s.psetAt h.frame h.region h.pset 1)

/-- What stage `n` of a histogram's chain reads (R284, R289). -/
def Dev.kernEnv (s : Dev) (h : HistX) (n freeAt : Nat) : KernEnv :=
  { g := fun x => s.gfAt h.frame x, h := h, n := n, free := fun i => Config.free (freeAt + 128 * n + i) }

/-- The chain of a histogram as an engine starts it (R288, R289). -/
def Dev.startRun (s : Dev) (id : Nat) (h : HistX) : RunX × Dev :=
  ({ sky := false, id := id, frame := h.frame, chain := s.chainOf h, linked := h.capture.isSome, takenAt := s.now,
     freeAt := s.freeCtr }, { s with freeCtr := s.freeCtr + 1024 })

/-- A cluster takes new descriptors (R28, R321, R632). -/
def Dev.cluTakes (s : Dev) (k : Nat) : Bool :=
  s.active (.clu k) && !(s.clu k).stopped && s.on (F.CLU_CTRL_DISPATCH_EN k)

/-- The idle engines in service of a cluster, lowest first. -/
def Dev.idleEngines (s : Dev) (k : Nat) : List Nat :=
  (List.range 16).filter (fun l => s.engState (16 * k + l) == 1 && bit (s.gf (F.CLU_ENG_MASKS_SERVICE k)) l)

/-- The engine that takes the region's next descriptor (R271, R27). -/
def Dev.nextEngine (s : Dev) (q : Nat) : Option Nat :=
  let ks := ((List.range 8).map (fun i => 8 * q + i)).filter s.cluTakes
  let ks := ks.filter (fun k => !(s.idleEngines k).isEmpty)
  match minBy (fun k => (16 - (s.idleEngines k).length) * 64 + k) ks with
  | none => none
  | some k => (s.idleEngines k).head?.map (fun l => 16 * k + l)

/-- The queued descriptors of a region with their bay. -/
def Dev.queued (s : Dev) (q : Nat) : List (Nat × DescX) :=
  (List.range 12).flatMap (fun l => (s.bay (12 * q + l)).dq.map (fun d => (12 * q + l, d)))

/-- The descriptor whose turn it is (R271): class A first, then the longest wait; one whose time has run out is
never handed out (R272). -/
def Dev.nextDesc (s : Dev) (q : Nat) : Option (Nat × DescX) :=
  let ds := (s.queued q).filter (fun d => s.cycleBefore d.2.lateAt)
  minBy (fun d => (if d.2.cls = 0 then 0 else 2^100) + d.2.enq * 64 + d.1 % 12) ds

/-- Take a descriptor out of its bay's queue. -/
def Dev.dequeue (s : Dev) (b : Nat) (d : DescX) : Dev :=
  let x := s.bay b
  (s.setBay b { x with dq := removeFirst (· == d) x.dq }).queueSync b

/-- A blocked kernel that a descriptor needs (R301). -/
def Dev.blockedKernel (s : Dev) (q : Nat) (d : DescX) : Option Nat :=
  let ids := if d.sky then [8] else match s.hist? d.id with | some h => s.chainOf h | none => []
  ids.find? (fun i => (s.region q).blocked.contains i)

/-- A chain with a kernel outside the standard set may change its cluster's kernel area: what it holds is no longer known. A
standard kernel reads and writes none of it (R312), and it keeps its contents from one dispatch to the next (R284). -/
def Dev.loseKernelArea (s : Dev) (k : Nat) : Dev :=
  s.setClu k { s.clu k with mem := (s.clu k).mem.filter (fun w => decide (w.1 < 16384)), clear := false }

/-- DISPATCH (R271, R288): the region takes the next descriptor and an idle engine starts its chain; a descriptor that
needs a blocked kernel leaves instead (R301). -/
def Dev.dispatch (s : Dev) (region : Fin 4) : Dev :=
  let q := region.val
  match s.nextEngine q, s.nextDesc q with
  | some e, some (b, d) =>
    let s := s.dequeue b d
    match s.blockedKernel q d with
    | some i =>
      let s := s.raise (C.CLU_KERNEL_BLOCKED (8 * q))
      if d.sky then s.endBatch d.id false else s.histGap d.id 12 i
    | none =>
      let k := cluOf e
      let s := ((s.inc (F.QTR_DISPATCHED_COUNT q)).inc (F.CLU_DISPATCHES_COUNT k)).inc (F.BAY_HIST_DISPATCHED_COUNT b)
      let s := s.setEngState e 2
      let owner := !d.sky && (match s.hist? d.id with | some h => (s.chainOf h).any (fun i => !(stdKernel i)) | none => false)
      let s := if owner then s.loseKernelArea k else s
      let start := fun (s : Dev) (r : RunX) (desc : List Word) =>
        s.setEng e { s.eng e with run := some r, mem := memWrite [] 0 (desc ++ List.replicate 76 0#32) }
      if d.sky then
        match s.amb? d.id with
        | some a =>
          let s := s.modAmb d.id (fun a => { a with st := .taken })
          start s { sky := true, id := d.id, frame := a.frame, chain := [8], takenAt := s.now } (a.descriptor d.closedAt)
        | none => s
      else match s.hist? d.id with
        | some h =>
          let s := s.modHist d.id (fun h => { h with st := .taken })
          let r := s.startRun d.id h
          start r.2 r.1 h.descriptor
        | none => s
  | _, _ => s

/-- ENGINE_LATE (R272): the region's earliest descriptor past its dispatch limit leaves. -/
def Dev.engineLate (s : Dev) (region : Fin 4) : Dev :=
  let q := region.val
  let all := (List.range 12).flatMap (fun l => let x := s.bay (12 * q + l); (x.dq ++ x.heldDesc).map (fun d => (12 * q + l, d)))
  match minBy (fun d => d.2.lateAt) all with
  | none => s
  | some (b, d) =>
    let s := s.advanceTo d.lateAt
    if s.now < d.lateAt then s
    else if d.sky then ((s.inc F.SKY_SKY_LATE_COUNT).raise C.SKY_SKY_LATE b).endBatch d.id false
    else
      let ch := match s.hist? d.id with | some h => h.ch | none => 0
      let s := (s.inc (F.BAY_ENGINE_LATE_COUNT b)).inc (F.QTR_LATE_COUNT q)
      let s := (s.raise (C.BAY_ENGINE_LATE b) ch).event (E.QTR_LATE q)
      s.histGap d.id 11 (min 65535 ((s.tick - d.closedAt) / 256000))

/-- The running chain of an engine, if it runs one. -/
def Dev.running? (s : Dev) (e : Nat) : Option RunX := (s.eng e).run
/-- Change the running chain of an engine. -/
def Dev.setRunX (s : Dev) (e : Nat) (r : RunX) : Dev := s.setEng e { s.eng e with run := some r }

/-- A dwell request is dropped (R294, R320). -/
def Dev.dropDwell (s : Dev) (e : Nat) : Dev :=
  (s.inc (F.CLU_DWELL_DROPPED_COUNT (e / 16))).raise (C.CLU_DWELL_DROPPED (e / 16)) (e % 16)

/-- The mark of the present column start: one more than its instant, 0 with no column open. -/
def Dev.columnMark (s : Dev) : Nat := match s.column with | some c => c.start + 1 | none => 0

/-- A kernel posts a dwell request (R294, R320). -/
def Dev.dwellPost (s : Dev) (e : Nat) (r : RunX) (w0 w1 : Nat) : Dev :=
  let k := cluOf e
  let b := w0 / 2^26 % 64
  let extra := w1 % 256
  let s := s.setRunX e { r with dwellPosted := true }
  if r.dwellPosted ∨ b / 12 ≠ k / 8 ∨ 48 ≤ b ∨ extra = 0 then s.dropDwell e
  else if fget count0 (s.clu k).dwellAt (b % 12) = s.columnMark ∧ s.columnMark ≠ 0 then s.dropDwell e
  else
    let s := s.setClu k { s.clu k with dwellAt := fset count0 (s.clu k).dwellAt (b % 12) s.columnMark }
    let s := s.inc (F.CLU_DWELL_POSTED_COUNT k)
    let d : DwellX := { bay := b, first := w0 / 2^13 % 8192, count := w0 / 2^5 % 256 + 1, extra := extra,
                        frame := s.gf F.SCAN_FRAME_NUM_FRAME }
    { s with emit := { s.emit with dwellFlight := s.emit.dwellFlight ++ [(e, d)] } }

/-- A kernel posts a capture request (R294, R339). -/
def Dev.capPost (s : Dev) (e : Nat) (r : RunX) (w : List Nat) : Dev :=
  let k := cluOf e
  let s := s.inc (F.CLU_CAPTURE_POSTED_COUNT k)
  if r.capPosted then s
  else
    let s := s.setRunX e { r with capPosted := true }
    let w0 := w.getD 0 0
    let b := w0 / 2^26 % 64
    if 48 ≤ b then s
    else
      let frame := frameNear (s.gf F.SCAN_FRAME_NUM_FRAME) (w.getD 3 0 % 65536)
      (s.urgent b { source := srcEngine, ch := w0 / 2^23 % 8, start := w.getD 1 0 % 2^21, len := w.getD 2 0 % 2048,
                    frame := frame, col := w0 / 2^10 % 8192 } (k / 8) true).2

/-- TRAP_LAST and the counters of a trap (R299, R321). -/
def Dev.trapLog (s : Dev) (e cause stage kid : Nat) : Dev :=
  let k := e / 16
  let l := e % 16
  let s := s.inc (F.CLU_TRAPS_COUNT k)
  let s := s.wr (R.CLU_TRAP_LAST k) (BitVec.ofNat 32 (l * 2^28 + cause * 2^24 + (if 5 ≤ cause then 2^23 else 0) + kid * 256 + stage))
  let s := (s.sf (F.CLU_ENG_STATUS_CAUSE k l) cause).sf (F.CLU_ENG_STATUS_KERNEL k l) kid
  (s.event (E.CLU_TRAP k)).raiseCell (C.CLU_ENGINE_TRAP k) l

/-- KBLOCK shows the blocked kernels of a region (R321). -/
def Dev.blockSync (s : Dev) (q : Nat) : Dev := s.sf (F.CLU_KBLOCK_COUNT (8 * q)) (min 255 (s.region q).blocked.length)

/-- A KERNEL trap counts toward blocking its kernel (R301). -/
def Dev.countTrap (s : Dev) (e kid : Nat) : Dev :=
  let q := e / 128
  let cur := s.gf F.SCAN_FRAME_NUM_FRAME
  let x := s.region q
  let ts := x.traps.filter (fun t => t.1 == cur)
  let ts := if ts.contains (cur, kid, e) then ts else ts ++ [(cur, kid, e)]
  let n := (ts.filter (fun t => t.2.1 == kid)).length
  let lim := s.gf (F.CLU_TRAP_CFG_LIMIT (8 * q))
  if lim ≠ 0 ∧ lim ≤ n ∧ !x.blocked.contains kid then
    let s := s.setRegion q { x with traps := ts, blocked := x.blocked ++ [kid] }
    (((s.sf (F.CLU_KBLOCK_LAST (8 * q)) kid).blockSync q).event (E.CLU_KERNEL_BLOCKED (8 * q)))
  else s.setRegion q { x with traps := ts }

/-- A chain leaves its engine: the histogram's or the batch's end is up to the caller. -/
def Dev.endRun (s : Dev) (e : Nat) (mem : FMap (Option Word)) : Dev := s.setEng e { s.eng e with run := none, mem := mem }

/-- The words of local memory a trap leaves known: the descriptor (R290). -/
def EngX.descOnly (x : EngX) : FMap (Option Word) := x.mem.filter (fun w => decide (w.1 < 4))

/-- The engine cycles that a chain has run so far (R296). -/
def Dev.elapsedCycles (s : Dev) (r : RunX) : Nat := (s.now - r.takenAt) * s.gf F.THERM_ENG_CLOCK_MHZ / 1000

/-- A chain that ends counts in CYCLES_MAX and toward the mean of the frame (R296, R321). -/
def Dev.countCycles (s : Dev) (k cycles : Nat) : Dev :=
  let c := s.clu k
  let s := s.setClu k { c with cycSum := c.cycSum + cycles, cycN := c.cycN + 1 }
  s.sf (F.CLU_CYCLES_MAX_CYCLES k) (max cycles (s.gf (F.CLU_CYCLES_MAX_CYCLES k)))

/-- Local memory after a trap (R290): the descriptor and the chain state with its stage index. -/
def EngX.trapMem (x : EngX) (stage : Nat) : FMap (Option Word) :=
  memWrite x.descOnly 4 [BitVec.ofNat 32 (stage % 8), 0#32, 0#32, 0#32]

/-- CYCLE_LIMIT in force (R296, R321). -/
def Dev.cycleLim (s : Dev) (k : Nat) : Nat := max 1000 (s.gf (F.CLU_CYCLE_LIMIT_LIMIT k))

/-- A trap (R298, R299, R301, R303). -/
def Dev.trap (s : Dev) (e cause stage : Nat) : Dev :=
  match s.running? e with
  | none => s
  | some r =>
    let kid := r.chain.getD stage 0
    let s := s.countCycles (cluOf e) (if cause = 2 then s.cycleLim (cluOf e) else s.elapsedCycles r)
    let s := s.trapLog e cause stage kid
    let s := s.endRun e ((s.eng e).trapMem stage)
    let s := s.setEngState e 3
    let s := if r.sky then s.endBatch r.id false else s.histGap r.id 2 e
    if cause < 5 then
      let s := s.countTrap e kid
      if s.on (F.CLU_CTRL_AUTO_RELEASE (e / 16)) then s.setEngState e 4 else s
    else (s.setEng e { s.eng e with hw := true }).wear 2 e

/-- AUTO_RELEASE has been set (R303): the engines that a trap of class KERNEL quarantined await their self-test. -/
def Dev.autoRelease (s : Dev) (k : Nat) : Dev :=
  if s.on (F.CLU_CTRL_AUTO_RELEASE k) then
    forN 16 (fun l (s : Dev) =>
      if s.engState (16 * k + l) = 3 ∧ s.gf (F.CLU_ENG_STATUS_CAUSE k l) < 5 ∧ !(s.eng (16 * k + l)).hw then
        s.setEngState (16 * k + l) 4 else s) s
  else s

/-- The next stage of a chain runs (R289). A standard kernel that would read the histogram or its capture after CONSUMED is
the trap ILLEGAL_ACCESS (R284, R312). -/
def Dev.runStage (s : Dev) (e : Nat) (r : RunX) : Dev :=
  let id := r.chain.getD r.stage 0
  if r.consumed ∧ (id = 1 ∨ id = 3 ∨ (id = 2 ∧ r.linked)) then s.trap e 0 r.stage
  else match s.hist? r.id with
    | none => s
    | some h => s.setRunX e { r with stage := r.stage + 1, kern := (s.kernEnv h r.stage r.freeAt).stage r.kern id }

/-- The stages before stage `n` have run (R289). -/
def Dev.runTo (s : Dev) (e n : Nat) : Dev :=
  forN 8 (fun _ (s : Dev) => match s.running? e with
    | some r => if !r.sky && decide (r.stage < n) && decide (r.stage < r.chain.length) then s.runStage e r else s
    | none => s) s

/-- The next record of a standard kernel is posted; a fifth is the trap RECORD_OVERFLOW (R293). -/
def Dev.postKern (s : Dev) (e : Nat) (r : RunX) : Dev :=
  match r.kern.recs with
  | [] => s
  | (st, x) :: xs =>
    if 4 ≤ r.records.length then s.trap e 4 st
    else s.setRunX e { r with records := r.records ++ [x], kern := { r.kern with recs := xs } }

/-- The next dwell request of a standard kernel is posted (R320). -/
def Dev.dwellKern (s : Dev) (e : Nat) (r : RunX) : Dev :=
  match r.kern.dwells with
  | [] => s
  | (a, b) :: xs => s.dwellPost e { r with kern := { r.kern with dwells := xs } } a b

/-- The next capture request of a standard kernel is posted (R315). -/
def Dev.capKern (s : Dev) (e : Nat) (r : RunX) : Dev :=
  match r.kern.caps with
  | [] => s
  | w :: ws => s.capPost e { r with kern := { r.kern with caps := ws } } w

/-- One step of an engine that runs a chain; nothing where it runs none. -/
def Dev.whileRun (f : Dev → Nat → RunX → Dev) (e : Nat) (s : Dev) : Dev :=
  match s.running? e with
  | some r => f s e r
  | none => s

/-- What the standard kernels of the stages that have run have not posted yet is posted (R289, R293, R294). -/
def Dev.postRest (s : Dev) (e : Nat) : Dev :=
  let s := forN 8 (fun _ => Dev.whileRun Dev.capKern e) s
  let s := forN 8 (fun _ => Dev.whileRun Dev.dwellKern e) s
  forN 64 (fun _ => Dev.whileRun Dev.postKern e) s

/-- The chain stands at a stage (R289): those before it have run and posted; of a standard kernel, its own work is done. -/
def Dev.atStage (s : Dev) (e stage : Nat) : Dev :=
  let s := (s.runTo e stage).postRest e
  match s.running? e with
  | some r => if stdKernel (r.chain.getD stage 0) then s.runTo e (stage + 1) else s
  | none => s

/-- POST_RECORD (R292, R293): the next record of a standard kernel, or the words another kernel posts at its stage; a fifth
post is the trap RECORD_OVERFLOW. -/
def Dev.postRecord (s : Dev) (e : Fin 512) (stage : Fin 8) (w : List Word) : Dev :=
  let s := s.atStage e stage
  match s.running? e with
  | none => s
  | some r =>
    if r.kern.recs ≠ [] then s.postKern e r
    else if r.sky ∨ r.stage ≠ stage.val ∨ r.chain.length ≤ stage.val then s
    else if 4 ≤ r.records.length then s.trap e 4 stage
    else
      let rec_ := (List.range 4).foldl (fun n i => n + (w.getD i 0#32).toNat * 2^(32 * i)) 0
      s.setRunX e { r with records := r.records ++ [rec_] }

/-- POST_DWELL (R294, R320). -/
def Dev.postDwell (s : Dev) (e : Fin 512) (stage : Fin 8) (w0 w1 : Word) : Dev :=
  let s := s.atStage e stage
  match s.running? e with
  | none => s
  | some r =>
    if r.kern.dwells ≠ [] then s.dwellKern e r
    else if r.sky ∨ r.stage ≠ stage.val ∨ r.chain.length ≤ stage.val then s
    else s.dwellPost e r w0.toNat w1.toNat

/-- POST_CAPTURE (R294, R332, R339). -/
def Dev.postCapture (s : Dev) (e : Fin 512) (stage : Fin 8) (w : List Word) : Dev :=
  let s := s.atStage e stage
  match s.running? e with
  | none => s
  | some r =>
    if r.kern.caps ≠ [] then s.capKern e r
    else if r.sky ∨ r.stage ≠ stage.val ∨ r.chain.length ≤ stage.val then s
    else s.capPost e r (w.map (·.toNat))

/-- Release the chunks of a taken histogram, its capture's included (R252, R295, R338). -/
def Dev.consume (s : Dev) (id : Nat) : Dev :=
  match s.hist? id with
  | none => s
  | some h =>
    let s := s.freeChunks h.bay h.cls h.floorServed h.chunks
    let s := match h.capture with | some c => s.freeChunks h.bay c.cls c.floorServed c.chunks | none => s
    s.modHist id (fun h => { h with chunks := [], capture := none, consumed := true })

/-- POST_CONSUMED (R292, R295): the histogram's chunks are released. -/
def Dev.postConsumed (s : Dev) (e : Fin 512) (stage : Fin 8) : Dev :=
  let s := s.atStage e stage
  match s.running? e with
  | none => s
  | some r =>
    if r.consumed then s
    else
      let s := s.setRunX e { r with consumed := true }
      if r.sky then
        match s.amb? r.id with
        | some a =>
          let s := match a.chunk with | some n => s.freeChunks a.bay 1 a.floorServed [n] | none => s
          s.modAmb r.id (fun a => { a with chunk := none })
        | none => s
      else s.consume r.id

/-- A trap at a stage: the stages before it have run and posted (R298). -/
def Dev.trapAt (s : Dev) (e cause stage : Nat) : Dev := ((s.runTo e stage).postRest e).trap e cause stage

/-- POST_ASSERT (R292): the trap KERNEL_ASSERT, with the value kept. -/
def Dev.postAssert (s : Dev) (e : Fin 512) (stage : Fin 8) (val : Word) : Dev :=
  match s.running? e with
  | none => s
  | some _ => (s.trapAt e 3 stage).sf (F.CLU_ENG_STATUS_ASSERT (e.val / 16) (e.val % 16)) (val.toNat % 65536)

/-- KERNEL_TRAP (R298, R299). -/
def Dev.kernelTrap (s : Dev) (e : Fin 512) (stage : Fin 8) (cause : Fin 7) : Dev := s.trapAt e cause stage

/-- CYCLE_LIMIT (R296): the chain has run CYCLE_LIMIT cycles. -/
def Dev.cycleLimit (s : Dev) (e : Fin 512) (stage : Fin 8) : Dev :=
  match s.running? e with
  | none => s
  | some r => (s.advanceTo (r.takenAt + s.cyclesNs (s.cycleLim (e / 16)))).trapAt e 2 stage

/-- Put LATENCY into a record (R379): the time from the close to the end of the chain, in 0.25 µs. -/
def withLatency (r lat : Nat) : Nat := r - recField r 10 * 2^16 + min 4095 lat * 2^16

/-- A chain ends (R293, R295): its records enter the output merge together, or a NO_RETURN record does. -/
def Dev.finishRun (s : Dev) (e cycles : Nat) : Dev :=
  match s.running? e with
  | none => s
  | some r =>
    let k := cluOf e
    let s := s.advanceTo (r.takenAt + s.cyclesNs cycles)
    let s := s.countCycles k cycles
    let mem := if r.sky then (s.eng e).descOnly
      else memWrite ((s.eng e).trapMem (r.chain.length - 1)) 8 (r.kern.words ++ List.replicate (72 - r.kern.words.length) 0#32)
    let s := s.endRun e mem
    let s := s.setEngState e 1
    if r.sky then s.endBatch r.id true
    else match s.hist? r.id with
      | none => s
      | some h =>
        let lat := (s.tick - h.closedAt) / 64000
        let recs := if r.records = [] then [h.noReturn r.kern] else r.records
        let s := recs.foldl (fun (s : Dev) x => s.mergeRecord h.region h.frame (withLatency x lat)) s
        s.endHist r.id

/-- CHAIN_END (R293, R296): below the cycle limit; a chain that reaches it ends by CYCLE_LIMIT (log 4). -/
def Dev.chainEnd (s : Dev) (e : Fin 512) (cycles : Nat) : Dev :=
  if s.cycleLim (e.val / 16) ≤ cycles then s else ((s.runTo e 8).postRest e).finishRun e cycles

/-- KUNBLOCK (R301, R321): unblock one kernel of the region, or all. -/
def Dev.kunblock (s : Dev) (region : Fin 4) (_ : Requester) (id : BitVec 8) : Dev :=
  let q := region.val
  let x := s.region q
  (s.setRegion q { x with blocked := if id = 0#8 then [] else x.blocked.filter (· != id.toNat) }).blockSync q

/-- ENG_RELEASE (R303): quarantined engines await their self-test. -/
def Dev.engRelease (s : Dev) (k : Fin 32) (_ : Requester) (mask : BitVec 16) : Dev :=
  forN 16 (fun l (s : Dev) =>
    if bit mask.toNat l ∧ s.engState (16 * k.val + l) = 3 then s.setEngState (16 * k.val + l) 4 else s) s

/-- The self-tests that a frame start begins (R303). -/
def Dev.startEngineTests (s : Dev) (k : Nat) : Dev :=
  if s.isOn (.clu k) then
    forN 16 (fun l (s : Dev) => if s.engState (16 * k + l) = 4 then s.setEngState (16 * k + l) 5 else s) s
  else s

/-- ENGINE_SELF_TEST_DONE (R303). -/
def Dev.engineSelfTestDone (s : Dev) (e : Fin 512) (pass : Bool) : Dev :=
  let k := e.val / 16
  let l := e.val % 16
  if s.engState e = 5 then
    if pass then ((s.setEng e { s.eng e with hw := false }).setEngState e 1).event (E.CLU_RELEASE_DONE k)
    else (((s.setEngState e 3).sf (F.CLU_ENG_STATUS_CAUSE k l) 7).raise (C.CLU_SELF_TEST_FAIL k) l).wear 2 e
  else s

/-- STATS_CLEAR (R321): the counters and CYCLES_MAX. -/
def Dev.statsClear (s : Dev) (k : Fin 32) (_ : Requester) : Dev :=
  let k := k.val
  [R.CLU_CYCLES_MAX k, R.CLU_DISPATCHES k, R.CLU_TRAPS k, R.CLU_DWELL_POSTED k, R.CLU_DWELL_DROPPED k, R.CLU_CAPTURE_POSTED k,
    R.CLU_SHARED_ECC k].foldl (fun (s : Dev) r => s.wr r 0#32) s

/-- A cluster is stopped (R28, R29): what its engines hold leaves as ENGINE_TRAP gaps. -/
def Dev.stopCluster (s : Dev) (k : Nat) : Dev :=
  let s := s.setClu k { s.clu k with stopped := true }
  let s := forN 16 (fun l (s : Dev) =>
    let e := 16 * k + l
    match s.running? e with
    | none => s
    | some r =>
      let s := (s.endRun e (s.eng e).descOnly).setEngState e 1
      if r.sky then s.endBatch r.id false else s.histGap r.id 2 e) s
  s.engineSync (k / 8)

/-- Dispatches of a frame that ran under the other kernel bank remain (R306). -/
def Dev.oldBusy (s : Dev) : Bool :=
  s.frames.any (fun f => f.gf (F.CLU_KBANK_ACTIVE 0) != s.gf (F.CLU_KBANK_ACTIVE 0)
    && (s.hists.any (fun h => h.2.frame == f.num) || s.ambs.any (fun a => a.2.frame == f.num)))

/-- The wait of the oldest descriptor of a bay's queue, ns (R281). -/
def Dev.oldestAge (s : Dev) (b : Nat) : Nat :=
  (s.bay b).dq.foldl (fun m d => max m (min 65535 (s.now - d.enq))) 0

/-- A word of the frame context of a frame for the clusters of region `q` (R285, R353), by its number in the block of 1 KiB; where
the block keeps the frame number, G and CAL.EPOCH is not in the spec, and its other words are not known. -/
def FrameX.context (f : FrameX) (q i : Nat) : Option Word :=
  if 16 ≤ i ∧ i < 64 then some (BitVec.ofInt 32 (f.gi (F.CAL_RZ_OFFSET (i - 16))))
  else if 64 ≤ i ∧ i < 160 then
    some (fget regDefault f.regs (F.SKY_PILEUP_RATE (12 * q + (i - 64) / 8) ((i - 64) % 8)).reg.key)
  else if 160 ≤ i ∧ i < 181 then some (fget regDefault f.regs (F.SKY_TONE_CODE (i - 160)).reg.key)
  else if i = 181 then some (fget regDefault f.regs F.SKY_MERGE_KNEE.reg.key)
  else none

/-- A word of the device area of shared memory that the spec gives (R284, R285): of the frame contexts kept for the frames that
have not gone, each at a place of its own that the spec leaves open (log 95). -/
def Dev.deviceWord (s : Dev) (k i : Nat) : Option Word :=
  s.frames.findSome? (fun f =>
    let a := Config.contextAt f.num % 16128
    if a ≤ i ∧ i < a + 256 then f.context (k / 8) (i - a) else none)

/-- The answer of a BAR2 access, or the write (R286): allowed, it reads or writes the word of a memory. -/
def Dev.memAccess (s : Dev) (m : FMap (Option Word)) (dflt : Option Word) (i : Nat) (write : Option Word) :
    FMap (Option Word) × Dev :=
  match write with
  | some w => (fset mem0 m i (some w), s)
  | none =>
    match fget mem0 m i with
    | some w => (m, s.send (.value .pcie w))
    | none => match dflt with
      | some w => (m, s.send (.value .pcie w))
      | none => let r := s.free; (fset mem0 m i (some (BitVec.ofNat 32 r.1)), r.2.send (.value .pcie (BitVec.ofNat 32 r.1)))

/-- BAR2_ACCESS (R286): carried out only while the engine or the cluster allows it. -/
def Dev.bar2Access (s : Dev) (off : BitVec 26) (write : Option Word) : Dev :=
  let k := off.toNat / 0x200000
  let r := off.toNat % 0x200000
  let l := (r - 0x100000) / 0x10000
  let e := 16 * k + l
  let st := s.engState e
  if r < 0x40000 ∧ s.run (.clu k) = rHeld ∧ !(s.on F.SEC_STATUS_BAR2_CLOSED) then
    let x := s.clu k
    let dflt := if 0x10000 ≤ r then (if x.clear then some 0#32 else none) else s.deviceWord k (r / 4)
    let a := s.memAccess x.mem dflt (r / 4) write
    a.2.setClu k { a.2.clu k with mem := a.1 }
  else if 0x100000 ≤ r ∧ r % 0x10000 < 0xC000 ∧ (st = 3 ∨ st = 6 ∨ st = 0) ∧ !(s.on F.SEC_STATUS_BAR2_CLOSED) then
    let a := s.memAccess (s.eng e).mem none (r % 0x10000 / 4) write
    a.2.setEng e { a.2.eng e with mem := a.1 }
  else
    let s := s.refuse (.clu k)
    match write with
    | some _ => s
    | none => s.send (.value .pcie 0xFFFFFFFF#32)

/-- Chains whose histogram or batch has ended while they ran are ended without a trap, and their engines are idle (R278, R300). -/
def Dev.dropRuns (s : Dev) (q : Nat) : Dev :=
  forN 128 (fun i (s : Dev) =>
    let e := 128 * q + i
    match s.running? e with
    | none => s
    | some r =>
      if (if r.sky then (s.amb? r.id).isSome else (s.hist? r.id).isSome) then s
      else ((s.countCycles (cluOf e) (s.elapsedCycles r)).endRun e ((s.eng e).descOnly)).setEngState e 1) s

/-- POOL_ECC_ERROR (R278, R300): the histogram that holds the chunk ends as a POOL_ECC gap, and so does a chain that reads it,
without a trap; where the spare bank is in use it is a region fault, whose quarantine Machine/Contain.lean adds. -/
def Dev.poolEcc (s : Dev) (q bank chunk : Nat) : Dev :=
  let s := (s.raise (C.POOL_ECC_UNCORRECTED q) bank).raise (C.POOL_SPARE_NEEDED q) bank
  let s := ((s.wear 3 (33 * q + bank)).event (E.POOL_SPARE_NEEDED q)).incSat (F.POOL_ECC_STATUS_UNCORRECTED q)
  match s.hists.find? (fun e => e.2.region == q && (e.2.chunks.contains chunk)) with
  | some (id, _) => (s.histGap id 10 bank).dropRuns q
  | none => s

/-- CYCLES_AVG takes the mean of the frame that ends (R296, R321); the mean of no chain is not stated: a free value (log 95). -/
def Dev.latchCycles (s : Dev) (k : Nat) : Dev :=
  let c := s.clu k
  let r := s.free
  let v := if c.cycN = 0 then r.1 % 2^32 else c.cycSum / c.cycN
  ((if c.cycN = 0 then r.2 else s).setClu k { c with cycSum := 0, cycN := 0 }).sf (F.CLU_CYCLES_AVG_CYCLES k) v

end Sys2Proof.Machine
end

