-- ==== Sys2Proof/Machine/Contain.lean ====
section
/-! DEFINITION. Containment (R28 to R31, R107): channel quarantine, bay pause, region quarantine. -/
namespace Sys2Proof.Machine

/-- Set CH_STATUS.STATE; CH_QUAR, CH_STATE and the scan pointer follow (R121, R124, R333). -/
def Dev.setChState (s : Dev) (b c st : Nat) : Dev :=
  if s.gf (F.BAY_CH_STATUS_STATE b c) = st then s
  else
    let s := s.sf (F.BAY_CH_STATUS_STATE b c) st
    let s := s.sf (F.BAY_CH_QUAR_QUAR b) (setBit (s.gf (F.BAY_CH_QUAR_QUAR b)) c (st == 2 || st == 3))
    (s.event (E.BAY_CH_STATE b)).pointerSync b

/-- A bay works: its page reads ON with RUN = ACTIVE and its region is not quarantined. -/
def Dev.bayUp (s : Dev) (b : Nat) : Bool := s.active (.bay b) && !(s.region (b / 12)).quarantined

/-- End a bay's open work as gaps of one reason (R29, R57): its waiting and open histograms, its open ambient block,
its digitiser. -/
def Dev.endBayWork (s : Dev) (b reason : Nat) : Dev :=
  ((s.endOpen b reason).stopListening b).drainWave b

/-- Pause a bay (R28, R29): RUN reads PAUSED, open pixels leave as BAY_PAUSED gaps; a RESUME asked for before is void. -/
def Dev.pauseBay (s : Dev) (b : Nat) : Dev :=
  let s := (s.endBayWork b 3).supersede [1] (8 * b) (8 * b + 7) 3
  (s.setPx (.bay b) { s.px (.bay b) with resumeReq := false }).setRun (.bay b) rPaused

/-- The wait of each bay's oldest descriptor is stored as it stands, for a region page that leaves ON (R56). -/
def Dev.latchQueues (s : Dev) (q : Nat) : Dev :=
  forN 12 (fun l (s : Dev) => s.sf (F.QTR_BAYQ_OLDEST_AGE q l) (s.oldestAge (12 * q + l))) s

/-- A fault in a page's own work quarantines one channel (R107, R29): it stops forming events, its open pixels leave as
CHANNEL_QUARANTINED gaps; with all 8 channels lost the bay is paused. A RELEASE_PENDING channel still counts as quarantined, as
CH_QUAR shows it (DESIGN CHOICE, log 89: R107 does not say). -/
def Dev.quarantineChannel (s : Dev) (b c fault part : Nat) (cause : Cause) : Dev :=
  let s := s.raiseCell cause c
  let s := if part = 2 ∨ part = 3 then s.wear 0 (17 * b + 2 * c + (part - 2)) else s
  let s := (s.sf (F.BAY_CH_STATUS_FAULT b c) fault).sf (F.BAY_CH_STATUS_FAILED_PART b c) part
  let s := s.setChState b c 2
  let s := s.setChan b c { s.chan b c with open_ := none, closed := [], starts := [], releasePass := false }
  let ids := (s.hists.filter (fun e => e.2.bay == b && e.2.ch == c && (e.2.st == .waiting || e.2.st == .granted))).map (·.1)
  let s := ids.foldl (fun (s : Dev) id => s.histGap id 1 (fault * 4 + part)) s
  if s.gf (F.BAY_CH_QUAR_QUAR b) = 255 then s.pauseBay b else s

/-- Quarantine a region (R28, R29): every open pixel and every histogram in its pool leaves as a REGION_QUARANTINED
gap, its ambient blocks are lost, its page reads QUARANTINED. -/
def Dev.quarantineRegion (s : Dev) (q : Nat) : Dev :=
  let s := s.setRegion q { s.region q with quarantined := true }
  let ids := (s.hists.filter (fun e => e.2.region == q)).map (·.1)
  let s := (ids.foldl (fun (s : Dev) id => s.histGap id 4 0) s).supersede [1, 2, 3] (96 * q) (96 * q + 95) 4
  let s := forN 12 (fun l (s : Dev) => let b := 12 * q + l
    s.setBay b { s.bay b with listen := none, batch := none }) s
  let as_ := (s.ambs.filter (fun e => e.2.bay / 12 == q)).map (·.1)
  let s := as_.foldl (fun (s : Dev) id => s.endBatch id false) s
  let s := forN 12 (fun l (s : Dev) => s.drainWave (12 * q + l)) (s.dropRuns q)
  (s.latchQueues q).setPower (.qtr q) pQuar

/-- A row that forms no pixel in column `col` for a reason of its own (R29, R107, R119, R142): the gap of a quarantined
channel. -/
def Dev.rowGap (s : Dev) (frame b c col reason detail : Nat) : Dev :=
  s.gap frame reason (8 * b + c) (8 * b + c) col col none detail

/-- POOL_ECC_ERROR (R278): the histogram that holds the chunk ends as a POOL_ECC gap; with the spare bank in use it is a
region fault, and the chip quarantines the region. -/
def Dev.poolEccError (s : Dev) (region : Fin 4) (bank : Fin 33) (chunk : Fin 4096) : Dev :=
  let q := region.val
  if s.on (F.POOL_ECC_STATUS_SPARE_IN_USE q) then
    let s := s.incSat (F.POOL_ECC_STATUS_UNCORRECTED q)
    ((s.raise (C.POOL_ECC_UNCORRECTED q) bank).raise (C.POOL_POOL_FAULT q) bank).quarantineRegion q
  else s.poolEcc q bank chunk

end Sys2Proof.Machine
end

