-- ==== Sys2Proof/Machine/Votes.lean ====
section
/-! DEFINITION. Constellation codes (R169 to R171), attribution of events to bursts, votes, the vote queue and vote
thinning (R237 to R246, R259 to R263). -/
namespace Sys2Proof.Machine

/-- Free slots to distribute (R169), negative where the combination cannot be built (R170). -/
def codeFree (pulses wc : Nat) : Int := (256 - (wc + 4) : Nat) - (pulses * (wc + 8) : Nat)
/-- The radix r of a code table with n - 1 = `pulses` (R169). -/
def codeRadix (pulses wc : Nat) : Nat := if pulses = 0 then 1 else (codeFree pulses wc).toNat / pulses + 1
/-- CODE_STATUS.DISJOINT (R171). -/
def codeDisjoint (pulses wc : Nat) : Bool := decide (2^23 ≤ codeRadix pulses wc ^ pulses)

/-- The slots after one at `at_` whose digits are those of `v` (R169). -/
def slotsFrom (r gmin : Nat) : Nat → Nat → Nat → List Nat
  | 0, _, _ => []
  | k + 1, at_, v => let n := at_ + gmin + v % r; n :: slotsFrom r gmin k n (v / r)

/-- The slots of code `i` of a unit (R169). -/
def codeSlots (pulses wc seed addr i : Nat) : List Nat :=
  let u := addr * 4096 + i
  let v := (u * 0x2C9277 + seed % 2^23) % 2^23
  0 :: slotsFrom (codeRadix pulses wc) (wc + 8) pulses 0 v

/-- PULSES of the active bank. -/
def EmitX.pulses (e : EmitX) : Nat := e.codeCfg / 2^28 % 8
/-- WIDTH of the active bank. -/
def EmitX.wc (e : EmitX) : Nat := min 28 (e.codeCfg / 65536 % 32)

/-- The slots of a code of the active bank (R173). -/
def Dev.slotsOf (s : Dev) (addr i : Nat) : List Nat := codeSlots s.emit.pulses s.emit.wc s.emit.codeSeed addr (i % 4096)

/-- The column in whose interval an instant falls, ns (R245). -/
def Dev.columnAt (s : Dev) (t : Nat) : Option ColSpan :=
  s.spans.find? (fun c => decide (c.start ≤ t) && decide (t < c.stop))

/-- Foreign burst `n` of an entry, in the column in whose interval its reference falls, with all its sub-pulses (R245, R469). -/
def Dev.foreignBurst (s : Dev) (x n : Nat) : Option BurstX :=
  let t := s.foreignBase x + n * s.gridPeriod
  (s.columnAt t).map (fun c =>
    let sl := s.slotsOf (s.gf (F.CODE_XL_UNIT x)) (s.foreignCode x n)
    { ref := t * 256, frame := c.frame, col := c.col, idx := (n - s.foreignFirst x c.start) % 256, slots := sl,
      width := s.emit.wc, launched := 2^sl.length - 1, code := s.foreignCode x n })

/-- The foreign bursts of an active XL entry that an event at `t` could follow, newest first (R469): no gate reaches further
back than 1,048,576 + 16,384 ticks (R239, R242). -/
def Dev.foreignBursts (s : Dev) (x t : Nat) : List BurstX :=
  if s.gf (F.CODE_XL_STATUS x) ≠ 1 ∨ t / 256 < s.foreignBase x then []
  else
    let n := (t / 256 - s.foreignBase x) / s.gridPeriod
    ((List.range (1064960 / (s.gridPeriod * 256) + 1)).filter (fun k => decide (k ≤ n))).filterMap (fun k => s.foreignBurst x (n - k))

/-- One vote an event casts (R242): the histogram, the bin, rel, the sub-pulse and the burst's index. -/
structure VoteX where
  hist : Nat
  bin : Nat
  rel : Nat
  sub : Nat
  burst : Nat
  deriving DecidableEq, Repr

/-- rel of an event at `t` for one sub-pulse (R237). -/
def relOf (t ref slot : Nat) : Nat := (t % 2^32 + 2^33 - (ref + 64 * slot) % 2^32) % 2^32

/-- The launched sub-pulses of a burst whose gate holds the event, with rel. -/
def BurstX.hits (u : BurstX) (t open_ close : Nat) : List (Nat × Nat) :=
  (List.range u.slots.length).filterMap (fun k =>
    let rel := relOf t u.ref (u.slots.getD k 0)
    if bit u.launched k ∧ open_ ≤ rel ∧ rel < close then some (k, rel) else none)

/-- The histogram of a channel, column and cross entry that is open (R242, R244). -/
def Dev.openHist (s : Dev) (b c frame col : Nat) (cross : Option Nat) : Option (Nat × HistX) :=
  s.hists.find? (fun e => e.2.bay == b && e.2.ch == c && e.2.frame == frame && e.2.col == col && e.2.cross == cross
    && e.2.st == .granted)

/-- The votes of an event for one burst whose gate holds it (R242, R249). -/
def Dev.votesFor (s : Dev) (b c : Nat) (val : Bool) (cross : Option Nat) (u : BurstX) (hs : List (Nat × Nat)) : List VoteX :=
  match s.openHist b c u.frame u.col cross with
  | some (id, h) =>
    if h.grantAt * 256 ≤ u.ref ∧ (val ∨ h.voteUnval) then
      hs.map (fun e => { hist := id, bin := (e.2 - h.gOpen) / h.binW, rel := e.2, sub := e.1, burst := u.idx })
    else []
  | none => []

/-- The votes of an event over bursts newest first, of which `n` newer ones held it (R242): a burst is a candidate when its gate
holds the event, whether or not its pixel has a histogram, and is voted for below the attribution depth of its own frame
(R248). -/
def Dev.votesOver (s : Dev) (b c t : Nat) (val : Bool) (cross : Option Nat) : Nat → List BurstX → List VoteX
  | _, [] => []
  | n, u :: us =>
    let hs := u.hits t (s.gfAt u.frame (F.BAY_GATE_OPEN_OPEN b)) (s.gfAt u.frame (F.BAY_GATE_CLOSE_CLOSE b))
    if hs.isEmpty then s.votesOver b c t val cross n us
    else
      (if n ≤ s.gfAt u.frame (F.BAY_HIST_CFG_DEPTH b) then s.votesFor b c val cross u hs else [])
        ++ s.votesOver b c t val cross (n + 1) us

/-- The event is excluded after a proof burst (R188). -/
def Dev.proofExcluded (s : Dev) (b t : Nat) : Bool :=
  (s.port b).bursts.any (fun u => u.proof && decide (u.ref ≤ t) && decide (t < u.ref + s.timeoutTicks b))

/-- The votes of an EDGE event (R242, R245). -/
def Dev.votesOf (s : Dev) (b : Nat) (ev : EvWord) : List VoteX :=
    let near := fun (u : BurstX) => decide (u.ref ≤ ev.time)
      && decide (ev.time ≤ u.ref + s.gfAt u.frame (F.BAY_GATE_CLOSE_CLOSE b) + 16384)
    let own := (s.port b).bursts.filter (fun u => !u.proof && u.launched != 0 && near u)
    let xs := (List.range 8).filter (fun x => s.gf (F.CODE_XL_BAY x) == b && s.gf (F.CODE_XL_STATUS x) == 1)
    s.votesOver b ev.ch ev.time ev.val none 0 own ++
      xs.flatMap (fun x => s.votesOver b ev.ch ev.time ev.val (some x) 0 ((s.foreignBursts x ev.time).filter near))

/-- The blend step under which a channel's leading edges are converted, as a number that tells the blends of its converter and of
the spare that serves it apart (R248; another converter counts as another step: DEDUCED, log 94). -/
def Dev.blendKey (s : Dev) (b c : Nat) : Nat :=
  let i := s.convFor b c false
  let x := s.conv b i
  (x.blends * 32 + x.step) * 32 + i

/-- The class of an event: the lowest-lettered of the histograms it votes for (R260). -/
def Dev.eventClass (s : Dev) (vs : List VoteX) : Nat :=
  vs.foldl (fun m v => match s.hist? v.hist with | some h => min m h.cls | none => m) 2

/-- The votes in a bay's queue now: it drains at 4 votes per ns (R259). -/
def Dev.voteQueue (s : Dev) (b : Nat) : Nat := s.gf (F.BAY_VOTE_STATUS_QUEUE b) - 4 * (s.now - (s.bay b).voteAt)

/-- Show the vote queue as it stands now (R259). -/
def Dev.drainVotes (s : Dev) (b : Nat) : Dev :=
  let n := s.voteQueue b
  (s.setBay b { s.bay b with voteAt := s.now }).sf (F.BAY_VOTE_STATUS_QUEUE b) n

/-- An event dropped or thinned whole (R263). -/
def Dev.dropEvent (s : Dev) (b cls : Nat) (vs : List VoteX) : Dev :=
  let s := vs.foldl (fun (s : Dev) v => s.modHist v.hist (fun h =>
    { h with thinned := h.thinned + 1, cDropped := h.cDropped || cls == 2, thinFlag := h.thinFlag || cls != 2 })) s
  if cls = 2 then s.inc (F.BAY_EVENTS_C_DROPPED_COUNT b) else s.inc (F.BAY_EVENTS_THINNED_COUNT b)

/-- Cast the votes of an event (R242, R253). -/
def Dev.castVotes (s : Dev) (b : Nat) (ev : EvWord) (vs : List VoteX) : Dev :=
  let key := s.blendKey b ev.ch
  let s := vs.foldl (fun (s : Dev) v => s.modHist v.hist (fun h =>
    let h := h.vote v.bin v.rel v.sub v.burst ev
    match h.blendStep with
    | none => { h with blendStep := some key }
    | some k => { h with epochSplit := h.epochSplit || k != key })) s
  (s.inc (F.BAY_VOTE_STATUS_QUEUE b) vs.length).inc (F.BAY_VOTES_CAST_COUNT b) vs.length

/-- Whether level THIN keeps this event, and the accumulator after it (R261). -/
def thinStep (acc keep : Nat) : Bool × Nat := if 16 ≤ acc + keep then (true, acc + keep - 16) else (false, acc + keep)

/-- An EDGE word reaches the builder (R242, R246, R260 to R263). -/
def Dev.edgeArrives (s : Dev) (b : Nat) (ev : EvWord) : Dev :=
  let vs := s.votesOf b ev
  let n := vs.length
  if n = 0 then (if s.proofExcluded b ev.time then s else (s.inc (F.BAY_AMBIENT_COUNT b)).ambient b ev.ch ev.time)
  else
    let s := s.drainVotes b
    let cls := s.eventClass vs
    let x := s.bay b
    let s := s.setBay b { x with demand := x.demand + n, demandAB := if cls = 2 then x.demandAB else x.demandAB + n }
    let level := s.gf (F.BAY_VOTE_STATUS_LEVEL b)
    if level ≠ 0 ∧ cls = 2 then s.dropEvent b cls vs
    else
      let t := thinStep x.thinAcc (s.gf (F.BAY_VOTE_STATUS_KEEP b))
      let s := if level = 2 then s.setBay b { s.bay b with thinAcc := t.2 } else s
      if (level = 2 ∧ !t.1) ∨ 4096 < s.gf (F.BAY_VOTE_STATUS_QUEUE b) + n then s.dropEvent b cls vs
      else s.castVotes b ev vs

/-- The event that reaches the builder next (R27, R259): of those of the oldest one's fabric cycle, the one whose channel has
waited longest since it was served. -/
def BayX.nextEvent (x : BayX) : Option (Nat × EvWord) :=
  match x.events with
  | [] => none
  | e :: _ => minBy (fun d => (d.2.ch + 7 - x.lastCh) % 8) (x.events.filter (fun d => cycleOf d.1 == cycleOf e.1))

/-- EVENT_ARRIVAL (R241 to R246): the bay's next event reaches its builder. -/
def Dev.eventArrival (s : Dev) (bay : Fin 48) : Dev :=
  let b := bay.val
  let x := s.bay b
  match x.nextEvent with
  | none => s
  | some e =>
    let ev := e.2
    let s := s.setBay b { x with events := removeFirst (· == e) x.events, lastCh := ev.ch }
    match ev.type with
    | .edge => s.edgeArrives b ev
    | .missed =>
      { s with hists := s.hists.map (fun e =>
          if e.2.bay == b && e.2.ch == ev.ch && e.2.st == .granted then (e.1, { e.2 with edgesLost := e.2.edgesLost + ev.tot }) else e) }
    | .timeout | .test => s

/-- The vote level that follows from the demand of an interval (R260). -/
def voteLevel (d dab : Nat) : Nat := if 4000 < dab then 2 else if 4000 < d then 1 else 0

/-- THINNING_INTERVAL_END (R260, R263): the level of the next interval follows from this one's demand. -/
def Dev.thinningIntervalEnd (s : Dev) (bay : Fin 48) : Dev :=
  let b := bay.val
  let due := s.now % 1000 = 0 ∧ (s.bay b).thinEnd < s.now
  let s := s.advanceTo (if due then s.now else (s.now / 1000 + 1) * 1000)
  let s := s.drainVotes b
  let was := s.gf (F.BAY_VOTE_STATUS_LEVEL b)
  let s := if was ≠ 0 then s.skyThinned b (s.bay b).thinEnd s.now else s
  let x := { s.bay b with thinEnd := s.now }
  let level := voteLevel x.demand x.demandAB
  let keep := if level = 2 then max 1 (16 * 4000 / x.demandAB) else 16
  let s := (s.sf (F.BAY_VOTE_DEMAND_DEMAND b) (min 65535 x.demand)).sf (F.BAY_VOTE_DEMAND_DEMAND_AB b) (min 65535 x.demandAB)
  let s := (s.sf (F.BAY_VOTE_STATUS_LEVEL b) level).sf (F.BAY_VOTE_STATUS_KEEP b) keep
  let mark := s.gf F.SCAN_FRAME_NUM_FRAME + 1
  let first := decide (level ≠ 0 ∧ was = 0 ∧ x.thinFrame ≠ mark)
  let s := s.setBay b { x with demand := 0, demandAB := 0, thinAcc := if level = 2 ∧ was ≠ 2 then 0 else x.thinAcc,
                               thinFrame := if first then mark else x.thinFrame }
  if first then (s.raise (C.BAY_VOTE_THIN b)).event (E.BAY_OVERLOAD b) else s

end Sys2Proof.Machine
end

