-- ==== Sys2Proof/Machine/Calib.lean ====
section
/-! DEFINITION. Time base, warm-up qualifier, vernier lock, converter tables, slice corrections and range zero
(04_timebase_and_calibration.md). -/
namespace Sys2Proof.Machine

/-- TIME.STATUS.REF_SETTLED changes (R129, R162). While it reads 0 every open frame carries REF_UNSETTLED (R132). -/
def Dev.setSettled (s : Dev) (v : Bool) : Dev :=
  let s := if v then s else { s with frames := s.frames.map (fun f => if f.scanClosed then f else { f with refUnsettled := true }) }
  if s.on F.TIME_STATUS_REF_SETTLED = v then s
  else (s.sb F.TIME_STATUS_REF_SETTLED v).event E.TIME_REF_SETTLED_CHANGE

/-- TIME.STATUS.HOLDOVER changes (R127, R162). -/
def Dev.setHoldover (s : Dev) (v : Bool) : Dev :=
  if s.on F.TIME_STATUS_HOLDOVER = v then s else (s.sb F.TIME_STATUS_HOLDOVER v).event E.TIME_HOLDOVER_CHANGE

/-- The qualifier starts afresh (R129). -/
def Dev.qualRestart (s : Dev) (state : Nat) : Dev :=
  let s := { s with time := { s.time with first := true, start := s.now, gateAt := s.now, bad := 0 } }
  ((s.setSettled false).sf F.TIME_QUAL_LAST_GATES_OK 0).sf F.TIME_STATUS_QUAL_STATE state

/-- Enter holdover (R127): the time base is lost, a chip fault (R28), which closes the frame at once (R29). -/
def Dev.holdover (s : Dev) (c : Cause) : Dev :=
  let s := ((s.sb F.TIME_STATUS_PLL_LOCKED false).sb F.TIME_STATUS_SLEWING false).setHoldover true
  ((s.qualRestart 1).raise c).chipFault

/-- REF_LOST (R126, R127). -/
def Dev.refLost (s : Dev) : Dev :=
  if s.on F.TIME_STATUS_REF_PRESENT then (s.sb F.TIME_STATUS_REF_PRESENT false).holdover C.TIME_REF_LOST else s

/-- REF_PRESENT (R126): 10 ms of uninterrupted edges. -/
def Dev.refPresent (s : Dev) : Dev :=
  let s := s.sb F.TIME_STATUS_REF_PRESENT true
  if s.gf F.TIME_STATUS_QUAL_STATE = 0 then s.sf F.TIME_STATUS_QUAL_STATE 1 else s

/-- The reference period in ns (R125). -/
def Dev.refPeriod (s : Dev) : Nat := [100, 40, 20, 10].getD s.time.freq 100

/-- A phase error brought into one reference period and taken the shorter way, in ticks (R127). -/
def slewTicks (err : Int) (period : Nat) : Nat :=
  let m := (err % ((period * 256 : Nat) : Int)).toNat
  min m (period * 256 - m)

/-- PLL_LOCKED (R126, R127, R129): the first lock starts Meridian time; a relock ends holdover and starts the slew of
`phaseErr` ticks at 1 ppm. -/
def Dev.pllLocked (s : Dev) (phaseErr : Int) : Dev :=
  if s.on F.TIME_STATUS_REF_PRESENT ∧ !(s.on F.TIME_STATUS_PLL_LOCKED) then
    let held := s.on F.TIME_STATUS_HOLDOVER
    let s := { s with running := true }
    let s := (s.sb F.TIME_STATUS_PLL_LOCKED true).setHoldover false
    let s := if held then
        { s.sb F.TIME_STATUS_SLEWING true with
            time := { s.time with slewEnd := s.now + slewTicks phaseErr s.refPeriod * 1000000 / 256 } } else s
    s.qualRestart 2
  else s

/-- PLL_UNLOCK (R127). -/
def Dev.pllUnlock (s : Dev) : Dev := if s.on F.TIME_STATUS_PLL_LOCKED then s.holdover C.TIME_PLL_UNLOCK else s

/-- SLEW_END (R127). -/
def Dev.slewEnd (s : Dev) : Dev :=
  if s.on F.TIME_STATUS_SLEWING then (s.advanceTo s.time.slewEnd).sb F.TIME_STATUS_SLEWING false else s

/-- A signed value cut to a field of `n` bits. -/
def satSigned (n : Nat) (v : Int) : Int := max (-(2^(n - 1) : Nat)) (min ((2^(n - 1) : Nat) - 1) v)

/-- QUAL_GATE (R128 to R131): one gate ends; `cycles` is the ticks counted over it. -/
def Dev.qualGate (s : Dev) (cycles : Nat) : Dev :=
  if !(s.on F.TIME_STATUS_PLL_LOCKED) then s
  else
    let x := s.time
    let nom := max 10 (s.gf F.TIME_QUAL_CFG_GATE) * 256000000
    let f := roundDiv (((cycles : Int) - nom) * 1000000000) nom
    let d := f - s.gi F.TIME_QUAL_OFFSET_OFFSET
    let lim : Int := max 1 (s.gf F.TIME_QUAL_CFG_LIMIT)
    let s := s.advanceTo (x.gateAt + cycles / 256)
    let settled := s.on F.TIME_STATUS_REF_SETTLED
    let s := (s.si F.TIME_QUAL_OFFSET_OFFSET (satSigned 32 f))
    let out := decide (2000000 < f.natAbs)
    let s := if out ∧ !(s.on F.TIME_STATUS_OUT_OF_RANGE) then s.raise C.TIME_REF_OUT_OF_RANGE else s
    let s := s.sb F.TIME_STATUS_OUT_OF_RANGE out
    let s := if out then s.setSettled false else s
    if x.first then { s with time := { x with first := false, gateAt := s.now, bad := 0 } }
    else
      let s := s.si F.TIME_QUAL_LAST_DELTA (satSigned 16 d)
      let good := decide ((d.natAbs : Int) ≤ lim) && !out
      let bad := if 4 * lim < (d.natAbs : Int) then x.bad + 1 else 0
      let s := { s with time := { x with gateAt := s.now, bad := bad } }
      let run := if good then min 65535 (s.gf F.TIME_QUAL_LAST_GATES_OK + 1) else 0
      let s := s.sf F.TIME_QUAL_LAST_GATES_OK run
      if settled ∧ 3 ≤ bad then
        ((s.setSettled false).sf F.TIME_STATUS_QUAL_STATE 4).raise C.TIME_REF_UNSETTLED_AGAIN
      else if out ∧ s.gf F.TIME_STATUS_QUAL_STATE = 3 then s.sf F.TIME_STATUS_QUAL_STATE 4
      else if !settled ∧ max 1 (s.gf F.TIME_QUAL_CFG_COUNT) ≤ run then
        let s := (s.setSettled true).sf F.TIME_STATUS_QUAL_STATE 3
        s.sf F.TIME_SETTLE_LAST_TIME ((s.now - x.start) / 1000000)
      else s

/-- Boundary `i` of a table, 0 at 0 and 16,384 at 256 (R136). -/
def bound (t : List Nat) (i : Nat) : Nat := if i = 0 then 0 else if 256 ≤ i then 16384 else t.getD (i - 1) (64 * i)

/-- The boundary in force of a converter (R146). -/
def ConvX.bound (x : ConvX) (i : Nat) : Nat :=
  if 16 ≤ x.step ∨ x.old = [] then Sys2Proof.Machine.bound x.table i
  else (blend16 (Sys2Proof.Machine.bound x.old i) (Sys2Proof.Machine.bound x.table i) x.step).toNat

/-- The calibrated time of a raw tick (R137), or none where no valid table is in force (R99, R134). -/
def ConvX.calibrate (x : ConvX) (t : Nat) : Option Nat :=
  if x.table = [] ∨ x.suspended then none
  else some (t / 256 * 256 + (x.bound (t % 256) + x.bound (t % 256 + 1)) / 128)

/-- A channel forms no events while a converter of it is calibrated in the foreground (R142). -/
def Dev.foreground (s : Dev) (b c : Nat) : Option Nat :=
  [s.convFor b c false, s.convFor b c true].find? (fun i => let x := s.conv b i; x.detached && !x.standIn)

/-- The table of a converter is valid. -/
def ConvX.valid (x : ConvX) : Bool := x.table != [] && !x.suspended

/-- CH_STATUS.CAL_VALID and SPARE_STATUS.CAL_VALID follow the tables (R121, R122). -/
def Dev.calSync (s : Dev) (b : Nat) : Dev :=
  let s := forN 8 (fun c (s : Dev) => s.sb (F.BAY_CH_STATUS_CAL_VALID b c)
    ((s.conv b (s.convFor b c false)).valid && (s.conv b (s.convFor b c true)).valid)) s
  s.sb (F.BAY_SPARE_STATUS_CAL_VALID b) (s.conv b 16).valid

/-- The channel that the spare converter serves or stands in for (R109, R142), else 0. -/
def Dev.spareChannel (s : Dev) (b : Nat) : Nat :=
  ((List.range 8).find? (fun c => s.convFor b c false == 16 || s.convFor b c true == 16)).getD 0

/-- TIME.VERN_UNLOCK shows whether a ring of a bay is out of lock (R133). -/
def Dev.vernSync (s : Dev) (b : Nat) : Dev :=
  let bad := (List.range 17).any (fun i => (s.conv b i).slowUnlock || (s.conv b i).fastUnlock)
  if b < 32 then s.sf F.TIME_VERN_UNLOCK0_BAY (setBit (s.gf F.TIME_VERN_UNLOCK0_BAY) b bad)
  else s.sf F.TIME_VERN_UNLOCK1_BAY (setBit (s.gf F.TIME_VERN_UNLOCK1_BAY) (b - 32) bad)

/-- A ring of period 4,096 ns / count lies within 0.125 tick of `nominal` ticks (R133). -/
def ringInLock (nominal count : Nat) : Bool :=
  decide (8 * (1048576 - (nominal * count : Nat) : Int).natAbs ≤ count)

/-- VERNIER_MEASURE (R133, R134): the loop visits the two rings of a converter. -/
def Dev.vernierMeasure (s : Dev) (bay : Fin 48) (conv : Fin 17) (fast slow : Nat) : Dev :=
  let b := bay.val
  let i := conv.val
  let x := s.conv b i
  let was := x.slowUnlock || x.fastUnlock
  let f := !(ringInLock 63 fast)
  let l := !(ringInLock 64 slow)
  let s := s.setConv b i { x with fastUnlock := f, slowUnlock := l, suspended := x.suspended || f || l,
                                  aborted := x.aborted || ((f || l) && x.running) }
  let s := s.vernSync b
  let s := s.calSync b
  let c := if i = 16 then s.spareChannel b else i / 2
  if (f ∨ l) ∧ !was then (s.raise (C.BAY_CAL_INVALID b) c).raise C.TIME_VERN_UNLOCK b else s

/-- CAL_RUN_DONE (R135, R136): one run of a converter under calibration ends with its counts, 2^HITS_LOG2 edges in all. -/
def Dev.calRunDone (s : Dev) (bay : Fin 48) (conv : Fin 17) (counts : List Nat) : Dev :=
  let x := s.conv bay.val conv.val
  if x.running ∧ x.runs.length < 2 ∧ counts.length = 256 ∧ counts.foldl (· + ·) 0 = 2^x.hits then
    s.setConv bay.val conv.val { x with runs := x.runs ++ [counts],
                                        running := x.runs.length = 0 }
  else s

/-- Partial sums of a list of counts. -/
def partials : Nat → List Nat → List Nat
  | _, [] => []
  | a, n :: ns => (a + n) :: partials (a + n) ns

/-- The candidate table of two runs (R136). -/
def candidate (a b : List Nat) : List Nat :=
  let n := max 1 (a.foldl (· + ·) 0 + b.foldl (· + ·) 0)
  (partials 0 ((List.range 255).map (fun i => a.getD i 0 + b.getD i 0))).map (fun p => (2 * 16384 * p + n) / (2 * n))

/-- Index of the first largest element. -/
def maxIdx (vs : List Nat) : Nat := vs.findIdx (· == vs.foldl max 0)

/-- Evaluate two runs of a converter under R138 and R139: the result (ACCEPTED 1, DISAGREE 2, MISSING_CODE 3,
QUALITY 4), Q, and the code and size of the largest difference. -/
def judge (a b : List Nat) (tol qlim : Nat) : Nat × Nat × Nat × Nat :=
  let n := max 1 (a.foldl (· + ·) 0)
  let ds := (List.range 256).map (fun i => (((a.getD i 0 : Nat) : Int) - (b.getD i 0 : Nat)).natAbs)
  let sq := ds.foldl (fun t d => t + d * d) 0
  let k := maxIdx ds
  let res := if ds.any (fun d => decide (tol * n < 16384 * d)) then 2
    else if (List.range 256).any (fun i => a.getD i 0 == 0 || b.getD i 0 == 0) then 3
    else if qlim ≠ 0 ∧ (qlim * n)^2 < 64000000 * sq then 4 else 1
  (res, min 65535 (isqrt (64000000 * sq) / n), k, min 65535 ((2 * 16384 * ds.getD k 0 + n) / (2 * n)))

/-- A converter serves a channel (R109): the spare once IN_USE, the others unless it replaces them. -/
def Dev.convInUse (s : Dev) (b i : Nat) : Bool :=
  if i = 16 then s.on (F.BAY_SPARE_STATUS_IN_USE b) else s.convFor b (i / 2) (i % 2 == 1) == i || (s.conv b i).detached

/-- The DECIDE step of one converter (R138, R141, R149). Answers whether its table was accepted; `stored` says whether
the MRAM store succeeded. -/
def Dev.decideTable (s : Dev) (b i : Nat) (stored : Bool) : Bool × Dev :=
  let x := s.conv b i
  let s := if x.aborted ∨ x.suspended ∨ x.runs.length < 2 then
      (false, s.setConv b i { x with runs := [], running := false, aborted := false, lastResult := 5 })
    else
      let ra := x.runs.getD 0 []
      let rb := x.runs.getD 1 []
      let j := judge ra rb (max 1 (s.gf F.CAL_TDC_ACCEPT_TOL)) (s.gf F.CAL_TDC_ACCEPT_Q_LIMIT)
      let x := { x with runs := [], running := false, lastResult := j.1, qLast := j.2.1, diffBin := j.2.2.1, diff := j.2.2.2 }
      if j.1 = 1 then
        let t := candidate ra rb
        let ch := (List.range 255).map (fun k => (((t.getD k 0 : Nat) : Int) - (x.accepted.getD k (t.getD k 0) : Nat)).natAbs)
        let k := maxIdx ch
        let s := s.setConv b i { x with pendingNew := t, pendingAt := s.now, accepted := t, acceptedAt := s.now, q := j.2.1,
                                        driftBin := if x.accepted = [] then 0 else k + 1, drift := ch.getD k 0,
                                        acceptedTemp := s.gi (F.THERM_NODE_TEMP_TEMP (b / 6)),
                                        driftRow := if max 1 (s.gf F.RES_WEAR_CFG_DRIFT_LIMIT) < ch.getD k 0 then x.driftRow + 1 else 0 }
        let s := if 2 ≤ (s.conv b i).driftRow ∧ s.convInUse b i then s.wear 0 (17 * b + i) else s
        let s := s.event E.CAL_TABLE_ACCEPTED
        let m := fset (fun _ => ([] : List Nat)) s.mram.tables (17 * b + i) t
        (true, if stored then { s with mram := { s.mram with tables := m } } else s.raise C.CAL_CAL_STORE_FAULT b)
      else (false, s.setConv b i x)
  if s.1 then s else (false, s.2.raise C.CAL_TDC_REJECTED b)

/-- RZ_RESEED (R155). -/
def Dev.rzReseed (s : Dev) (_ : Requester) : Dev :=
  forN 48 (fun p (s : Dev) => { s with rz := fset (fun _ => ({} : RzX)) s.rz p { fget (fun _ => ({} : RzX)) s.rz p with reseed := true } }) s

/-- A slice correction lies in the range that can be accepted (R328). -/
def inRange (c : SliceCorr) : Bool :=
  decide (c.offset.natAbs ≤ 6400) && decide (c.gain.natAbs ≤ 5000) && decide (c.skew.natAbs ≤ 1024)

/-- Two estimates agree within CAL.WAVE_ACCEPT (R151). -/
def Dev.sliceAgree (s : Dev) (a b : SliceCorr) : Bool :=
  decide ((a.offset - b.offset).natAbs ≤ 10 * s.gf F.CAL_WAVE_ACCEPT_OFFSET_TOL)
    && decide ((a.gain - b.gain).natAbs ≤ 10 * s.gf F.CAL_WAVE_ACCEPT_GAIN_TOL)
    && decide ((a.skew - b.skew).natAbs ≤ s.gf F.CAL_WAVE_ACCEPT_SKEW_TOL)

/-- The mean of two estimates, rounded down. -/
def sliceMean (a b : SliceCorr) : SliceCorr :=
  { offset := (a.offset + b.offset) / 2, gain := (a.gain + b.gain) / 2, skew := (a.skew + b.skew) / 2 }

/-- The slice whose registers index `i` shows (R345): the slices, then the spare's phase. -/
def Dev.shownSlice (s : Dev) (b i : Nat) : Nat :=
  if i < 4 then i
  else if s.on (F.BAY_WAVE_STATUS_SPARE_IN_USE b) then 4 + s.gf (F.BAY_WAVE_STATUS_SPARE_FOR b)
  else 4 + ((s.wave b).estRound + 3) % 4

/-- SLICE_STATUS.STATE (R345). -/
def SliceX.state (x : SliceX) : Nat := if 3 ≤ x.outRun then 3 else if !x.valid then 0 else if x.step < 16 then 2 else 1

/-- The SLICE registers follow the corrections (R345). -/
def Dev.sliceSync (s : Dev) (b : Nat) (res : Option (Nat × Nat) := none) : Dev :=
  forN 5 (fun i (s : Dev) =>
    let x := s.slice b (s.shownSlice b i)
    let c := if x.valid then x.force else {}
    let s := (s.sf (F.BAY_SLICE_STATUS_STATE b i) x.state).sf (F.BAY_SLICE_STATUS_BLEND_STEP b i) x.step
    let s := match res with
      | some (k, r) => if k = s.shownSlice b i then s.sf (F.BAY_SLICE_STATUS_LAST_RESULT b i) r else s
      | none => s
    let s := (s.si (F.BAY_SLICE_OFFGAIN_OFFSET b i) c.offset).si (F.BAY_SLICE_OFFGAIN_GAIN b i) c.gain
    s.si (F.BAY_SLICE_SKEW_SKEW b i) c.skew) s

/-- An accepted slice correction is kept in MRAM for the next boot (R605). -/
def Dev.storeSlice (s : Dev) (b k : Nat) (c : SliceCorr) : Dev :=
  let m := fset (fun _ => ({} : SliceCorr)) s.mram.slices (8 * b + k) c
  { s with mram := { s.mram with slices := m } }

/-- Note an estimate of a slice or of a phase of the spare (R328): the third in a row out of range raises WAVE_SLICE_FAULT and is
evidence for the wear rules. -/
def Dev.noteEstimate (s : Dev) (b k : Nat) (e : SliceCorr) : Dev :=
  let x := s.slice b k
  if inRange e then s.setSlice b k { x with outRun := 0, ests := x.ests + 1, estOk := true }
  else
    let s := s.setSlice b k { x with outRun := x.outRun + 1, ests := x.ests + 1, estOk := false }
    if x.outRun + 1 ≠ 3 then s
    else
      let unit := if k < 4 then k else s.gf (F.BAY_WAVE_STATUS_SPARE_FOR b)
      let s := if k < 4 ∨ s.on (F.BAY_WAVE_STATUS_SPARE_IN_USE b) then s.wear 1 (4 * b + unit) else s
      s.raise (C.BAY_WAVE_SLICE_FAULT b) (min k 4)

/-- One estimate of a slice or of a phase of the spare (R151, R328). `auto` is false for a CAL_WAVE decision, which
accepts whatever WAVE_AUTO says (R342). -/
def Dev.sliceEstimate (s : Dev) (b k : Nat) (e : SliceCorr) (auto : Bool) : Bool × Dev :=
  let s := s.noteEstimate b k e
  let x := s.slice b k
  if !(inRange e) then (false, (s.setSlice b k { x with lastEst := none }).sliceSync b (some (k, 3)))
  else
    let y := { x with lastEst := some e }
    match x.lastEst with
    | none => (false, (s.setSlice b k y).sliceSync b)
    | some p =>
      if s.sliceAgree p e then
        if auto ∧ !(s.on F.CAL_CTRL_WAVE_AUTO) then (false, (s.setSlice b k y).sliceSync b)
        else
          let s := (s.setSlice b k { y with pending := some (sliceMean p e), pendingAt := s.now }).storeSlice b k (sliceMean p e)
          (true, s.sliceSync b (some (k, 1)))
      else
        let s := s.setSlice b k y
        (false, (s.sliceSync b (some (k, 2))).raise C.CAL_WAVE_REJECTED b)

/-- WAVE_EST.PERIOD in force, ns (R345). -/
def Dev.wavePeriod (s : Dev) (b : Nat) : Nat := min 10000 (max 10 (s.gf (F.BAY_WAVE_EST_PERIOD b))) * 1000000

/-- WAVE_ESTIMATE (R326, R327): a slice delivers its background estimate, a PERIOD after its last; the spare estimates the phase it
serves, or shadows the four phases in turn. -/
def Dev.waveEstimate (s : Dev) (bay : Fin 48) (slice : Fin 5) (offset gain skew : Int) : Dev :=
  let b := bay.val
  if !(s.on (F.BAY_WAVE_EST_EN b)) ∨ s.waveState b ≠ 2 then s
  else
    let s := s.advanceTo (fget count0 (s.wave b).estAt slice.val + s.wavePeriod b)
    let s := s.setWave b { s.wave b with estAt := fset count0 (s.wave b).estAt slice.val s.now }
    let w := s.wave b
    let use := s.on (F.BAY_WAVE_STATUS_SPARE_IN_USE b)
    let k := if slice.val < 4 then slice.val else if use then 4 + s.gf (F.BAY_WAVE_STATUS_SPARE_FOR b) else 4 + w.estRound
    let s := if slice.val = 4 ∧ !use then s.setWave b { w with estRound := (w.estRound + 1) % 4 } else s
    (s.sliceEstimate b k { offset := offset, gain := gain, skew := skew } true).2

/-- Default of the store of range-zero trackers. -/
def rz0 (_ : Nat) : RzX := {}
/-- A range-zero tracker. -/
def Dev.rzOf (s : Dev) (p : Nat) : RzX := fget rz0 s.rz p
/-- Replace a range-zero tracker. -/
def Dev.setRz (s : Dev) (p : Nat) (x : RzX) : Dev := { s with rz := fset rz0 s.rz p x }
/-- The offset in force (R154). -/
def RzX.force (x : RzX) : Int := if 16 ≤ x.step then x.new else blend16 x.old x.new x.step

/-- A Halo time of a port, in ticks from the burst reference (R152, R153). -/
def Dev.haloTime (s : Dev) (p : Nat) (t : Int) : Dev :=
  if s.on F.CAL_CTRL_RZ_EN then
    let x := s.rzOf p
    s.setRz p { x with sum := x.sum + t, count := x.count + 1 }
  else s

/-- RZ[p] shows the tracker (R160). -/
def Dev.rzSync (s : Dev) (p : Nat) : Dev :=
  let x := s.rzOf p
  let s := (s.si (F.CAL_RZ_OFFSET p) x.force).sf (F.CAL_RZ_BLEND_STEP p) x.step
  s.sf (F.CAL_RZ_STATE p) (if x.held then 3 else if !x.valid then 0 else if x.step < 16 then 2 else 1)

/-- The end of a range-zero period with tracking off (R153, R159): no estimate, so the pair that spans it is not compared. -/
def Dev.rzIdle (s : Dev) (p : Nat) : Dev := s.setRz p { s.rzOf p with sum := 0, count := 0, lastEst := none }

/-- The end of a range-zero period for one port (R153 to R155). -/
def Dev.rzPeriod (s : Dev) (p : Nat) : Dev :=
  let x := s.rzOf p
  let s := s.setRz p { x with sum := 0, count := 0 }
  if x.count < 64 then
    (s.setRz p { s.rzOf p with lastEst := none }).raise C.CAL_RZ_STALE p
  else
    let est := 64 * x.sum / (x.count : Int) - 64 * (s.gf (F.CAL_HALO_REF_REF p) : Nat)
    let s := s.si (F.CAL_RZ_EST_EST p) est
    let s := s.setRz p { s.rzOf p with lastEst := some est }
    match x.lastEst with
    | none => s
    | some e =>
      if (est - e).natAbs ≤ max 1 (s.gf F.CAL_RZ_CFG_TOL) then
        let v := (est + e) / 2
        if x.valid ∧ !x.reseed ∧ 64 * s.gf F.CAL_RZ_CFG_STEP_MAX < (v - x.force).natAbs then
          ((s.setRz p { s.rzOf p with held := true }).sf (F.CAL_RZ_STATE p) 3).raise C.CAL_RZ_JUMP p
        else
          let s := s.setRz p { s.rzOf p with pending := some v, pendingAt := s.now, reseed := false, held := false }
          let m := fset (fun _ => (0 : Int)) s.mram.rz p v
          let s := { s with mram := { s.mram with rz := m } }
          (s.rzSync p).event E.CAL_RZ_ACCEPTED
      else s.raise C.CAL_RZ_REJECTED p

/-- What a frame start does to one converter (R134, R142, R146, R147). Answers whether a blend starts and whether one
ends. -/
def ConvX.frame (x : ConvX) (now : Nat) : ConvX × Bool × Bool :=
  let x := if x.suspended ∧ !x.slowUnlock ∧ !x.fastUnlock then { x with suspended := false } else x
  let x := if x.attachReq then { x with detached := false, attachReq := false, standIn := false } else x
  let x := if x.detachReq then { x with detached := true, detachReq := false, running := true, runs := [], aborted := x.suspended } else x
  if x.pendingNew ≠ [] ∧ x.pendingAt + 10000 ≤ now ∧ !x.detached then
    if x.table = [] then ({ x with table := x.pendingNew, old := [], step := 16, pendingNew := [], blends := x.blends + 1 }, false, false)
    else
      let old := (List.range 255).map (fun i => x.bound (i + 1))
      ({ x with old := old, table := x.pendingNew, step := 1, pendingNew := [], blends := x.blends + 1 }, true, false)
  else if x.table ≠ [] ∧ x.step < 16 ∧ x.old ≠ [] then ({ x with step := x.step + 1 }, false, x.step == 15)
  else (x, false, false)

/-- What a frame start does to one slice (R146, R147, R151). -/
def SliceX.frame (x : SliceX) (now : Nat) : SliceX × Bool × Bool :=
  match x.pending with
  | some c =>
    if x.pendingAt + 10000 ≤ now then
      if x.valid then ({ x with old := x.force, new := c, step := 1, pending := none }, true, false)
      else ({ x with valid := true, new := c, old := c, step := 16, pending := none }, false, false)
    else if x.valid ∧ x.step < 16 then ({ x with step := x.step + 1 }, false, x.step == 15) else (x, false, false)
  | none => if x.valid ∧ x.step < 16 then ({ x with step := x.step + 1 }, false, x.step == 15) else (x, false, false)

/-- What a frame start does to one range-zero offset (R146, R147, R154). -/
def RzX.frame (x : RzX) (now : Nat) : RzX × Bool × Bool :=
  match x.pending with
  | some v =>
    if x.pendingAt + 10000 ≤ now then
      if x.valid then ({ x with old := x.force, new := v, step := 1, pending := none }, true, false)
      else ({ x with valid := true, new := v, old := v, step := 16, pending := none }, false, false)
    else if x.valid ∧ x.step < 16 then ({ x with step := x.step + 1 }, false, x.step == 15) else (x, false, false)
  | none => if x.valid ∧ x.step < 16 then ({ x with step := x.step + 1 }, false, x.step == 15) else (x, false, false)

/-- The calibration part of a frame start: blends, EPOCH, BLEND_STATUS and the range-zero period (R146 to R156). -/
def Dev.calFrame (s : Dev) : Dev :=
  let now := s.now
  let cs := s.convs.map (fun e => (e.1, e.2.frame now))
  let ss := s.slices.map (fun e => (e.1, e.2.frame now))
  let rs := s.rz.map (fun e => (e.1, e.2.frame now))
  let flags := cs.map (·.2.2) ++ ss.map (·.2.2) ++ rs.map (·.2.2)
  let s := cs.foldl (fun (s : Dev) e => { s with convs := fset conv0 s.convs e.1 e.2.1 }) s
  let s := ss.foldl (fun (s : Dev) e => { s with slices := fset slice0 s.slices e.1 e.2.1 }) s
  let s := rs.foldl (fun (s : Dev) e => s.setRz e.1 e.2.1) s
  let s := if flags.any (·.1) || s.time.epochDue then s.inc F.CAL_EPOCH_EPOCH else s
  let s := { s with time := { s.time with epochDue := false } }
  let s := if flags.any (·.2) then s.event E.CAL_BLEND_DONE else s
  let s := forN 48 (fun b (s : Dev) => ((s.calSync b).sliceSync b).rzSync b) s
  let s := s.sf F.CAL_BLEND_STATUS_TDC (min 65535 (s.convs.filter (fun e => e.2.table != [] && e.2.old != [] && decide (e.2.step < 16))).length)
  let s := s.sf F.CAL_BLEND_STATUS_RZ (s.rz.filter (fun e => e.2.valid && decide (e.2.step < 16))).length
  let s := s.sf F.CAL_BLEND_STATUS_WAVE ((List.range 48).filter (fun b =>
    (List.range 8).any (fun i => let x := s.slice b i; x.valid && decide (x.step < 16)))).length
  let n := if s.time.rzOpen then s.time.rzFrames + 1 else 0
  if max 2 (s.gf F.CAL_RZ_CFG_PERIOD) ≤ n then
    let s := { s with time := { s.time with rzFrames := 0 } }
    forN 48 (fun p (s : Dev) => if s.on F.CAL_CTRL_RZ_EN then s.rzPeriod p else s.rzIdle p) s
  else { s with time := { s.time with rzFrames := n, rzOpen := true } }

end Sys2Proof.Machine
end

