-- ==== Sys2Proof/Machine/Channels.lean ====
section
/-! DEFINITION. Return channels (03_return_channels.md): edges, events, starts and timeouts, Eclipse, self-checks. -/
namespace Sys2Proof.Machine

/-- A free choice between two outcomes the spec allows (log 2). -/
def Dev.freeBool (s : Dev) : Bool × Dev := (s.free.1 % 2 == 1, s.free.2)

/-- Whether an instant `t` is taken as inside the window [a, z): exact outside 62.5 ps (16 ticks) of a bound, free
within it (R93, R111). -/
def Dev.inFreeWindow (s : Dev) (a z t : Nat) : Bool × Dev :=
  let near := fun (x : Nat) => decide (t ≤ x + 16) && decide (x ≤ t + 16)
  if near a || near z then s.freeBool else (decide (a ≤ t) && decide (t < z), s)

/-- Longest time over threshold in ticks (R121). -/
def Dev.totMax (s : Dev) (b : Nat) : Nat := max 1 (s.gf (F.BAY_TDC_TIMING_TOT_MAX b)) * 256
/-- The validation window in ticks (R121). -/
def Dev.valWin (s : Dev) (b : Nat) : Nat := max 1 (s.gf (F.BAY_TDC_TIMING_VAL_WIN b)) * 64

/-- A channel forms events (R94, R107, R119, R142). -/
def Dev.forms (s : Dev) (b c : Nat) : Bool :=
  (s.bay b).tdcEn && s.chActive b c && s.bayUp b && (s.foreground b c).isNone

/-- Count an edge lost under R98, with the starts during which it was lost (R105). -/
def Dev.loseEdge (s : Dev) (b c t : Nat) : Dev :=
  let x := s.chan b c
  let span := s.timeoutTicks b
  let starts := x.starts.map (fun (u : StartX) => if u.ref ≤ t ∧ t < u.ref + span then { u with lost := true } else u)
  (s.setChan b c { x with starts := starts, missed := min 65535 (x.missed + 1), lastLost := t }).incSat (F.BAY_CH_MISSED_COUNT b c)

/-- A threshold code beyond full scale: the comparator never asserts (R89). -/
def beyondScale (code : Nat) : Bool := decide (1000 < code)

/-- An edge at `t` falls into the dead time of 4.0 ns that runs from the last converted one (R98). -/
def dead (last : Option Nat) (t : Nat) : Bool :=
  match last with
  | some l => decide (t < l + 1024)
  | none => false

/-- LEADING_EDGE (R89, R92, R98): the arming comparator asserts. -/
def Dev.leadingEdge (s : Dev) (bay : Fin 48) (c : Fin 8) (t : Nat) : Dev :=
  let b := bay.val
  let k := c.val
  let s := s.advanceTo (t / 256)
  let x := s.chan b k
  if x.armHigh.isSome || beyondScale (s.gf (F.BAY_CH_THRESH_ARM b k)) then s
  else
    let x := { x with armHigh := some t }
    if !(s.forms b k) then s.setChan b k x
    else
      let lost := dead x.lastLead t
      let span := s.timeoutTicks b
      let x := { x with starts := x.starts.map (fun (u : StartX) =>
        if u.ref ≤ t ∧ t < u.ref + span then { u with asserted := true } else u) }
      if lost then (s.setChan b k x).loseEdge b k t
      else
        let r : Bool × Dev := match x.valHigh with
          | some v => if t ≤ v + 16 then s.freeBool else (false, s)
          | none => (false, s)
        r.2.setChan b k { x with lastLead := some t, open_ := some { lead := t, validated := r.1 } }

/-- An event in formation ends (R94): emitted later, or, unvalidated under REQUIRE, counted and discarded. -/
def Dev.endEvent (s : Dev) (b c : Nat) (e : ChEvent) : Dev :=
  let x := s.chan b c
  let s := s.setChan b c { x with open_ := none }
  if s.gf (F.BAY_TDC_TIMING_VAL_MODE b) = 0 ∧ !e.validated then s.inc (F.BAY_CH_ARMONLY_COUNT b c)
  else s.setChan b c { x with open_ := none, closed := x.closed ++ [e] }

/-- The release at `t` of a pulse whose event has ended: converted, but forming no event (R95). -/
def Dev.bareTrail (s : Dev) (b c t : Nat) : Dev :=
  let x := s.chan b c
  if dead x.lastTrail t then s.loseEdge b c t else s.setChan b c { x with lastTrail := some t }

/-- TRAILING_EDGE (R92, R94, R95, R98): the arming comparator releases. The validating comparator's own release is no
command; what stays asserted is for `compStuckHigh` to say (R105). -/
def Dev.trailingEdge (s : Dev) (bay : Fin 48) (c : Fin 8) (t : Nat) : Dev :=
  let b := bay.val
  let k := c.val
  let s := s.advanceTo (t / 256)
  let x := s.chan b k
  if x.armHigh.isNone then s
  else
    let converted := x.lastLead == x.armHigh
    let s := s.setChan b k { x with armHigh := none }
    match x.open_ with
    | none => if converted ∧ s.forms b k then s.bareTrail b k t else s
    | some e =>
      if e.lead + s.totMax b ≤ t then (s.endEvent b k e).bareTrail b k t
      else if dead x.lastTrail t then (s.loseEdge b k t).endEvent b k e
      else (s.setChan b k { s.chan b k with lastTrail := some t }).endEvent b k { e with trail := some t }

/-- TOT_MAX_EXPIRY (R92, R95): TOT_MAX has passed since the leading edge. -/
def Dev.totMaxExpiry (s : Dev) (bay : Fin 48) (c : Fin 8) : Dev :=
  let b := bay.val
  match (s.chan b c.val).open_ with
  | none => s
  | some e => (s.advanceTo ((e.lead + s.totMax b + 255) / 256)).endEvent b c.val e

/-- The sub-pulses of a burst that an Eclipse detection at `t` leaves launched (R112): the mask, the number
suppressed, and the state. -/
def Dev.quench (s : Dev) (u : BurstX) (t : Nat) : Nat × Nat × Dev :=
  (List.range u.slots.length).foldl (fun (a : Nat × Nat × Dev) k =>
    let edge := u.ref + 64 * u.slots.getD k 0
    if !(bit u.launched k) ∨ edge < t + 768 then a
    else
      let r : Bool × Dev := if t + 1280 ≤ edge then (false, a.2.2) else a.2.2.freeBool
      if r.1 then (a.1, a.2.1, r.2) else (setBit a.1 k false, a.2.1 + 1, r.2)) (u.launched, 0, s)

/-- The newest burst with the launched mask that Eclipse leaves of it. -/
def PortX.quenched (p : PortX) (launched : Nat) : PortX :=
  match p.bursts with
  | v :: vs => { p with bursts := { v with launched := launched } :: vs }
  | [] => p

/-- Mark the histograms accumulated over a burst as ECLIPSED (R116). -/
def markEclipsed (b : Nat) (u : BurstX) (e : Nat × HistX) : Nat × HistX :=
  if e.2.bay == b && e.2.frame == u.frame && e.2.col == u.col && e.2.cross == none && e.2.st != .waiting && !u.proof then
    (e.1, { e.2 with eclipsed := true })
  else e

/-- An Eclipse detection at `t` by channel `c` (R112, R115 to R117); ECLIPSE_STREAK is a bay-level cause (R123). -/
def Dev.eclipse (s : Dev) (b c t : Nat) (u : BurstX) : Dev :=
  if (s.bay b).ecDetected then s
  else
    let r := s.quench u t
    let s := r.2.2
    let s := s.setBay b { s.bay b with ecDetected := true }
    let s := s.setPort b ((s.port b).quenched r.1)
    let s := (s.inc (F.BAY_EC_COUNT_COUNT b)).sf (F.BAY_EC_LAST_CH b) c
    let s := (s.sf (F.BAY_EC_LAST_SUPPRESSED b) r.2.1).event (E.BAY_ECLIPSE b)
    let s := s.inc F.NW_ECLIPSES_COUNT
    let s := { s with hists := s.hists.map (markEclipsed b u) }
    let n := min 255 (s.gf (F.BAY_EC_STREAK_STREAK b) + 1)
    let was := s.gf (F.BAY_EC_STREAK_STREAK b)
    let s := s.sf (F.BAY_EC_STREAK_STREAK b) n
    if n = s.gf (F.BAY_EC_CTRL_STREAK_LIMIT b) ∧ was < n then s.raise (C.BAY_ECLIPSE_STREAK b) else s

/-- The Eclipse path of a validating assertion at `t` (R111, R113). -/
def Dev.eclipsePath (s : Dev) (b c t : Nat) : Dev :=
  match (s.port b).bursts with
  | [] => s
  | u :: _ =>
    let halo := decide (u.ref + s.gf (F.CAL_HALO_WIN_OPEN b) ≤ t) && decide (t < u.ref + s.gf (F.CAL_HALO_WIN_CLOSE b))
    if s.on (F.BAY_EC_CTRL_EN b) ∧ bit (s.gf (F.BAY_EC_CTRL_CH_MASK b)) c ∧ s.chActive b c ∧ !halo then
      let r := s.inFreeWindow (u.ref + s.gf (F.BAY_EC_WINDOW_OPEN b)) (u.ref + s.gf (F.BAY_EC_WINDOW_CLOSE b)) t
      if r.1 then r.2.eclipse b c t u else r.2
    else s

/-- VALIDATING_ASSERT (R89, R92, R93, R111). -/
def Dev.validatingAssert (s : Dev) (bay : Fin 48) (c : Fin 8) (t : Nat) : Dev :=
  let b := bay.val
  let k := c.val
  let s := s.advanceTo (t / 256)
  if beyondScale (s.gf (F.BAY_CH_THRESH_VAL b k)) then s
  else
    let x := { s.chan b k with valHigh := some t }
    let s := s.setChan b k x
    let s := match x.open_ with
      | some e =>
        if e.validated then s
        else
          let r := s.inFreeWindow e.lead (e.lead + s.valWin b) t
          r.2.setChan b k { x with open_ := some { e with validated := r.1 } }
      | none => s
    s.eclipsePath b k t

/-- An event on the reference channel of the paired port (R152, R185): the burst whose Halo window holds it has shown
its Halo, and its first such event gives a Halo time. -/
def Dev.haloEvent (s : Dev) (b : Nat) (ev : EvWord) : Dev :=
  if ev.ch ≠ s.gf (F.CAL_HALO_REF_CH b) ∨ !ev.val then s
  else
    let p := s.port b
    let o := s.gf (F.CAL_HALO_WIN_OPEN b)
    let z := s.gf (F.CAL_HALO_WIN_CLOSE b)
    let hit := fun (u : BurstX) => decide (u.ref + o ≤ ev.time) && decide (ev.time < u.ref + z)
    match p.bursts.find? hit with
    | none => s
    | some u =>
      if u.seen then s
      else
        let s := s.setPort b { p with haloAt := some (ev.time / 256), bursts := p.bursts.map (fun v => if hit v then { v with seen := true } else v) }
        let s := s.sf (F.EMIT_HALO_AGE_AGE b) ((s.now - ev.time / 256) / 1000000)
        if ev.uncal then s else s.haloTime b ((ev.time : Int) - (u.ref : Int))

/-- TYPE as R103 numbers it. -/
def EvType.code : EvType → Nat
  | .edge => 0
  | .timeout => 1
  | .test => 2
  | .missed => 3

/-- The 64 bits of an event word (R103): of `time` it carries the low 32 bits. -/
def EvWord.word (ev : EvWord) : BitVec 64 :=
  BitVec.ofNat 64 (ev.type.code * 2^62 + ev.ch % 8 * 2^59 + b2n ev.uncal * 2^58 + b2n ev.val * 2^57 + b2n ev.noTrail * 2^56
    + ev.tot % 65536 * 2^32 + ev.time % 2^32)

/-- Append an event word to those on their way to the builder (R103). -/
def Dev.pushEvent (s : Dev) (b : Nat) (ev : EvWord) : Dev :=
  s.setBay b { s.bay b with events := (s.bay b).events ++ [(s.now, ev)] }

/-- TIME, TOT and UNCAL of a closed event (R95, R99). -/
def Dev.eventTimes (s : Dev) (b c : Nat) (e : ChEvent) : Nat × Nat × Bool :=
  let lead := (s.conv b (s.convFor b c false)).calibrate e.lead
  match e.trail with
  | none => match lead with
    | some l => (l, s.totMax b, false)
    | none => (e.lead, s.totMax b, true)
  | some r => match lead, (s.conv b (s.convFor b c true)).calibrate r with
    | some l, some z => (l, z - l, false)
    | _, _ => (e.lead, r - e.lead, true)

/-- EVENT_EMIT (R92, R99, R103): the channel's oldest closed event leaves for the builder. -/
def Dev.eventEmit (s : Dev) (bay : Fin 48) (c : Fin 8) : Dev :=
  let b := bay.val
  let k := c.val
  let x := s.chan b k
  match x.closed with
  | [] => s
  | e :: rest =>
    let s := if e.trail.isNone then s.advanceTo ((e.lead + s.totMax b) / 256) else s
    let v := s.eventTimes b k e
    let span := s.timeoutTicks b
    let s := s.setChan b k { x with closed := rest, starts := x.starts.map (fun (u : StartX) =>
      if u.ref ≤ v.1 ∧ v.1 < u.ref + span then { u with hadEvent := true } else u) }
    let ev : EvWord := { type := .edge, ch := k, uncal := v.2.2, val := e.validated, noTrail := e.trail.isNone,
                         tot := min 65535 v.2.1, time := v.1 }
    ((s.inc (F.BAY_CH_EVENTS_COUNT b k)).pushEvent b ev).haloEvent b ev

/-- The starts left once those that had an event are over; a start with an event ends a storm (R105). -/
def ChanX.endStarts (x : ChanX) (upTo : Nat → Bool) : ChanX :=
  let served := x.starts.takeWhile (fun u => u.hadEvent && upTo u.ref)
  if served.isEmpty then x else { x with starts := x.starts.drop served.length, storm := 0 }

/-- A launched burst is a start of every channel of the paired bay that is armed (R101). -/
def Dev.addStart (s : Dev) (b ref : Nat) : Dev :=
  let span := s.timeoutTicks b
  forN 8 (fun c (s : Dev) =>
    if s.forms b c then
      let x := (s.chan b c).endStarts (fun r => decide (r + span ≤ ref))
      let asserted := x.armHigh.isSome
      if x.starts.length < 8 then s.setChan b c { x with starts := x.starts ++ [{ ref := ref, asserted := asserted }] }
      else s.setChan b c x
    else s) s

/-- TIMEOUT_MARKER (R102, R105): the oldest start without an event reaches its timeout. A STORM_COUNT of 0 acts as 1 (DESIGN
CHOICE, log 89: R121 gives no rule for it). -/
def Dev.timeoutMarker (s : Dev) (bay : Fin 48) (c : Fin 8) : Dev :=
  let b := bay.val
  let k := c.val
  let x := (s.chan b k).endStarts (fun _ => true)
  match x.starts with
  | [] => s.setChan b k x
  | u :: rest =>
    let s := s.advanceTo ((u.ref + s.timeoutTicks b + 255) / 256)
    let storm := if u.asserted ∧ !u.lost then x.storm + 1 else 0
    let s := s.setChan b k { x with starts := rest, storm := storm }
    let s := (s.inc (F.BAY_CH_TIMEOUTS_COUNT b k)).pushEvent b { type := .timeout, ch := k, time := u.ref }
    if max 1 (s.gf (F.BAY_FAULT_CTRL_STORM_COUNT b)) ≤ storm then
      (s.setChan b k { s.chan b k with storm := 0 }).quarantineChannel b k 1 2 (C.BAY_TIMEOUT_STORM b)
    else s

/-- MISSED_WORD (R103, R104): at most one per microsecond. -/
def Dev.missedWord (s : Dev) (bay : Fin 48) (c : Fin 8) : Dev :=
  let b := bay.val
  let k := c.val
  let x := s.chan b k
  if x.missed = 0 then s
  else
    let s := match x.lastMissedAt with
      | some m => s.advanceTo (m + 1000)
      | none => s
    (s.setChan b k { x with missed := 0, lastMissedAt := some s.now }).pushEvent b
      { type := .missed, ch := k, tot := x.missed, time := x.lastLost }

/-- COMP_STUCK_HIGH (R105): the comparator has stayed asserted since its last assertion. STUCK_TIME values of 1,001 to 1,023
act as written (DESIGN CHOICE, log 89: R121 gives no rule for them). -/
def Dev.compStuckHigh (s : Dev) (bay : Fin 48) (c : Fin 8) (validating : Bool) : Dev :=
  let b := bay.val
  let k := c.val
  let x := s.chan b k
  match (if validating then x.valHigh else x.armHigh) with
  | none => s
  | some t =>
    if s.chActive b k then
      (s.advanceTo (t / 256 + max 1 (s.gf (F.BAY_FAULT_CTRL_STUCK_TIME b)) * 1000)).quarantineChannel b k 2 1 (C.BAY_COMP_STUCK b)
    else s

/-- CH_RELEASE (R108): a release written while the channel is not QUARANTINED is ignored. -/
def Dev.chRelease (s : Dev) (bay : Fin 48) (_ : Requester) (mask : BitVec 8) : Dev :=
  forN 8 (fun c (s : Dev) =>
    if bit mask.toNat c ∧ s.gf (F.BAY_CH_STATUS_STATE bay.val c) = 2 then s.setChState bay.val c 3 else s) s

/-- The leading-time deviation of a check (R106, R122). -/
def Dev.deviation (s : Dev) (b c : Nat) (r : CheckResult) : Int :=
  let ref := (s.chan b c).refDelay
  r.lead.getD ref - ref

/-- Whether a check's measurement passes, whether a comparator was silent, and the part it blames (R89, R105, R106): the
converter whose result was wrong, or the comparator where only a validating comparator that does not release failed it
(DESIGN CHOICE, log 89: R105 names no converter then). -/
def Dev.judgeCheck (s : Dev) (b c : Nat) (r : CheckResult) : Bool × Bool × Nat :=
  let tol : Int := s.gf (F.BAY_SELFTEST_CFG_TOL b)
  let silent := r.armSilent || r.valSilent || beyondScale (s.gf (F.BAY_CH_THRESH_ARM b c))
    || beyondScale (s.gf (F.BAY_CH_THRESH_VAL b c))
  let lead := r.leadWord && decide (((s.deviation b c r).natAbs : Int) ≤ tol)
  let trail := r.trailWord && !r.armHeld && decide (((r.tot - 2048).natAbs : Int) ≤ tol)
  (!silent && lead && trail && !r.valHeld, silent, if !lead then 2 else if !trail then 3 else 1)

/-- Quarantine for what a check found (R105, R108). -/
def Dev.failCheck (s : Dev) (b c : Nat) (silent : Bool) (part : Nat) : Dev :=
  if silent then s.quarantineChannel b c 2 1 (C.BAY_COMP_STUCK b)
  else s.quarantineChannel b c 3 part (C.BAY_SELFCHECK_FAIL b)

/-- The self-check or release check of one channel during a flyback (R105, R106, R108). -/
def Dev.selfCheck (s : Dev) (b c : Nat) (r : CheckResult) : Dev :=
  let st := s.gf (F.BAY_CH_STATUS_STATE b c)
  let j := s.judgeCheck b c r
  let s := if st = 3 ∨ (st = 0 ∧ s.on (F.BAY_TDC_CTRL_SELFTEST_EN b)) then
      ((s.sb (F.BAY_CH_SELFTEST_PASS b c) j.1).si (F.BAY_CH_SELFTEST_DEVIATION b c) (satSigned 16 (s.deviation b c r))).setChan b c
        { s.chan b c with checks := (s.chan b c).checks + 1, checkOk := j.1 } else s
  if st = 3 then
    if j.1 then
      let s := s.setChan b c { s.chan b c with releasePass := true }
      (s.sf (F.BAY_CH_STATUS_SELFTEST_FAILS b c) 0).event (E.BAY_RELEASE_DONE b)
    else ((s.raise (C.BAY_SELFCHECK_MISS b) c).failCheck b c j.2.1 j.2.2).event (E.BAY_RELEASE_DONE b)
  else if st = 0 ∧ s.on (F.BAY_TDC_CTRL_SELFTEST_EN b) then
    if j.1 then s.sf (F.BAY_CH_STATUS_SELFTEST_FAILS b c) 0
    else
      let s := (s.incSat (F.BAY_CH_STATUS_SELFTEST_FAILS b c)).raise (C.BAY_SELFCHECK_MISS b) c
      if j.2.1 ∨ max 1 (s.gf (F.BAY_SELFTEST_CFG_FAIL_LIMIT b)) ≤ s.gf (F.BAY_CH_STATUS_SELFTEST_FAILS b c) then
        s.failCheck b c j.2.1 j.2.2
      else s
  else s

/-- The checks of a flyback (R106, R108). A channel that `checks` leaves out measures its reference delay and a width of
8.0 ns. -/
def Dev.flybackChecks (s : Dev) (checks : List CheckResult) : Dev :=
  forN 48 (fun b (s : Dev) =>
    if (s.bay b).tdcEn ∧ s.isOn (.bay b) then
      forN 8 (fun c (s : Dev) =>
        match checks.find? (fun r => r.bay.val == b && r.c.val == c) with
        | some r => s.selfCheck b c r
        | none => s.selfCheck b c { bay := 0, c := 0 }) s
    else s) s

/-- What a frame start does to the channels of a bay (R108, R119, R122, R123): TDC_CTRL.EN acts, channels are enabled or
disabled, and a passed release returns to ACTIVE. -/
def Dev.chanFrame (s : Dev) (b : Nat) : Dev :=
  if !(s.isOn (.bay b)) then s
  else
    let en := s.on (F.BAY_TDC_CTRL_EN b)
    let s := s.setBay b { s.bay b with tdcEn := en }
    forN 8 (fun c (s : Dev) =>
      let st := s.gf (F.BAY_CH_STATUS_STATE b c)
      let want := if en && bit (s.gf (F.BAY_CH_ENABLE_EN b)) c then 0 else 1
      let pass := (s.chan b c).releasePass
      if st ≤ 1 ∨ (st = 3 ∧ pass) then
        let s := if pass then s.setChan b c { s.chan b c with releasePass := false } else s
        let s := if st = 3 then (s.sf (F.BAY_CH_STATUS_FAULT b c) 0).sf (F.BAY_CH_STATUS_FAILED_PART b c) 0 else s
        let s := if st ≠ 0 ∧ want = 0 ∧ !(s.on (F.BAY_CH_STATUS_CAL_VALID b c)) then s.raise (C.BAY_CAL_INVALID b) c else s
        s.setChState b c want
      else s) s

end Sys2Proof.Machine
end

