-- ==== Sys2Proof/Machine/FastAxis.lean ====
section
/-! DEFINITION. The fast axis: the oscillator of the resonant drive, the fast-axis model, column boundaries and their crossing
times (R211, R213 to R215). -/
namespace Sys2Proof.Machine

/-! ## Sines. A phase is a number of 10^-12 turns, a sine a number of 2^-40 -/

/-- One turn. -/
def turn : Nat := 1000000000000

/-- One factor of the sine's series: 1 less x2 / n of what follows it. -/
def sinTerm (x2 : Int) (n : Int) (rest : Int) : Int := 2^40 - x2 * rest / (n * 2^40)

/-- The sine of an angle of at most a quarter turn. -/
def sinQuarter (p : Nat) : Int :=
  let x : Int := (p * 6908435304715 / turn : Nat)
  let x2 := x * x / 2^40
  let t := [272, 210, 156, 110, 72, 42, 20, 6].foldl (fun (r : Int) n => sinTerm x2 n r) (2^40)
  x * t / 2^40

/-- The sine of a phase. -/
def sinTurn (p : Nat) : Int :=
  let r := p % turn
  let h := r % 500000000000
  let v := if h ≤ 250000000000 then sinQuarter h else sinQuarter (500000000000 - h)
  if r < 500000000000 then v else -v

/-- The least phase below a quarter turn, from bit `n` down, whose sine times `a` reaches `q`. -/
def asinGo (a : Int) (q : Int) : Nat → Nat → Nat
  | 0, p => p
  | n + 1, p => asinGo a q n (if a * sinTurn (p + 2^n) < q * 2^40 ∧ p + 2^n ≤ 250000000000 then p + 2^n else p)

/-- The phase below a quarter turn at which a sine of amplitude `a` reaches `q` of 0 to `a`. -/
def asinTurn (a q : Int) : Nat := if q ≤ 0 then 0 else asinGo a q 38 0 + 1

/-! ## The oscillator (R211) -/

/-- Phase run through in the first `u` ns of the start sweep, from `lo` to `hi` mHz over `half` ns (R211). -/
def sweepPhase (lo hi half u : Nat) : Nat :=
  if u ≤ half then lo * u + (hi - lo) * u * u / (2 * max 1 half) else lo * half + (hi - lo) * half / 2 + hi * (u - half)

/-- The oscillator's phase theta at a moment (R211): its phase at the last change of its frequency, and what it ran since. -/
def Dev.theta (s : Dev) (t : Nat) : Nat :=
  let x := s.scan
  let run : Int := if x.sweeping then
      (sweepPhase (s.gf F.SCAN_FAST_FREQ_LIM_MIN * 1000) (s.gf F.SCAN_FAST_FREQ_LIM_MAX * 1000)
        (s.gf F.SCAN_START_CFG_START_TIMEOUT * 500000) (t - x.startAt) : Nat)
    else x.freq * ((t : Int) - x.thetaAt)
  (((x.theta : Int) + run) % (turn : Nat)).toNat

/-- The oscillator stands at its present phase, about to change its frequency. -/
def Dev.thetaSync (s : Dev) : Dev :=
  { s with scan := { s.scan with theta := s.theta s.now, thetaAt := s.now } }

/-! ## Boundaries and the model (R214, R215) -/

/-- Column boundaries per line N (R214). -/
def Dev.colsPerLine (s : Dev) : Nat := min 8192 (max 1 (s.gf F.SCAN_FAST_CFG_COLS_PER_LINE))

/-- Position of boundary `k` of a forward or a reverse line (R214). -/
def Dev.boundary (s : Dev) (k : Nat) (rev : Bool) : Int :=
  let lo := s.gi F.SCAN_FAST_ACTIVE_EDGE_LO
  let hi := s.gi F.SCAN_FAST_ACTIVE_EDGE_HI
  let d := (k : Int) * (hi - lo) / (s.colsPerLine : Nat)
  if rev then hi - d else lo + d

/-- Reverse sweeps are lines (R214). -/
def Dev.bidir (s : Dev) : Bool := s.on F.SCAN_FAST_CFG_BIDIR && !(s.on F.SCAN_CTRL_FAST_MODE)

/-- Counts per facet (R213). -/
def Dev.facetCounts (s : Dev) : Nat := max 1 (s.gf F.SCAN_POLY_CFG_COUNTS)

/-- The measured phase of the sense, its zero-crossing relative to theta, as a phase (R211). -/
def Dev.sensePhase (s : Dev) : Nat := s.scan.measPhase * turn / 65536

/-- The fast-axis model's position at a moment (R215): the measured amplitude times the sine of the locked phase, which is theta
less the sense's measured phase (DEDUCED, log 92), or the encoder's count extrapolated from its last two edges. -/
def Dev.fastModel (s : Dev) (t : Nat) : Int :=
  let x := s.scan
  if s.on F.SCAN_CTRL_FAST_MODE then
    if x.encStep = 0 then (x.encCount : Int)
    else ((x.encCount : Int) + ((t : Int) - x.encAt) / (x.encStep : Nat)) % (s.facetCounts : Nat)
  else x.measAmp * sinTurn (s.theta t + turn - s.sensePhase) / 2^40

/-- The locked phase at which the model crosses a position, rising or falling; none where its amplitude does not reach it. -/
def crossPhase (a q : Int) (rev : Bool) : Option Nat :=
  if a ≤ 0 ∨ a < q.natAbs then none
  else
    let r := asinTurn a q.natAbs
    if 0 ≤ q then some (if rev then 500000000000 - r else r)
    else some (if rev then 500000000000 + r else turn - r)

/-- The first ns from `t` on at which the model crosses boundary `k` (R215; rounded up to 1 ns, DESIGN CHOICE, log 92). -/
def Dev.crossAt (s : Dev) (k : Nat) (rev : Bool) (t : Nat) : Option Nat :=
  let x := s.scan
  let q := s.boundary k rev
  if s.on F.SCAN_CTRL_FAST_MODE then
    if x.encStep = 0 then none
    else
      let n := ((q - x.encCount) % (s.facetCounts : Nat)).toNat
      let t0 := x.encAt + n * x.encStep
      let per := s.facetCounts * x.encStep
      some (t0 + (t - t0 + per - 1) / per * per)
  else if x.freq ≤ 0 then none
  else (crossPhase x.measAmp q rev).map (fun p =>
    let d := ((p + s.sensePhase : Nat) : Int) - (s.theta t : Nat)
    let d := (d % (turn : Nat)).toNat
    t + (d + x.freq.toNat - 1) / x.freq.toNat)

/-- The boundary crossed after boundary `k` (R214). -/
def Dev.boundaryNext (s : Dev) (k : Nat) (rev : Bool) : Nat × Bool :=
  if k + 1 < s.colsPerLine then (k + 1, rev) else (0, s.bidir && !rev)

/-- The boundary crossed before boundary `k` (R214). -/
def Dev.boundaryPrev (s : Dev) (k : Nat) (rev : Bool) : Nat × Bool :=
  if k = 0 then (s.colsPerLine - 1, s.bidir && !rev) else (k - 1, rev)

/-- The next crossing after `t`, where it is that of boundary `k`: its time, and the column's predicted duration (R215, R223). -/
def Dev.nextCrossing (s : Dev) (k : Nat) (rev : Bool) (t : Nat) : Option (Nat × Nat) :=
  match s.crossAt k rev (t + 1) with
  | none => none
  | some c =>
    let p := s.boundaryPrev k rev
    let n := s.boundaryNext k rev
    let later := match s.crossAt p.1 p.2 (t + 1) with | some a => decide (c ≤ a) | none => true
    if later then (s.crossAt n.1 n.2 (c + 1)).map (fun e => (c, e - c)) else none

end Sys2Proof.Machine
end

