-- ==== Sys2Proof/Machine/Ledger.lean ====
section
/-! DEFINITION. The exposure ledger (R496 to R502) and the inhibit that Nightwatch holds on a port (R481). -/
namespace Sys2Proof.Machine

/-- Default of the ledger's buckets: no energy. -/
def buckets0 (_ : Nat) : List Nat := []
/-- Default of the cells' state: closed (R502). -/
def cell1 (_ : Nat) : Bool := false

/-- The largest ledger value (R498). -/
def luMax : Nat := 0xFFFFFFFF

/-- Ledger cell of port `p` and sector `x` (R496). -/
def cellOf (p x : Nat) : Nat := 128 * p + x

/-- The energy of one sub-pulse in LU (R497). -/
def eSub (code wc coef : Nat) : Nat := (code * (wc + 4) * coef + 65535) / 65536

/-- Default of stores of current codes. -/
def code0 (_ : Nat) : Nat := 0

/-- The current code of a port for the ledger: active, or staged when that is larger while an apply pulse is pending
(R497). -/
def Dev.ledgerCode (s : Dev) (p : Nat) : Nat :=
  let a := s.gf (F.EMIT_PORT_STATUS_SENT_CODE p)
  if s.on F.EMIT_STARLINE_STATUS_APPLY_PENDING then max a (fget code0 s.emit.stagedCodes p) else a

/-- E_sub of a port at a width code. -/
def Dev.portESub (s : Dev) (p wc : Nat) : Nat := eSub (s.ledgerCode p) wc (s.gf (F.NW_ECOEF_COEF p))

/-- Sub-pulses of a code of the active bank. -/
def Dev.codeN (s : Dev) : Nat := s.emit.pulses + 1

/-- A port's reserve R (R499). -/
def Dev.reserve (s : Dev) (p : Nat) : Nat := 4 * s.codeN * s.portESub p s.emit.wc

/-- The sector of a position, before clipping (R496). -/
def Dev.sector (s : Dev) (x : Int) : Int :=
  if s.on F.SCAN_CTRL_FAST_MODE then 128 * x / (max 1 (s.gf F.SCAN_POLY_CFG_COUNTS) : Nat) else (x + 32768) / 512

/-- A sector clipped to 0 to 127. -/
def clipSector (x : Int) : Nat := min 127 x.toNat

/-- The sectors charged for a burst at position `x` (R496). -/
def Dev.sectorsAt (s : Dev) (x : Int) : List Nat :=
  let d : Int := s.gf F.NW_LEDGER_CFG_SPREAD
  let lo := clipSector (s.sector (x - d))
  (List.range (clipSector (s.sector (x + d)) + 1 - lo)).map (lo + ·)

/-- SECTOR_SCALE of a sector. -/
def Dev.sectorScale (s : Dev) (x : Nat) : Nat := bits (s.rd (R.NW_SECTOR_SCALE (x / 4))) (8 * (x % 4)) 8

/-- The effective ceiling of a cell (R499). -/
def Dev.effCeil (s : Dev) (p x w : Nat) : Nat := s.gf (F.NW_CEIL_LU p w) * s.sectorScale x / 128

/-- The sum of a cell in a window (R498). -/
def Dev.cellSum (s : Dev) (c w : Nat) : Nat := min luMax ((fget buckets0 s.ledger.sums (4 * c + w)).foldl (· + ·) 0)

/-- Whether a cell is to be closed (R499); with a ceiling of 0 it always is (R502, log 50). -/
def Dev.overCeil (s : Dev) (p x : Nat) : Bool :=
  let r := s.reserve p
  (List.range 3).any (fun w => s.effCeil p x w == 0 || decide (s.effCeil p x w < s.cellSum (cellOf p x) w + r))

/-- A cell is open. -/
def Dev.cellOpen (s : Dev) (c : Nat) : Bool := fget cell1 s.ledger.open_ c

/-- Re-evaluate one cell (R499, R510). -/
def Dev.cellSync (s : Dev) (p x : Nat) : Dev :=
  let c := cellOf p x
  let close := s.overCeil p x
  if s.cellOpen c = !close then s
  else
    let s := { s with ledger := { s.ledger with open_ := fset cell1 s.ledger.open_ c (!close) } }
    let n := s.gf F.NW_LEDGER_STATUS_CLOSED
    let s := s.event E.NW_CELL_CHANGE
    if close then
      (((s.sf F.NW_LEDGER_STATUS_CLOSED (n + 1)).sf F.NW_LEDGER_STATUS_LAST_CLOSED c)).raise C.NW_CELL_CLOSED
    else s.sf F.NW_LEDGER_STATUS_CLOSED (n - 1)

/-- Re-evaluate the cells of one port. -/
def Dev.portCells (s : Dev) (p : Nat) : Dev := forN 128 (fun x (s : Dev) => s.cellSync p x) s
/-- Re-evaluate every cell. -/
def Dev.allCells (s : Dev) : Dev := forN 48 (fun p (s : Dev) => s.portCells p) s

/-- Buckets without trailing empty ones. -/
def trimBuckets (l : List Nat) : List Nat := (l.reverse.dropWhile (· == 0)).reverse

/-- Add energy to the current bucket of a cell and window (R498). -/
def Dev.addEnergy (s : Dev) (c w e : Nat) : Dev :=
  let l := match fget buckets0 s.ledger.sums (4 * c + w) with
    | [] => [min luMax e]
    | a :: l => min luMax (a + e) :: l
  { s with ledger := { s.ledger with sums := fset buckets0 s.ledger.sums (4 * c + w) (trimBuckets l) } }

/-- Charge energy to the cells of a burst at position `x` (R496, R497). -/
def Dev.charge (s : Dev) (p : Nat) (x : Int) (e : Nat) : Dev :=
  let s := (s.sectorsAt x).foldl (fun (s : Dev) k => forN 3 (fun w (s : Dev) => s.addEnergy (cellOf p k) w e) s) s
  s.portCells p

/-- One bucket boundary of window `w` passes (R498). -/
def ageBuckets (w : Nat) (m : FMap (List Nat)) : FMap (List Nat) :=
  (m.map (fun e => if e.1 % 4 = w then (e.1, trimBuckets ((0 :: e.2).take 9)) else e)).filter (fun e => e.2 != [])

/-- The length of a bucket of a window, ns of Nightwatch time (R498, R509). -/
def Dev.bucketNs (s : Dev) (w : Nat) : Nat := 2^(min 27 (s.gf (F.NW_WIN_CFG_BUCKET_LOG2 w))) * 1000

/-- The buckets of a window are counted from Nightwatch time `t` on: its grid is that of the bucket length (R498). -/
def Dev.startBuckets (s : Dev) (w t : Nat) : Dev :=
  { s with ledger := { s.ledger with bucket := fset code0 s.ledger.bucket w (t / s.bucketNs w) } }

/-- Put the whole sum of every cell of a window into the current bucket (R502). -/
def Dev.fillWindow (s : Dev) (w : Nat) (f : Nat → Nat) : Dev :=
  forN 48 (fun p (s : Dev) => forN 128 (fun x (s : Dev) =>
    let v := f (s.effCeil p x w)
    let l := fset buckets0 s.ledger.sums (4 * cellOf p x + w) (trimBuckets [v])
    { s with ledger := { s.ledger with sums := l } }) s) s

/-- The headroom check (R501) for an emission of a port over positions. -/
def Dev.headroom (s : Dev) (p : Nat) (xs : List Int) (e : Nat) : Bool :=
  let r := s.reserve p
  xs.all (fun x => (s.sectorsAt x).all (fun k => (List.range 3).all (fun w =>
    decide (s.cellSum (cellOf p k) w + r + e ≤ s.effCeil p k w))))

/-- Nightwatch inhibits a port's next burst (R481): its state is not PERMIT, or a cell the burst would be charged to is
closed. -/
def Dev.nwInhibits (s : Dev) (p : Nat) : Bool :=
  decide (s.gf F.NW_STATUS_STATE ≠ 3) || (s.sectorsAt (s.fastModel s.now)).any (fun k => !(s.cellOpen (cellOf p k)))

end Sys2Proof.Machine
end

