-- ==== Sys2Proof/Machine/Emit.lean ====
section
/-! DEFINITION. Emission (05_emission_and_codes.md): temperature compensation, Starline, port states, burst launch,
proof bursts and resume checks. -/
namespace Sys2Proof.Machine

/-- TEMP_SRC.SRC of a group (R191). -/
def Dev.tempSrc (s : Dev) (g : Nat) : Nat := bits (s.rd R.EMIT_TEMP_SRC) (8 * g) 8

/-- f of a group at a temperature (R192). -/
def Dev.compFactor (s : Dev) (g : Nat) (t : Int) : Int :=
  let ti := fun i => s.gi (F.EMIT_COMP_TAB_TEMP g i)
  let fi := fun i => ((s.gf (F.EMIT_COMP_TAB_FACTOR g i) : Nat) : Int)
  match (List.range 15).find? (fun i => decide (ti i ≤ t) && decide (t < ti (i + 1))) with
  | some i => fi i + (fi (i + 1) - fi i) * (t - ti i) / (ti (i + 1) - ti i)
  | none => if t < ti 0 then fi 0 else fi 15

/-- The compensated current code of a port (R191 to R193). -/
def Dev.compCode (s : Dev) (p : Nat) : Nat :=
  let g := s.gf (F.EMIT_PORT_CFG_GROUP p)
  let base : Int := s.gf (F.EMIT_PORT_CURRENT_BASE_CODE p)
  if s.tempSrc g = 255 then min 65535 base.toNat
  else if !(s.on (F.EMIT_GROUP_TEMP_VALID g)) then 0
  else
    let t := s.gi (F.EMIT_GROUP_TEMP_TEMP g)
    let knee := s.gi (F.EMIT_GROUP_DERATE_KNEE g)
    let cut := s.gi (F.EMIT_GROUP_DERATE_CUTOFF g)
    let f := s.compFactor g t
    if cut ≤ t then 0
    else if t ≤ knee then min 65535 (base * f / 32768).toNat
    else min 65535 (base * f * (cut - t) / (32768 * (cut - knee))).toNat

/-- Derating, and nothing else, makes the port's code 0: above the knee, where the code without the derating factor is not 0
(R191, R193). -/
def Dev.zeroByDerating (s : Dev) (p : Nat) : Bool :=
  let g := s.gf (F.EMIT_PORT_CFG_GROUP p)
  let base : Int := s.gf (F.EMIT_PORT_CURRENT_BASE_CODE p)
  let t := s.gi (F.EMIT_GROUP_TEMP_TEMP g)
  s.on (F.EMIT_PORT_CFG_EN p) && decide (s.compCode p = 0) && s.tempSrc g != 255 && s.on (F.EMIT_GROUP_TEMP_VALID g)
    && decide (s.gi (F.EMIT_GROUP_DERATE_KNEE g) < t) && decide (32768 ≤ base * s.compFactor g t)

/-- PORT_STATUS.INH_DERATED follows the compensated code; DERATED is raised when derating brings it to 0 (R193). -/
def Dev.derateSync (s : Dev) (p : Nat) : Dev :=
  let s := s.sb (F.EMIT_PORT_STATUS_INH_DERATED p) (s.on (F.EMIT_PORT_CFG_EN p) && decide (s.compCode p = 0))
  let was := bit s.emit.derated p
  let now := s.zeroByDerating p
  let s := { s with emit := { s.emit with derated := setBit s.emit.derated p now } }
  if now ∧ !was then s.raise C.EMIT_DERATED p else s

/-- Every port's derating state. -/
def Dev.derateAll (s : Dev) : Dev := forN 48 (fun p (s : Dev) => s.derateSync p) s

/-- A valid sample of temperature source `src`, in 0.1 C (R191, R193). -/
def Dev.tempSample (s : Dev) (src : Nat) (t : Int) : Dev :=
  let s := forN 4 (fun g (s : Dev) =>
    if s.tempSrc g = src then
      let s := (s.si (F.EMIT_GROUP_TEMP_TEMP g) (satSigned 16 t)).sb (F.EMIT_GROUP_TEMP_VALID g) true
      { s with emit := { s.emit with tempAt := fset count0 s.emit.tempAt g (s.now + 1), tempDead := setBit s.emit.tempDead g false } }
    else s) s
  if (List.range 4).any (fun g => s.tempSrc g == src) then s.derateAll else s

/-- TEMP_SRC names a source for a group, by boot or by a commit (R193). -/
def Dev.nameTemp (s : Dev) (g : Nat) : Dev :=
  let s := { s with emit := { s.emit with tempAt := fset count0 s.emit.tempAt g 0, tempNamed := fset count0 s.emit.tempNamed g s.now,
                                          tempDead := setBit s.emit.tempDead g false } }
  s.sb (F.EMIT_GROUP_TEMP_VALID g) false

/-- TEMP_SOURCE_TIMEOUT (R193): 1 s without a valid sample of the group's source. -/
def Dev.tempSourceTimeout (s : Dev) (group : Fin 4) : Dev :=
  let g := group.val
  if s.tempSrc g = 255 ∨ bit s.emit.tempDead g then s
  else
    let last := fget count0 s.emit.tempAt g
    let from_ := if last = 0 then fget count0 s.emit.tempNamed g else last - 1
    let s := s.advanceTo (from_ + 1000000000)
    let s := { s with emit := { s.emit with tempDead := setBit s.emit.tempDead g true } }
    ((s.sb (F.EMIT_GROUP_TEMP_VALID g) false).raise C.EMIT_TEMP_INVALID g).derateAll

/-- Default of the store of wires. -/
def star0 (_ : Nat) : StarX := {}
/-- A Starline wire. -/
def Dev.wire (s : Dev) (w : Nat) : StarX := fget star0 s.emit.star w
/-- Replace a Starline wire. -/
def Dev.setWire (s : Dev) (w : Nat) (x : StarX) : Dev := { s with emit := { s.emit with star := fset star0 s.emit.star w x } }

/-- STARLINE_LEN of a wire. -/
def Dev.starLen (s : Dev) (w : Nat) : Nat := bits (s.rd R.EMIT_STARLINE_LEN) (8 * w) 5

/-- Eight steps of the CRC-8 of R195. -/
def crc8Bits : Nat → Nat → Nat
  | 0, c => c
  | n + 1, c => crc8Bits n (if c ≥ 128 then Nat.xor (c * 2 % 256) 7 else c * 2)
/-- The CRC-8 of R195 over bytes. -/
def crc8 (bs : List Nat) : Nat := bs.foldl (fun c b => crc8Bits 8 (Nat.xor c b)) 0

/-- A Starline word (R195). -/
def starWord (code arm flags : Nat) : Nat :=
  let b := arm * 128 + flags % 128
  code % 65536 * 65536 + b * 256 + crc8 [code % 65536 / 256, code % 256, b]

/-- The bits of a Starline word, the first sent first (R194). -/
def wordBits (w : Nat) : List Bool := (List.range 32).map (fun i => bit w (31 - i))

/-- What a transfer with bit period `p` ns makes of its line: levels, high or low, with their length in ns, the gap of 64 us
last (R194). -/
def starLine (p : Nat) (ws : List Nat) : List (Bool × Nat) :=
  (ws.flatMap wordBits).flatMap (fun b =>
    let h := if b then 3 * p / 4 else p / 4
    [(true, h), (false, p - h)]) ++ [(false, 64000)]

/-- The bit period of STARLINE_CFG, ns (R201). -/
def Dev.bitNs (s : Dev) : Nat := 500 * 2^(s.gf F.EMIT_STARLINE_CFG_BIT_TIME % 3)

/-- The length of a transfer of `n` words with its gap, ns (R194, R197). -/
def transferNs (n p : Nat) : Nat := n * 32 * p + 64000

/-- The port that claims a slot of a wire (R195). -/
def Dev.claimant (s : Dev) (w n : Nat) : Option Nat :=
  (List.range 48).find? (fun p => s.on (F.EMIT_PORT_CFG_EN p) && s.gf (F.EMIT_PORT_CFG_WIRE p) == w
    && s.gf (F.EMIT_PORT_CFG_SLOT p) == n)

/-- The words of a wire's transfer (R194, R195). -/
def Dev.wireWords (s : Dev) (w : Nat) : List Nat :=
  (List.range (s.starLen w)).map (fun n => match s.claimant w n with
    | some p => starWord (s.compCode p) 1 (s.gf (F.EMIT_PORT_CURRENT_DRV_FLAGS p))
    | none => starWord 0 0 0)

/-- The codes that a transfer carries for the ports. -/
def Dev.portCodes (s : Dev) : FMap Nat :=
  (List.range 48).foldl (fun m p => fset code0 m p (if s.on (F.EMIT_PORT_CFG_EN p) then s.compCode p else 0)) []

/-- Slots claimed twice or beyond STARLINE_LEN keep the later port's previous PORT_CFG, of `old` (R200); the ports so
adjusted. -/
def Dev.resolveSlots (s old : Dev) : List Nat × Dev :=
  let r := (List.range 48).foldl (fun (a : List (Nat × Nat) × List Nat × Dev) p =>
    let s := a.2.2
    let key := (s.gf (F.EMIT_PORT_CFG_WIRE p), s.gf (F.EMIT_PORT_CFG_SLOT p))
    if !(s.on (F.EMIT_PORT_CFG_EN p)) then a
    else if a.1.contains key ∨ s.starLen key.1 ≤ key.2 then
      let s := s.wr (R.EMIT_PORT_CFG p) (old.rd (R.EMIT_PORT_CFG p))
      let k := (s.gf (F.EMIT_PORT_CFG_WIRE p), s.gf (F.EMIT_PORT_CFG_SLOT p))
      (if s.on (F.EMIT_PORT_CFG_EN p) then a.1 ++ [k] else a.1, a.2.1 ++ [p], s)
    else (a.1 ++ [key], a.2.1, s)) ([], [], s)
  (r.2.1, r.2.2)

/-- A table with a temperature that decreases (R192). -/
def Dev.badTable (s : Dev) (g : Nat) : Bool :=
  (List.range 15).any (fun i => decide (s.gi (F.EMIT_COMP_TAB_TEMP g (i + 1)) < s.gi (F.EMIT_COMP_TAB_TEMP g i)))

/-- A temperature source of R191. -/
def goodSrc (v : Nat) : Bool := decide (v < 24) || (decide (32 ≤ v) && decide (v < 56)) || v == 255

/-- Resolve one item of a set: where `bad` holds, the adjustment is noted with its source and made. -/
def adjust (r : List Nat × Dev) (bad : Dev → Bool) (source : Nat) (fix : Dev → Dev) : List Nat × Dev :=
  if bad r.2 then (r.1 ++ [source], fix r.2) else r

/-- The first group that names a source not of R191. -/
def Dev.badSrc (s : Dev) : Option Nat := (List.range 4).find? (fun g => !(goodSrc (s.tempSrc g)))

/-- The EMIT registers `s` after a set was written over `old`, resolved as they apply (R177, R191, R192, R200 to R202),
with the source of each adjustment. A group whose source changes has no temperature yet (R193). -/
def Dev.emitResolve (s old : Dev) : List Nat × Dev :=
  let r := adjust ([], s) (fun s => decide (s.gf F.EMIT_COLUMN_TIMING_LEAD < 100)) 0 id
  let r := adjust r (fun s => decide (s.gf F.EMIT_COLUMN_TIMING_SPACING < 1000)) 0 id
  let r := adjust r (fun s => decide (s.gf F.EMIT_STARLINE_CFG_BIT_TIME = 3)) 0 (fun s => s.sf F.EMIT_STARLINE_CFG_BIT_TIME 0)
  let r := adjust r (fun s => s.badSrc.isSome) (r.2.badSrc.getD 0) (fun s => s.wr R.EMIT_TEMP_SRC (old.rd R.EMIT_TEMP_SRC))
  let r := (List.range 4).foldl (fun r g =>
    adjust r (fun s => decide (s.gi (F.EMIT_GROUP_DERATE_CUTOFF g) ≤ s.gi (F.EMIT_GROUP_DERATE_KNEE g))) g
      (fun s => s.wr (R.EMIT_GROUP_DERATE g) (old.rd (R.EMIT_GROUP_DERATE g)))) r
  let r := (List.range 4).foldl (fun r g =>
    adjust r (fun s => s.badTable g) g
      (fun s => forN 16 (fun i (s : Dev) => s.wr (R.EMIT_COMP_TAB g i) (old.rd (R.EMIT_COMP_TAB g i))) s)) r
  let r := (List.range 48).foldl (fun r p =>
    adjust r (fun s => decide (256 < s.gf (F.EMIT_PORT_CFG_BURSTS p))) p (fun s => s.sf (F.EMIT_PORT_CFG_BURSTS p) 256)) r
  let b := r.2.resolveSlots old
  (r.1 ++ b.1, (List.range 4).foldl (fun (s : Dev) g => if s.tempSrc g = old.tempSrc g then s else s.nameTemp g) b.2)

/-- Write a list of register values of a page. -/
def Dev.wrAll (s : Dev) (g : Page) (l : List (Nat × Word)) : Dev := l.foldl (fun (s : Dev) e => s.wr ⟨g, e.1⟩ e.2) s

/-- What the next transfer carries (R197): the shadow values as they will apply, or the values in force. -/
def Dev.starSource (s : Dev) (kind : Nat) : Dev :=
  if kind = 1 then
    let x := s.px .emit
    ((s.wrAll .emit x.latched).wrAll .emit x.setOpen).emitResolve s |>.2
  else s

/-- The running transfers have ended: what they carried is staged (R196, R197). A staged compensation update awaits its
apply pulse. -/
def Dev.transferEnd (s : Dev) : Dev :=
  let e := s.emit
  let s := { s with emit := { e with kind := 0, stagedKind := e.kind, stagedCodes := e.carried, carried := [] } }
  let s := if e.kind = 2 then s.sb F.EMIT_STARLINE_STATUS_APPLY_PENDING true else s
  let s := forN 48 (fun p (s : Dev) => s.portCells p) s
  if s.on F.EMIT_STARLINE_STATUS_PRELOAD_BUSY then
    (s.sb F.EMIT_STARLINE_STATUS_PRELOAD_BUSY false).event E.EMIT_PRELOAD_DONE
  else s

/-- Start the transfers of one kind on every wire that has words (R194, R197), at the bit period in force (DEDUCED, log 91). -/
def Dev.startTransfer (s : Dev) (kind : Nat) : Dev :=
  let v := s.starSource kind
  let s := { s with emit := { s.emit with kind := kind, again := 0, carried := v.portCodes } }
  let s := forN 4 (fun w (s : Dev) =>
    let ws := v.wireWords w
    if ws.isEmpty then s
    else
      let x := { s.wire w with busy := true, words := ws, doneAt := s.now + transferNs ws.length s.bitNs }
      (s.setWire w x).send (.starline w s.bitNs ws)) s
  if (List.range 4).any (fun w => (s.wire w).busy) then s else s.transferEnd

/-- A transfer is needed (R197); while one runs it follows it. -/
def Dev.needTransfer (s : Dev) (kind : Nat) : Dev :=
  let s := if kind = 2 then s else s.sb F.EMIT_STARLINE_STATUS_PRELOAD_BUSY true
  if s.emit.kind ≠ 0 then { s with emit := { s.emit with again := kind } } else s.startTransfer kind

/-- After DISCARD the values in force are staged again (R197). -/
def Dev.restage (s : Dev) : Dev := s.needTransfer 3

/-- A transfer is in progress. -/
def Dev.transferring (s : Dev) : Bool := decide (s.emit.kind ≠ 0)

/-- The transfer on a wire ends with its gap (R194, R196): the modules stage their words. Once every wire's has ended, what
must follow starts. -/
def Dev.wireDone (s : Dev) (w : Nat) : Dev :=
  let x := s.wire w
  if !x.busy then s
  else
    let s := (s.advanceTo x.doneAt).setWire w { x with busy := false, staged := x.words }
    if (List.range 4).any (fun w => (s.wire w).busy) then s
    else if s.emit.again ≠ 0 then s.startTransfer s.emit.again
    else s.transferEnd

/-- A burst of the open column is still to come. -/
def Dev.burstsLeft (s : Dev) : Bool :=
  match s.column with
  | some c => (List.range 48).any (fun p => (s.port p).plan.any (fun q => c.frame == q.frame && c.col == q.col))
  | none => false

/-- The current frame has ended for the apply pulse (R199): its flyback has begun and no burst of its last column is to come. -/
def Dev.frameOver (s : Dev) : Bool :=
  decide (s.gf F.SCAN_STATUS_STATE ≠ 3)
    || (match s.curFrame with | some f => f.flyback || f.scanClosed | none => true) && !s.burstsLeft

/-- The compensation update of a frame start (R197). -/
def Dev.compUpdate (s : Dev) : Dev :=
  if s.on (F.SHADOW_CTRL_ARMED .emit) ∨ s.on (F.SHADOW_CTRL_PENDING .emit) ∨ s.transferring then s
  else if (List.range 48).any (fun p => s.on (F.EMIT_PORT_CFG_EN p) && s.compCode p != s.gf (F.EMIT_PORT_STATUS_SENT_CODE p)) then
    s.needTransfer 2
  else s

/-- DIAG_CFG.INTERVAL in ns (R201). -/
def Dev.diagInterval (s : Dev) : Nat := min 10000 (max 10 (s.gf F.EMIT_DIAG_CFG_INTERVAL)) * 1000000

/-- The state of a port (R186). -/
def Dev.portState (s : Dev) (p : Nat) : Nat :=
  let x := s.port p
  if !(s.on (F.EMIT_PORT_CFG_EN p)) then 0
  else if x.latchedOpen then 3
  else match x.lastCounted with
    | some (t, true) => if s.now ≤ t + s.diagInterval then 1 else 2
    | _ => 2

/-- PORT_STATUS.STATE follows the rules of R186; a change sets PORT_STATE, and leaving OK for UNVERIFIED raises
EMITTER_UNVERIFIED (R206). -/
def Dev.portSync (s : Dev) (p : Nat) : Dev :=
  let old := s.gf (F.EMIT_PORT_STATUS_STATE p)
  let new := s.portState p
  if old = new then s
  else
    let s := (s.sf (F.EMIT_PORT_STATUS_STATE p) new).event E.EMIT_PORT_STATE
    if old = 1 ∧ new = 2 then s.raise C.EMIT_EMITTER_UNVERIFIED p else s

/-- EMITTER_UNVERIFIED (R186): the port's last counted burst is older than INTERVAL. -/
def Dev.emitterUnverified (s : Dev) (port : Fin 48) : Dev :=
  match (s.port port.val).lastCounted with
  | some (t, true) =>
    if s.gf (F.EMIT_PORT_STATUS_STATE port.val) = 1 then (s.advanceTo (t + s.diagInterval + 1)).portSync port.val else s
  | _ => s

/-- Latch a port OPEN (R186, R206). -/
def Dev.latchOpen (s : Dev) (p : Nat) : Dev :=
  let x := s.port p
  if x.latchedOpen then s
  else ((s.setPort p { x with latchedOpen := true }).raise C.EMIT_EMITTER_OPEN p).portSync p

/-- PORT_CLEAR (R186). -/
def Dev.portClear (s : Dev) (_ : Requester) (mask : BitVec 48) : Dev :=
  forN 48 (fun p (s : Dev) =>
    let x := s.port p
    if bit mask.toNat p ∧ x.latchedOpen then
      ((s.setPort p { x with latchedOpen := false, lastCounted := none }).sf (F.EMIT_PORT_STATUS_MISSES p) 0).portSync p
    else s) s

/-- Column `j` lies in a suppression range (R226). -/
def Dev.suppressed (s : Dev) (j : Nat) : Bool :=
  (List.range 4).any (fun x => s.on (F.SCAN_SUPPRESS_EN x) && decide (s.gf (F.SCAN_SUPPRESS_FIRST x) ≤ j)
    && decide (j ≤ s.gf (F.SCAN_SUPPRESS_LAST x)))

/-- Scan control withholds a burst (R166, R226, R227): of column `col`, or a proof burst in the open column. -/
def Dev.scanHolds (s : Dev) (col : Option Nat) : Bool :=
  decide (s.gf F.SCAN_STATUS_STATE ≠ 3) || (match col with
    | some j => s.suppressed j
    | none => match s.column with | some c => s.suppressed c.col | none => false)

/-- The bay of a port lets it fire (R166). -/
def Dev.bayFires (s : Dev) (p : Nat) : Bool := s.bayUp p && (s.bay p).tdcEn

/-- PORT_STATUS.INH names the sources that withhold the port's next burst (R166, R202). -/
def Dev.syncInh (s : Dev) (p : Nat) (col : Option Nat) : Dev :=
  let s := s.sb (F.EMIT_PORT_STATUS_INH_NIGHTWATCH p) (s.nwInhibits p)
  let s := s.sb (F.EMIT_PORT_STATUS_INH_BAY p) (!(s.bayFires p))
  let long := match s.curFrame with | some f => f.long && !f.flyback | none => false
  (s.sb (F.EMIT_PORT_STATUS_INH_SCAN p) (s.scanHolds col || long)).derateSync p

/-- Every launch condition of R166 but the resume check. -/
def Dev.mayFire (s : Dev) (p : Nat) (col : Option Nat) : Bool :=
  s.on (F.EMIT_PORT_CFG_EN p) && s.emit.schedEn && s.bayFires p && !(s.nwInhibits p) && !(s.scanHolds col)
    && decide (s.compCode p ≠ 0)

/-- A burst that fails a condition is withheld (R166). -/
def Dev.withhold (s : Dev) (p : Nat) : Dev := s.inc (F.EMIT_INHIBITED_COUNT p)

/-- A histogram of a column whose burst at `ref` was launched (R190, R249). -/
def countLaunch (b ref frame col : Nat) (unver : Bool) (e : Nat × HistX) : Nat × HistX :=
  let h := e.2
  if h.bay == b && h.frame == frame && h.col == col && h.cross == none && (h.st == .waiting || h.st == .granted) then
    let v := h.st == .granted && decide (h.grantAt * 256 ≤ ref)
    (e.1, { h with launched := h.launched + 1, voted := if v then h.voted + 1 else h.voted, emitterUnver := h.emitterUnver || (v && unver) })
  else e

/-- Bursts of a port still needed: not charged, window open, or young enough to collect events. -/
def keepBursts (now : Nat) (l : List BurstX) : List BurstX :=
  l.filter (fun u => !u.charged || !u.windowClosed || decide (now ≤ u.ref + 4194304))

/-- Launch a burst at its reference (R101, R112, R117, R163, R185, R203). -/
def Dev.launch (s : Dev) (p : Nat) (u : BurstX) : Dev :=
  let counted := s.chActive p (s.gf (F.CAL_HALO_REF_CH p))
  let last := u.ref + 64 * (u.slots.getLastD 0) + 64 * (u.width + 4)
  let u := { u with launched := 2^u.slots.length - 1, windowClosed := !counted, pos := s.fastModel (u.ref / 256),
                    current := s.ledgerCode p }
  let s := if (s.bay p).ecDetected ∨ (s.port p).bursts.isEmpty then s else s.sf (F.BAY_EC_STREAK_STREAK p) 0
  let s := s.setBay p { s.bay p with ecDetected := false }
  let x := s.port p
  let s := s.setPort p { x with bursts := u :: keepBursts s.tick x.bursts, lastRef := some u.ref,
                                lastCountedAt := if counted then some (u.ref / 256) else x.lastCountedAt }
  let s := { s with emit := { s.emit with lastSubEnd := max s.emit.lastSubEnd ((last + 255) / 256) } }
  let s := s.inc (F.EMIT_FIRED_COUNT p)
  let s := if u.proof then s.inc (F.EMIT_PROOF_COUNT p) else s
  (s.addStart p u.ref).send (.burst p u.ref u.slots u.width)

/-- A column burst launches: its column's counts, histograms and capture. -/
def Dev.launchColumn (s : Dev) (p : Nat) (q : PlanX) (ref : Nat) : Dev :=
  let unver := decide (s.gf (F.EMIT_PORT_STATUS_STATE p) ≠ 1)
  let s := s.launch p { ref := ref, frame := q.frame, col := q.col, idx := q.idx, slots := s.slotsOf s.emit.codeAddr q.codeIdx,
                        width := s.emit.wc, launched := 0, code := q.codeIdx }
  let s := s.modFrame q.frame (fun f =>
    let k := 48 * q.col + p
    { f with launched := fset count0 f.launched k (fget count0 f.launched k + 1) })
  let first := q.dwell && (match s.column with | some c => !(bit c.dwellFired p) | none => false)
  let s := if first then s.inc (F.EMIT_DWELL_GRANTED p) else s
  let s := { s with hists := s.hists.map (countLaunch p ref q.frame q.col unver),
                    column := s.column.map (fun (c : ColumnX) => if q.dwell then { c with dwellFired := setBit c.dwellFired p true } else c) }
  s.shot p ref q.frame q.col q.idx false

/-- The port begins firing and must pass its resume check first (R189). -/
def Dev.resumeDue (s : Dev) (p : Nat) : Bool :=
  let x := s.port p
  x.needResume || (match x.lastRef with
    | some r => decide (r / 256 + s.diagInterval < s.now)
    | none => true)

/-- A resume check begins (R189). -/
def Dev.startResume (s : Dev) (p : Nat) : Dev :=
  (s.setPort p { s.port p with resumeOn := true, resumeMisses := 0 }).sb (F.EMIT_PORT_STATUS_RESUME p) true

/-- BURST_LAUNCH (R166, R177): the port's next planned burst reaches its reference. -/
def Dev.burstLaunch (s : Dev) (port : Fin 48) : Dev :=
  let p := port.val
  let open_ := fun (q : PlanX) => match s.column with | some c => c.frame == q.frame && c.col == q.col | none => false
  match (s.port p).plan with
  | [] => s
  | q :: rest =>
    if !(open_ q) then s else
    let s := s.setPort p { s.port p with plan := rest }
    let s := (s.advanceTo q.t).portSync p
    let s := s.syncInh p (some q.col)
    let ref := q.t * 256 / 32 * 32
    let x := s.port p
    if !(s.mayFire p (some q.col)) then
      (s.setPort p { x with needResume := x.needResume || !(s.on (F.EMIT_PORT_CFG_EN p)) || !(s.bayUp p) }).withhold p
    else if x.resumeOn ∨ x.resumeEnd then s.withhold p
    else if s.resumeDue p then (s.startResume p).withhold p
    else s.launchColumn p q ref

/-- Spans of bursts of ports in another phase, launched and planned (R180): their references, ns. -/
def Dev.otherSpans (s : Dev) (p : Nat) : List Nat :=
  (List.range 48).flatMap (fun k =>
    if s.gf (F.EMIT_PORT_CFG_PHASE k) = s.gf (F.EMIT_PORT_CFG_PHASE p) then []
    else (s.port k).bursts.map (fun u => u.ref / 256) ++ (s.port k).plan.map (·.t))

/-- The first instant from `t` on, in steps of 64 ns, whose span overlaps none of `l` (R180). -/
def clearOf (l : List Nat) : Nat → Nat → Nat
  | 0, t => t
  | n + 1, t => if l.any (fun r => decide (r < t + 64) && decide (t < r + 64)) then clearOf l n (t + 64) else t

/-- Steps that `clearOf` may need to clear every span of a list. -/
def clearFuel (l : List Nat) : Nat := 2 * l.length + 1

/-- The first instant from `t` on that keeps 1.000 us from the bursts of `own`, overlaps no span of `others` (in steps of
64 ns), and overlaps no apply pulse that starts at `pulse` (R178, R180, R187). -/
def freeFrom (own others : List Nat) (pulse : Option Nat) : Nat → Nat → Nat
  | 0, t => t
  | n + 1, t =>
    match own.find? (fun r => decide (r < t + 1000) && decide (t < r + 1000)) with
    | some r => freeFrom own others pulse n (r + 1000)
    | none =>
      match pulse.filter (fun a => decide (a < t + 64) && decide (t < a + 4000)) with
      | some a => freeFrom own others pulse n (a + 4000)
      | none =>
        if others.any (fun r => decide (r < t + 64) && decide (t < r + 64)) then freeFrom own others pulse n (t + 64) else t

/-- The first instant from `t` on at which a proof burst of a port may launch (R178, R180, R187). -/
def Dev.freeInstant (s : Dev) (p t : Nat) : Nat :=
  let x := s.port p
  let own := x.lastRef.toList.map (fun r => (r + 255) / 256) ++ x.plan.map (·.t)
  let l := s.otherSpans p
  freeFrom own l s.emit.pulseAt (clearFuel l + own.length + 1) t

/-- Launch a proof burst (R187, R188): one sub-pulse of PROOF_WIDTH. -/
def Dev.launchProof (s : Dev) (p : Nat) (resume : Bool) : Dev :=
  let s := s.advanceTo (s.freeInstant p s.now)
  let ref := s.now * 256 / 32 * 32
  let f := s.gf F.SCAN_FRAME_NUM_FRAME
  let j := match s.column with | some c => c.col | none => 0
  let s := if resume then s.haloRequest p ref else s
  let s := s.launch p { ref := ref, frame := f, col := j, idx := 0, slots := [0], width := min 28 (s.gf F.EMIT_DIAG_CFG_PROOF_WIDTH),
                        launched := 0, proof := true }
  (s.listenProof p ref).shot p ref f j 0 true

/-- The headroom check of a proof burst (R187, R501). -/
def Dev.proofHeadroom (s : Dev) (p : Nat) : Bool :=
  s.headroom p [s.fastModel s.now] (s.portESub p (min 28 (s.gf F.EMIT_DIAG_CFG_PROOF_WIDTH)))

/-- A planned burst of the port's open column comes before the first instant that a proof burst may take (R178, R187). -/
def Dev.proofWaits (s : Dev) (p : Nat) : Bool :=
  match s.column with
  | some c => (s.port p).plan.any (fun q => c.frame == q.frame && c.col == q.col && decide (q.t < s.freeInstant p s.now))
  | none => false

/-- A proof burst is attempted: the headroom check comes first (R187), then the launch conditions (R166). A port that
begins firing with it begins its resume check (R189). While a planned burst comes first, the attempt waits. -/
def Dev.tryProof (s : Dev) (p : Nat) (resume : Bool) : Dev :=
  if s.proofWaits p then s else
  let s := s.setPort p { s.port p with lastProofTry := s.now }
  let s := s.syncInh p none
  if !(s.proofHeadroom p) then s.raise C.EMIT_PROOF_REFUSED p
  else if s.mayFire p none then
    if !resume && s.resumeDue p then (s.startResume p).launchProof p true else s.launchProof p resume
  else s.withhold p

/-- PROOF_BURST (R187): no counted burst, and no attempt, for INTERVAL / 8. -/
def Dev.proofBurst (s : Dev) (port : Fin 48) : Dev :=
  let p := port.val
  let x := s.port p
  if !(s.on F.EMIT_CTRL_PROOF_EN) ∨ !(s.on (F.EMIT_PORT_CFG_EN p)) ∨ !s.emit.schedEn ∨ s.gf F.SCAN_STATUS_STATE ≠ 3 ∨ x.resumeOn then s
  else
    let due := max (x.lastCountedAt.getD 0) x.lastProofTry + s.diagInterval / 8
    (s.advanceTo due).tryProof p false

/-- RESUME_PROOF (R189): a proof burst every 100 us while a resume check runs. -/
def Dev.resumeProof (s : Dev) (port : Fin 48) : Dev :=
  let p := port.val
  let x := s.port p
  if x.resumeOn ∧ s.gf F.SCAN_STATUS_STATE = 3 then (s.advanceTo (x.lastProofTry + 100000)).tryProof p true else s

/-- The resume check of a port ends; its column bursts resume at the next column (R189). -/
def Dev.endResume (s : Dev) (p : Nat) : Dev :=
  (s.setPort p { s.port p with resumeOn := false, resumeEnd := true, needResume := false }).sb (F.EMIT_PORT_STATUS_RESUME p) false

/-- HALO_WINDOW_CLOSE (R185, R186, R189): the Halo window of the port's oldest counted burst closes. -/
def Dev.haloWindowClose (s : Dev) (port : Fin 48) : Dev :=
  let p := port.val
  let x := s.port p
  match (x.bursts.filter (fun u => !u.windowClosed)).getLast? with
  | none => s
  | some u =>
    let s := s.advanceTo ((u.ref + s.gf (F.CAL_HALO_WIN_CLOSE p) + 255) / 256)
    let shut := fun (v : BurstX) => if v.ref = u.ref then { v with windowClosed := true } else v
    let s := s.setPort p { x with bursts := x.bursts.map shut, lastCounted := some (u.ref / 256, u.seen) }
    if u.seen then
      let s := s.sf (F.EMIT_PORT_STATUS_MISSES p) 0
      (if x.resumeOn then s.endResume p else s).portSync p
    else
      let n := min 8 (s.gf (F.EMIT_PORT_STATUS_MISSES p) + 1)
      let s := s.sf (F.EMIT_PORT_STATUS_MISSES p) n
      let s := if n = 8 then s.latchOpen p else s
      let s := if x.resumeOn then
          if 8 ≤ x.resumeMisses + 1 then (s.latchOpen p).endResume p
          else s.setPort p { s.port p with resumeMisses := x.resumeMisses + 1 }
        else s
      s.portSync p

/-- Number of ones among the lowest bits. -/
def popcount : Nat → Nat → Nat
  | 0, _ => 0
  | n + 1, v => v % 2 + popcount n (v / 2)

/-- LEDGER_CHARGE (R497): the report of the port's oldest uncharged burst reaches the ledger. -/
def Dev.ledgerCharge (s : Dev) (port : Fin 48) : Dev :=
  let p := port.val
  let x := s.port p
  match (x.bursts.filter (fun u => !u.charged)).getLast? with
  | none => s
  | some u =>
    let e := popcount 8 u.launched * eSub u.current u.width (s.gf (F.NW_ECOEF_COEF p))
    let s := s.setPort p { x with bursts := x.bursts.map (fun (v : BurstX) => if v.ref = u.ref then { v with charged := true } else v) }
    s.charge p u.pos e

/-- Sub-pulses of bursts in flight that a trip finds not yet launched may be suppressed until triggers are inhibited,
within 2 us (R115, R483). -/
def Dev.tripQuench (s : Dev) : Dev :=
  forN 48 (fun p (s : Dev) =>
    match (s.port p).bursts with
    | [] => s
    | u :: us =>
      let r := (List.range u.slots.length).foldl (fun (a : Nat × Dev) k =>
        if bit u.launched k ∧ a.2.tick < u.ref + 64 * u.slots.getD k 0 then
          let f := a.2.freeBool
          if f.1 then (a.1, f.2) else (setBit a.1 k false, f.2)
        else a) (u.launched, s)
      r.2.setPort p { r.2.port p with bursts := { u with launched := r.1 } :: us }) s

end Sys2Proof.Machine
end

