-- ==== Sys2Proof/Machine/Scan.lean ====
section
/-! DEFINITION. Scanner control (06_scanner_control.md): the axes, the states, the supervisor, and the end of a
column. -/
namespace Sys2Proof.Machine

/-- Saturate to signed 16 bits (R207). -/
def sat16 (v : Int) : Int := max (-32768) (min 32767 v)

/-- The position of a sense sample (R207). -/
def sensePos (sample off : Int) (gain : Nat) : Int := sat16 ((sample - off) * gain / 4096)

/-- Set STATUS.STATE; a change sets STATE_CHANGE (R230, R236). -/
def Dev.setScanState (s : Dev) (v : Nat) : Dev :=
  if s.gf F.SCAN_STATUS_STATE = v then s else (s.sf F.SCAN_STATUS_STATE v).event E.SCAN_STATE_CHANGE

/-- Set STATUS.FAST_LOCKED; a change sets LOCK_CHANGE (R212, R236). Lock lost in RUNNING raises UNLOCK and marks the frame
in progress (R230, R228). -/
def Dev.setLocked (s : Dev) (v : Bool) : Dev :=
  if s.on F.SCAN_STATUS_FAST_LOCKED = v then s
  else
    let s := (s.sb F.SCAN_STATUS_FAST_LOCKED v).event E.SCAN_LOCK_CHANGE
    if !v ∧ s.gf F.SCAN_STATUS_STATE = 3 then
      let s := s.raise C.SCAN_UNLOCK
      match s.curFrame with
      | some f => if f.flyback then s else s.modFrame f.num (fun f => { f with unlocked := true })
      | none => s
    else s

/-- The slow axis is driven and supervised: SLOW_EN with RAMP or HOLD (R217, R222). -/
def Dev.slowOn (s : Dev) : Bool :=
  s.on F.SCAN_CTRL_SLOW_EN && (s.gf F.SCAN_FRAME_CFG_SLOW_MODE == 1 || s.gf F.SCAN_FRAME_CFG_SLOW_MODE == 2)

/-- The slow axis' hold position (R222). -/
def Dev.slowHold (s : Dev) : Int :=
  if s.gf F.SCAN_FRAME_CFG_SLOW_MODE = 1 then s.gi F.SCAN_SLOW_RANGE_START else s.gi F.SCAN_SLOW_HOLD_POSITION

/-- Acceleration limit A, PU/s^2. -/
def Dev.slowA (s : Dev) : Nat := s.gf F.SCAN_SLOW_AMAX_A * 1000
/-- Jerk limit J, PU/s^3. -/
def Dev.slowJ (s : Dev) : Nat := s.gf F.SCAN_SLOW_JMAX_J * 1000000

/-- t_a(v) of R216 in ns. -/
def accTime (a j v : Nat) : Nat :=
  if a * a / j ≤ v then v * 1000000000 / a + a * 1000000000 / j else 2 * isqrt (v * 10^18 / j)

/-- The duration of a constant-jerk ramp in ns (R216). -/
def rampTime (a j v : Nat) : Nat := if a * a / j ≤ v then a * 1000000000 / j else isqrt (v * 10^18 / j)

/-- One bit of a cube root. -/
def icbrtGo (n : Nat) : Nat → Nat → Nat
  | 0, r => r
  | k + 1, r => let t := r + 2^k; icbrtGo n k (if t * t * t ≤ n then t else r)
/-- The cube root, rounded down. -/
def icbrt (n : Nat) : Nat := icbrtGo n (width n / 3 + 1) 0

/-- The velocity reached over distance `d` with limit `v` (R216). -/
def peakVel (a j v d : Nat) : Nat :=
  if v * accTime a j v ≤ d * 1000000000 then v
  else
    let k := a * a / j
    if 2 * a * a * a / j / j ≤ d then (isqrt (k * k + 4 * a * d) - k) / 2 else icbrt (d * d * j / 4)

/-- T of a move in ns (R216); none where a limit is 0 and the move never ends. -/
def moveTime (a j v d : Nat) : Option Nat :=
  if d = 0 then some 0
  else if a = 0 ∨ j = 0 ∨ v = 0 then none
  else if v * accTime a j v ≤ d * 1000000000 then some (d * 1000000000 / v + accTime a j v)
  else some (2 * accTime a j (peakVel a j v d))

/-- Commanded position (in 1/10^9 PU) and acceleration (PU/s^2) at `t` ns of the acceleration phase (R216). -/
def accPhase (a j v t : Nat) : Nat × Int :=
  let tj := rampTime a j v
  let ta := accTime a j v
  let am := min a (j * tj / 1000000000)
  let p1 := fun (x : Nat) => j * x * x * x / (6 * 10^18)
  if t ≤ tj then (p1 t, (j * t / 1000000000 : Nat))
  else if t ≤ ta - tj then
    let u := t - tj
    (p1 tj + (j * tj * tj / (2 * 10^9)) * u / 10^9 + am * u * u / (2 * 10^9), (am : Nat))
  else
    let u := ta - t
    (v * ta / 2 - (v * u - p1 u), (j * u / 1000000000 : Nat))

/-- Position and acceleration of a move `t` ns after its start (R216). -/
def MoveX.at_ (m : MoveX) (a j t : Nat) : Int × Int :=
  let d := (m.dest - m.from_).natAbs
  let sgn : Int := if m.dest < m.from_ then -1 else 1
  match moveTime a j m.vmax d with
  | none => (m.from_, 0)
  | some tt =>
    if tt ≤ t then (m.dest, 0)
    else
      let v := peakVel a j m.vmax d
      let ta := accTime a j v
      if t < ta then let r := accPhase a j v t; (m.from_ + sgn * (r.1 / 10^9 : Nat), sgn * r.2)
      else if t ≤ tt - ta then (m.from_ + sgn * ((v * ta / 2 + v * (t - ta)) / 10^9 : Nat), 0)
      else let r := accPhase a j v (tt - t); (m.dest - sgn * (r.1 / 10^9 : Nat), -(sgn * r.2))

/-- The end of a move, ns. -/
def MoveX.end_ (m : MoveX) (a j : Nat) : Nat := m.start + (moveTime a j m.vmax (m.dest - m.from_).natAbs).getD 0

/-- The commanded slow position and acceleration at a moment (R216 to R218). -/
def Dev.slowCmd (s : Dev) (t : Nat) : Int × Int :=
  match s.scan.move with
  | some m => m.at_ s.slowA s.slowJ (t - m.start)
  | none => (s.scan.hold, 0)

/-- Start a move of the slow axis to a position (R216). -/
def Dev.startMove (s : Dev) (dest : Int) (v : Nat) : Dev :=
  { s with scan := { s.scan with move := some { from_ := (s.slowCmd s.now).1, dest := dest, vmax := v, start := s.now }, hold := dest } }

/-- The fast drive's amplitude or speed command, under a ramp to 0 over RAMP_TIME (R211, R213, R230). -/
def Dev.fastDrive (s : Dev) : Int :=
  match s.scan.rampAt with
  | none => s.scan.amp
  | some t =>
    let r := s.gf F.SCAN_START_CFG_RAMP_TIME * 1000000
    if t + r ≤ s.now then 0 else s.scan.amp * ((t + r - s.now : Nat) : Int) / (r : Nat)

/-- SAFE_CODE on every output (R209). -/
def Dev.safeOutputs (s : Dev) : Dev :=
  { s with scan := { s.scan with dac := (List.range 4).map (fun d => s.gi (F.SCAN_DAC_SAFE_SAFE_CODE d)) } }

/-- The fast drive's code: DRIVE_AMP times the sine of theta, to the nearest code (R211; the rounding is DESIGN CHOICE, log 92),
or the speed command (R213). -/
def Dev.fastCode (s : Dev) : Int :=
  if s.on F.SCAN_CTRL_FAST_MODE then s.fastDrive else (s.fastDrive * sinTurn (s.theta s.now) + 2^39) / 2^40

/-- What an output carries (R209). -/
def Dev.dacOut (s : Dev) (d : Nat) (slow : Int) : Int :=
  match s.gf (F.SCAN_DAC_CFG_SRC d) with
  | 1 => sat16 s.fastCode
  | 2 => sat16 (-s.fastCode)
  | 3 => slow
  | 4 => sat16 (-slow)
  | _ => s.gi (F.SCAN_DAC_CFG_CODE d)

/-- Drive the four outputs (R209): SAFE_CODE while the domain is OFF and after the action SAFE (R233). -/
def Dev.driveDacs (s : Dev) (slow : Int) : Dev :=
  if s.power .scan = pOff ∨ s.scan.safe then s.safeOutputs
  else { s with scan := { s.scan with lastDrive := slow, dac := (List.range 4).map (fun d => s.dacOut d slow) } }

/-- FRAME_PERIOD in force, us (R235). -/
def Dev.framePeriod (s : Dev) : Nat := min 1000000 (max 20000 (s.gf F.SCAN_FRAME_PERIOD_PERIOD))
/-- COLUMNS in force (R235). -/
def Dev.columnsCfg (s : Dev) : Nat :=
  let c := s.gf F.SCAN_FRAME_CFG_COLUMNS
  if c = 0 ∨ 8192 < c then 8192 else c
/-- SYNC_CFG.WIN in force, us (R235). -/
def Dev.syncWin (s : Dev) : Nat := min 100 (max 1 (s.gf F.SCAN_SYNC_CFG_WIN))

/-- A move time as SLOW_TIMES shows it, to the nearest us; a time it cannot hold is a free value (log 2). -/
def Dev.showTime (s : Dev) (f : Fld) (t : Option Nat) : Dev :=
  match t with
  | some t => if (t + 500) / 1000 < 65536 then s.sf f ((t + 500) / 1000) else let r := s.free; r.2.sf f r.1
  | none => let r := s.free; r.2.sf f r.1

/-- A committed SCAN set `s` resolved over the registers `old` (R219): an infeasible set leaves the whole previous set in
force. SLOW_TIMES shows its move times. -/
def Dev.scanResolve (s old : Dev) (l : List (Nat × Word)) : Bool × Dev :=
  let d := (s.gi F.SCAN_SLOW_RANGE_END - s.gi F.SCAN_SLOW_RANGE_START).natAbs
  let t1 := moveTime s.slowA s.slowJ (s.gf F.SCAN_SLOW_VSCAN_V) d
  let t2 := moveTime s.slowA s.slowJ (s.gf F.SCAN_SLOW_VMAX_V) d
  let active := s.gf F.SCAN_FRAME_ACTIVE_ACTIVE
  let rest := active + (if s.on F.SCAN_CTRL_FRAME_SRC then s.syncWin else 0) + 50
  let late := fun (t : Option Nat) (used lim : Nat) => match t with | some t => decide (lim * 1000 < t + used * 1000) | none => true
  let bad := decide (s.gf F.SCAN_SLOW_VMAX_V < s.gf F.SCAN_SLOW_VSCAN_V) || late t1 0 active || late t2 rest s.framePeriod
    || decide (s.framePeriod ≤ active) || decide (s.gi F.SCAN_FAST_ACTIVE_EDGE_HI ≤ s.gi F.SCAN_FAST_ACTIVE_EDGE_LO)
  let r := if bad then l.foldl (fun (a : Dev) (e : Nat × Word) => a.wr ⟨.scan, e.1⟩ (old.rd ⟨.scan, e.1⟩)) s else s
  (bad, (r.showTime F.SCAN_SLOW_TIMES_SCAN t1).showTime F.SCAN_SLOW_TIMES_RETURN t2)

/-- The frame in progress that still takes columns: open, before its flyback. -/
def Dev.openFrame (s : Dev) : Option FrameX :=
  match s.curFrame with
  | some f => if f.flyback || f.scanClosed then none else some f
  | none => none

/-- A frame whose flyback has come and whose last column has ended is closed for the scanner (R374), with its last batch (R352). -/
def Dev.scanCloseSync (s : Dev) : Dev :=
  match s.column with
  | some _ => s
  | none =>
    let s := if s.frames.any (fun f => f.flyback && !f.scanClosed) then s.closeBatches else s
    { s with frames := s.frames.map (fun (f : FrameX) => if f.flyback then { f with scanClosed := true } else f) }

/-- The bursts of a column not launched when it ends are skipped (R178). -/
def Dev.skipBursts (s : Dev) (frame col : Nat) : Dev :=
  forN 48 (fun p (s : Dev) =>
    let x := s.port p
    let mine := x.plan.filter (fun q => q.frame == frame && q.col == col)
    if mine.isEmpty then s
    else
      let s := s.setPort p { x with plan := x.plan.filter (fun q => !(q.frame == frame && q.col == col)) }
      (s.inc (F.EMIT_SKIPPED_COUNT p) mine.length).raise C.EMIT_BURST_SKIPPED p) s

/-- The open column ends at `t` ns (R178, R223, R348, R388). -/
def Dev.endColumn (s : Dev) (t : Nat) : Dev :=
  match s.column with
  | none => s
  | some c =>
    let s := s.skipBursts c.frame c.col
    let last := match s.frame? c.frame with | some f => decide (f.columns ≤ c.col + 1) | none => false
    let s := forN 48 (fun b (s : Dev) => s.skyColumnEnd b (t * 256) last) s
    let s := s.emitColumn c
    let s := s.modFrame c.frame (fun f => { f with lastColEnd := t })
    let span : ColSpan := { frame := c.frame, col := c.col, start := c.start, stop := t }
    let s := { s with scan := { s.scan with past := span :: s.scan.past.filter (fun p => decide (t ≤ p.stop + 20000)) } }
    { s with column := none }.scanCloseSync

/-- A crossing fixed ahead no longer begins its column (R223, R233): its requests are withdrawn. -/
def Dev.cancelCross (s : Dev) : Dev :=
  match s.scan.cross with
  | none => s
  | some x =>
    if !x.begins then s
    else
      let s := { s with scan := { s.scan with cross := some { x with begins := false } } }
      let s := forN 48 (fun p (s : Dev) =>
        s.setPort p { s.port p with plan := (s.port p).plan.filter (fun q => !(q.frame == x.frame && q.col == x.col)) }) s
      let ids := (s.hists.filter (fun e => e.2.frame == x.frame && e.2.col == x.col)).map (·.1)
      ids.foldl (fun (s : Dev) id => s.endHist id) s

/-- The current frame closes for a fault or because the domain is powered down (R233, R234). -/
def Dev.closeScan (s : Dev) : Dev :=
  let s := (s.cancelCross).endColumn s.now
  match s.curFrame with
  | some f => if f.scanClosed then s
    else
      let s := (s.sf F.SCAN_LAST_FRAME_BEGUN f.nb).sf F.SCAN_LAST_FRAME_SUPPRESSED (min 65535 f.suppressed)
      s.closeBatches.modFrame f.num (fun f => { f with scanFault := true, scanClosed := true, lastColEnd := if f.lastColEnd = 0 then s.now else f.lastColEnd })
  | none => s

/-- The fast drive ramps to 0 and the slow axis moves to PARK (R230, R233). -/
def Dev.stopMotion (s : Dev) (slowLost : Bool) : Dev :=
  let s := { s with scan := { s.scan with rampAt := some s.now, sweeping := false, openLoop := slowLost } }
  let s := if slowLost then s else s.startMove (s.gi F.SCAN_SLOW_HOLD_PARK) (s.gf F.SCAN_SLOW_VMAX_V)
  s.sb F.SCAN_STATUS_MOTION_BUSY true

/-- Motion at a scan fault (R233). -/
def Dev.faultMotion (s : Dev) (slowLost : Bool) : Dev :=
  match s.gf F.SCAN_CTRL_FAULT_ACTION with
  | 0 => s
  | 1 => s.stopMotion slowLost
  | _ => { s with scan := { s.scan with safe := true } }.safeOutputs

/-- Enter FAULT with the cause bit `bit` latched (R230, R231, R233). -/
def Dev.enterFault (s : Dev) (bit : Nat) (slowLost : Bool) : Dev :=
  ((s.closeScan.sf F.SCAN_STATUS_FAULT bit).setScanState 5).faultMotion slowLost

/-- Enter STOPPING (R230). -/
def Dev.enterStopping (s : Dev) : Dev := (s.stopMotion false).setScanState 4

/-- Enter STARTING (R230): the oscillator sweeps up from MIN (R211), from the phase at which it stands (DESIGN CHOICE, log 92);
its first drive amplitude is a free value (log 2). -/
def Dev.enterStarting (s : Dev) : Dev :=
  let r := s.free
  let s := (r.2.thetaSync.setLocked false).sb F.SCAN_STATUS_SLOW_AT_HOLD false
  let s := { s with scan := { s.scan with sweeping := true, freq := (s.gf F.SCAN_FAST_FREQ_LIM_MIN : Nat) * 1000, amp := (r.1 % 32768 : Nat),
                                          polyInt := 0, good := 0, bad := 0, startAt := s.now, rampAt := none, safe := false, parked := false,
                                          openLoop := false, holdCnt := 0, nFast := 0, nSlow := 0, nStallF := 0, nStallS := 0 } }
  let s := if s.slowOn then s.startMove s.slowHold (s.gf F.SCAN_SLOW_VMAX_V) else s
  s.setScanState 1

/-- Enter READY (R230): the first scheduled start is to be found anew (R220, R221). -/
def Dev.enterReady (s : Dev) : Dev :=
  { s with scan := { s.scan with readyAt := s.now, lastSched := none, syncAt := none } }.setScanState 2

/-- STARTING ends once the fast axis is locked and the slow axis stands at its hold position (R230). -/
def Dev.tryReady (s : Dev) : Dev :=
  if s.gf F.SCAN_STATUS_STATE = 1 ∧ s.on F.SCAN_STATUS_FAST_LOCKED ∧ (!s.slowOn ∨ s.on F.SCAN_STATUS_SLOW_AT_HOLD) then
    s.enterReady
  else s

/-- One locking verdict (R212, R213): `up` in a row lock the axis, 4 in a row outside unlock it. -/
def Dev.lockVerdict (s : Dev) (ok : Bool) (up : Nat) : Dev :=
  let x := s.scan
  let s := { s with scan := { x with good := if ok then min up (x.good + 1) else 0, bad := if ok then 0 else min 4 (x.bad + 1) } }
  let s := if s.scan.good = up then s.setLocked true else if s.scan.bad = 4 then s.setLocked false else s
  s.tryReady

/-- The drive of the fast axis runs; after PARK it has ended (R233). -/
def Dev.fastRuns (s : Dev) : Bool :=
  s.isOn .scan && decide (s.gf F.SCAN_STATUS_STATE ≠ 0) && !s.scan.safe && !s.scan.parked

/-- The start sweep's frequency, mHz (R211). -/
def Dev.sweepFreq (s : Dev) : Int :=
  let lo := s.gf F.SCAN_FAST_FREQ_LIM_MIN * 1000
  let hi := s.gf F.SCAN_FAST_FREQ_LIM_MAX * 1000
  let half := s.gf F.SCAN_START_CFG_START_TIMEOUT * 500000
  let t := s.now - s.scan.startAt
  if half ≤ t then (hi : Nat) else (lo : Int) + ((hi : Int) - lo) * t / half

/-- HALF_PERIOD (R211, R212): the measured amplitude, phase and frequency (mHz) of a half-period trim the oscillator and
the drive and decide the lock. -/
def Dev.halfPeriod (s : Dev) (amp phase freq : Int) : Dev :=
  if !s.fastRuns ∨ s.on F.SCAN_CTRL_FAST_MODE then s
  else
    let err := toSigned 16 (ofSigned 16 (phase - (s.gf F.SCAN_FAST_TARGET_PHASE : Nat)))
    let target : Int := s.gf F.SCAN_FAST_TARGET_AMPLITUDE
    let s := (s.si F.SCAN_FAST_MEAS_FREQ freq).si F.SCAN_FAST_AMP_PHASE_ERR err
    let s := (s.sf F.SCAN_FAST_AMP_AMP (min 65535 amp.toNat)).thetaSync
    let s := { s with scan := { s.scan with measAmp := amp, measPhase := ofSigned 16 phase } }
    if s.scan.sweeping then
      let s := { s with scan := { s.scan with freq := s.sweepFreq } }
      if target < 4 * amp then { s with scan := { s.scan with sweeping := false, good := 0, bad := 0 } } else s
    else
      let lo : Int := s.gf F.SCAN_FAST_FREQ_LIM_MIN * 1000
      let hi : Int := s.gf F.SCAN_FAST_FREQ_LIM_MAX * 1000
      let f := s.scan.freq + s.gi F.SCAN_FAST_GAIN_KF * err / 256
      let a := s.scan.amp + s.gi F.SCAN_FAST_GAIN_KA * (target - amp) / 256
      let s := { s with scan := { s.scan with freq := max lo (min hi f), amp := if s.scan.rampAt.isSome then s.scan.amp else max 0 (min 32767 a) } }
      s.lockVerdict (decide ((target - amp).natAbs ≤ s.gf F.SCAN_FAST_TOL_AMP_TOL) && decide (err.natAbs ≤ s.gf F.SCAN_FAST_TOL_PHASE_TOL)) 64

/-- FACET_END (R213): the speed law on the measured facet rate, mHz. -/
def Dev.facetEnd (s : Dev) (rate : Nat) : Dev :=
  if !s.fastRuns ∨ !(s.on F.SCAN_CTRL_FAST_MODE) then s
  else
    let goal := s.gf F.SCAN_POLY_TARGET_RATE
    let err : Int := (goal : Int) - rate
    let i := s.scan.polyInt + err
    let s := s.sf F.SCAN_FAST_MEAS_FREQ rate
    let s := { s with scan := { s.scan with polyInt := i, sweeping := false,
                                            amp := if s.scan.rampAt.isSome then s.scan.amp else
                                              sat16 ((s.gi F.SCAN_FAST_GAIN_KF * err + s.gi F.SCAN_FAST_GAIN_KA * i) / 256) } }
    s.lockVerdict (decide (err.natAbs * 1000000 ≤ s.gf F.SCAN_FAST_TOL_AMP_TOL * goal)) 16

/-- The states in which the supervisor looks at SENSE_LOST (R231). -/
def Dev.senseChecked (s : Dev) : Bool := let v := s.gf F.SCAN_STATUS_STATE; decide (1 ≤ v) && decide (v ≤ 4)
/-- READY or RUNNING: the other conditions are checked (R231). -/
def Dev.plausChecked (s : Dev) : Bool := let v := s.gf F.SCAN_STATUS_STATE; v == 2 || v == 3

/-- ENCODER_INDEX (R213): the revolution count at the index must equal COUNTS x FACETS. -/
def Dev.encoderIndex (s : Dev) (count : Nat) : Dev :=
  if !(s.isOn .scan) ∨ !(s.on F.SCAN_CTRL_FAST_MODE) ∨ count = s.gf F.SCAN_POLY_CFG_COUNTS * s.gf F.SCAN_POLY_CFG_FACETS then s
  else
    let s := s.inc F.SCAN_ENC_STATUS_ERRORS
    if s.senseChecked then (s.raise C.SCAN_SENSE_LOST 0).enterFault 3 false else s

/-- COUNT of PLAUS_CNT in force (R231). -/
def Dev.plausCount (s : Dev) : Nat := min 10 (max 1 (s.gf F.SCAN_PLAUS_CNT_COUNT))

/-- Consecutive cycles of a condition. -/
def run_ (n : Nat) (c : Bool) : Nat := if c then n + 1 else 0

/-- The supervisor's look at one cycle (R231): the positions measured, the models' positions, and the senses lost. -/
def Dev.supervise (s : Dev) (fast slow model cmd : Int) (stallPoly lostF lostS : Bool) : Dev :=
  let x := s.scan
  let chk := s.plausChecked
  let so := s.slowOn
  let poly := s.on F.SCAN_CTRL_FAST_MODE
  let v : Int := s.gf F.SCAN_PLAUS_CNT_STALL_VEL
  let still := fun (a b ma mb : Int) => decide (((a - b).natAbs : Int) * 200 < v) && decide (2 * v ≤ ((ma - mb).natAbs : Int) * 200)
  let nF := run_ x.nFast (chk && decide ((s.gf F.SCAN_PLAUS_TOL_FAST : Int) < (fast - model).natAbs))
  let nS := run_ x.nSlow (chk && so && decide ((s.gf F.SCAN_PLAUS_TOL_SLOW : Int) < (slow - cmd).natAbs))
  let nTf := run_ x.nStallF (chk && (if poly then stallPoly else still fast x.fastPrev model x.modelPrev))
  let nTs := run_ x.nStallS (chk && so && still slow x.slowPrev cmd x.cmdPrev)
  let s := { s with scan := { x with nFast := nF, nSlow := nS, nStallF := nTf, nStallS := nTs, fastPrev := fast, slowPrev := slow,
                                     modelPrev := model, cmdPrev := cmd } }
  let n := s.plausCount
  let lost := s.senseChecked && (lostF || lostS)
  let hits := [decide (n ≤ nF), decide (n ≤ nS), decide (n ≤ nTf) || decide (n ≤ nTs), lost]
  let s := if n ≤ nF then s.raise C.SCAN_IMPLAUSIBLE_FAST 0 else s
  let s := if n ≤ nS then s.raise C.SCAN_IMPLAUSIBLE_SLOW 1 else s
  let s := if n ≤ nTf then s.raise C.SCAN_STALL 0 else if n ≤ nTs then s.raise C.SCAN_STALL 1 else s
  let s := if lost then s.raise C.SCAN_SENSE_LOST (if lostF then 0 else 1) else s
  match (List.range 4).find? (fun i => hits.getD i false) with
  | some b => s.enterFault b (lost && lostS)
  | none => s

/-- The slow loop (R218): the drive and the state after it. -/
def Dev.slowLoop (s : Dev) (slow : Int) : Int × Dev :=
  if s.scan.openLoop then (s.scan.lastDrive, s)
  else if !s.slowOn then (0, s)
  else
    let c := s.slowCmd s.now
    let e := c.1 - slow
    let x := s.scan
    let i := x.integ + e
    let u := (256 * s.gi F.SCAN_SLOW_GAIN0_KP * e + s.gi F.SCAN_SLOW_GAIN0_KI * i + 256 * s.gi F.SCAN_SLOW_GAIN1_KD * (e - x.ePrev)
      + s.gi F.SCAN_SLOW_GAIN1_KFF * (c.2 / 1000)) / 65536 + s.gi F.SCAN_SLOW_BIAS_BIAS
    let sat := decide (sat16 u ≠ u)
    (sat16 u, { s with scan := { x with ePrev := e, integ := if sat then x.integ else i } })

/-- SLOW_AT_HOLD (R222): 10 control cycles in a row within PLAUS_TOL.SLOW of the hold position. -/
def Dev.holdSync (s : Dev) (slow : Int) : Dev :=
  let near := s.slowOn && decide (((slow - s.slowHold).natAbs : Int) ≤ (s.gf F.SCAN_PLAUS_TOL_SLOW : Nat))
  let n := if near then min 10 (s.scan.holdCnt + 1) else 0
  ({ s with scan := { s.scan with holdCnt := n } }.sb F.SCAN_STATUS_SLOW_AT_HOLD (decide (n = 10))).tryReady

/-- The privileged pair delivers a valid sample of channel `c` (R208, R529). -/
def Dev.senseOk (s : Dev) (c : Nat) : Bool := s.on F.MON_CTRL_PAIR_RUN && s.on (F.MON_CH_RAW_VALID c)

/-- The sense sample of channel `c`: the upper 16 bits of its CODE (R207, R529). -/
def Dev.sense (s : Dev) (c : Nat) : Int := toSigned 16 (s.gf (F.MON_CH_RAW_CODE c) / 256)

/-- The open column's header carries the slow position at the control cycle nearest its start (R228): this one, where it is nearer
than the one before. A column that ends before it keeps the earlier one (DESIGN CHOICE, log 92). -/
def Dev.slowHeader (s : Dev) (slow : Int) : Dev :=
  { s with column := s.column.map (fun c => if c.start ≤ s.now ∧ 2 * (s.now - c.start) < 5000 then { c with slowPos := slow } else c) }

/-- CONTROL_CYCLE (R207 to R209, R218, R231): one cycle of 5 us. The model predicts each sense at its sample's time less
SENSE_DELAY (R208). -/
def Dev.controlCycle (s : Dev) (env : ScanEnv) : Dev :=
  if !(s.isOn .scan) then s
  else
    let s := s.advanceTo ((s.now / 5000 + 1) * 5000)
    let poly := s.on F.SCAN_CTRL_FAST_MODE
    let pair := s.on F.SCAN_CTRL_FAST_EN || s.on F.SCAN_CTRL_SLOW_EN
    let fast : Int := if poly then (env.count : Int)
      else if pair ∧ s.senseOk 0 then sensePos (s.sense 0) (s.gi F.SCAN_SENSE_FAST_OFFSET) (s.gf F.SCAN_SENSE_FAST_GAIN) else s.scan.fastPos
    let slow : Int := if pair ∧ s.senseOk 1 then sensePos (s.sense 1) (s.gi F.SCAN_SENSE_SLOW_OFFSET) (s.gf F.SCAN_SENSE_SLOW_GAIN) else s.scan.slowPos
    let s := if poly then s.sf F.SCAN_ENC_STATUS_COUNT env.count else s
    let s := if poly ∧ env.encFault then s.inc F.SCAN_ENC_STATUS_ERRORS else s
    let s := if poly then { s with scan := { s.scan with encCount := env.count, encAt := env.edgeAt, encStep := env.edgeStep } } else s
    let s := { s with scan := { s.scan with fastPos := fast, slowPos := slow } }.slowHeader slow
    let r := s.slowLoop slow
    let s := r.2.holdSync slow
    let s := s.driveDacs r.1
    let cmd := (s.slowCmd (s.now - s.gf F.SCAN_SENSE_DELAY_SLOW * 100)).1
    let model := s.fastModel (s.now - s.gf F.SCAN_SENSE_DELAY_FAST * 100)
    s.supervise fast slow model cmd (decide (env.edgeAt + 5000 ≤ s.now) && decide (s.gf F.SCAN_POLY_TARGET_RATE ≠ 0))
      (if poly then env.encFault else pair && !(s.senseOk 0)) (s.slowOn && pair && !(s.senseOk 1))

/-- START_TIMEOUT (R211, R230): STARTING ends in FAULT with LOCK_TIMEOUT. -/
def Dev.startTimeout (s : Dev) : Dev :=
  if s.gf F.SCAN_STATUS_STATE ≠ 1 then s
  else
    let s := s.advanceTo (s.scan.startAt + s.gf F.SCAN_START_CFG_START_TIMEOUT * 1000000)
    (s.raise C.SCAN_LOCK_TIMEOUT 0).enterFault 5 false

/-- FAST_EN becomes 1 (R230). -/
def Dev.fastEnSet (s : Dev) : Dev :=
  let s := s.sb F.SCAN_CTRL_FAST_EN true
  if s.gf F.SCAN_STATUS_STATE = 0 ∧ s.isOn .scan then s.enterStarting else s

/-- FAST_EN becomes 0 (R223, R230): in RUNNING the frame takes no more columns and STOPPING follows at its flyback, or at
once between frames. -/
def Dev.fastEnClear (s : Dev) : Dev :=
  let s := ((s.sb F.SCAN_CTRL_FAST_EN false).cancelCross).endColumn s.now
  match s.gf F.SCAN_STATUS_STATE with
  | 1 => s.enterStopping
  | 2 => s.enterStopping
  | 3 =>
    if s.openFrame.isSome then { s with scan := { s.scan with noMore := true } } else s.enterStopping
  | _ => s

/-- FRAME_EN becomes 1 (R220, R221). -/
def Dev.frameEnSet (s : Dev) : Dev :=
  if s.on F.SCAN_CTRL_FRAME_EN then s
  else
    let run := decide (s.gf F.SCAN_STATUS_STATE = 3)
    { s.sb F.SCAN_CTRL_FRAME_EN true with
      scan := { s.scan with enAt := s.now, lastSched := if run then s.scan.lastSched else none, syncAt := if run then s.scan.syncAt else none } }

/-- FRAME_EN becomes 0 (R230): RUNNING ends at the current frame's flyback, or at once between frames. -/
def Dev.frameEnClear (s : Dev) : Dev :=
  let s := s.sb F.SCAN_CTRL_FRAME_EN false
  if s.gf F.SCAN_STATUS_STATE = 3 ∧ s.openFrame.isNone then s.enterReady else s

/-- CTRL.CLEAR (R230): leaves FAULT, and is refused while MOTION_BUSY reads 1. -/
def Dev.scanClear (s : Dev) : Dev :=
  if s.gf F.SCAN_STATUS_STATE ≠ 5 then s
  else if s.on F.SCAN_STATUS_MOTION_BUSY then s.refuse .scan
  else if s.on F.SCAN_CTRL_FAST_EN then s.enterStarting
  else
    let s := s.setLocked false
    { s with scan := { s.scan with safe := false, amp := 0, rampAt := none, sweeping := false } }.setScanState 0

/-- The end of a stop or fault motion (R230, R233): of the ramp and, in closed loop, of the slow axis' move. -/
def Dev.motionEnd (s : Dev) : Nat :=
  let t := (s.scan.rampAt.getD s.now) + s.gf F.SCAN_START_CFG_RAMP_TIME * 1000000
  max t (match s.scan.move with | some m => if s.scan.openLoop then 0 else m.end_ s.slowA s.slowJ | none => 0)

/-- MOTION_DONE (R230, R233): a stop or fault motion completes; STOPPING reaches OFF, and STARTING with FAST_EN = 1. -/
def Dev.motionDone (s : Dev) : Dev :=
  if !(s.on F.SCAN_STATUS_MOTION_BUSY) then s
  else
    let s := s.advanceTo s.motionEnd
    let s := { s with scan := { s.scan with amp := 0, rampAt := none, parked := true } }.sb F.SCAN_STATUS_MOTION_BUSY false
    if s.gf F.SCAN_STATUS_STATE = 4 then
      let s := (s.setLocked false).setScanState 0
      if s.on F.SCAN_CTRL_FAST_EN then s.enterStarting else s
    else s

/-- Clearing PAGE_CTRL.EN of the SCAN page (R234). -/
def Dev.scanDisable (s : Dev) : Dev :=
  let s := s.closeScan
  let s := ((s.sb F.SCAN_CTRL_FAST_EN false).sb F.SCAN_CTRL_SLOW_EN false).sb F.SCAN_CTRL_FRAME_EN false
  let s := ((s.setLocked false).sb F.SCAN_STATUS_MOTION_BUSY false).sb F.SCAN_STATUS_SLOW_AT_HOLD false
  let s := { s with scan := { s.scan with safe := true, rampAt := none, amp := 0, sweeping := false } }
  s.safeOutputs.setScanState 0

/-- The SCAN domain wakes (R230, R234): STATE reads OFF. -/
def Dev.scanWake (s : Dev) : Dev := { s with scan := { s.scan with safe := false } }.setScanState 0

/-- SLOW_EN changed or SLOW_MODE applied: the slow axis moves to its hold position outside a frame (R216, R217). -/
def Dev.slowStart (s : Dev) : Dev :=
  if s.slowOn ∧ s.openFrame.isNone ∧ s.gf F.SCAN_STATUS_STATE ≠ 4 ∧ s.gf F.SCAN_STATUS_STATE ≠ 5 then
    s.startMove s.slowHold (s.gf F.SCAN_SLOW_VMAX_V) else s

end Sys2Proof.Machine
end

