-- ==== Sys2Proof/Machine/Columns.lean ====
section
/-! DEFINITION. Columns (R177 to R184, R214 to R226, R247, R551): planning a column, its crossing, dwell grants. -/
namespace Sys2Proof.Machine

/-- BURSTS of a port (R202). -/
def Dev.burstsOf (s : Dev) (p : Nat) : Nat := min 256 (max 1 (s.gf (F.EMIT_PORT_CFG_BURSTS p)))
/-- LEAD in force, ns (R177). -/
def Dev.lead (s : Dev) : Nat := max 100 (s.gf F.EMIT_COLUMN_TIMING_LEAD)
/-- SPACING in force, ns (R177). -/
def Dev.spacing (s : Dev) : Nat := max 1000 (s.gf F.EMIT_COLUMN_TIMING_SPACING)
/-- PHASE of a port in ns (R180). -/
def Dev.phaseNs (s : Dev) (p : Nat) : Nat := s.gf (F.EMIT_PORT_CFG_PHASE p) * 64
/-- COORD_EN of a port (R467). -/
def Dev.coord (s : Dev) (p : Nat) : Bool :=
  if p < 32 then bit (s.gf F.CHAIN_COORD_EN0_EN) p else bit (s.gf F.CHAIN_COORD_EN1_EN) (p - 32)

/-- n0 of R467 for a column start: the smallest grid index at or after it plus LEAD. -/
def Dev.gridFirst (s : Dev) (p start : Nat) : Nat :=
  let a := s.g64 F.CHAIN_COORD_ANCHOR_LO_NS F.CHAIN_COORD_ANCHOR_HI_NS + s.phaseNs p
  let per := max 1000 (s.gf F.CHAIN_COORD_PERIOD_PERIOD)
  (start + s.lead - a + per - 1) / per
/-- Grid point n of a port (R467), ns. -/
def Dev.gridPoint (s : Dev) (p n : Nat) : Nat :=
  s.g64 F.CHAIN_COORD_ANCHOR_LO_NS F.CHAIN_COORD_ANCHOR_HI_NS + n * max 1000 (s.gf F.CHAIN_COORD_PERIOD_PERIOD) + s.phaseNs p

/-- The instant of burst `k` of a column that starts at `start`, and its number (R174, R177, R467). -/
def Dev.burstAt (s : Dev) (p start k : Nat) : Nat × Nat :=
  if s.coord p then let n := s.gridFirst p start + k; (s.gridPoint p n, n)
  else (start + s.lead + s.phaseNs p + k * s.spacing, (s.port p).m + k)

/-- Boundaries further on by `i` from boundary `k` of a line (R214). -/
def Dev.boundaryAfter (s : Dev) (k : Nat) (rev : Bool) (i : Nat) : Int :=
  let n := s.colsPerLine
  let lines := (k + i) / n
  s.boundary ((k + i) % n) (if s.bidir && lines % 2 == 1 then !rev else rev)

/-- A grant covers column `j` of frame `f`. -/
def DwellX.covers (d : DwellX) (f j : Nat) : Bool := d.frame == f && decide (d.first ≤ j) && decide (j < d.first + d.count)

/-- E' of a grant before the fit of R183. -/
def Dev.dwellLimit (s : Dev) (d : DwellX) : Nat :=
  min d.extra (min (max 1 (s.gf F.EMIT_DWELL_CFG_MAX_EXTRA)) (256 - s.burstsOf d.bay))

/-- Extra bursts that fit before the next column (R183). -/
def Dev.dwellFit (s : Dev) (p start dur lim : Nat) : Nat :=
  let next := (s.burstAt p (start + dur) 0).1
  ((List.range lim).filter (fun i => decide ((s.burstAt p start (s.burstsOf p + i)).1 + 1000 ≤ next))).length

/-- E' of a port in column `j`, the larger of its grants (R183). -/
def Dev.dwellExtra (s : Dev) (p f j start dur : Nat) : Nat :=
  let lim := (s.emit.grants.filter (fun d => d.bay == p && d.covers f j)).foldl (fun n d => max n (s.dwellLimit d)) 0
  s.dwellFit p start dur lim

/-- The frame's channel map shows a row enabled (R119, R387). -/
def FrameX.rowOn (f : FrameX) (b c : Nat) : Bool := bit f.chanMap (8 * b + c)

/-- x_k of the shot density for a class (R551). -/
def Dev.shotCut (s : Dev) (cls : Nat) : Nat :=
  if cls = 0 then s.gf F.THERM_SHOT_X_A else if cls = 1 then s.gf F.THERM_SHOT_X_B else s.gf F.THERM_SHOT_X_C

/-- The class of the highest-priority enabled pixel of a bay in a column (R551). -/
def Dev.bayClass (f : FrameX) (b j : Nat) : Nat :=
  (List.range 8).foldl (fun m c => if f.rowOn b c then min m (f.pixelClass b c j) else m) 2

/-- B' of R551 from the bursts otherwise planned. -/
def Dev.thermalBursts (s : Dev) (f : FrameX) (b j n : Nat) : Nat := n - (n * s.shotCut (Dev.bayClass f b j) + 255) / 256

/-- Plan a port's bursts of a column (R174, R177, R183, R467, R551). -/
def Dev.planPort (s : Dev) (f : FrameX) (p j start dur : Nat) : Dev :=
  let base := s.burstsOf p
  let n := s.thermalBursts f p j (base + s.dwellExtra p f.num j start dur)
  let qs := (List.range n).map (fun k =>
    let t := s.burstAt p start k
    ({ idx := k, t := t.1, codeIdx := (s.gf (F.EMIT_PORT_CODE_BASE p) + t.2 * s.gf (F.EMIT_PORT_CODE_STEP p)) % 4096,
       frame := f.num, col := j, dwell := decide (base ≤ k) } : PlanX))
  let x := s.port p
  s.setPort p { x with plan := x.plan ++ qs, m := x.m + n }

/-- Why a row forms no pixel in a column, with the gap's detail (R29, R57, R107, R142). A pool or region that quiesces takes no
request either: its rows leave as those of a quiescing bay do (R632; DEDUCED, log 94). -/
def Dev.rowReason (s : Dev) (b c : Nat) : Option (Nat × Nat) :=
  if (s.region (b / 12)).quarantined then some (4, 0)
  else if !(s.isOn (.bay b)) ∨ s.quiet (.bay b) ∨ s.regionQuiet (b / 12) then some (5, 0)
  else if s.run (.bay b) = rPaused then some (3, 0)
  else if s.gf (F.BAY_CH_STATUS_STATE b c) ≠ 0 then
    some (1, s.gf (F.BAY_CH_STATUS_FAULT b c) * 4 + s.gf (F.BAY_CH_STATUS_FAILED_PART b c))
  else match s.foreground b c with
    | some i => some (6, i)
    | none => none

/-- The request for a bay's own histogram of a channel (R247). -/
def Dev.ownRequest (s : Dev) (f : FrameX) (b j c : Nat) : Option HistX :=
  let qs := (s.port b).plan.filter (fun q => q.frame == f.num && q.col == j)
  match qs.head?, qs.getLast? with
  | some q0, some q1 => some { s.newHist f b c j none qs.length (q0.t * 256) (q1.t * 256) with code := q0.codeIdx }
  | _, _ => none

/-- The request for a cross histogram of a channel (R245, R257, R469): the foreign bursts of a column of given start and
duration. -/
def Dev.crossRequest (s : Dev) (f : FrameX) (b j start dur c x : Nat) : Option HistX :=
  let n0 := s.foreignFirst x start
  let n1 := s.foreignFirst x (start + dur)
  let ref := fun n => (s.foreignBase x + n * s.gridPeriod) * 256
  if n1 ≤ n0 then none
  else some { s.newHist f b c j (some x) (min 256 (n1 - n0)) (ref n0) (ref (n1 - 1)) with
    code := s.foreignCode x n0, codeStep := s.gf (F.CHAIN_XL_CODE_STEP x) }

/-- The requests of one bay for a column (R245, R247): own histograms, then the cross histograms. -/
def Dev.bayRequests (s : Dev) (f : FrameX) (b j start dur : Nat) : List HistX :=
  let cs := (List.range 8).filter (fun c => f.rowOn b c && (s.rowReason b c).isNone)
  let xs := (List.range 8).filter (fun x => s.gf (F.CODE_XL_BAY x) == b && s.gf (F.CODE_XL_STATUS x) == 1)
  cs.filterMap (s.ownRequest f b j) ++ xs.flatMap (fun x => cs.filterMap (fun c => s.crossRequest f b j start dur c x))

/-- The gaps of a bay's rows that form no pixel in a column (R29, R167, R247, R551). -/
def Dev.bayGaps (s : Dev) (f : FrameX) (b j : Nat) : Dev :=
  let fires := (s.port b).plan.any (fun q => q.frame == f.num && q.col == j)
  forN 8 (fun c (s : Dev) =>
    if !(f.rowOn b c) then s
    else match s.rowReason b c with
      | some r => s.rowGap f.num b c j r.1 r.2
      | none => if fires then s else s.rowGap f.num b c j 7 (bits (s.rd (R.EMIT_PORT_STATUS b)) 24 4)) s

/-- Plan column `j` of a frame: bursts, requests and the gaps of rows without a pixel (R177, R247). -/
def Dev.planColumn (s : Dev) (f : FrameX) (j start dur : Nat) : Dev :=
  let s := forN 48 (fun p (s : Dev) => s.planPort f p j start dur) s
  let s := s.requestAll ((List.range 48).flatMap (fun b => s.bayRequests f b j start dur))
  forN 48 (fun b (s : Dev) => s.bayGaps f b j) s

/-- The crossing of boundary `k` is fixed for `predicted`, with a column of `dur` (R215, R223); where it begins a column, that is
planned. -/
def Dev.fixCrossing (s : Dev) (k : Nat) (dir : Bool) (predicted dur : Nat) : Dev :=
    let s := s.advanceTo (predicted - 1000)
    let x : CrossX := { k := k, rev := dir, t := predicted, dur := dur, begins := false, frame := 0, col := 0 }
    match s.openFrame with
    | some f =>
      let j := s.scan.begun
      if f.start + 2000 ≤ predicted ∧ predicted < f.start + f.active * 1000 ∧ !s.scan.noMore ∧ j < f.columns then
        { s.planColumn f j predicted dur with scan := { s.scan with cross := some { x with begins := true, frame := f.num, col := j } } }
      else { s with scan := { s.scan with cross := some x } }
    | none => { s with scan := { s.scan with cross := some x } }

/-- COLUMN_PLAN (R215, R223): 1 us before the next crossing, which is that of boundary `k`, its time is fixed as the fast-axis
model predicts it. -/
def Dev.columnPlan (s : Dev) (k : Nat) (dir : Bool) : Dev :=
  if s.scan.cross.isSome ∨ !(s.isOn .scan) ∨ (dir ∧ !s.bidir) ∨ s.colsPerLine ≤ k then s
  else match s.nextCrossing k dir s.now with
    | some (t, dur) => s.fixCrossing k dir t dur
    | none => s

/-- DWELL_REQUEST (R181, R294): the engine's oldest posted request reaches the scheduler's queue of 32. -/
def Dev.dwellRequest (s : Dev) (e : Fin 512) : Dev :=
  match s.emit.dwellFlight.find? (fun d => d.1 == e.val) with
  | none => s
  | some d =>
    let s := { s with emit := { s.emit with dwellFlight := removeFirst (fun q => q == d) s.emit.dwellFlight } }
    if 32 ≤ s.emit.dwellQueue.length then s.dropDwell e.val
    else { s with emit := { s.emit with dwellQueue := s.emit.dwellQueue ++ [d.2] } }

/-- The conditions of R182 that are checked again for each column (R184), in the order of the reasons: the columns given
by their boundary positions. -/
def Dev.dwellCheck (s : Dev) (d : DwellX) (xs : List Int) : Option Nat :=
  let p := d.bay
  if s.gf F.THERM_STATUS_LEVEL ≠ 0 then some 3
  else if s.gf (F.POOL_FREE_TOTAL_FREE (p / 12)) < s.gf F.EMIT_DWELL_CFG_POOL_MIN then some 4
  else if !(s.headroom p xs (s.dwellLimit d * xs.length * s.codeN * s.portESub p s.emit.wc)) then some 2
  else none

/-- CTRL.DWELL_EN is 0 or the port is not enabled (R182). -/
def Dev.dwellOff (s : Dev) (p : Nat) : Bool := !(s.on F.EMIT_CTRL_DWELL_EN) || !(s.on (F.EMIT_PORT_CFG_EN p))

/-- The boundary positions of columns `a` to `z` (exclusive), column `j` having begun at boundary `k`. -/
def Dev.columnPositions (s : Dev) (k : Nat) (rev : Bool) (j a z : Nat) : List Int :=
  (List.range (z - a)).map (fun i => s.boundaryAfter k rev (a + i - j))

/-- Decide one request at the start of column `j` (R181, R182): its reason, and the grant. -/
def Dev.decideDwell (s : Dev) (f : FrameX) (k : Nat) (rev : Bool) (j : Nat) (d : DwellX) : Nat × Option DwellX :=
  let a := max d.first (j + 1)
  let z := min (d.first + d.count) f.columns
  let g := { d with first := a, count := z - a }
  if s.dwellOff d.bay then (7, none)
  else if d.frame ≠ f.num ∨ z ≤ a then (5, none)
  else if 2 ≤ (s.emit.grants.filter (fun g => g.bay == d.bay)).length then (6, none)
  else match s.dwellCheck g (s.columnPositions k rev j a z) with
    | some r => (r, none)
    | none => (if g.count < d.count ∨ s.dwellLimit d < d.extra then 1 else 0, some g)

/-- The checks of the grants that cover column `j + 1`, at the start of column `j` (R184): a grant that fails ends. -/
def Dev.recheckDwell (s : Dev) (f : FrameX) (k : Nat) (rev : Bool) (j : Nat) : List DwellEntry × Dev :=
  s.emit.grants.foldl (fun (r : List DwellEntry × Dev) g =>
    let s := r.2
    if !(g.covers f.num (j + 1)) then r
    else
      let why := if s.dwellOff g.bay then some 7 else s.dwellCheck g (s.columnPositions k rev j (j + 1) (g.first + g.count))
      match why with
      | none => r
      | some w =>
        (r.1 ++ [{ bay := g.bay, event := 2, reason := w, extra := 0 }],
         { s with emit := { s.emit with grants := (s.emit.grants.map (fun h =>
            if h = g then { h with count := j + 1 - h.first } else h)).filter (fun h => decide (0 < h.count)) } })) ([], s)

/-- The requests that wait are decided at the start of column `j` (R181, R182). -/
def Dev.decideAll (s : Dev) (f : FrameX) (k : Nat) (rev : Bool) (j : Nat) : List DwellEntry × Dev :=
  let q := s.emit.dwellQueue
  let s := { s with emit := { s.emit with dwellQueue := [] } }
  q.foldl (fun (r : List DwellEntry × Dev) d =>
    let s := r.2
    let x := s.decideDwell f k rev j d
    let e : DwellEntry := { bay := d.bay, event := 0, reason := x.1, extra := 0 }
    match x.2 with
    | some g => (r.1 ++ [e], { s with emit := { s.emit with grants := s.emit.grants ++ [g] } })
    | none => (r.1 ++ [e], s.inc (F.EMIT_DWELL_REFUSED d.bay))) ([], s)

/-- The entries of the grants applied in column `j` (R183, R388). -/
def Dev.appliedDwell (s : Dev) (f j : Nat) : List DwellEntry :=
  (s.emit.grants.filter (fun g => g.covers f j)).map (fun g =>
    let n := ((s.port g.bay).plan.filter (fun q => q.frame == f && q.col == j && q.dwell)).length
    { bay := g.bay, event := 1, reason := if n < g.extra then 1 else 0, extra := n })

/-- Move a port's planned bursts of the new column (R178, R180): all by the shortfall of the 1.000 us rule, then, where a
burst has to be checked, clear of the spans of ports in other phases. -/
def Dev.settlePlan (s : Dev) (frame j : Nat) (anyCoord : Bool) (p : Nat) : Dev :=
  let x := s.port p
  match x.plan with
  | [] => s
  | q0 :: _ =>
    let min0 := match x.lastRef with | some r => (r + 255) / 256 + 1000 | none => 0
    let sh := min0 - q0.t
    let check := !(s.coord p) && (anyCoord || decide (0 < sh))
    let l := s.otherSpans p
    let plan := if check then
        (x.plan.foldl (fun (a : Nat × List PlanX) q =>
          let t := clearOf l (clearFuel l) (max (q.t + sh) a.1)
          (t + 1000, a.2 ++ [{ q with t := t }])) (min0, [])).2
      else x.plan.map (fun q => { q with t := q.t + sh })
    if plan = x.plan then s
    else
      let first := (plan.head?.map (·.t)).getD 0
      let last := (plan.getLast?.map (·.t)).getD 0
      let s := s.setPort p { x with plan := plan }
      { s with hists := s.hists.map (fun e =>
          if e.2.bay == p && e.2.frame == frame && e.2.col == j && e.2.cross == none then
            (e.1, { e.2 with firstRef := first * 256, refLast := last * 256 }) else e) }

/-- The planned column of a crossing begins (R178, R223, R228). -/
def Dev.beginColumn (s : Dev) (x : CrossX) : Dev :=
  match s.frame? x.frame with
  | none => s
  | some f =>
    let sc := s.scan
    let line := match sc.lastK with
      | none => 0
      | some (k, r) => if r ≠ x.rev ∨ x.k ≤ k then sc.line + 1 else sc.line
    let s := { s with emit := { s.emit with grants := s.emit.grants.filter (fun g => g.frame == f.num && decide (x.col < g.first + g.count)) } }
    let applied := s.appliedDwell f.num x.col
    let r1 := s.recheckDwell f x.k x.rev x.col
    let r2 := r1.2.decideAll f x.k x.rev x.col
    let s := r2.2
    let throttled := decide (s.gf F.THERM_STATUS_LEVEL ≠ 0)
    let c : ColumnX :=
      { frame := f.num, col := x.col, start := x.t, dur := x.dur, line := line, reverse := x.rev,
        fastPos := s.boundary x.k x.rev, slowPos := s.scan.slowPos, throttled := throttled, dwell := applied ++ r1.1 ++ r2.1 }
    let s := { s with column := some c, scan := { s.scan with begun := x.col + 1, line := line, lastK := some (x.k, x.rev) } }
    let s := s.modFrame f.num (fun f => { f with nb := x.col + 1, throttled := f.throttled || throttled })
    let s := forN 48 (fun p (s : Dev) => s.setPort p { s.port p with resumeEnd := false }) s
    let any := (List.range 48).any s.coord
    let s := forN 48 (fun p (s : Dev) => if s.coord p then s.settlePlan f.num x.col any p else s) s
    let s := forN 48 (fun p (s : Dev) => if s.coord p then s else s.settlePlan f.num x.col any p) s
    forN 48 (fun b (s : Dev) => s.skyColumnStart f b x.col x.t) s

/-- A crossing after COLUMNS columns have begun (R225). -/
def Dev.suppressCrossing (s : Dev) (f : FrameX) : Dev :=
  let s := if f.long then s else (s.raise C.SCAN_SCAN_LONG).inc F.SCAN_FRAME_COUNTS_LONG_FRAMES
  let s := s.modFrame f.num (fun f => { f with long := true, suppressed := f.suppressed + 1 })
  forN 48 (fun p (s : Dev) => s.sb (F.EMIT_PORT_STATUS_INH_SCAN p) true) s

/-- BOUNDARY_CROSSING (R178, R223, R225): the crossing fixed ahead takes place; it ends the open column and begins the next
one where it begins a column. -/
def Dev.boundaryCrossing (s : Dev) : Dev :=
  match s.scan.cross with
  | none => s
  | some x =>
    let s := s.advanceTo x.t
    let s := { s with scan := { s.scan with cross := none } }
    let s := s.endColumn x.t
    if x.begins then s.beginColumn x
    else match s.openFrame with
      | some f => if f.columns ≤ s.scan.begun ∧ f.start + 2000 ≤ x.t ∧ x.t < f.start + f.active * 1000 then s.suppressCrossing f else s
      | none => s

/-- COLUMN_OVERRUN (R223): the open column ends at its start plus twice its predicted duration. -/
def Dev.columnOverrun (s : Dev) : Dev :=
  match s.column with
  | none => s
  | some c =>
    let t := c.start + 2 * c.dur
    match s.scan.cross with
    | some x => if x.t ≤ t then s else (s.advanceTo t).endColumn t
    | none => (s.advanceTo t).endColumn t

end Sys2Proof.Machine
end

