-- ==== Sys2Proof/Machine/Chain.lean ====
section
/-! DEFINITION. The chain (13_chain_and_meridian_time.md): enumeration, joins and losses, alignment, calendar time,
forwarding and cross-listening. -/
namespace Sys2Proof.Machine

/-- The number of the next group of commits that apply together (R62). -/
def Dev.newGroup (s : Dev) : Dev := { s with commitNo := s.commitNo + 1 }

/-- The code generator starts to fill the inactive bank (R173). -/
def Dev.startGen (s : Dev) : Dev :=
  { s.sb F.CODE_CODE_STATUS_GEN_BUSY true with emit := { s.emit with regenAt := some s.now } }

/-- Latch a commit of a page by a requester at `t` (R61, R448), in the present group; the open set is discarded. -/
def Dev.latchSet (s : Dev) (g : Page) (owner : Nat) (set : List (Nat × Word)) (t : Nat) : Dev :=
  let x := s.px g
  let keep := x.latched.filter (fun e => !(set.any (fun f => f.1 == e.1)))
  let s := s.setPx g { x with setOpen := [], setExpo := false, latched := keep ++ set, latchT := t, group := s.commitNo,
                              latchedExpo := x.latchedExpo || x.setExpo }
  let s := (s.sf (F.SHADOW_CTRL_PENDING g) 1).sf (F.SHADOW_CTRL_ARMED g) 0
  let s := s.sf (F.SHADOW_CTRL_OWNER g) owner
  if g = .code then s.startGen else s

/-- The settings ENUM and CONFIG carry (R442): CODE_CFG, SEED, COORD_ANCHOR, COORD_PERIOD. -/
def codeFields (l : List Nat) : List (Nat × Nat) := [(4, l.getD 0 0), (4, l.getD 1 0), (8, l.getD 2 0), (2, l.getD 3 0)]

/-- The values in force of those settings. -/
def Dev.codeVals (s : Dev) : List Nat :=
  [s.emit.codeCfg, s.emit.codeSeed, s.g64 F.CHAIN_COORD_ANCHOR_LO_NS F.CHAIN_COORD_ANCHOR_HI_NS, s.gf F.CHAIN_COORD_PERIOD_PERIOD]

/-- Latch those settings on the CODE and CHAIN pages as FIRMWARE: at an enumeration the pages' open sets are discarded (R448), by
CONFIG they are committed with them (`keep`, R468). -/
def Dev.latchCode (s : Dev) (keep : Bool) (l : List Nat) (t : Nat) : Dev :=
  let w := fun (i : Nat) => BitVec.ofNat 32 (l.getD i 0)
  let merge := fun (o v : List (Nat × Word)) => (if keep then o.filter (fun e => !(v.any (fun f => f.1 == e.1))) else []) ++ v
  let s := s.newGroup
  let s := s.latchSet .code Requester.firmware.code (merge (s.px .code).setOpen [(R.CODE_CODE_CFG.off, w 0), (R.CODE_SEED.off, w 1)]) t
  s.latchSet .chain Requester.firmware.code (merge (s.px .chain).setOpen
    [(R.CHAIN_COORD_ANCHOR_LO.off, w 2), (R.CHAIN_COORD_ANCHOR_HI.off, BitVec.ofNat 32 (l.getD 2 0 / 2^32)), (R.CHAIN_COORD_PERIOD.off, w 3)]) t

/-- CONFIGs whose T has come by `upTo` are latched with t = T (R459, R468); whole Meridian nanoseconds. -/
def Dev.configDue (s : Dev) (upTo : Nat) : Dev :=
  let due := s.chain.config.filter (fun e => decide (e.1 ≤ upTo * 256))
  if due.isEmpty then s
  else
    let l := s.chain.config.filter (fun e => decide (upTo * 256 < e.1))
    due.foldl (fun (s : Dev) e => s.latchCode true e.2 ((e.1 + 255) / 256)) { s with chain := { s.chain with config := l } }

/-- Take a CONFIG with time T, in ticks: late, it is latched at once with the present time (R460). -/
def Dev.takeConfig (s : Dev) (t : Nat) (l : List Nat) : Dev :=
  if t < s.tick then s.latchCode true l s.now
  else { s with chain := { s.chain with config := s.chain.config ++ [(t, l)] } }.configDue s.now

/-- Send ENUM on a port (R446). -/
def Dev.sendEnum (s : Dev) (port next hops : Nat) (vals : List Nat) : Dev :=
  s.sendOn port mEnum false 0 s.unit (payloadOf ([(2, s.gf F.CHAIN_ROUND_ROUND), (2, next), (2, hops)] ++ codeFields vals))

/-- Send ENUM_END on a port (R446, R447). -/
def Dev.sendEnumEnd (s : Dev) (port round last : Nat) (ovf : Bool) : Dev :=
  s.sendOn port mEnumEnd false 0 s.unit (payloadOf [(2, round), (2, last), (1, b2n ovf)])

/-- The round ends on the Pole unit with `n` units (R446, R447): TOPOLOGY goes out. -/
def Dev.endRound (s : Dev) (n aLast : Nat) (ring : Bool) (state : Nat) : Dev :=
  let s := { s with chain := { s.chain with step := 0, ring := ring, lostLinks := [], alt := false } }
  let s := ((s.sf F.CHAIN_UNITS_N n).sf F.CHAIN_UNITS_A_LAST aLast).sf F.CHAIN_STATUS_ENUM_STATE state
  let s := (s.topoSync).broadcast mTopology (payloadOf [(2, s.gf F.CHAIN_ROUND_ROUND), (2, n), (2, aLast), (1, b2n ring)])
  let s := s.event E.CHAIN_ENUM_DONE
  if state = 3 then s.raise C.CHAIN_ENUM_PARTIAL else s

/-- Port B's branch follows, or the round ends (R446). -/
def Dev.enumB (s : Dev) (last : Nat) : Dev :=
  let s := s.sf F.CHAIN_UNITS_A_LAST last
  if s.carries 1 then
    { s with chain := { s.chain with step := 2, stepAt := s.now } }.sendEnum 1 (last + 1) 0 s.codeVals
  else s.endRound last last false 2

/-- The address a unit takes reaches its codes at a frame start (R172, R448). -/
def Dev.takeAddr (s : Dev) (a : Nat) : Dev :=
  { s.sf F.CHAIN_STATUS_ADDR a with chain := { s.chain with pendAddr := some (a, s.now) } }.startGen

/-- CHAIN.CTRL.ENUM_GO (R446): only on the Pole unit. -/
def Dev.enumGo (s : Dev) : Dev :=
  if !s.pole then s.refuse .chain
  else
    let s := s.sf F.CHAIN_ROUND_ROUND (s.gf F.CHAIN_ROUND_ROUND + 1)
    let s := if s.unit = 1 then s else s.takeAddr 1
    let s := (s.sf F.CHAIN_STATUS_HOP 0).sf F.CHAIN_STATUS_ENUM_STATE 1
    let s := { s with chain := { s.chain with step := 1, stepAt := s.now, enumPort := none } }
    let s := (s.setLink 0 { s.link 0 with partner := false }).setLink 1 { s.link 1 with partner := false }
    if s.carries 0 then s.sendEnum 0 2 0 s.codeVals else s.enumB 1

/-- ENUM (R437, R446 to R448) on a port. -/
def Dev.enum (s : Dev) (port : Fin 2) (m : ChainMsg) : Dev :=
  let p := port.val
  let round := m.args.getD 0 0
  let next := m.args.getD 1 0
  let hops := m.args.getD 2 0
  let own := decide (round = s.gf F.CHAIN_ROUND_ROUND)
  if s.pole then
    if !own then s.raise C.CHAIN_TOPO_FAULT p
    else if s.chain.step = 1 ∧ p = 1 then
      let s := (s.setLink 0 { s.link 0 with partner := true }).setLink 1 { s.link 1 with partner := true }
      s.endRound (next - 1) (next - 1) true 2
    else s
  else if own ∧ s.unit ≠ 0 then s
  else if 2047 < next then s.sendEnumEnd p round 2047 true
  else
    let s := s.takeAddr next
    let s := (s.sf F.CHAIN_ROUND_ROUND round).sf F.CHAIN_STATUS_HOP (hops + 1)
    let s := s.sf F.CHAIN_STATUS_UPSTREAM (p + 1)
    let s := { s with chain := { s.chain with enumPort := some p, alt := false } }
    let s := (s.setLink p { s.link p with partner := true }).setLink (1 - p) { s.link (1 - p) with partner := false }
    let s := s.latchCode false (m.args.drop 3) s.now
    if s.carries (1 - p) then s.sendEnum (1 - p) (next + 1) (hops + 1) (m.args.drop 3) else s.sendEnumEnd p round next false

/-- ENUM_END (R446, R447) on a port. -/
def Dev.enumEnd (s : Dev) (port : Fin 2) (m : ChainMsg) : Dev :=
  let p := port.val
  let round := m.args.getD 0 0
  let last := m.args.getD 1 0
  let ovf := m.args.getD 2 0 % 2 == 1
  if round ≠ s.gf F.CHAIN_ROUND_ROUND then s
  else
    let s := s.setLink p { s.link p with partner := true }
    if s.pole then
      let s := if ovf then s.raise C.CHAIN_CHAIN_OVERFLOW p else s
      if s.chain.step = 1 ∧ p = 0 then s.enumB last
      else if s.chain.step = 2 ∧ p = 1 then s.endRound last s.aLast false 2
      else s
    else match s.chain.enumPort with
      | some u =>
        if u = p then s else { s with chain := { s.chain with downEnd := last } }.sendEnumEnd u round last ovf
      | none => s

/-- ENUM_TIMEOUT (R447): the round ends with what it has. -/
def Dev.enumTimeout (s : Dev) : Dev :=
  if s.chain.step = 0 then s
  else
    let s := s.advanceTo (s.chain.stepAt + max 1 (s.gf F.CHAIN_ENUM_CFG_TIMEOUT) * 1000000)
    if s.chain.step = 1 then s.endRound 1 1 false 3 else s.endRound s.aLast s.aLast false 3

/-- TOPOLOGY (R446): the broadcast of a unit's own round sets N, A_LAST and the topology. -/
def Dev.topology (s : Dev) (port : Fin 2) (m : ChainMsg) : Dev :=
  if s.pole ∨ m.src = s.unit then s
  else
    let s := s.relay port.val mTopology m.src (payloadOf [(2, m.args.getD 0 0), (2, m.args.getD 1 0), (2, m.args.getD 2 0), (1, m.args.getD 3 0)])
    if m.args.getD 0 0 ≠ s.gf F.CHAIN_ROUND_ROUND then s
    else
      let s := { s with chain := { s.chain with ring := m.args.getD 3 0 % 2 == 1, lostLinks := [], alt := false } }
      let s := (s.sf F.CHAIN_UNITS_N (m.args.getD 1 0)).sf F.CHAIN_UNITS_A_LAST (m.args.getD 2 0)
      let down := 1 - s.enumSide
      let s := s.setLink down { s.link down with partner := s.chain.ring || decide (s.unit ≠ s.aLast ∧ s.unit ≠ s.units) }
      s.topoSync

/-- JOIN (R449): the Pole unit learns of a newcomer; other units pass it on. -/
def Dev.join (s : Dev) (_port : Fin 2) (m : ChainMsg) : Dev :=
  if m.dst = s.unit ∧ s.unit ≠ 0 then (s.inc F.CHAIN_JOINS_COUNT).raise C.CHAIN_UNIT_JOINED (m.args.getD 0 0)
  else s.sendTo mJoin m.dst m.src (payloadOf [(1, m.args.getD 0 0)])

/-- A link is lost or restored (R450): the topology follows. -/
def Dev.linkChange (s : Dev) (link : Nat) (restored : Bool) : Dev :=
  let l := s.chain.lostLinks
  let l' := if restored then l.filter (· != link) else if l.contains link then l else insertNat link l
  { s with chain := { s.chain with lostLinks := l' } }.topoSync

/-- LINK_EVENT (R443, R450). -/
def Dev.linkEvent (s : Dev) (port : Fin 2) (m : ChainMsg) : Dev :=
  if m.src = s.unit ∧ s.unit ≠ 0 then s
  else
    let restored := m.args.getD 1 0 == 1
    let s := s.relay port.val mLinkEvent m.src (payloadOf [(1, m.args.getD 0 0), (1, b2n restored)])
    if s.unit = 0 then s else s.linkChange (s.linkOf m.src (m.args.getD 0 0)) restored

/-- A chain port reports the loss of its partner (R424, R450). -/
def Dev.portLost (s : Dev) (p : Nat) : Dev :=
  let x := s.link p
  if x.lost then s
  else
    let s := s.setLink p { x with lost := true, t1 := none, deskewed := false, deskFail := false, names := none }
    if s.unit ≠ 0 ∧ x.partner then
      (s.broadcast mLinkEvent (payloadOf [(1, p), (1, 0)])).linkChange (s.linkOf s.unit p) false
    else s

/-- A chain port carries messages again (R445, R449, R450): it grants credit; a partner of the round is present again,
another unit is reported to the Pole unit. -/
def Dev.portUp (s : Dev) (p : Nat) : Dev :=
  let x := s.link p
  let s := s.setLink p { x with lost := false, granted := 0, sent := 0, given := 0, fwd := [] }
  let s := s.giveCredit p fwdBuffer
  if s.unit = 0 ∨ s.gf F.CHAIN_STATUS_ENUM_STATE = 1 ∨ !x.lost then s
  else if x.partner then
    let s := s.linkChange (s.linkOf s.unit p) true
    s.broadcast mLinkEvent (payloadOf [(1, p), (1, 1)])
  else if s.unit = 1 then s.raise C.CHAIN_UNIT_JOINED p
  else s.sendTo mJoin 1 s.unit (payloadOf [(1, p)])

/-- MSG_CRC (R442, R444). -/
def Dev.msgCrc (s : Dev) (port : Fin 2) : Dev := (s.inc F.CHAIN_CRC_ERR_COUNT).raise C.CHAIN_MSG_CRC port.val

/-- CREDIT (R445): the bytes the port may send in total, modulo 2^32. -/
def Dev.credit (s : Dev) (port : Fin 2) (m : ChainMsg) : Dev :=
  let x := s.link port.val
  let g := x.granted + (m.args.getD 0 0 + 2^32 - x.granted % 2^32) % 2^32
  (s.setLink port.val { x with granted := g }).pump

/-- A packet from its words (R369). -/
def packetOf (ws : List Word) : Packet :=
  let w := fun (i : Nat) => (ws.getD i 0#32).toNat
  { kind := w 0 / 2^24, source := w 0 / 2^21 % 8, coded := w 0 / 2^20 % 2 == 1, seq := w 1, frame := w 2, unit := w 3 / 2^21,
    payload := ws.drop 4, fwd := true }

/-- STREAM_FWD (R401, R445): the Pole unit places the packet in its own output buffer; other units pass it on. -/
def Dev.streamFwd (s : Dev) (port : Fin 2) (m : ChainMsg) : Dev :=
  let p := packetOf m.words
  let x := s.link port.val
  if s.pole then ((s.enterBuffer p).giveCredit port.val p.bytes).pump
  else (s.setLink port.val { x with fwd := x.fwd ++ [p] }).pump

/-- ALIGN_STATUS.QUALIFIED (R455). -/
def Dev.qualified (s : Dev) : Bool :=
  match s.gf F.CHAIN_ALIGN_STATUS_STATE with
  | 1 => s.on F.TIME_STATUS_REF_SETTLED
  | 3 => true
  | _ => false

/-- Set ALIGN_STATUS.STATE (R455): every departure from ALIGNED raises ALIGN_LOST and counts in LOSSES. -/
def Dev.setAlign (s : Dev) (v : Nat) : Dev :=
  let old := s.gf F.CHAIN_ALIGN_STATUS_STATE
  if old = v then s
  else
    let s := (s.sf F.CHAIN_ALIGN_STATUS_STATE v).event E.CHAIN_ALIGN_CHANGE
    let s := { s with chain := { s.chain with good := 0, bad := 0 } }
    if old = 3 then (s.inc F.CHAIN_ALIGN_STATUS_LOSSES).raise C.CHAIN_ALIGN_LOST else s

/-- The conditions of R455 that hold without an exchange: SOURCE, NONE, and HOLD in the unit's own holdover. -/
def Dev.alignSync (s : Dev) : Dev :=
  let st := s.gf F.CHAIN_ALIGN_STATUS_STATE
  let s := if s.pole then s.setAlign 1
    else if !(s.on F.CHAIN_CTRL_ALIGN_EN) ∨ s.upstream.isNone then s.setAlign 0
    else if st = 1 then s.setAlign 0
    else if (st = 2 ∨ st = 3) ∧ s.on F.TIME_STATUS_HOLDOVER then s.setAlign 4
    else s
  s.sb F.CHAIN_ALIGN_STATUS_QUALIFIED s.qualified

/-- SYNC_INTERVAL in force, us (R475). -/
def Dev.syncUs (s : Dev) : Nat := min 10000 (max 125 (s.gf F.CHAIN_ALIGN_CFG_SYNC_INTERVAL))

/-- The timing lane of a port (R453): logical lane 0 while it carries messages, else the lane that does. -/
def Dev.timingLane (s : Dev) (p : Nat) : Nat :=
  let act := fun (r : Nat) => (portLanes p).find? (fun n => s.role n == r && s.laneUp n)
  ((act 0).or (act 1)).getD (6 + 3 * p)

/-- SYNC_INTERVAL (R453, R455): the unit sends DELAY_REQ on both ports; 8 intervals without an upstream answer are HOLD. -/
def Dev.syncInterval (s : Dev) : Dev :=
  let s := s.advanceTo (s.chain.syncAt + s.syncUs * 1000)
  let s := { s with chain := { s.chain with syncAt := s.now } }.alignSync
  let s := forN 2 (fun p (s : Dev) =>
    let x := s.link p
    let s := s.setLink p { x with missed := if x.t1.isSome ∨ !(s.carries p) then min 8 (x.missed + 1) else 0 }
    if s.carries p then
      let x := s.link p
      (s.setLink p { x with seq := (x.seq + 1) % 65536, t1 := some s.tick, lane := s.timingLane p }).sendOn p mDelayReq false 0 s.unit
        (payloadOf [(2, (x.seq + 1) % 65536)])
    else s.setLink p { s.link p with t1 := none }) s
  let st := s.gf F.CHAIN_ALIGN_STATUS_STATE
  match s.upstream with
  | some u => if !s.pole ∧ (s.link u).missed = 8 ∧ s.on F.CHAIN_CTRL_ALIGN_EN ∧ st ≠ 4 then (s.setAlign 4).alignSync else s
  | none => s

/-- A time field of 9 bytes (R442). -/
def timeField (t : Nat) : List (Nat × Nat) := [(8, t / 256), (1, t % 256)]

/-- DELAY_REQ (R453, R455): answered with t2, t3, QUALIFIED and h. -/
def Dev.delayReq (s : Dev) (port : Fin 2) (m : ChainMsg) (t2 : Nat) : Dev :=
  let s := s.alignSync
  s.sendOn port.val mDelayResp false 0 s.unit
    (payloadOf ([(2, m.args.getD 0 0)] ++ timeField t2 ++ timeField s.tick ++ [(1, b2n s.qualified), (2, s.gf F.CHAIN_STATUS_HOP)]))

/-- Saturate to signed 32 bits. -/
def sat32 (v : Int) : Int := max (-(2^31)) (min (2^31 - 1) v)

/-- The counter steps by -o rounded to whole ns (R456). -/
def Dev.stepTime (s : Dev) (o : Int) : Dev :=
  let n := (2 * o + 256) / 512
  let s := { s with now := ((s.now : Int) - n).toNat }
  let w := ofSigned 64 o
  (s.raise C.CHAIN_TIME_STEPPED).record 0x0040 .info Page.chain.base (w % 2^32) (w / 2^32)

/-- The servo on an offset o, in ticks (R454, R455). -/
def Dev.discipline (s : Dev) (o : Int) : Dev :=
  let acquiring := decide (s.gf F.CHAIN_ALIGN_STATUS_STATE = 2)
  let y := s.chain.y + (s.gf F.CHAIN_SERVO_KI : Int) * o / 256
  if 100000 < y.natAbs then ((s.raise C.CHAIN_TIME_RANGE).setAlign 4).alignSync
  else
    let lim : Int := if acquiring then (min 100 (max 1 (s.gf F.CHAIN_ALIGN_CFG_SLEW_MAX)) * 1000 : Nat) else 100000
    let slew := max (-lim) (min lim ((s.gf F.CHAIN_SERVO_KP : Int) * o / 256 + y))
    let ok := decide (o.natAbs ≤ max 1 (s.gf F.CHAIN_ALIGN_CFG_ALIGN_LIMIT))
    let c := s.chain
    let s := { s with chain := { c with y := y, good := if ok then min 16 (c.good + 1) else 0, bad := if ok then 0 else min 4 (c.bad + 1) } }
    let s := s.si F.CHAIN_FREQ_CORR_Y slew
    let s := if acquiring ∧ s.chain.good = 16 then s.setAlign 3
      else if !acquiring ∧ s.chain.bad = 4 then s.setAlign 2 else s
    s.alignSync

/-- o and d of an exchange (R453), in ticks. -/
def Dev.exchange (s : Dev) (p t1 t2 t3 t4 : Nat) : Int × Int :=
  let a := if p = 0 then s.gi F.CHAIN_PORT_ASYM_A_ASYM else s.gi F.CHAIN_PORT_ASYM_B_ASYM
  let f : Int := (t2 : Int) - t1
  let b : Int := (t4 : Int) - t3
  ((a - (f - b)) / 2, (f + b) / 2)

/-- DELAY_RESP (R453 to R456) up to what a step does to timed actions: the answer of the upstream port disciplines the
unit. -/
def Dev.delayRespCore (s : Dev) (port : Fin 2) (m : ChainMsg) (t4 : Nat) : Dev :=
  let p := port.val
  let x := s.link p
  match x.t1 with
  | none => s
  | some t1 =>
    if x.seq ≠ m.args.getD 0 0 ∨ x.lane ≠ s.timingLane p then s
    else
      let s := s.setLink p { x with t1 := none, missed := 0 }
      let e := s.exchange p t1 (m.args.getD 1 0) (m.args.getD 2 0) t4
      let good := m.args.getD 3 0 == 1
      let hold := decide (s.gf F.CHAIN_ALIGN_STATUS_STATE = 4)
      let s := if s.upstream = some (1 - p) ∧ s.fullRing ∧ hold ∧ good then
          { s with chain := { s.chain with alt := !s.chain.alt } }.topoSync else s
      if s.upstream ≠ some p then s
      else
        let s := (s.si F.CHAIN_OFFSET_O (sat32 e.1)).si F.CHAIN_DELAY_D e.2
        if s.pole ∨ !(s.on F.CHAIN_CTRL_ALIGN_EN) then s
        else if !good ∨ s.on F.TIME_STATUS_HOLDOVER then (s.setAlign 4).alignSync
        else
          let st := s.gf F.CHAIN_ALIGN_STATUS_STATE
          let s := if st = 2 ∨ st = 3 then s else s.setAlign 2
          if s.gf F.CHAIN_ALIGN_STATUS_STATE = 2 ∧ s.gf F.CHAIN_STEP_LIMIT_NS * 256 < e.1.natAbs ∧ s.gf F.SCAN_STATUS_STATE ≠ 3 then
            (s.stepTime e.1).discipline (e.1 - 256 * ((2 * e.1 + 256) / 512))
          else s.discipline e.1

/-- Set CAL_CTRL.TAI_VALID; a change sets TAI_VALID_CHANGE (R462, R477). -/
def Dev.setTaiValid (s : Dev) (v : Bool) : Dev :=
  if s.on F.TIME_CAL_CTRL_TAI_VALID = v then s else (s.sb F.TIME_CAL_CTRL_TAI_VALID v).event E.TIME_TAI_VALID_CHANGE

/-- Put a calendar mapping in force (R462). -/
def Dev.setMapping (s : Dev) (tai m : Nat) (rate : Int) : Dev :=
  ((s.s64 F.TIME_TAI_BASE_LO_NS F.TIME_TAI_BASE_HI_NS tai).s64 F.TIME_M_BASE_LO_NS F.TIME_M_BASE_HI_NS m).si F.TIME_RATE_RATE rate

/-- The Pole unit broadcasts its mapping (R466). -/
def Dev.sendCalTime (s : Dev) : Dev :=
  if !s.pole ∨ s.unit = 0 then s
  else { s with chain := { s.chain with calSent := s.now } }.broadcast mCalTime (payloadOf [(8, s.g64 F.TIME_TAI_BASE_LO_NS F.TIME_TAI_BASE_HI_NS), (8, s.g64 F.TIME_M_BASE_LO_NS F.TIME_M_BASE_HI_NS),
    (4, s.gf F.TIME_RATE_RATE), (2, s.utcOffset), (1, b2n (s.on F.TIME_CAL_CTRL_TAI_VALID))])

/-- CAL_TIME_BROADCAST (R466): every 125 ms. -/
def Dev.calTimeBroadcast (s : Dev) : Dev :=
  if !s.pole ∨ s.unit = 0 then s else (s.advanceTo (s.chain.calSent + 125000000)).sendCalTime

/-- A mapping change that moves calendar time at the present by more than 1 us is broadcast (R466); `was` is TAI before it. -/
def Dev.mappingSync (s : Dev) (was : Nat) : Dev :=
  if 1000 < max was (s.tai s.now) - min was (s.tai s.now) then s.sendCalTime else s

/-- CAL_TIME (R462, R466): adopted by every unit but the Pole unit, and passed on. -/
def Dev.calTime (s : Dev) (port : Fin 2) (m : ChainMsg) : Dev :=
  if m.src = s.unit ∧ s.unit ≠ 0 then s
  else
    let g := fun (i : Nat) => m.args.getD i 0
    let s := s.relay port.val mCalTime m.src (payloadOf [(8, g 0), (8, g 1), (4, g 2), (2, g 3), (1, g 4)])
    if s.pole then s
    else
      let s := (s.setMapping (g 0) (g 1) (toSigned 32 (g 2 % 2^32))).sf F.TIME_UTC_OFFSET_OFFSET (g 3)
      let s := { s with chain := { s.chain with calAt := s.now } }
      (s.sf F.TIME_CAL_CTRL_ACTIVE_SRC (if g 4 % 2 = 1 then 3 else 0)).setTaiValid (g 4 % 2 == 1)

/-- CAL_TIME_ABSENT (R466): 1 s without CAL_TIME. -/
def Dev.calTimeAbsent (s : Dev) : Dev :=
  if s.pole ∨ !(s.on F.TIME_CAL_CTRL_TAI_VALID) then s
  else ((s.advanceTo (s.chain.calAt + 1000000000)).sf F.TIME_CAL_CTRL_ACTIVE_SRC 0).setTaiValid false

/-- SET_CTRL.GO (R463): only under HOST, that is on the Pole unit with SRC = HOST. -/
def Dev.setCtrlGo (s : Dev) (_ : Requester) : Dev :=
  if !s.pole ∨ s.on F.TIME_CAL_CTRL_SRC then s.refuse .time
  else
    let was := s.tai s.now
    let s := s.setMapping (s.g64 F.TIME_SET_TAI_LO_NS F.TIME_SET_TAI_HI_NS) (s.g64 F.TIME_SET_M_LO_NS F.TIME_SET_M_HI_NS) 0
    ((s.sf F.TIME_CAL_CTRL_ACTIVE_SRC 1).setTaiValid true).mappingSync was

/-- PORT_INFO (R442, R470): a request (one field) is answered; an answer is kept for the entries that name its port; the
last field says whether the answering unit is ALIGNED or SOURCE (log 62). -/
def Dev.portInfo (s : Dev) (_port : Fin 2) (m : ChainMsg) : Dev :=
  let p := m.args.getD 0 0
  if m.dst ≠ s.unit then
    let ans := m.args.length ≠ 1
    s.sendTo mPortInfo m.dst m.src (payloadOf (if ans then [(1, p), (1, m.args.getD 1 0), (2, m.args.getD 2 0), (2, m.args.getD 3 0), (1, m.args.getD 4 0)] else [(1, p)]))
  else if m.args.length = 1 then
    if 48 ≤ p then s
    else s.sendTo mPortInfo m.src s.unit (payloadOf [(1, p), (1, s.gf (F.EMIT_PORT_CFG_PHASE p)), (2, s.gf (F.EMIT_PORT_CODE_BASE p)),
      (2, s.gf (F.EMIT_PORT_CODE_STEP p)), (1, b2n (s.coord p))])
  else
    forN 8 (fun x (s : Dev) =>
      if s.gf (F.CODE_XL_UNIT x) = m.src ∧ s.gf (F.CODE_XL_PORT x) = p ∧ bit s.chain.asked x then
        { s with chain := { s.chain with xl := fset (fun _ => []) s.chain.xl x (m.args.drop 1 ++ [1]) } }
      else s) s

/-- The state of an enabled entry whose question went out at the last frame start (R470). -/
def Dev.xlState (s : Dev) (x : Nat) : Nat :=
  let u := s.gf (F.CODE_XL_UNIT x)
  let a := fget (fun _ => []) s.chain.xl x
  let st := s.gf F.CHAIN_ALIGN_STATUS_STATE
  match s.distance s.unit u with
  | none => 2
  | some d =>
    if 8 < d then 3
    else if (st ≠ 1 ∧ st ≠ 3) ∨ (a.length = 6 ∧ a.getD 4 0 = 0) then 4
    else if a.length < 5 ∨ a.getD 0 0 ≠ s.gf (F.CHAIN_XL_CODE_PHASE x) ∨ a.getD 1 0 ≠ s.gf (F.CHAIN_XL_CODE_BASE x)
        ∨ a.getD 2 0 ≠ s.gf (F.CHAIN_XL_CODE_STEP x) then 5
    else if a.getD 3 0 % 2 = 0 then 6
    else 0

/-- Entries are judged at a frame start and asked anew (R176, R470): a state that the topology decides applies at once, the
answer's at the next frame start. -/
def Dev.xlFrame (s : Dev) : Dev :=
  let s := forN 8 (fun x (s : Dev) =>
    let set := fun (s : Dev) (st : Nat) =>
      let s := (s.sf (F.CHAIN_XL_STATE_STATE x) st).sf (F.CHAIN_XL_STATE_DISTANCE x) ((s.distance s.unit (s.gf (F.CODE_XL_UNIT x))).getD 0)
      s.sf (F.CODE_XL_STATUS x) (match st with | 0 => 1 | 2 => 3 | 3 => 2 | _ => 0)
    if !(s.on (F.CODE_XL_EN x)) then set s 1
    else
      let st := s.xlState x
      if bit s.chain.asked x ∨ st = 2 ∨ st = 3 ∨ st = 4 then
        let s := set s st
        let s := if st = 5 then s.raise C.CHAIN_XL_MISMATCH x else s
        if st ≠ 0 then s.raise C.CODE_XL_REFUSED x else s
      else s) s
  let s := { s with chain := { s.chain with xl := [], asked := 0 } }
  forN 8 (fun x (s : Dev) =>
    let u := s.gf (F.CODE_XL_UNIT x)
    if s.on (F.CODE_XL_EN x) ∧ (s.distance s.unit u).isSome then
      { s with chain := { s.chain with asked := setBit s.chain.asked x true } }.sendTo mPortInfo u s.unit (payloadOf [(1, s.gf (F.CODE_XL_PORT x))])
    else s) s

end Sys2Proof.Machine
end

