-- ==== Sys2Proof/Machine/Lanes.lean ====
section
/-! DEFINITION. The serial lanes (12_lanes.md): alignment and training of Krylink lanes, loss and backoff, sleep, spare
lanes, test modes; the PCIe endpoint and the Ethernet ports. -/
namespace Sys2Proof.Machine

/-- Set LINK_STATUS.STATE; a change sets LINK_STATE (R436). -/
def Dev.setLaneState (s : Dev) (n v : Nat) : Dev :=
  if s.laneState n = v then s
  else
    let s := if v = 4 then s.setLaneX n { s.laneX n with eyeAt := s.now } else s
    (s.sf (F.LANE_LINK_STATUS_STATE n) v).event (E.LANE_LINK_STATE n)

/-! ## Test modes (R430 to R432) -/

/-- What a lane's transmitter sends in TEST (R431, R432): nothing of its own, a pattern, or the bits its receiver recovers. -/
inductive TestSource where
  | none_
  | pattern (p : Nat)
  | received
  deriving DecidableEq, Repr

/-- LANE_CTRL.LOOPBACK as it acts (R432, R433): only in TEST, 3 as NONE. -/
def Dev.loopback (s : Dev) (n : Nat) : Nat := if s.laneState n = 7 then s.gf (F.LANE_LANE_CTRL_LOOPBACK n) % 3 else 0
/-- The lane's receiver takes the lane's own transmit output (R432). -/
def Dev.nearEnd (s : Dev) (n : Nat) : Bool := s.loopback n == 1
/-- What a lane in TEST sends: in FAR_END the received bits, and the generator is not used. -/
def Dev.testSends (s : Dev) (n : Nat) : TestSource :=
  if s.loopback n = 2 then .received
  else if s.laneState n = 7 ∧ s.on (F.LANE_PRBS_CTRL_GEN_EN n) then .pattern (s.gf (F.LANE_PRBS_CTRL_PATTERN n))
  else .none_
/-- The bits that reach the checker of a lane in TEST: from the pins, or in NEAR_END what the lane itself sends (R432). -/
def Dev.checkerFed (s : Dev) (n : Nat) : Bool := !(s.nearEnd n) || decide (s.testSends n ≠ .none_)

/-- PORT_WIDTH follows the lanes (R418, R421, R423): two lanes carry messages once deskewed. A port that carries messages
after a loss is up again (R449). -/
def Dev.widthSync (s : Dev) (p : Nat) : Dev :=
  let up := (portLanes p).filter s.laneUp
  let s := if up.length < 2 then s.setLink p { s.link p with deskewed := false, deskFail := false } else s
  let w := if up.length < 2 then up.length else if (s.link p).deskewed then 2 else 1
  let s := (portLanes p).foldl (fun (s : Dev) n => s.sf (F.LANE_LINK_STATUS_PORT_WIDTH n) w) s
  if 0 < w ∧ (s.link p).lost then s.portUp p else s

/-- The port reports its loss to the chain layer once every active lane is in NO_PARTNER (R424). -/
def Dev.lossSync (s : Dev) (p : Nat) : Dev :=
  let act := (portLanes p).filter (fun n => decide (s.role n < 2))
  if act.all (fun n => s.laneState n == 5) then s.portLost p else s

/-- ATTEMPT_TIMEOUT in force, ns (R422, R433). -/
def Dev.attemptNs (s : Dev) (n : Nat) : Nat := min 20000 (max 500 (s.gf (F.LANE_LINK_TIMING_ATTEMPT_TIMEOUT n))) * 1000

/-- An attempt starts (R422, R424, R425): the transmitter wakes and sends TRAIN blocks. -/
def Dev.startAttempt (s : Dev) (n : Nat) : Dev :=
  let s := s.setLaneX n { s.laneX n with attempt := some s.now, trainRx := 0, ackRx := 0 }
  let s := (s.sb (F.LANE_LINK_STATUS_TX_ASLEEP n) false).sf (F.LANE_LINK_TIMING_WAIT_NOW n) 0
  if !(s.on (F.LANE_LINK_STATUS_LOS n)) then s.setLaneState n 2
  else if s.laneState n = 5 then s else s.setLaneState n 1

/-- A wait of `ms` starts (R423, R424). -/
def Dev.startWait (s : Dev) (n ms : Nat) : Dev :=
  (s.setLaneX n { s.laneX n with attempt := none, waitAt := s.now }).sf (F.LANE_LINK_TIMING_WAIT_NOW n) ms

/-- LOS_DETECT (R423, R426): the pins' signal is gone, which a receiver in NEAR_END does not see (R432). An ACTIVE lane enters DETECT, or, after a SLEEP_NOTICE, REMOTE_SLEEP sets. -/
def Dev.losDetect (s : Dev) (lane : Fin 12) : Dev :=
  let n := lane.val
  if !(s.isOn (.lane n)) ∨ s.on (F.LANE_LINK_STATUS_LOS n) ∨ s.on (F.LANE_LINK_STATUS_RX_ASLEEP n) ∨ s.nearEnd n then s
  else
    let s := ((s.sb (F.LANE_LINK_STATUS_LOS n) true).inc (F.LANE_LOS_COUNT_COUNT n)).sb (F.LANE_LINK_STATUS_BLOCK_LOCK n) false
    let st := s.laneState n
    if st = 7 then s
    else if !(krylink n) then (if st = 4 then (s.setLaneState n 1).raise (C.LANE_LOSS_OF_SIGNAL n) else s)
    else if (s.laneX n).notice then
      ((s.sb (F.LANE_LINK_STATUS_REMOTE_SLEEP n) true).setLaneX n { s.laneX n with attempt := none }).widthSync (portOf n)
    else if st = 4 then
      ((((s.setLaneState n 1).raise (C.LANE_LOSS_OF_SIGNAL n)).sf (F.LANE_LINK_STATUS_ATTEMPTS n) 0).startWait n 1).widthSync (portOf n)
    else if st = 2 ∨ st = 3 then s.setLaneState n 1
    else s

/-- SIGNAL_DETECT (R425, R426): a wait ends and an attempt starts at once. -/
def Dev.signalDetect (s : Dev) (lane : Fin 12) : Dev :=
  let n := lane.val
  if !(s.isOn (.lane n)) ∨ !(s.on (F.LANE_LINK_STATUS_LOS n)) ∨ s.on (F.LANE_LINK_STATUS_RX_ASLEEP n) ∨ s.nearEnd n then s
  else
    let s := s.sb (F.LANE_LINK_STATUS_LOS n) false
    let st := s.laneState n
    if !(krylink n) ∨ st = 7 then s
    else if s.on (F.LANE_LINK_STATUS_REMOTE_SLEEP n) then
      let s := s.setLaneX n { s.laneX n with notice := false, trainRx := 0, ackRx := 0 }
      ((s.sb (F.LANE_LINK_STATUS_REMOTE_SLEEP n) false).setLaneState n 2).widthSync (portOf n)
    else if st = 1 ∨ st = 5 then
      if (s.laneX n).attempt.isSome then s.setLaneState n 2 else s.startAttempt n
    else s

/-- Move the block boundary by one bit (R420). -/
def Dev.slipBit (s : Dev) (n : Nat) : Dev := s.sf (F.LANE_LINK_STATUS_SLIPS n) ((s.gf (F.LANE_LINK_STATUS_SLIPS n) + 1) % 66)

/-- SLIP_POSITION (R420): 64 sync headers at the present position, `bad` of them invalid. -/
def Dev.slipPosition (s : Dev) (lane : Fin 12) (bad : Nat) : Dev :=
  let n := lane.val
  if !(krylink n) ∨ s.laneState n ≠ 2 then s
  else
    let s := s.inc (F.LANE_SYNC_HDR_ERR_COUNT n) (min 64 bad)
    if bad = 0 then
      let s := s.setLaneX n { s.laneX n with trainRx := 0, ackRx := 0 }
      (s.sb (F.LANE_LINK_STATUS_BLOCK_LOCK n) true).setLaneState n 3
    else if s.on (F.LANE_LANE_CTRL_MANUAL_ALIGN n) then s else s.slipBit n

/-- ALIGN_FAIL (R420): the search has failed and starts again. -/
def Dev.alignFail (s : Dev) (lane : Fin 12) : Dev :=
  if s.laneState lane.val = 2 ∧ !(s.on (F.LANE_LANE_CTRL_MANUAL_ALIGN lane.val)) then s.raise (C.LANE_ALIGN_FAIL lane.val) else s

/-- BLOCK_LOCK_LOST (R420): 16 invalid headers in 64; the lane returns to ALIGN, to DETECT where LOS is set. -/
def Dev.blockLockLost (s : Dev) (lane : Fin 12) : Dev :=
  let n := lane.val
  if !(s.on (F.LANE_LINK_STATUS_BLOCK_LOCK n)) then s
  else
    let s := (s.sb (F.LANE_LINK_STATUS_BLOCK_LOCK n) false).inc (F.LANE_SYNC_HDR_ERR_COUNT n) 16
    let st := s.laneState n
    if st = 3 ∨ st = 4 then (s.setLaneState n (if s.on (F.LANE_LINK_STATUS_LOS n) then 1 else 2)).widthSync (portOf n) else s

/-- Both directions of a lane sleep (R428, R429). -/
def Dev.laneSleeps (s : Dev) (n : Nat) : Dev :=
  let s := (s.sb (F.LANE_LINK_STATUS_TX_ASLEEP n) true).sb (F.LANE_LINK_STATUS_RX_ASLEEP n) true
  (s.setLaneX n { s.laneX n with attempt := none }).setLaneState n 6

/-- A lane reaches ACTIVE (R421, R425); one that is no logical lane of its port sleeps after it (R428). -/
def Dev.laneActive (s : Dev) (n : Nat) : Dev :=
  let s := s.setLaneX n { s.laneX n with attempt := none, notice := false, mark := none }
  let s := (s.sf (F.LANE_LINK_STATUS_ATTEMPTS n) 0).sf (F.LANE_LINK_TIMING_WAIT_NOW n) 0
  let s := (s.setLaneState n 4).sendTrain n true
  (if s.role n < 2 then s else s.laneSleeps n).widthSync (portOf n)

/-- TRAIN (R421): 16 valid blocks in a row set ACK, 16 with ACK make the lane ACTIVE; a block that names another logical
lane, or another port than before, is DESKEW_FAIL. -/
def Dev.train (s : Dev) (lane : Fin 12) (m : TrainMsg) : Dev :=
  let n := lane.val
  if !(krylink n) ∨ s.laneState n ≠ 3 then s
  else
    let p := portOf n
    let l := s.link p
    let r := s.role n
    let other : Bool := match l.names with
      | some q => decide (q ≠ m.port)
      | none => false
    if m.logical ≠ r ∨ m.spare ≠ (r == 2) ∨ other = true then
      (s.setLaneX n { s.laneX n with trainRx := 0, ackRx := 0 }).raise (C.LANE_DESKEW_FAIL n)
    else
      let s := s.setLink p { l with names := some m.port }
      let x := s.laneX n
      let rx := min 16 (x.trainRx + 1)
      let ack := if m.ack then min 16 (x.ackRx + 1) else 0
      let s := s.setLaneX n { x with trainRx := rx, ackRx := ack }
      if ack = 16 then s.laneActive n else s.sendTrain n (rx == 16)

/-- LANE_MARK (R418): marks of one count within 300 ns deskew the port's two lanes; more is DESKEW_FAIL. -/
def Dev.laneMark (s : Dev) (lane : Fin 12) (count : BitVec 16) (t : Nat) : Dev :=
  let n := lane.val
  if !(krylink n) ∨ !(s.laneUp n) then s
  else
    let p := portOf n
    let s := s.setLaneX n { s.laneX n with mark := some (count.toNat, t) }
    match ((portLanes p).filter (fun k => decide (k ≠ n) && s.laneUp k)).head? with
    | none => s
    | some k => match (s.laneX k).mark with
      | some (c, u) =>
        if c ≠ count.toNat then s
        else if max t u - min t u ≤ 300 then (s.setLink p { s.link p with deskewed := true, deskFail := false }).widthSync p
        else
          let s := if (s.link p).deskFail then s else s.raise (C.LANE_DESKEW_FAIL n)
          (s.setLink p { s.link p with deskewed := false, deskFail := true }).widthSync p
      | none => s

/-- ATTEMPT_TIMEOUT (R422, R424): the attempt fails and the wait doubles, up to 128 ms; the third failure since ACTIVE is
NO_PARTNER. -/
def Dev.attemptTimeout (s : Dev) (lane : Fin 12) : Dev :=
  let n := lane.val
  match (s.laneX n).attempt with
  | none => s
  | some t =>
    let s := s.advanceTo (t + s.attemptNs n)
    let k := min 15 (s.gf (F.LANE_LINK_STATUS_ATTEMPTS n) + 1)
    let s := (s.sf (F.LANE_LINK_STATUS_ATTEMPTS n) k).startWait n (min 128 (2^k))
    let s := s.sb (F.LANE_LINK_STATUS_BLOCK_LOCK n) false
    if k < 3 then s.setLaneState n 1
    else
      let s := s.sb (F.LANE_LINK_STATUS_TX_ASLEEP n) true
      let s := s.setLaneState n 5
      let other := (portLanes (portOf n)).any (fun m => decide (m ≠ n) && s.laneUp m)
      let s := if k = 3 ∧ s.role n < 2 ∧ other then s.wear 4 n else s
      (if k = 3 then s.raise (C.LANE_NO_PARTNER n) else s).lossSync (portOf n)

/-- BACKOFF_EXPIRY (R424): the wait has passed; an attempt or a beacon starts. -/
def Dev.backoffExpiry (s : Dev) (lane : Fin 12) : Dev :=
  let n := lane.val
  let x := s.laneX n
  let w := s.gf (F.LANE_LINK_TIMING_WAIT_NOW n)
  if x.attempt.isSome ∨ w = 0 ∨ (s.laneState n ≠ 1 ∧ s.laneState n ≠ 5) then s
  else (s.advanceTo (x.waitAt + w * 1000000)).startAttempt n

/-- SLEEP_NOTICE (R426): the partner's transmitter announces that it sleeps, or is there again. -/
def Dev.sleepNotice (s : Dev) (lane : Fin 12) (sleep : Bool) : Dev :=
  if krylink lane.val then s.setLaneX lane.val { s.laneX lane.val with notice := sleep } else s

/-- A lane both of whose directions sleep reads SLEEP; so does one whose transmitter sleeps on request, which ends its beacons
(R426; log 97). -/
def Dev.sleepSync (s : Dev) (n : Nat) : Dev :=
  let tx := s.on (F.LANE_LINK_STATUS_TX_ASLEEP n)
  (if tx ∧ (s.laneState n ≠ 5 ∨ s.on (F.LANE_LANE_CTRL_TX_SLEEP n)) ∧ s.laneState n ≠ 7 then
    (s.setLaneX n { s.laneX n with attempt := none }).setLaneState n 6 else s).widthSync (portOf n)

/-- TX_SLEEP (R426, R427): four SLEEP_NOTICE blocks and the transmitter sleeps; cleared, it wakes. -/
def Dev.txSleep (s : Dev) (lane : Fin 12) (_ : Requester) (on : Bool) : Dev :=
  let n := lane.val
  if !(krylink n) then s
  else
    let s := s.sb (F.LANE_LANE_CTRL_TX_SLEEP n) on
    if !(s.isOn (.lane n)) then s
    else if on then
      if s.on (F.LANE_LINK_STATUS_TX_ASLEEP n) ∧ s.laneState n = 6 then s
      else
        let s := s.setLaneX n { s.laneX n with wakeTx := false }
        ((if s.on (F.LANE_LINK_STATUS_TX_ASLEEP n) then s else s.sendSleep n 4).sb (F.LANE_LINK_STATUS_TX_ASLEEP n) true).sleepSync n
    else if s.on (F.LANE_LINK_STATUS_TX_ASLEEP n) ∧ s.laneState n = 6 then s.setLaneX n { s.laneX n with wakeTx := true }
    else s

/-- RX_SLEEP (R426, R427). -/
def Dev.rxSleep (s : Dev) (lane : Fin 12) (_ : Requester) (on : Bool) : Dev :=
  let n := lane.val
  if !(krylink n) then s
  else
    let s := s.sb (F.LANE_LANE_CTRL_RX_SLEEP n) on
    if !(s.isOn (.lane n)) then s
    else if on then
      let s := s.setLaneX n { s.laneX n with wakeRx := false }
      ((s.sb (F.LANE_LINK_STATUS_RX_ASLEEP n) true).sb (F.LANE_LINK_STATUS_BLOCK_LOCK n) false).sleepSync n
    else if s.on (F.LANE_LINK_STATUS_RX_ASLEEP n) then s.setLaneX n { s.laneX n with wakeRx := true }
    else s

/-- LANE_WAKE_DONE (R427): a half of a lane is awake; a receiver searches for alignment. -/
def Dev.laneWakeDone (s : Dev) (lane : Fin 12) (tx : Bool) : Dev :=
  let n := lane.val
  let x := s.laneX n
  if tx then
    if !x.wakeTx then s
    else
      let s := (s.setLaneX n { x with wakeTx := false }).sb (F.LANE_LINK_STATUS_TX_ASLEEP n) false
      if s.on (F.LANE_LINK_STATUS_BLOCK_LOCK n) then (s.setLaneState n 4).widthSync (portOf n) else s.startAttempt n
  else if !x.wakeRx then s
  else
    let s := (s.setLaneX n { x with wakeRx := false }).sb (F.LANE_LINK_STATUS_RX_ASLEEP n) false
    if s.on (F.LANE_LINK_STATUS_TX_ASLEEP n) then s else (s.setLaneState n 2).widthSync (portOf n)

/-- LANE_CTRL.RETRAIN (R433): the lane returns to DETECT with no wait. -/
def Dev.retrain (s : Dev) (lane : Fin 12) (_ : Requester) : Dev :=
  let n := lane.val
  if !(krylink n) ∨ !(s.isOn (.lane n)) ∨ s.laneState n = 7 ∨ s.laneState n = 6 then s
  else (((s.sb (F.LANE_LINK_STATUS_BLOCK_LOCK n) false).setLaneState n 1).startAttempt n).widthSync (portOf n)

/-- LANE_CTRL.SLIP (R420): acts under manual alignment. -/
def Dev.slip (s : Dev) (lane : Fin 12) (_ : Requester) : Dev :=
  if krylink lane.val ∧ s.on (F.LANE_LANE_CTRL_MANUAL_ALIGN lane.val) then s.slipBit lane.val else s

/-- The PCIe data link goes down (R407, R409). -/
def Dev.pcieDown (s : Dev) : Dev :=
  if !(s.on F.HOST_LINK_STATUS_DL_UP) then s
  else
    let s := ((s.sb F.HOST_LINK_STATUS_DL_UP false).sf F.HOST_LINK_STATUS_SPEED 0).sf F.HOST_LINK_STATUS_WIDTH 0
    let s := forN 4 (fun n (s : Dev) => if s.laneState n = 4 then s.setLaneState n 1 else s) s
    ((s.inc F.HOST_LINK_DOWNS_COUNT).raise C.HOST_LINK_DOWN).event E.HOST_LINK_CHANGE

/-- An Ethernet port's link goes down (R415). -/
def Dev.netDown (s : Dev) (p : Nat) : Dev :=
  if !(s.on (F.NET_STATUS_LINK_UP p)) then s
  else
    let s := (s.sb (F.NET_STATUS_LINK_UP p) false).sb (F.NET_STATUS_BLOCK_LOCK p) false
    let s := if s.laneState (4 + p) = 4 then s.setLaneState (4 + p) 1 else s
    ((s.unsendDatagram p).raise (C.NET_LINK_DOWN p)).event (E.NET_LINK_CHANGE p)

/-- A lane begins as its page wakes or its test ends (R422, R426, R430): a first attempt with no wait, or asleep as TX_SLEEP
and RX_SLEEP request. -/
def Dev.laneBegin (s : Dev) (n : Nat) : Dev :=
  let s := (s.sb (F.LANE_LINK_STATUS_RX_ASLEEP n) (s.on (F.LANE_LANE_CTRL_RX_SLEEP n))).setLaneState n 1
  (if s.on (F.LANE_LANE_CTRL_TX_SLEEP n) then (s.sb (F.LANE_LINK_STATUS_TX_ASLEEP n) true).sleepSync n
    else s.startAttempt n).widthSync (portOf n)

/-- LANE_CTRL.TEST (R430). -/
def Dev.test (s : Dev) (lane : Fin 12) (_ : Requester) (on : Bool) : Dev :=
  let n := lane.val
  if on = s.on (F.LANE_LANE_CTRL_TEST n) then s
  else if on then
    let alone := krylink n && s.laneUp n && ((portLanes (portOf n)).filter s.laneUp).length == 1
    if alone ∨ (n < 4 ∧ !(s.on F.HOST_LINK_CTRL_TEST)) then s.refuse (.lane n)
    else
      let s := s.sb (F.LANE_LANE_CTRL_TEST n) true
      let s := if n = 4 ∨ n = 5 then s.netDown (n - 4) else s
      let s := s.setLaneX n { s.laneX n with attempt := none, cleanAt := s.now }
      let s := if s.isOn (.lane n) then s.setLaneState n 7 else s
      if krylink n then s.widthSync (portOf n) else s
  else
    let s := (s.sb (F.LANE_LANE_CTRL_TEST n) false).sb (F.LANE_PRBS_STATUS_LOCK n) false
    if !(s.isOn (.lane n)) then s
    else if krylink n then s.laneBegin n else s.setLaneState n 1

/-- Bits per millisecond of a lane's line rate (R406); a PCIe link held down for a test runs at TARGET_SPEED (log 97). -/
def Dev.lineRate (s : Dev) (n : Nat) : Nat :=
  if krylink n then 12500000 else if 4 ≤ n then 10312500
  else
    let v := if s.on F.HOST_LINK_STATUS_DL_UP then s.gf F.HOST_LINK_STATUS_SPEED else s.gf F.HOST_LINK_CTRL_TARGET_SPEED
    match v with | 0 => 2500000 | 1 => 2500000 | 2 => 5000000 | 3 => 8000000 | _ => 16000000

/-- The checker of a lane in TEST has locked once 1,024 bits were free of errors (R431). -/
def Dev.prbsSync (s : Dev) (n : Nat) : Dev :=
  if s.laneState n = 7 ∧ s.on (F.LANE_PRBS_CTRL_CHK_EN n) ∧ s.checkerFed n ∧ 1024 * 1000000 ≤ (s.now - (s.laneX n).cleanAt) * s.lineRate n then
    s.sb (F.LANE_PRBS_STATUS_LOCK n) true else s

/-- A bit error at the checker of a lane (R431): counted while the checker is locked; whether lock is lost is a free value
(log 2). -/
def Dev.checkerError (s : Dev) (n : Nat) : Dev :=
  if s.laneState n ≠ 7 ∨ !(s.on (F.LANE_PRBS_CTRL_CHK_EN n)) then s
  else
    let s := s.prbsSync n
    let was := s.on (F.LANE_PRBS_STATUS_LOCK n)
    let s := s.setLaneX n { s.laneX n with cleanAt := s.now }
    if was then
      let s := (s.incSat (F.LANE_PRBS_ERRORS_COUNT n)).event (E.LANE_PRBS_ERROR n)
      let f := s.freeBool
      f.2.sb (F.LANE_PRBS_STATUS_LOCK n) f.1
    else s

/-- The time that INJECT_RATE leaves between two inverted bits of a lane, ns (R431); none where it is off. -/
def Dev.injectStep (s : Dev) (n : Nat) : Option Nat :=
  match s.testSends n, s.gf (F.LANE_PRBS_CTRL_INJECT_RATE n) with
  | .pattern _, k + 1 => some (2^(max 10 (k + 1)) * 1000000 / s.lineRate n)
  | _, _ => none

/-- The generator inverts the next bit that INJECT_RATE asks for (R431). -/
def Dev.injectNext (s : Dev) (n step : Nat) : Dev :=
  let s := s.advanceTo ((s.laneX n).injAt + step)
  (s.setLaneX n { s.laneX n with injAt := s.now }).send (.invertBit n)

/-- PRBS_BIT_ERROR (R431, R432): a received bit is wrong. FAR_END retransmits it as it came; in NEAR_END it is the next bit that
INJECT_RATE inverts. -/
def Dev.prbsBitError (s : Dev) (lane : Fin 12) : Dev :=
  let n := lane.val
  let s := match s.testSends n with
    | .received => s.send (.invertBit n)
    | _ => match s.injectStep n with
      | some step => if s.nearEnd n then s.injectNext n step else s
      | none => s
  s.checkerError n

/-- PRBS_CTRL.INJECT (R431, R432): one bit of the pattern sent is inverted; in NEAR_END the lane's own checker sees it. -/
def Dev.inject (s : Dev) (lane : Fin 12) (_ : Requester) : Dev :=
  let n := lane.val
  match s.testSends n with
  | .pattern _ =>
    let s := s.send (.invertBit n)
    if s.nearEnd n then s.checkerError n else s
  | _ => s

/-- CHK_EN set from 0 clears PRBS_ERRORS; lock starts anew (R431). -/
def Dev.chkEnable (s : Dev) (n : Nat) : Dev :=
  ((s.sf (F.LANE_PRBS_ERRORS_COUNT n) 0).sb (F.LANE_PRBS_STATUS_LOCK n) false).setLaneX n { s.laneX n with cleanAt := s.now }

/-- ELASTIC_FAULT (R419): the message in progress is discarded. -/
def Dev.elasticFault (s : Dev) (lane : Fin 12) : Dev :=
  if krylink lane.val ∧ s.laneUp lane.val then s.raise (C.LANE_ELASTIC_FAULT lane.val) else s

/-- EYE_MEASURE (R433, R590): once per second while ACTIVE. -/
def Dev.eyeMeasure (s : Dev) (lane : Fin 12) (width height : Nat) : Dev :=
  let n := lane.val
  if s.laneState n ≠ 4 then s
  else
  let s := s.advanceTo ((s.laneX n).eyeAt + 1000000000)
  let s := s.setLaneX n { s.laneX n with eyeAt := s.now }
  let low := decide (width < s.gf (F.LANE_MARGIN_MIN_WIDTH n))
  let run := if low then (s.laneX n).lowRun + 1 else 0
  let s := s.setLaneX n { s.laneX n with lowRun := run }
  let s := if run = max 1 (s.gf F.RES_WEAR_CFG_MARGIN_SECS) ∧ krylink n then s.wear 4 n else s
  let s := (s.sf (F.LANE_MARGIN_EYE_WIDTH n) (min 255 width)).sf (F.LANE_MARGIN_EYE_HEIGHT n) (min 65535 height)
  if low then s.raise (C.LANE_MARGIN_LOW n) else s

/-- SPARE_LANE_TRAIN (R428): the spare's training ends with its port's start; both directions sleep afterwards. -/
def Dev.spareLaneTrain (s : Dev) (port : Fin 2) (ok : Bool) : Dev :=
  match (portLanes port.val).find? (fun n => s.role n == 2) with
  | none => s
  | some n =>
    if !(s.isOn (.lane n)) then s
    else
      let s := s.sb (if port.val = 0 then F.RES_LANE_SPARE_SPARE_OK_A else F.RES_LANE_SPARE_SPARE_OK_B) ok
      let s := if ok then s else s.raise (C.LANE_SPARE_FAIL n)
      s.laneSleeps n

/-- The LANE page is disabled (R407): one SLEEP_NOTICE on a Krylink lane that sends, the port's link down on the others. -/
def Dev.laneDisable (s : Dev) (n : Nat) : Dev :=
  let up := s.laneState n == 4
  let s := if n < 4 then (if up then s.pcieDown else s) else if n < 6 then s.netDown (n - 4) else if s.on (F.LANE_LINK_STATUS_TX_ASLEEP n) then s else s.sendSleep n 1
  let s := s.setLaneX n {}
  let s := (s.sb (F.LANE_LINK_STATUS_BLOCK_LOCK n) false).setLaneState n 0
  if krylink n then s.widthSync (portOf n) else s

/-- The LANE page's domain wakes (R420, R428): a lane with a role in its port starts its first attempt; a spare sleeps. -/
def Dev.laneOn (s : Dev) (n : Nat) : Dev :=
  if s.on (F.LANE_LANE_CTRL_TEST n) then s.setLaneState n 7
  else if !(krylink n) then s.setLaneState n 1
  else if 2 ≤ s.role n then s.laneSleeps n
  else s.laneBegin n

/-- PCIE_LINK_DOWN (R409). -/
def Dev.pcieLinkDown (s : Dev) : Dev := s.pcieDown

/-- PCIE_LINK_UP (R408, R409, R430): with LINK_CTRL.TEST the link stays down. -/
def Dev.pcieLinkUp (s : Dev) (speed : Fin 4) (width : Fin 5) : Dev :=
  if s.on F.HOST_LINK_CTRL_TEST ∨ (width.val ≠ 1 ∧ width.val ≠ 2 ∧ width.val ≠ 4) then s
  else
    let s := ((s.sb F.HOST_LINK_STATUS_DL_UP true).sf F.HOST_LINK_STATUS_SPEED (speed.val + 1)).sf F.HOST_LINK_STATUS_WIDTH width.val
    let s := forN 4 (fun n (s : Dev) => if n < width.val ∧ s.isOn (.lane n) ∧ s.laneState n ≠ 7 then
      (s.sb (F.LANE_LINK_STATUS_LOS n) false).setLaneState n 4 else s) s
    s.event E.HOST_LINK_CHANGE

/-- FLR (R410): the controller's configuration is reset; a HOST_RING stream stops, and what cannot be written is
discarded. -/
def Dev.flr (s : Dev) : Dev :=
  let s := { s with host := {} }.raise C.HOST_FLR
  if s.gf F.STREAM_CTRL_TRANSPORT = 1 ∨ s.gf F.STREAM_CTRL_TRANSPORT = 2 ∨ s.streamState = 0 then
    (if s.gf F.STREAM_CTRL_TRANSPORT = 1 ∨ s.gf F.STREAM_CTRL_TRANSPORT = 2 then s else s.sb F.STREAM_CTRL_EN false)
  else { s.streamDisable .firmware with stream := { (s.streamDisable .firmware).stream with dead := true } }

/-- LINK_CTRL.RETRAIN (R434). -/
def Dev.linkRetrain (s : Dev) (_ : Requester) : Dev :=
  s.send (.linkRetrain (min 4 (max 1 (s.gf F.HOST_LINK_CTRL_TARGET_SPEED))))

/-- NET_LINK_DOWN (R415). -/
def Dev.netLinkDown (s : Dev) (port : Fin 2) : Dev := s.netDown port.val

/-- NET_LINK_UP (R400, R415): waiting packets leave and responses held are sent. -/
def Dev.netLinkUp (s : Dev) (port : Fin 2) : Dev :=
  let p := port.val
  if s.on (F.NET_STATUS_LINK_UP p) ∨ s.laneState (4 + p) = 7 ∨ !(s.isOn (.lane (4 + p))) then s
  else
    let s := (s.sb (F.NET_STATUS_LINK_UP p) true).sb (F.NET_STATUS_BLOCK_LOCK p) true
    let s := (s.sb (F.LANE_LINK_STATUS_LOS (4 + p)) false).setLaneState (4 + p) 4
    let s := s.event (E.NET_LINK_CHANGE p)
    let h := (s.net p).held
    let s := s.setNet p { s.net p with held := [] }
    (h.foldl (fun (s : Dev) o => (s.inc (F.NET_TX_FRAMES_COUNT p)).send o) s).pump

/-- Send a response on an Ethernet port, or hold it while its link is down (R415). -/
def Dev.respond (s : Dev) (p : Nat) (o : Out) : Dev :=
  if s.on (F.NET_STATUS_LINK_UP p) then (s.inc (F.NET_TX_FRAMES_COUNT p)).send o
  else s.setNet p { s.net p with held := (s.net p).held ++ [o] }

/-- The port's own address (R411, R435). -/
def Dev.ownIp (s : Dev) (p : Nat) : List Word :=
  if s.on (F.NET_CTRL_IP_VER p) then (List.range 4).map (fun i => s.rd (R.NET_OWN_IP p i)) else [s.rd (R.NET_OWN_IP p 0)]

/-- ARP_REQUEST (R411): a request for the port's own address is answered. -/
def Dev.arpRequest (s : Dev) (port : Fin 2) (addr : List Word) : Dev :=
  let p := port.val
  if !(s.on (F.NET_STATUS_LINK_UP p) && s.on (F.NET_CTRL_EN p)) then s
  else
    let s := s.inc (F.NET_RX_FRAMES_COUNT p)
    if addr = s.ownIp p then (s.inc (F.NET_TX_FRAMES_COUNT p)).send (.arpReply p addr (s.netMac p) (s.netVlan p)) else s

/-- PAUSE (R411): transmission pauses for the quanta of 512 bit times while PAUSE_EN is 1 (log 63). -/
def Dev.pause (s : Dev) (port : Fin 2) (quanta : BitVec 16) : Dev :=
  let p := port.val
  if !(s.on (F.NET_STATUS_LINK_UP p)) then s
  else
    let s := s.inc (F.NET_RX_FRAMES_COUNT p)
    if s.on (F.NET_CTRL_PAUSE_EN p) then (s.setNet p { s.net p with pausedUntil := s.now + quanta.toNat * 512 / 10 }).pump else s

/-- RX_DROPPED (R411, R436). -/
def Dev.rxDropped (s : Dev) (port : Fin 2) (fcs : Bool) : Dev :=
  let p := port.val
  let s := s.inc (F.NET_RX_FRAMES_COUNT p)
  if fcs then (s.inc (F.NET_RX_FCS_ERR_COUNT p)).raise (C.NET_RX_FCS p) else s.inc (F.NET_RX_DROPPED_COUNT p)

/-- AER_ERROR (R408, R434, R436). -/
def Dev.aerError (s : Dev) (uncorrectable : Bool) : Dev :=
  if uncorrectable then (s.inc F.HOST_AER_UCE_COUNT).raise C.HOST_AER_UNCORRECTABLE
  else (s.inc F.HOST_AER_CE_COUNT).raise C.HOST_AER_CORRECTABLE

end Sys2Proof.Machine
end

