-- ==== Sys2Proof/Machine/Ptp.lean ====
section
/-! DEFINITION. gPTP (13_chain_and_meridian_time.md, R464, R465): peer delay, best master, Sync and holdover. -/
namespace Sys2Proof.Machine

/-- PTP.STATUS.STATE (R476). -/
def Dev.ptpState (s : Dev) : Nat := s.gf F.PTP_STATUS_STATE

/-- A port takes part in gPTP (R464, R476). -/
def Dev.ptpPort (s : Dev) (p : Nat) : Bool :=
  s.on F.PTP_CFG_EN && (s.gf F.PTP_CFG_PORT == p || decide (2 ≤ s.gf F.PTP_CFG_PORT))

/-- PTP is the source of the calendar mapping (R462). -/
def Dev.ptpSource (s : Dev) : Bool := s.pole && s.on F.TIME_CAL_CTRL_SRC

/-- Set STATE; LOCKED entered or left is LOCK_CHANGE (R477). -/
def Dev.setPtpState (s : Dev) (v : Nat) : Dev :=
  let old := s.ptpState
  let s := s.sf F.PTP_STATUS_STATE v
  if old ≠ v ∧ (old = 3 ∨ v = 3) then s.event E.PTP_LOCK_CHANGE else s

/-- A source that is no longer selected no longer maintains the mapping (R462). -/
def Dev.calSource (s : Dev) : Dev :=
  let a := s.gf F.TIME_CAL_CTRL_ACTIVE_SRC
  let ok := if s.pole then (a == 1 && !(s.on F.TIME_CAL_CTRL_SRC)) || (a == 2 && s.on F.TIME_CAL_CTRL_SRC && s.on F.PTP_CFG_EN)
    else a == 3
  if ok then s else (s.sf F.TIME_CAL_CTRL_ACTIVE_SRC 0).setTaiValid false

/-- asCapable of a port (R464). -/
def Dev.asCapable (s : Dev) (p : Nat) : Bool := s.on (if p = 0 then F.PTP_STATUS_AS_CAPABLE0 else F.PTP_STATUS_AS_CAPABLE1)

/-- Set asCapable of a port. -/
def Dev.setAsCapable (s : Dev) (p : Nat) (b : Bool) : Dev :=
  s.sb (if p = 0 then F.PTP_STATUS_AS_CAPABLE0 else F.PTP_STATUS_AS_CAPABLE1) b

/-- The first of two priority vectors is the better, or equal. -/
def better : List Int → List Int → Bool
  | a :: l, b :: m => if a = b then better l m else decide (a < b)
  | _, _ => true

/-- Best master selection among the ports that are enabled and asCapable (R464). -/
def Dev.ptpSelect (s : Dev) : Dev :=
  let ann := fun (p : Nat) => fget (fun _ => ([] : List Int)) s.ptp.announce p
  let cand := (List.range 2).filter (fun p => s.ptpPort p && s.asCapable p && !(ann p).isEmpty)
  let best := if cand.length = 2 ∧ !(better ((ann 0).take 7) ((ann 1).take 7)) then some 1 else cand.head?
  match best with
  | none => if s.ptpState = 2 then s.setPtpState 1 else s
  | some p =>
    let a := ann p
    let g := ofSigned 64 (a.getD 5 0)
    let s := ((s.sf F.PTP_STATUS_SLAVE_PORT p).s64 F.PTP_GM_ID_LO_ID F.PTP_GM_ID_HI_ID g).sf F.PTP_PATH_DELAY_NS
      (fget (fun _ => 0) s.ptp.delay p - 1)
    let s := (s.sb F.PTP_STATUS_UTC_VALID (a.getD 8 0 == 1)).sf F.PTP_STATUS_UTC_OFFSET (ofSigned 16 (a.getD 7 0))
    if s.ptpState = 1 then s.setPtpState 2 else s

/-- A port leaves gPTP: what it has learned goes. -/
def Dev.ptpForget (s : Dev) (p : Nat) : Dev :=
  let a := fset (fun _ => ([] : List Int)) s.ptp.announce p []
  let d := fset (fun _ => 0) s.ptp.delay p 0
  { s.setAsCapable p false with ptp := { s.ptp with announce := a, delay := d } }

/-- A write of PTP.CFG has applied (R464, R476). -/
def Dev.ptpCfg (s : Dev) : Dev :=
  if !(s.on F.PTP_CFG_EN) then
    let s := { s with ptp := {} }.setPtpState 0
    (((s.setAsCapable 0 false).setAsCapable 1 false).sb F.PTP_STATUS_UTC_VALID false).calSource
  else
    let s := if s.ptpState = 0 then s.setPtpState 1 else s
    (forN 2 (fun p (s : Dev) => if s.ptpPort p then s else s.ptpForget p) s).ptpSelect

/-- A write of PTP.THRESH has applied: a port is asCapable while its mean link delay is at most PDELAY_THRESH (R464). -/
def Dev.ptpThresh (s : Dev) : Dev :=
  (forN 2 (fun p (s : Dev) =>
    match fget (fun _ => 0) s.ptp.delay p with
    | 0 => s
    | d + 1 => s.setAsCapable p (decide (d ≤ s.gf F.PTP_THRESH_PDELAY_THRESH))) s).ptpSelect

/-- A frame has come in on an Ethernet port (R436). -/
def Dev.rxFrame (s : Dev) (p : Nat) : Dev := s.inc (F.NET_RX_FRAMES_COUNT p)

/-- The interval of Pdelay_Req, ns: 2^LOG_PDELAY s, LOG_PDELAY from -3 to 5 (R464, R476). -/
def Dev.pdelayNs (s : Dev) : Nat := 125000000 * 2^(3 + max (-3) (min 5 (s.gi F.PTP_CFG_LOG_PDELAY))).toNat

/-- PDELAY_INTERVAL (R464): every 2^LOG_PDELAY s every enabled port sends Pdelay_Req. -/
def Dev.pdelayInterval (s : Dev) : Dev :=
  if !(s.on F.PTP_CFG_EN) then s else
  let s := s.advanceTo (s.ptp.pdelayAt + s.pdelayNs)
  let s := { s with ptp := { s.ptp with pdelayAt := s.now } }
  forN 2 (fun p (s : Dev) =>
    if s.ptpPort p ∧ s.on (F.NET_STATUS_LINK_UP p) then
      let n := fget (fun _ => 0) s.ptp.pdelaySeq p
      ({ s with ptp := { s.ptp with pdelaySeq := fset (fun _ => 0) s.ptp.pdelaySeq p ((n + 1) % 65536) } }.inc
        (F.NET_TX_FRAMES_COUNT p)).send (.ptp p 0 n s.now)
    else s) s

/-- PDELAY_REQ (R464): answered with Pdelay_Resp and Pdelay_Resp_Follow_Up. -/
def Dev.pdelayReq (s : Dev) (m : PtpMsg) : Dev :=
  let p := m.port.val
  if !(s.on (F.NET_STATUS_LINK_UP p)) then s
  else
    let s := s.rxFrame p
    if !(s.ptpPort p) ∨ m.domain ≠ s.gf F.PTP_CFG_DOMAIN then s
    else
      let n := (m.args.getD 0 0).toNat
      ((s.inc (F.NET_TX_FRAMES_COUNT p) 2).send (.ptp p 1 n (m.args.getD 1 0).toNat)).send (.ptp p 2 n s.now)

/-- PDELAY_RESP (R464): the mean link delay, and asCapable while it is at most PDELAY_THRESH. -/
def Dev.pdelayResp (s : Dev) (m : PtpMsg) : Dev :=
  let p := m.port.val
  if !(s.on (F.NET_STATUS_LINK_UP p)) then s
  else
    let s := s.rxFrame p
    if !(s.ptpPort p) ∨ m.domain ≠ s.gf F.PTP_CFG_DOMAIN then s
    else
      let a := fun (i : Nat) => m.args.getD i 0
      let d := ((a 4 - a 1) - (a 3 - a 2)) / 2
      let s := { s with ptp := { s.ptp with delay := fset (fun _ => 0) s.ptp.delay p (1 + d.toNat) } }
      (s.setAsCapable p (decide (d ≤ s.gf F.PTP_THRESH_PDELAY_THRESH))).ptpSelect

/-- ANNOUNCE (R464): kept for the best master selection. -/
def Dev.announce (s : Dev) (m : PtpMsg) : Dev :=
  let p := m.port.val
  if !(s.on (F.NET_STATUS_LINK_UP p)) then s
  else
    let s := s.rxFrame p
    if !(s.ptpPort p) ∨ m.domain ≠ s.gf F.PTP_CFG_DOMAIN then s
    else { s with ptp := { s.ptp with announce := fset (fun _ => []) s.ptp.announce p m.args } }.ptpSelect

/-- HOLDOVER begins (R465). -/
def Dev.ptpHoldover (s : Dev) : Dev :=
  ({ s with ptp := { s.ptp with good := 0, holdAt := some s.now } }.setPtpState 4).raise C.PTP_PTP_HOLDOVER

/-- The mapping after a Sync (R464): the servo's gains act in a way the spec does not state, so its values are free (log 70). -/
def Dev.ptpMapping (s : Dev) : Dev :=
  let a := s.free
  let b := a.2.free
  let c := b.2.free
  c.2.setMapping (a.1 % 2^64) (b.1 % 2^64) (toSigned 32 (c.1 % 2^32))

/-- PTP_SYNC (R464, R465) on the slave port. -/
def Dev.ptpSync (s : Dev) (m : PtpMsg) : Dev :=
  let p := m.port.val
  if !(s.on (F.NET_STATUS_LINK_UP p)) then s
  else
    let s := s.rxFrame p
    if !(s.ptpPort p) ∨ m.domain ≠ s.gf F.PTP_CFG_DOMAIN ∨ s.ptpState < 2 ∨ s.gf F.PTP_STATUS_SLAVE_PORT ≠ p then s
    else
      let a := fun (i : Nat) => m.args.getD i 0
      let o : Int := (s.tai (a 2).toNat : Int) - (a 0 + a 1 + s.gf F.PTP_PATH_DELAY_NS)
      let lock : Int := (max 1 (s.gf F.PTP_THRESH_LOCK_NS) : Nat)
      let good := if (o.natAbs : Int) ≤ lock then min 8 (s.ptp.good + 1) else 0
      let k := max 0 (min 16 (a 3 + 7))
      let s := { s with ptp := { s.ptp with good := good, lastSync := s.now, interval := 7812500 * 2^k.toNat } }
      let s := (s.inc F.PTP_SYNC_RX_COUNT).si F.PTP_OFFSET_NS (sat32 o)
      let s := if s.ptpSource then (s.ptpMapping).mappingSync (s.tai s.now) else s
      if s.ptpState ≠ 3 ∧ good = 8 then
        let s := { s with ptp := { s.ptp with holdAt := none } }.setPtpState 3
        if s.ptpSource then (s.sf F.TIME_CAL_CTRL_ACTIVE_SRC 2).setTaiValid true else s
      else if s.ptpState = 3 ∧ 4 * lock < (o.natAbs : Int) then s.ptpHoldover
      else s

/-- PTP_SYNC_TIMEOUT (R465): no Sync for 3 intervals. -/
def Dev.ptpSyncTimeout (s : Dev) : Dev :=
  if s.ptpState = 3 then (s.advanceTo (s.ptp.lastSync + 3 * s.ptp.interval)).ptpHoldover else s

/-- TAI_HOLD_EXPIRE (R465): HOLD_S seconds after HOLDOVER began. -/
def Dev.taiHoldExpire (s : Dev) : Dev :=
  match s.ptp.holdAt with
  | none => s
  | some t =>
    let s := s.advanceTo (t + s.gf F.TIME_HOLD_CFG_HOLD_S * 1000000000)
    let s := { s with ptp := { s.ptp with holdAt := none } }
    if s.ptpSource then ((s.sf F.TIME_CAL_CTRL_ACTIVE_SRC 0).setTaiValid false).raise C.TIME_TAI_LOST else s

end Sys2Proof.Machine
end

