-- ==== Sys2Proof/Machine/Nightwatch.lean ====
section
/-! DEFINITION. Nightwatch (14_nightwatch.md): trip sources, states, the reset edge and release, safety inputs, permit
outputs, watchdog, faults, protected writes and the seal. -/
namespace Sys2Proof.Machine

/-- Nightwatch time, ns (R490, R506). -/
def Dev.nwNow (s : Dev) : Nat := ((s.now : Int) + s.nw.skew).toNat

/-- An instant of Nightwatch time has come (log 5): while the Meridian counter stands still only Nightwatch time goes on. -/
def Dev.advanceNw (s : Dev) (t : Nat) : Dev :=
  if s.running then { s with now := max s.now ((t : Int) - s.nw.skew).toNat }
  else { s with nw := { s.nw with skew := max s.nw.skew ((t : Int) - s.now) } }

/-- LEDGER_BUCKET (R498, R499): the next bucket boundary of window `w` in Nightwatch time, where its oldest bucket leaves. -/
def Dev.ledgerBucket (s : Dev) (w : Fin 3) : Dev :=
  let n := fget code0 s.ledger.bucket w.val + 1
  let s := s.advanceNw (n * s.bucketNs w.val)
  ({ s with ledger := { s.ledger with sums := ageBuckets w.val s.ledger.sums, bucket := fset code0 s.ledger.bucket w.val n } }).allCells

/-- NW.STATUS.STATE (R480): OFF_LOCKED 0, READY 1, RELEASING 2, PERMIT 3, TRIPPED 4, FAULT 5. -/
def Dev.nwState (s : Dev) : Nat := s.gf F.NW_STATUS_STATE

/-- Set STATE with TRIG_EN, 1 in PERMIT alone (R480, R509). -/
def Dev.setNwState (s : Dev) (v : Nat) : Dev :=
  if s.nwState = v then s
  else ((s.sf F.NW_STATUS_STATE v).sb F.NW_STATUS_TRIG_EN (v == 3)).event E.NW_STATE_CHANGE

/-- FB_TIME, ns (R509). -/
def Dev.fbTime (s : Dev) : Nat := min 100 (max 1 (s.gf F.NW_FB_CFG_FB_TIME)) * 1000000

/-- The permit channels of enabled outputs, as a mask (R486, R509). -/
def Dev.permitMask (s : Dev) : Nat :=
  (if bit (s.gf F.NW_CFG_OUT_EN) 0 then 3 else 0) + (if bit (s.gf F.NW_CFG_OUT_EN) 1 then 12 else 0)

/-- Every feedback input of each enabled output shows off. -/
def Dev.fbOff (s : Dev) : Bool := Nat.land (s.gf F.NW_PERMIT_STATUS_FEEDBACK) s.permitMask == 0

/-- Command the permit channels (R480): a channel whose command changes is read back as commanded. -/
def Dev.setDrive (s : Dev) (d : Nat) : Dev :=
  let changed := Nat.xor (s.gf F.NW_PERMIT_STATUS_DRIVE) d
  let rb := s.gf F.NW_PERMIT_STATUS_READBACK
  (s.sf F.NW_PERMIT_STATUS_DRIVE d).sf F.NW_PERMIT_STATUS_READBACK (Nat.xor rb (Nat.land changed (Nat.xor rb d)))

/-- A source latches (R482). -/
def Dev.latchTrip (s : Dev) (n : Nat) : Dev :=
  let l := s.gf F.NW_TRIP_LATCHED_SOURCES
  { s.sf F.NW_TRIP_LATCHED_SOURCES (setBit l n true) with
    nw := { s.nw with fresh := if bit l n then s.nw.fresh else setBit s.nw.fresh n true } }

/-- The length of a test-off pulse, ns (R492, R509). -/
def Dev.testWidth (s : Dev) : Nat := min 1000 (max 100 (s.gf F.NW_TP_CFG_WIDTH)) * 1000

/-- Both channels of both outputs are switched off (R483); a test pulse in progress is abandoned, and its test window runs to its
end (R493). -/
def Dev.permitOff (s : Dev) : Dev :=
  let s := s.setDrive 0
  match s.nw.test with
  | none => s
  | some (_, t) => { s with nw := { s.nw with test := none, testEnd := t + s.testWidth + 200000 } }.inc F.NW_TESTS_ABANDONED_COUNT

/-- A channel commanded off whose readback shows on (R492). -/
def Dev.readbackOn (s : Dev) : Bool :=
  (List.range 4).any (fun c => bit (s.gf F.NW_PERMIT_STATUS_READBACK) c && !(bit (s.gf F.NW_PERMIT_STATUS_DRIVE) c))

/-- Pages with causes of severity UNSAFE of their own, and those bits of their ERR_STATUS (R482, R510, R631). -/
def unsafeBits : List (Page × Nat) :=
  [(.time, 3), (.scan, 15 + 2^29), (.therm, 2), (.chip, 1), (.emit, 2^29), (.code, 2^29), (.cal, 2^29)]

/-- CHIP_UNSAFE: a page other than NW holds an ERR_STATUS bit of severity UNSAFE (R482); LOWER counts with the severity it
has received (R631). -/
def Dev.chipUnsafe (s : Dev) : Bool :=
  unsafeBits.any (fun e => Nat.land (s.rd (R.ERR_STATUS e.1)).toNat e.2 != 0)
  || (List.range 48).any (fun b => s.on ⟨.bay b, 0x10, 29, 1⟩)
  || (Page.chip :: (List.range 4).map Page.qtr).any (fun g => s.on ⟨g, 0x10, 31, 1⟩ && (s.px g).lowerUnsafe)

/-- A pair reads STARTUP_PENDING (R491). -/
def Dev.startPending (s : Dev) (i : Nat) : Bool :=
  s.on (F.NW_IN_CFG_EN i) && s.on (F.NW_IN_CFG_STARTUP_TEST i) && bit s.nw.startPend i

/-- The sources that are asserted (R482). FEEDBACK and TEST_FAULT are while their failure holds, WATCHDOG until the next service, and
HOST at no time, for its write is over at once (DEDUCED, log 99). -/
def Dev.tripSources (s : Dev) : Nat :=
  let pairs := (List.range 8).foldl (fun m i =>
    if s.on (F.NW_IN_STATUS_DEM_A i) || s.on (F.NW_IN_STATUS_DEM_B i) then m + 2^i else m) 0
  pairs + b2n (decide (s.nw.discFault ≠ 0)) * 2^8 + b2n (decide (s.nw.fbBad ≠ 0)) * 2^9 + b2n s.readbackOn * 2^10
    + b2n s.chipUnsafe * 2^11
    + b2n (s.gf F.SCAN_STATUS_STATE == 5) * 2^12
    + b2n (!(s.on F.TIME_STATUS_PLL_LOCKED) || s.on F.TIME_STATUS_HOLDOVER) * 2^13
    + b2n s.nw.wdMissed * 2^14 + b2n ((List.range 8).any s.startPending) * 2^16

/-- The reset edge is rejected (R486). -/
def Dev.rejectEdge (s : Dev) (fbNotOff : Bool) : Dev :=
  let s := { s with nw := { s.nw with edgeAt := none } }
  let src := Nat.lor (s.gf F.NW_TRIP_ACTIVE_SOURCES) (s.gf F.NW_TRIP_LATCHED_SOURCES)
  let w := 2 * 2^28 + b2n fbNotOff * 2^22 + b2n (decide (s.gf F.SCAN_STATUS_STATE ≠ 3)) * 2^21
    + b2n (!(s.on F.NW_STATUS_SEALED)) * 2^20 + src
  let s := (s.wr R.NW_RESET_STATUS (BitVec.ofNat 32 w)).inc F.NW_RESETS_REJECTED_COUNT
  (s.raise C.NW_RESET_REJECTED).record 0x0033 .info Page.nw.base 2 w

/-- The conditions of R486 but feedback. -/
def Dev.edgeOk (s : Dev) : Bool := s.nwState == 1 && s.on F.NW_STATUS_SEALED && s.gf F.SCAN_STATUS_STATE == 3

/-- A pending reset edge one of whose other conditions fails is rejected at once (R486). -/
def Dev.edgeSync (s : Dev) : Dev :=
  match s.nw.edgeAt with
  | some _ => if s.edgeOk then s else s.rejectEdge (!s.fbOff)
  | none => s

/-- Feedback mismatches that no longer hold leave FEEDBACK's assertion (R482, R494). -/
def Dev.fbSync (s : Dev) : Dev :=
  let bad := Nat.land s.nw.fbBad (Nat.land s.permitMask (Nat.xor (s.gf F.NW_PERMIT_STATUS_FEEDBACK) (s.gf F.NW_PERMIT_STATUS_DRIVE)))
  if bad = s.nw.fbBad then s else { s with nw := { s.nw with fbBad := bad } }

/-- A test window's end (R492). -/
def Dev.testSync (s : Dev) : Dev :=
  if s.nw.test.isNone ∧ s.on F.NW_STATUS_TEST_ACTIVE ∧ s.nw.testEnd ≤ s.nwNow then s.sb F.NW_STATUS_TEST_ACTIVE false else s

/-- A trip (R483) with the sources active or latched; it is a chip fault (R28). -/
def Dev.trip (s : Dev) : Dev :=
  let st := s.nwState
  let src := Nat.lor (s.gf F.NW_TRIP_ACTIVE_SOURCES) (s.gf F.NW_TRIP_LATCHED_SOURCES)
  let s := (s.inc F.NW_TRIPS_COUNT).record 0x0030 .unsafeSev Page.nw.base src st
  ((if st = 2 ∨ st = 3 then s.permitOff else s).chipFault).setNwState 4

/-- What Nightwatch makes of the present moment (R480, R482, R483): sources, trips, READY, OFF_LOCKED's end. -/
def Dev.nwSync (s : Dev) : Dev :=
  let s := if s.on F.TIME_STATUS_PLL_LOCKED ∧ !s.nw.oscRun then { s with nw := { s.nw with oscRun := true } } else s
  let s := s.testSync.fbSync
  let old := s.gf F.NW_TRIP_ACTIVE_SOURCES
  let act := s.tripSources
  let new := Nat.lor s.nw.fresh (Nat.xor act (Nat.land act old))
  let s := if act = old then s else s.sf F.NW_TRIP_ACTIVE_SOURCES act
  let s := if s.nw.fresh = 0 then s else { s with nw := { s.nw with fresh := 0 } }
  let any := decide (act ≠ 0) || decide (s.gf F.NW_TRIP_LATCHED_SOURCES ≠ 0)
  let st := s.nwState
  let s := if st = 0 then (if s.nw.tested = some true ∧ s.nw.sealedOnce then s.setNwState (if any then 4 else 1) else s)
    else if st = 5 then s
    else if new ≠ 0 ∨ (any ∧ st ≠ 4) then s.trip
    else if st = 4 ∧ !any then s.setNwState 1
    else s
  s.edgeSync

/-- Enter FAULT (R505, R509); the first cause stays. -/
def Dev.enterFault505 (s : Dev) (cause : Nat) : Dev :=
  if s.nwState = 5 then s
  else
    let s := (s.permitOff.sf F.NW_STATUS_FAULT cause).setNwState 5
    ((s.raise C.NW_NW_FAULT).record 0x0032 .unsafeSev Page.nw.base cause).edgeSync

/-- NW_SELF_TEST_DONE (R505). -/
def Dev.nwSelfTestDone (s : Dev) (pass : Bool) : Dev :=
  if s.nw.tested.isSome then s
  else
    let s := { s with nw := { s.nw with tested := some pass } }
    if pass then s else s.enterFault505 1

/-- NW_FAULT (R505): LOCKSTEP 2, LEDGER_ECC 4, CFG_PARITY 5, NW_SUPPLY 6. -/
def Dev.nwFault (s : Dev) (cause : Fin 8) : Dev :=
  if cause.val = 2 ∨ cause.val = 4 ∨ cause.val = 5 ∨ cause.val = 6 then s.enterFault505 cause.val else s

/-- OSC_MISMATCH (R505): a deviation beyond 1.0 % over two gates, or no TBCLK edge, is a fault once the comparison runs. -/
def Dev.oscMismatch (s : Dev) (dev : Option Int) : Dev :=
  if !s.nw.oscRun then s
  else match dev with
    | none => s.enterFault505 3
    | some d =>
      let s := s.si F.NW_OSC_CHECK_DEV (max (-32768) (min 32767 d))
      if 100 < d.natAbs then s.enterFault505 3 else s

/-! ## Safety inputs -/

/-- D of a pair, ms (R490, R509). -/
def Dev.discMs (s : Dev) (i : Nat) : Nat := min 500 (max 1 (s.gf (F.NW_IN_CFG_DISC i)))

/-- A disagreement of a pair has latched a fault (R490). -/
def Dev.discLatch (s : Dev) (i ms : Nat) : Dev :=
  let n := s.nw
  let s := { s with nw := { n with discDone := setBit n.discDone i true, discFault := setBit n.discFault i true,
                                   discBoth := setBit n.discBoth i false, startBoth := setBit n.startBoth i false } }
  let s := (s.raise C.NW_DISCREPANCY i).record 0x0031 .info Page.nw.base i ms 1
  s.latchTrip 8

/-- A disagreement has ended (R490): beyond D + 1 ms it has latched; in the ambiguous interval it did not, since no
DISCREPANCY came. -/
def Dev.discEnd (s : Dev) (i : Nat) : Dev :=
  let t := s.nwNow - (fget code0 s.nw.discAt i - 1)
  let d := s.discMs i * 1000000
  let done := bit s.nw.discDone i
  let s := if done then s
    else if d + 1000000 ≤ t then s.discLatch i (t / 1000000)
    else if d < t + 1000000 then (s.inc F.NW_DISC_AMBIG_COUNT).record 0x0031 .info Page.nw.base i (t / 1000000) 0
    else s
  let at_ := fset code0 s.nw.discAt i 0
  { s with nw := { s.nw with discAt := at_, discDone := setBit s.nw.discDone i false } }

/-- STATE of IN_STATUS (R509, R491). -/
def Dev.pairState (s : Dev) (i : Nat) : Nat :=
  if !(s.on (F.NW_IN_CFG_EN i)) then 0
  else if bit s.nw.discFault i then 3
  else if s.startPending i then 4
  else if s.on (F.NW_IN_STATUS_DEM_A i) || s.on (F.NW_IN_STATUS_DEM_B i) then 2
  else 1

/-- A pair follows its filtered channels and its configuration (R489 to R491). -/
def Dev.pairSync (s : Dev) (i : Nat) : Dev :=
  let en := s.on (F.NW_IN_CFG_EN i)
  let a := en && !(s.on (F.NW_IN_STATUS_PIN_A i))
  let b := en && (s.on (F.NW_IN_STATUS_PIN_B i) == s.on (F.NW_IN_CFG_TYPE i))
  let was := s.on (F.NW_IN_STATUS_DEM_A i) || s.on (F.NW_IN_STATUS_DEM_B i)
  let s := (s.sb (F.NW_IN_STATUS_DEM_A i) a).sb (F.NW_IN_STATUS_DEM_B i) b
  let s := if (a || b) && !was then s.raise C.NW_INPUT_DEMAND i else s
  let running := decide (fget code0 s.nw.discAt i ≠ 0)
  let s := if xor a b && !running then
      let at_ := fset code0 s.nw.discAt i (s.nwNow + 1)
      { s with nw := { s.nw with discAt := at_ } }
    else if !(xor a b) && running then s.discEnd i
    else s
  let n := s.nw
  let s := if a && b then { s with nw := { n with discBoth := if bit n.discFault i then setBit n.discBoth i true else n.discBoth,
                                                  startBoth := if s.startPending i then setBit n.startBoth i true else n.startBoth } }
    else if !a && !b && en && s.startPending i && bit n.startBoth i then
      { s with nw := { n with startPend := setBit n.startPend i false, startBoth := setBit n.startBoth i false } }
    else s
  s.sf (F.NW_IN_STATUS_STATE i) (s.pairState i)

/-- INPUT_FILTER_CHANGE (R489): the filtered level of a channel changes. -/
def Dev.inputFilterChange (s : Dev) (pair : Fin 8) (ch : Bool) (level : Bool) : Dev :=
  (s.sb (if ch then F.NW_IN_STATUS_PIN_B pair.val else F.NW_IN_STATUS_PIN_A pair.val) level).pairSync pair.val

/-- DISCREPANCY (R490): the disagreement latches, never before D - 1 ms have passed. -/
def Dev.discrepancy (s : Dev) (pair : Fin 8) : Dev :=
  let i := pair.val
  let t := fget code0 s.nw.discAt i
  if t = 0 ∨ bit s.nw.discDone i then s
  else
    let s := s.advanceNw (t - 1 + (s.discMs i - 1) * 1000000 + 1)
    let s := s.discLatch i ((s.nwNow - (t - 1)) / 1000000)
    s.sf (F.NW_IN_STATUS_STATE i) (s.pairState i)

/-! ## The reset edge and release -/

/-- The latched sources that a reset edge clears (R482). -/
def Dev.clearLatches (s : Dev) : Dev :=
  let disc := s.nw.discFault == Nat.land s.nw.discFault s.nw.discBoth
  let clear := b2n disc * 2^8 + b2n s.fbOff * 2^9 + b2n (s.gf F.NW_PERMIT_STATUS_READBACK == 0) * 2^10
    + b2n (s.nw.wdOk == 2) * 2^14 + 2^15
  let l := s.gf F.NW_TRIP_LATCHED_SOURCES
  let s := s.sf F.NW_TRIP_LATCHED_SOURCES (l - Nat.land l clear)
  if disc then
    let s := { s with nw := { s.nw with discFault := 0, discBoth := 0 } }
    forN 8 (fun i (s : Dev) => s.sf (F.NW_IN_STATUS_STATE i) (s.pairState i)) s
  else s

/-- Every port must pass a resume check after PERMIT (R189, R487). -/
def Dev.resumeAll (s : Dev) : Dev := forN 48 (fun p (s : Dev) => s.setPort p { s.port p with needResume := true }) s

/-- The release sequence is through (R487). -/
def Dev.permit (s : Dev) : Dev :=
  { s with nw := { s.nw with testAt := s.nwNow, lastTest := 3 } }.resumeAll.setNwState 3

/-- RESET_STATUS and the record of an accepted edge; RELEASING begins (R486). -/
def Dev.noteEdge (s : Dev) : Dev :=
  let s := { s with nw := { s.nw with edgeAt := none } }
  let s := s.wr R.NW_RESET_STATUS 0x10000000#32
  (s.record 0x0033 .info Page.nw.base 1 (2^28)).setNwState 2

/-- RELEASING begins now (R487). -/
def Dev.markRel (s : Dev) : Dev := { s with nw := { s.nw with relAt := s.nwNow } }

/-- The edge is accepted (R486, R487): after any test window the outputs of OUT_EN switch on. -/
def Dev.acceptEdge (s : Dev) : Dev :=
  let s := s.noteEdge
  let s := if s.on F.NW_STATUS_TEST_ACTIVE then (s.advanceNw s.nw.testEnd).testSync else s
  let s := s.markRel
  let s := s.setDrive s.permitMask
  if s.permitMask = 0 then s.permit else s

/-- A reset edge (R486). -/
def Dev.resetEdgeCore (s : Dev) : Dev :=
  let s := s.clearLatches.nwSync
  if !s.edgeOk then s.rejectEdge (!s.fbOff)
  else if s.fbOff then s.acceptEdge
  else { s with nw := { s.nw with edgeAt := some s.nwNow } }

/-- RESET_EDGE (R485): a high pulse of 50 to 3,000 ms; after RESET_STUCK only once the pin has been low for 50 ms. -/
def Dev.resetEdge (s : Dev) (lenMs lowMs : Nat) : Dev :=
  if lenMs < 50 ∨ 3000 < lenMs ∨ (s.nw.stuck = true ∧ lowMs < 50) then s
  else { s with nw := { s.nw with stuck := false } }.resetEdgeCore

/-- RESET_STUCK (R485). -/
def Dev.resetStuck (s : Dev) : Dev :=
  ({ s with nw := { s.nw with stuck := true } }.sf F.NW_RESET_STATUS_LAST 3).raise C.NW_RESET_STUCK

/-- RESET_EDGE_FB_TIMEOUT (R486). -/
def Dev.resetEdgeFbTimeout (s : Dev) : Dev :=
  match s.nw.edgeAt with
  | none => s
  | some t => (s.advanceNw (t + s.fbTime)).rejectEdge true

/-- A feedback mismatch latches FEEDBACK (R487, R494). -/
def Dev.feedbackLatch (s : Dev) (ch : Nat) : Dev := (s.raise C.NW_FEEDBACK_FAULT ch).latchTrip 9

/-- FEEDBACK_OFF (R486): a feedback input changes; with the last one off a pending edge is accepted. -/
def Dev.feedbackOff (s : Dev) (ch : Fin 4) (off : Bool) : Dev :=
  let s := s.sf F.NW_PERMIT_STATUS_FEEDBACK (setBit (s.gf F.NW_PERMIT_STATUS_FEEDBACK) ch.val (!off))
  match s.nw.edgeAt with
  | none => s
  | some t =>
    if !s.fbOff then s
    else if t + s.fbTime < s.nwNow ∨ !s.edgeOk then s.rejectEdge true
    else s.acceptEdge

/-- RELEASE_FEEDBACK_ON (R487): every feedback shows on; triggers are enabled. -/
def Dev.releaseFeedbackOn (s : Dev) : Dev :=
  if s.nwState ≠ 2 then s
  else (s.sf F.NW_PERMIT_STATUS_FEEDBACK (Nat.lor (s.gf F.NW_PERMIT_STATUS_FEEDBACK) s.permitMask)).permit

/-- RELEASE_FEEDBACK_TIMEOUT (R487): FEEDBACK latches, which is a trip. -/
def Dev.releaseFeedbackTimeout (s : Dev) : Dev :=
  if s.nwState ≠ 2 then s
  else
    let s := s.advanceNw (s.nw.relAt + s.fbTime)
    let missing := Nat.xor s.permitMask (Nat.land s.permitMask (s.gf F.NW_PERMIT_STATUS_FEEDBACK))
    s.feedbackLatch (((List.range 4).find? (fun c => bit missing c)).getD 0)

/-- FEEDBACK_FAULT (R494): a feedback input of an enabled output disagrees for longer than FB_TIME outside RELEASING and
outside its channel's test window. -/
def Dev.feedbackFault (s : Dev) (ch : Fin 4) : Dev :=
  let c := ch.val
  if s.nwState = 2 ∨ !(bit s.permitMask c) ∨ (s.on F.NW_STATUS_TEST_ACTIVE ∧ s.nw.lastTest = c) then s
  else
    let s := s.sf F.NW_PERMIT_STATUS_FEEDBACK
      (setBit (s.gf F.NW_PERMIT_STATUS_FEEDBACK) c (!(bit (s.gf F.NW_PERMIT_STATUS_DRIVE) c)))
    ({ s with nw := { s.nw with fbBad := setBit s.nw.fbBad c true } }).feedbackLatch c

/-! ## Test pulses and readback -/

/-- Positions in the test order from the channel tested last to channel `c` (R492). -/
def testSteps (last c : Nat) : Nat := (c + 3 - last) % 4 + 1

/-- The enabled channel whose turn comes next (R492). -/
def Dev.nextTest (s : Dev) : Option Nat :=
  ((List.range 4).map (fun k => (s.nw.lastTest + 1 + k) % 4)).find? (fun c => bit s.permitMask c)

/-- TEST_PULSE (R492): in PERMIT, evenly spaced over PERIOD in the order of the channels. -/
def Dev.testPulse (s : Dev) (ch : Fin 4) : Dev :=
  let c := ch.val
  if s.nwState ≠ 3 ∨ s.nw.test.isSome ∨ s.nextTest ≠ some c then s
  else
    let period := min 60000 (max 100 (s.gf F.NW_TP_CFG_PERIOD)) * 1000000
    let s := s.advanceNw (max (s.nw.testAt + testSteps s.nw.lastTest c * period / 4) s.nw.testEnd)
    let t := s.nwNow
    let s := { s with nw := { s.nw with test := some (c, t), lastTest := c, testAt := t } }
    (s.setDrive (setBit (s.gf F.NW_PERMIT_STATUS_DRIVE) c false)).sb F.NW_STATUS_TEST_ACTIVE true

/-- A readback that fails to show off latches TEST_FAULT (R492). -/
def Dev.readbackLatch (s : Dev) (c : Nat) : Dev :=
  let s := s.sf F.NW_PERMIT_STATUS_READBACK (setBit (s.gf F.NW_PERMIT_STATUS_READBACK) c true)
  (s.raise C.NW_TEST_FAULT c).latchTrip 10

/-- TEST_PULSE_END (R492): the readback is judged; the window ends 0.2 ms later. -/
def Dev.testPulseEnd (s : Dev) (ch : Fin 4) (sawOff : Bool) : Dev :=
  match s.nw.test with
  | none => s
  | some (c, t) =>
    if c ≠ ch.val then s
    else
      let s := s.advanceNw (t + s.testWidth)
      let s := { s with nw := { s.nw with test := none, testEnd := s.nwNow + 200000 } }
      let s := s.setDrive (setBit (s.gf F.NW_PERMIT_STATUS_DRIVE) c true)
      if sawOff then s.inc F.NW_TESTS_COUNT else s.readbackLatch c

/-- READBACK_FAULT (R492): a channel commanded off shows on for 1 ms; or shows off again. -/
def Dev.readbackFault (s : Dev) (ch : Fin 4) (on : Bool) : Dev :=
  let c := ch.val
  let pulsed := match s.nw.test with
    | some (d, _) => d == c
    | none => false
  if bit (s.gf F.NW_PERMIT_STATUS_DRIVE) c || pulsed then s
  else if on then s.readbackLatch c
  else s.sf F.NW_PERMIT_STATUS_READBACK (setBit (s.gf F.NW_PERMIT_STATUS_READBACK) c false)

/-! ## Protected writes -/

/-- A requester's place in the protected sequence (R506). -/
def Dev.unlockStep (s : Dev) (q : Requester) : Nat := fget code0 s.nw.unlock q.code

/-- Set it. -/
def Dev.setUnlock (s : Dev) (q : Requester) (n : Nat) : Dev :=
  let u := fset code0 s.nw.unlock q.code n
  let t := fset code0 s.nw.unlockAt q.code (if n = 2 then s.nwNow else 0)
  { s with nw := { s.nw with unlock := u, unlockAt := t } }

/-- A sequence is cancelled (R506). -/
def Dev.cancelUnlock (s : Dev) (q : Requester) : Dev := (s.setUnlock q 0).raise C.NW_PROTECT_VIOLATION

/-- Any other write by a requester to the NW page cancels its sequence (R506). -/
def Dev.nwOtherWrite (s : Dev) (q : Requester) : Dev := if s.unlockStep q = 0 then s else s.cancelUnlock q

/-- UNLOCK (R506). -/
def Dev.unlock (s : Dev) (req : Requester) (val : Word) : Dev :=
  if req = .debug then s.refuse .nw
  else match s.unlockStep req with
    | 0 => if val.toNat = 0xA5C3 then s.setUnlock req 1 else s.raise C.NW_PROTECT_VIOLATION
    | 1 => if val.toNat = 0x3C5A then s.setUnlock req 2 else s.cancelUnlock req
    | _ => s.cancelUnlock req

/-- PROTECT_TIMEOUT (R506). -/
def Dev.protectTimeout (s : Dev) (req : Requester) : Dev :=
  if s.unlockStep req = 2 then (s.advanceNw (fget code0 s.nw.unlockAt req.code + 100000)).cancelUnlock req else s

/-- A protected write's sequence is complete (R506); the state after it was used or cancelled. -/
def Dev.takeUnlock (s : Dev) (q : Requester) : Bool × Dev :=
  if q = .debug then (false, s.refuse .nw)
  else if s.unlockStep q ≠ 2 then (false, (s.nwOtherWrite q).refuse .nw)
  else if fget code0 s.nw.unlockAt q.code + 100000 < s.nwNow then (false, (s.cancelUnlock q).refuse .nw)
  else (true, s.setUnlock q 0)

/-- The protected configuration registers in address order (R508). -/
def cfgOffsets : List Nat :=
  [0x60, 0x68, 0x6C, 0x74, 0x78] ++ (List.range 8).map (fun i => 0x80 + 4 * i) ++ (List.range 4).map (fun i => 0xC0 + 4 * i)
    ++ (List.range 48).map (fun p => 0x100 + 4 * p) ++ (List.range 144).map (fun i => 0x200 + 0x10 * (i / 3) + 4 * (i % 3))
    ++ (List.range 32).map (fun m => 0x500 + 4 * m)

/-- CFG_CRC (R508). -/
def Dev.cfgCrc (s : Dev) : Nat := crc32 (cfgOffsets.flatMap (fun o => wordBytes (s.rd ⟨.nw, o⟩)))

/-- A protected write cannot increase emission (R507). -/
def Dev.onlyReduces (s : Dev) (off : Nat) (w : Word) : Bool :=
  let old := s.rd ⟨.nw, off⟩
  if off = 0x74 ∨ off = 0x78 then (w &&& ~~~old) == 0#32
  else if 0x100 ≤ off ∧ off < 0x1C0 then decide (bits old 0 16 ≤ bits w 0 16)
  else if 0x200 ≤ off ∧ off < 0x500 then decide (w.toNat ≤ old.toNat)
  else if 0x500 ≤ off ∧ off < 0x580 then (List.range 4).all (fun i => decide (bits w (8 * i) 8 ≤ bits old (8 * i) 8))
  else false

/-- Nightwatch is in PERMIT or RELEASING, where only reductions are accepted (R507). -/
def Dev.releasing (s : Dev) : Bool := s.nwState == 2 || s.nwState == 3

/-- The pairs, cells and feedback a configuration register bears on follow its new value (R489, R494, R499, R502, R507). -/
def Dev.cfgEffect (s : Dev) (off : Nat) (old : Word) : Dev :=
  if 0x80 ≤ off ∧ off < 0xA0 then s.pairSync ((off - 0x80) / 4)
  else if off = 0x6C then
    s.sf F.NW_PERMIT_STATUS_FEEDBACK (Nat.xor (s.gf F.NW_PERMIT_STATUS_FEEDBACK) (Nat.xor (bits old 8 4) (s.gf F.NW_FB_CFG_FB_INV)))
  else if off = 0x74 ∨ off = 0x78 then
    let cleared := (old &&& ~~~(s.rd ⟨.nw, off⟩)).toNat
    { s with nw := { s.nw with eclRestore := Nat.lor s.nw.eclRestore (if off = 0x74 then cleared else cleared * 2^32) } }
  else if 0xC0 ≤ off ∧ off < 0xCC then
    let w := (off - 0xC0) / 4
    ((s.fillWindow w id).startBuckets w s.nwNow).allCells
  else if 0x100 ≤ off ∧ off < 0x1C0 then s.portCells ((off - 0x100) / 4)
  else if 0x200 ≤ off ∧ off < 0x500 then s.portCells ((off - 0x200) / 0x10)
  else if 0x500 ≤ off then s.allCells
  else s

/-- An accepted write of a protected configuration register (R506 to R508). -/
def Dev.cfgWrite (s : Dev) (q : Requester) (off : Nat) (w : Word) : Dev :=
  let old := s.rd ⟨.nw, off⟩
  let s := ((s.storeReg .nw off w).sb F.NW_STATUS_SEALED false).cfgEffect off old
  s.record 0x0034 .info Page.nw.base off w.toNat q.code

/-- SEAL (R508, R502): the right CRC seals; the first time after a cold reset the ledger is preloaded. -/
def Dev.sealGo (s : Dev) (q : Requester) (crc : Word) : Dev :=
  if crc.toNat ≠ s.cfgCrc then s.refuse .nw
  else
    let s := (s.sb F.NW_STATUS_SEALED true).record 0x0034 .info Page.nw.base 0x58 crc.toNat q.code
    if s.nw.sealedOnce then s
    else
      let s := { s with nw := { s.nw with sealedOnce := true }, ledger := { s.ledger with sums := [] } }
      (forN 3 (fun w (s : Dev) => s.fillWindow w (fun c => c * s.gf (F.NW_WIN_CFG_PRELOAD w) / 256)) s).allCells

/-- A protected write (R506, R507): CMD.SW_RESET, SEAL or a configuration register. -/
def Dev.nwProtected (s : Dev) (q : Requester) (off : Nat) (w : Word) : Dev :=
  let u := s.takeUnlock q
  let s := u.2
  if !u.1 then s
  else if s.releasing && !(s.onlyReduces off w) then s.refuse .nw
  else if off = 0x58 then s.sealGo q w
  else if off = 0x54 then
    let s := s.record 0x0034 .info Page.nw.base off w.toNat q.code
    if s.on F.NW_CFG_SW_RESET_EN then s.resetEdgeCore else s
  else s.cfgWrite q off w

/-- An offset of a protected configuration register (R506). -/
def nwConfig (off : Nat) : Bool := cfgOffsets.contains off

/-- HOST_TRIP (R482, R509). -/
def Dev.hostTripCore (s : Dev) : Dev := (s.raise C.NW_HOST_TRIP).latchTrip 15

/-- HOST_TRIP: a write of CMD.TRIP by any requester. -/
def Dev.hostTrip (s : Dev) (req : Requester) : Dev := (s.nwOtherWrite req).hostTripCore

/-! ## The watchdog -/

/-- A missed, repeated or foreign service latches WATCHDOG (R484). -/
def Dev.watchdogLatch (s : Dev) : Dev :=
  let s := (s.raise C.NW_WATCHDOG).latchTrip 14
  { s with nw := { s.nw with wdOk := 0, wdMissed := true } }

/-- WATCHDOG (R484). -/
def Dev.watchdog (s : Dev) (req : Requester) (val : Word) : Dev :=
  let s := s.nwOtherWrite req
  let v := val.toNat
  if req = .firmware ∧ (v = 0x5555 ∨ v = 0xAAAA) ∧ v ≠ s.nw.wdLast then
    { s with nw := { s.nw with wdLast := v, wdAt := s.nwNow, wdOk := min 2 (s.nw.wdOk + 1), wdMissed := false } }
  else s.watchdogLatch

/-- WATCHDOG_TIMEOUT (R484): WD_TIME passes without a service. -/
def Dev.watchdogTimeout (s : Dev) : Dev :=
  let s := s.advanceNw (s.nw.wdAt + min 100 (max 1 (s.gf F.NW_CFG_WD_TIME)) * 10000000)
  { s with nw := { s.nw with wdAt := s.nwNow } }.watchdogLatch

end Sys2Proof.Machine
end

