-- ==== Sys2Proof/Machine/Decimate.lean ====
section
/-! DEFINITION. The decimation chains of the monitor inputs (15_monitor_inputs.md, R513, R514, R516, R530): the modulator's
cycles, the sinc and FIR stages, the presets and the notches. -/
namespace Sys2Proof.Machine

/-! ## Modulator cycles (R35, R530, R531) -/

/-- When the modulator's cycle `n` begins, in 1/64 ns: cycles of 4.096 MHz, derived from TBCLK, whose phase the spec does not give
(log 100). -/
def cycle64 (n : Nat) : Nat := Config.monPhase % 15625 + 15625 * n
/-- The Meridian ns in which a cycle begins. -/
def cycleNs (n : Nat) : Nat := cycle64 n / 64
/-- The first cycle that begins at `t` or after it. -/
def cycleFrom (t : Nat) : Nat := (64 * t + 15624 - Config.monPhase % 15625) / 15625

/-! ## Presets and notches (R514, R516) -/

/-- The preset of a channel (R514). -/
def Dev.preset (s : Dev) (c : Nat) : Nat := if c < 2 then 0 else s.gf (F.MON_CH_CFG_PRESET c)
/-- Output rate of a preset, samples per second. -/
def presetRate (p : Nat) : Nat := [256000, 16000, 2000, 250].getD p 250
/-- Modulator cycles of an output period of a preset. -/
def presetRatio (p : Nat) : Nat := [16, 256, 2048, 16384].getD p 16384
/-- Order of a preset's sinc stage. -/
def sincOrder (p : Nat) : Nat := if p = 0 then 3 else 5
/-- Ratio of a preset's sinc stage. -/
def sincRatio (p : Nat) : Nat := [16, 64, 256, 1024].getD p 1024
/-- FIR stages of a preset. -/
def firStages (p : Nat) : Nat := [0, 2, 3, 4].getD p 4
/-- N_set of a preset without notches. -/
def presetSet (p : Nat) : Nat := [4, 42, 53, 59].getD p 59

/-- Notch `k` is defined but not applied under preset `p` (R516). -/
def Dev.notchSkipped (s : Dev) (p k : Nat) : Bool :=
  let r := presetRate p
  let bw := max 1 (s.gf (F.MON_NOTCH_BW_HZ k))
  let f := s.gf (F.MON_NOTCH_F_HZ k) % r
  let f := if r < 2 * f then r - f else f
  decide (s.gf (F.MON_NOTCH_F_HZ k) ≠ 0) && (decide (f ≤ bw) || decide (r ≤ 2 * f + 2 * bw))

/-- NOTCH_STATUS as it reads (R516, R534). -/
def Dev.notchStatus (s : Dev) : Nat :=
  (List.range 16).foldl (fun m i => if s.notchSkipped (i / 4) (i % 4) then m + 2^i else m) 0

/-- A channel applies notch `k` (R516). -/
def Dev.notchOn (s : Dev) (c k : Nat) : Bool :=
  bit (s.gf (F.MON_CH_CFG_NOTCH c)) k && decide (s.gf (F.MON_NOTCH_F_HZ k) ≠ 0) && !(s.notchSkipped (s.preset c) k)

/-- N_set of a channel with its notches (R514, R516). -/
def Dev.nSet (s : Dev) (c : Nat) : Nat :=
  let p := s.preset c
  (List.range 4).foldl (fun n k =>
    if s.notchOn c k then
      let bw := max 1 (s.gf (F.MON_NOTCH_BW_HZ k))
      n + (presetRate p + bw - 1) / bw
    else n) (presetSet p)

/-! ## Coefficients and shifts (R513, R515, R609) -/

/-- Taps of an FIR stage of a preset (R513, R514); 0 where the stage does not exist. -/
def firTaps (p k : Nat) : Nat := if k = 0 ∨ firStages p < k then 0 else if k = 1 then 31 else 63

/-- Default of the written coefficients: none. -/
def coef0 (_ : Nat) : Option Nat := none

/-- COEF of a tap: as written, else that of the firmware's reset coefficient set (R513, R609). -/
def Dev.coefAt (s : Dev) (p k t : Nat) : Nat := (fget coef0 s.mon.coefs (512 * p + 64 * k + t)).getD (Config.bootCoef p k t % 2^24)

/-- The firmware loads the stage shifts of its reset coefficient sets (R513, R609). -/
def Dev.loadShifts (s : Dev) : Dev :=
  forN 4 (fun p (s : Dev) => s.wr (R.MON_SHIFT p) (BitVec.ofNat 32 (Config.bootShift p % 2^25))) s

/-- SH0 to SH4 of a preset. -/
def Dev.stageShift (s : Dev) (p k : Nat) : Nat := bits (s.rd (R.MON_SHIFT p)) (5 * k) 5

/-! ## The stages (R513) -/

/-- A stage result shifted right, rounded to nearest with halves up, and saturated to 32 bits. -/
def stageOut (sh : Nat) (v : Int) : Int := satSigned 32 ((v + (2^sh / 2 : Nat)) / (2^sh : Nat))

/-- One modulator word through the integrators of a sinc stage. -/
def integrate : List Int → Int → List Int × Int
  | [], v => ([], v)
  | a :: l, v => let r := integrate l (a + v); ((a + v) :: r.1, r.2)

/-- One decimated value through the combs of a sinc stage. -/
def combs : List Int → Int → List Int × Int
  | [], v => ([], v)
  | a :: l, v => let r := combs l (v - a); (v :: r.1, r.2)

/-- `n` outputs of a sinc stage of ratio `r` from its modulator words. -/
def sincGo (r sh : Nat) : Nat → DecX → List Int → List Int × DecX
  | 0, x, _ => ([], x)
  | n + 1, x, ws =>
    let i := (ws.take r).foldl (fun (a : List Int × Int) w => integrate a.1 w) (x.integ, 0)
    let c := combs x.comb i.2
    let t := sincGo r sh n { x with integ := i.1, comb := c.1 } (ws.drop r)
    (stageOut sh c.2 :: t.1, t.2)

/-- An FIR stage that decimates by 2: its outputs and its delay line, newest value first. -/
def firGo (coef : Nat → Int) (taps sh : Nat) (line : List Int) : List Int → List Int × List Int
  | a :: b :: l =>
    let line := (b :: a :: line).take taps
    let y := (List.range taps).foldl (fun n t => n + coef t * line.getD t 0) 0
    let r := firGo coef taps sh line l
    (stageOut sh y :: r.1, r.2)
  | _ => ([], line)

/-- The FIR stages from stage `k` on. -/
def Dev.firChain (s : Dev) (p : Nat) : Nat → Nat → DecX → List Int → List Int × DecX
  | 0, _, x, vs => (vs, x)
  | n + 1, k, x, vs =>
    let r := firGo (fun t => toSigned 24 (s.coefAt p k t)) (firTaps p k) (s.stageShift p k) (fget (fun _ => []) x.lines k) vs
    s.firChain p n (k + 1) { x with lines := fset (fun _ => []) x.lines k r.2 } r.1

/-- The chain of a channel: M0 and M1 for channels 0 and 1, M2 for the others. -/
def decKey (c : Nat) : Nat := min c 2
/-- Default of the chains. -/
def dec0 (_ : Nat) : DecX := {}
/-- A channel's chain. -/
def Dev.dec (s : Dev) (c : Nat) : DecX := fget dec0 s.mon.chains (decKey c)
/-- Replace a channel's chain. -/
def Dev.setDec (s : Dev) (c : Nat) (x : DecX) : Dev :=
  let m := fset dec0 s.mon.chains (decKey c) x
  { s with mon := { s.mon with chains := m } }

/-- The decimators of a channel are reset at a modulator cycle; its output grid then waits for PHASE cycles (R520, R530). -/
def Dev.resetDec (s : Dev) (c cycle : Nat) : Dev :=
  let p := s.preset c
  let z : List Int := List.replicate (sincOrder p) 0
  let phase := min (presetRatio p - 1) (s.gf (F.MON_CH_AUX_PHASE c))
  s.setDec c { integ := z, comb := z, grid := cycle + (if c < 2 then min 15 phase else phase) }

/-- The cycle that completes a channel's next sample. -/
def Dev.nextSample (s : Dev) (c : Nat) : Nat := (s.dec c).grid + presetRatio (s.preset c) * ((s.dec c).count + 1)

/-- A sample of a channel's chain from the modulator words of its output period (R513): CODE after saturation to 24 bits. A chain with
a notch gives a free value, for no rule gives the notch's coefficients (R516, log 100). -/
def Dev.decimate (s : Dev) (c : Nat) (words : List Int) : Int × Dev :=
  let p := s.preset c
  let ws := (List.range (presetRatio p)).map (fun i => words.getD i 0)
  let a := sincGo (sincRatio p) (s.stageShift p 0) (2^firStages p) (s.dec c) ws
  let b := s.firChain p (firStages p) 1 a.2 a.1
  let s := s.setDec c { b.2 with count := (s.dec c).count + 1 }
  if (List.range 4).any (fun k => s.notchOn c k) then
    let f := s.free
    (toSigned 24 (f.1 % 2^24), f.2)
  else (satSigned 24 (b.1.headD 0), s)

end Sys2Proof.Machine
end

