-- ==== Sys2Proof/Machine/Monitor.lean ====
section
/-! DEFINITION. Monitor inputs (15_monitor_inputs.md): settling, the sequencer, wiring and curves, open wires, impedance
checks, the privileged pair and the decimator sync. -/
namespace Sys2Proof.Machine

/-! ## Curves (R523, R524) -/

/-- IEEE 754 binary32 as a fraction; none for an infinity or a NaN. -/
def ofFloat (w : Word) : Option (Int × Nat) :=
  let e := bits w 23 8
  let m := bits w 0 23
  let sg : Int := if bits w 31 1 = 1 then -1 else 1
  if e = 255 then none
  else if e = 0 then some (sg * m, 2^149)
  else if 150 ≤ e then some (sg * ((2^23 + m) * 2^(e - 150) : Nat), 1)
  else some (sg * (2^23 + m : Nat), 2^(150 - e))

/-- The scale of fixed-point logarithms. -/
def lnScale : Nat := 2^64

/-- The terms z^(2i+1)/(2i+1) of artanh z, z and its power scaled. -/
def artanh : Nat → Nat → Int → Int → Int
  | 0, _, _, _ => 0
  | n + 1, i, z, pw => pw / (2 * i + 1 : Nat) + artanh n (i + 1) z (pw * z / lnScale * z / lnScale)

/-- The natural logarithm of p / q, both positive, scaled. -/
def lnFix (p q : Nat) : Int :=
  let k : Int := (Nat.log2 p : Int) - Nat.log2 q
  let a := p * 2^(-k).toNat
  let b := q * 2^k.toNat
  let z := ((a : Int) - b) * lnScale / (a + b : Nat)
  2 * artanh 40 0 z z + k * 12786308645202655660

/-- IEC 60751: 10^27 times R / R0 at t thousandths of a degree (R524). -/
def ptRatio (t : Int) : Int :=
  10^27 + 39083 * t * 10^17 - 5775 * t * t * 10^11 - (if t < 0 then 4183 * (t - 100000) * t * t * t else 0)

/-- The largest t of `n` bits above `lo` whose ratio is at most num / den. -/
def ptSearch (num : Int) (den : Nat) : Nat → Int → Int
  | 0, lo => lo
  | n + 1, lo => ptSearch num den n (if ptRatio (lo + (2^n : Nat)) * den ≤ num * 10^27 then lo + (2^n : Nat) else lo)

/-- 0.001 degrees C from 1/T scaled (R524): not positive is beyond every temperature. -/
def ofInvT (i : Int) : Int := if i ≤ 0 then 10^9 else 1000 * lnScale / i - 273150

/-- 1/T of NTC_BETA, scaled, for R = p/q ohm (R524). -/
def betaInv (p q : Nat) (r0 t0 b : Option (Int × Nat)) : Option Int :=
  match r0, t0, b with
  | some (rn, rd), some (tn, td), some (bn, bd) =>
    if rn ≤ 0 ∨ tn ≤ 0 ∨ bn = 0 then none
    else some ((td * lnScale : Nat) / tn + lnFix (p * rd) (q * rn.toNat) * bd / bn)
  | _, _, _ => none

/-- 1/T of NTC_SH, scaled, for R = p/q ohm (R524). -/
def shInv (p q : Nat) (a b c : Option (Int × Nat)) : Option Int :=
  match a, b, c with
  | some (an, ad), some (bn, bd), some (cn, cd) =>
    let l := lnFix p q
    some (an * lnScale / ad + bn * l / bd + cn * (l * l / lnScale * l / lnScale) / cd)
  | _, _, _ => none

/-- A value clamped to its valid range, with CURVE_RANGE. -/
def clampRange (lo hi v : Int) : Int × Bool := (max lo (min hi v), decide (v < lo ∨ hi < v))

/-- Nearest integer of a fraction. -/
def nearest (n : Int) (d : Nat) : Int := (2 * n + d) / (2 * d : Nat)

/-- WIRING in force (R521, R523): 0 two-wire, 1 three-wire, 2 four-wire. -/
def Dev.wiring (s : Dev) (c : Nat) : Nat :=
  match s.gf (F.MON_CH_CFG_WIRING c) with
  | 0 => 0
  | 1 => if c < 2 then 2 else if s.mon.three then 1 else 0
  | _ => 2

/-- CH_EXC in force of a channel (R520, R522). -/
def Dev.excOf (s : Dev) (c : Nat) : Word := fget (fun _ => 0#32) s.mon.exc c

/-- The sensor's resistance in milliohm as a fraction (R523). -/
def Dev.resist (s : Dev) (c : Nat) (code comp : Int) : Int × Nat :=
  let d := 2^(23 + s.gf (F.MON_CH_CFG_GAIN c)) * min 100 (max 1 (bits (s.excOf c) 0 7))
  match s.wiring c with
  | 0 => (code * 125000000 - s.gf (F.MON_CH_AUX_LEAD c) * d, d)
  | 1 => ((code - comp) * 125000000, d)
  | _ => (code * 125000000, d)

/-- An NTC result (R524): its rounding is not stated, and no result is stated where R is not positive or a parameter is no
number: there the value is free (log 72). -/
def Dev.ntc (s : Dev) (inv : Option Int) : (Int × Bool) × Dev :=
  let f := s.free
  match inv with
  | none => ((toSigned 32 (f.1 % 2^32), false), f.2)
  | some i => (clampRange (-80000) 300000 (ofInvT i + (f.1 % 2 : Nat)), f.2)

/-- A platinum result (R524), inverted to within 0.002 C: which value within that is free (log 72). -/
def Dev.pt (s : Dev) (r0 : Nat) (r : Int × Nat) : (Int × Bool) × Dev :=
  let f := s.free
  let den := r.2 * r0 * 1000
  let t := if ptRatio (-200000) * den > r.1 * 10^27 then -200001 else ptSearch r.1 den 21 (-200000)
  let v := clampRange (-200000) 850000 t
  if v.2 then (v, f.2) else ((max (-200000) (min 850000 (t + (f.1 % 5 : Nat) - 2)), false), f.2)

/-- VALUE and CURVE_RANGE of a valid sample (R524). -/
def Dev.convert (s : Dev) (c : Nat) (code comp : Int) : (Int × Bool) × Dev :=
  let r := s.resist c code comp
  let k := s.gf (F.MON_CH_CFG_SET c)
  let p := ofFloat (s.rd (R.MON_CURVE_P0 k))
  let q := ofFloat (s.rd (R.MON_CURVE_P1 k))
  let w := ofFloat (s.rd (R.MON_CURVE_P2 k))
  match s.gf (F.MON_CH_CFG_CURVE c) with
  | 1 => ((nearest (code * 1250000) (2^(23 + s.gf (F.MON_CH_CFG_GAIN c))), false), s)
  | 2 => (clampRange 0 (2^31 - 1) (nearest r.1 r.2), s)
  | 3 => s.pt 100 r
  | 4 => s.pt 1000 r
  | 5 => s.ntc (if r.1 ≤ 0 then none else betaInv r.1.toNat (r.2 * 1000) p q w)
  | 6 => s.ntc (if r.1 ≤ 0 then none else shInv r.1.toNat (r.2 * 1000) p q w)
  | _ => ((code, false), s)

/-! ## Settling (R517) -/

/-- A disturbance of a channel (R517). -/
def Dev.disturb (s : Dev) (c : Nat) : Dev :=
  let m := fset code0 s.mon.settle c (s.nSet c)
  { s with mon := { s.mon with settle := m } }

/-! ## Excitation and the sequencer (R519 to R522) -/

/-- Source `x` is dedicated to channel 0 or 1 (R522). -/
def Dev.dedicated (s : Dev) (x : Nat) : Bool :=
  s.on F.MON_CTRL_PAIR_RUN && (List.range 2).any (fun c =>
    s.on (F.MON_CH_CFG_EN c) && s.on (F.MON_CH_EXC_EN c) && s.gf (F.MON_CH_EXC_SRC c) == x)

/-- Put a CH_EXC word in force for a channel. -/
def Dev.putExc (s : Dev) (c : Nat) (w : Word) : Dev :=
  let m := fset (fun _ => 0#32) s.mon.exc c w
  { s with mon := { s.mon with exc := m } }

/-- Entries of the sequence (R534). -/
def Dev.seqLen (s : Dev) : Nat := min 32 (s.gf F.MON_SEQ_LEN_LEN)

/-- The entry names a sequenced channel that is enabled (R519). -/
def Dev.seqValid (s : Dev) (i : Nat) : Bool :=
  let c := s.gf (F.MON_SEQ_CH i)
  decide (2 ≤ c ∧ c < 24) && s.on (F.MON_CH_CFG_EN c)

/-- The dwell of entry `i` starts at a modulator cycle (R520, R521, R522): M2 and its decimators are reset. -/
def Dev.startDwell (s : Dev) (i cycle : Nat) : Dev :=
  let c := s.gf (F.MON_SEQ_CH i)
  let k := s.gf (F.MON_CH_CFG_COMP_CH c)
  let wants := s.gf (F.MON_CH_CFG_WIRING c) == 1
  let three := wants && decide (2 ≤ k ∧ k < 24 ∧ k ≠ c)
  let s := { s.sf F.MON_STATUS_ENTRY i with mon := { s.mon with dwell := some c, comp := false, three := three, start := cycle, own := [], paired := 0,
                                                                exc := s.mon.exc.filter (fun e => decide (e.1 < 2)) } }
  let w := s.rd (R.MON_CH_EXC c)
  let ded := bits w 31 1 == 1 && s.dedicated (bits w 28 2)
  let s := s.putExc c (if ded then w &&& 0x7FFFFFFF#32 else w)
  let s := if ded || (wants && !three) then s.raise C.MON_SET_ADJUSTED c else s
  (s.resetDec c cycle).disturb c

/-- The sequence goes on after entry `i - 1` at a modulator cycle (R519). -/
def Dev.seqFrom (s : Dev) (i cycle : Nat) : Dev :=
  let n := s.seqLen
  match ((List.range n).map (fun k => i + k)).find? (fun j => s.seqValid (j % n)) with
  | none => { s with mon := { s.mon with dwell := none } }
  | some j => (if n ≤ j then (s.sf F.MON_STATUS_PASSES (s.gf F.MON_STATUS_PASSES + 1)).event E.MON_PASS_DONE else s).startDwell (j % n) cycle

/-- The modulator cycle at which the present phase of the dwell ends (R519, R521): N_set + DWELL output periods each. -/
def Dev.phaseEnd (s : Dev) (c : Nat) : Nat :=
  s.mon.start + (1 + b2n s.mon.comp) * (s.nSet c + max 1 (s.gf (F.MON_SEQ_DWELL (s.gf F.MON_STATUS_ENTRY)))) * presetRatio (s.preset c)

/-- SEQ_DWELL_END (R519 to R521): the comparison phase of a three-wire entry follows, or the next entry. -/
def Dev.seqDwellEnd (s : Dev) : Dev :=
  match s.mon.dwell with
  | none => s
  | some c =>
    if !(s.on F.MON_CTRL_SEQ_RUN) then s
    else
      let z := s.phaseEnd c
      let s := s.advanceTo (cycleNs z)
      if s.mon.three ∧ !s.mon.comp then { s with mon := { s.mon with comp := true } }.disturb c
      else s.seqFrom (s.gf F.MON_STATUS_ENTRY + 1) z

/-! ## Samples (R517, R518, R521, R525) -/

/-- The CH_RAW word of a sample (R535). -/
def rawWord (valid uns open_ hz clip range : Bool) (code : Int) : Nat :=
  b2n valid * 2^31 + b2n uns * 2^30 + b2n open_ * 2^29 + b2n hz * 2^28 + b2n clip * 2^27 + b2n range * 2^26 + ofSigned 24 code

/-- The curve gives a temperature (R524). -/
def isTemp (k : Nat) : Bool := decide (3 ≤ k) && decide (k ≤ 6)

/-- Publish a sample: its flags and, where valid, its VALUE (R518, R524, R533); consumers take valid temperatures (R193). -/
def Dev.publish (s : Dev) (c : Nat) (code comp : Int) (t : Nat) (uns open_ clip : Bool) : Dev :=
  let valid := !uns && !open_
  let r := if valid then s.convert c code comp else ((0, false), s)
  let s := r.2
  let range := r.1.2
  let hz := bit s.mon.highZ c
  let m := s.mon
  let s := { s with mon := { m with openM := setBit m.openM c open_, overM := setBit m.overM c clip, rangeM := setBit m.rangeM c range } }
  let s := (s.wr (R.MON_CH_RAW c) (BitVec.ofNat 32 (rawWord valid uns open_ hz clip range code))).sf (F.MON_CH_TIME_NS c) (t % 2^32)
  let s := if open_ ≠ bit m.openM c then s.event E.MON_FLAG_CHANGE else s
  let s := if open_ && !(bit m.openM c) then s.raise C.MON_SENSOR_OPEN c else s
  let s := if clip && !(bit m.overM c) then s.raise C.MON_OVERRANGE c else s
  let s := if range && !(bit m.rangeM c) then s.raise C.MON_CURVE_RANGE c else s
  if valid then
    let s := s.si (F.MON_CH_VALUE_VALUE c) r.1.1
    if isTemp (s.gf (F.MON_CH_CFG_CURVE c)) then s.tempSample c (r.1.1 / 100) else s
  else s

/-- The channel is being converted (R519, R529). -/
def Dev.converting (s : Dev) (c : Nat) : Bool :=
  if c < 2 then s.on F.MON_CTRL_PAIR_RUN else s.on F.MON_CTRL_SEQ_RUN && s.mon.dwell == some c

/-- MON_SAMPLE (R513, R517, R518, R521, R525): the next sample of a channel's output grid completes, in its dwell where it is
sequenced; in the comparison phase of a three-wire entry it is the comparison input's. -/
def Dev.monSample (s : Dev) (ch : Fin 24) (m : MonIn) : Dev :=
  let c := ch.val
  let n := s.nextSample c
  let t := cycleNs n
  if !(s.converting c) || (decide (2 ≤ c) && decide (s.phaseEnd c < n)) then s
  else
    let r := (s.advanceTo t).decimate c m.words
    let code := r.1
    let s := r.2
    let clip := decide (99 * 2^23 ≤ 100 * code.natAbs)
    let uns0 := decide (fget code0 s.mon.settle c ≠ 0)
    let open_ := (m.compliance && bits (s.excOf c) 31 1 == 1) || (s.on (F.MON_CH_CFG_BURNOUT c) && !uns0 && clip)
    let s := if bit s.mon.openM c && !open_ then s.disturb c else s
    let left := fget code0 s.mon.settle c
    let uns := decide (left ≠ 0)
    let rest := fset code0 s.mon.settle c (left - 1)
    let s := { s with mon := { s.mon with settle := rest } }
    if c < 2 ∨ !s.mon.three then s.publish c code 0 t uns open_ clip
    else if uns || open_ then s.publish c code 0 t uns open_ clip
    else if !s.mon.comp then { s with mon := { s.mon with own := s.mon.own ++ [code] } }
    else match s.mon.own[s.mon.paired]? with
      | none => s
      | some a => { s with mon := { s.mon with paired := s.mon.paired + 1 } }.publish c a code t false false
          (decide (99 * 2^23 ≤ 100 * a.natAbs) || clip)

/-- TONE, in nA (R527, R534). -/
def Dev.toneNa (s : Dev) : Nat := 100 * min 100 (max 1 (s.gf F.MON_IMP_CFG_TONE))

/-- IMP_CFG.PERIOD, in modulator cycles (R527, R534). -/
def Dev.impPeriod (s : Dev) : Nat := 4096 * min 10000 (max 10 (s.gf F.MON_IMP_CFG_PERIOD))

/-- A check of the sequenced channel is due in this dwell (R527): PERIOD has passed since the last one began. -/
def Dev.impDue (s : Dev) (c : Nat) : Bool :=
  let last := fget code0 s.mon.impAt c
  last == 0 || decide (last - 1 + s.impPeriod ≤ s.mon.start)

/-- IMP_CHECK_DONE (R527, R528): the check of the first 1.000 ms of a dwell has demodulated an amplitude; the impedance is the
amplitude over the tone current. -/
def Dev.impCheckDone (s : Dev) (ch : Fin 24) (nanovolts : Nat) : Dev :=
  let c := ch.val
  if !(s.on F.MON_CTRL_IMP_EN && s.on (F.MON_CH_CFG_IMP c) && s.converting c) || s.preset c == 0 || !(s.impDue c) then s
  else
    let m := fset code0 s.mon.impAt c (s.mon.start + 1)
    let s := { s with mon := { s.mon with impAt := m } }.advanceTo (cycleNs (s.mon.start + 4096))
    let s := (s.sb (F.MON_CH_IMP_DONE c) true).sf (F.MON_CH_IMP_OHMS c) (min (2^24 - 1) (nanovolts / s.toneNa))
    let high := decide (s.gf (F.MON_CH_ZLIM_OHMS c) * s.toneNa < nanovolts)
    let s := if high ≠ bit s.mon.highZ c then s.event E.MON_FLAG_CHANGE else s
    let s := { s with mon := { s.mon with highZ := setBit s.mon.highZ c high } }
    if high then s.raise C.MON_HIGH_Z c else s

/-! ## The pair and the decimator sync (R529 to R532) -/

/-- A source that serves a dwell and becomes dedicated to the pair leaves the dwell's channel without excitation (R517, R522). -/
def Dev.dedicateSync (s : Dev) : Dev :=
  match s.mon.dwell with
  | none => s
  | some c =>
    let w := s.excOf c
    if bits w 31 1 == 1 && s.dedicated (bits w 28 2) then
      ((s.putExc c (w &&& 0x7FFFFFFF#32)).disturb c).raise C.MON_SET_ADJUSTED c
    else s

/-- Start or stop the privileged pair (R515, R522, R523, R529, R530). -/
def Dev.setPair (s : Dev) (on : Bool) : Dev :=
  let s := s.sb F.MON_CTRL_PAIR_RUN on
  if !on then { s with mon := { s.mon with exc := s.mon.exc.filter (fun e => decide (2 ≤ e.1)) } }
  else (forN 2 (fun c (s : Dev) =>
    let s := s.putExc c (s.rd (R.MON_CH_EXC c))
    let s := if s.gf (F.MON_CH_CFG_WIRING c) = 1 then s.raise C.MON_SET_ADJUSTED c else s
    (s.resetDec c (cycleFrom s.now)).disturb c) s).dedicateSync

/-- Start or stop the sequencer (R515, R519). -/
def Dev.setSeq (s : Dev) (on : Bool) : Dev :=
  let s := s.sb F.MON_CTRL_SEQ_RUN on
  if on then s.seqFrom 0 (cycleFrom s.now)
  else { s with mon := { s.mon with dwell := none, own := [], comp := false, exc := s.mon.exc.filter (fun e => decide (e.1 < 2)) } }

/-- A decimator sync of the pair at a modulator cycle (R530 to R532). -/
def Dev.decSyncCore (s : Dev) (cycle : Nat) : Dev :=
  if !(s.on F.MON_CTRL_PAIR_RUN) then s
  else if s.gf F.SCAN_STATUS_STATE ≠ 0 ∧ s.gf F.SCAN_STATUS_STATE ≠ 5 then
    (s.inc F.MON_SYNC_COUNTS_REFUSED).raise C.MON_SYNC_REFUSED
  else
    let s := forN 2 (fun c (s : Dev) => (s.resetDec c cycle).disturb c) s
    let s := s.sf F.MON_SYNC_LAST_NS (cycleNs cycle % 2^32)
    (s.inc F.MON_SYNC_COUNTS_SYNCS).event E.MON_SYNC_DONE

/-- A write of MON.CTRL (R515, R529, R531, R534). -/
def Dev.monCtrl (s : Dev) (w : Word) : Dev :=
  let pair := bits w 1 1 == 1
  let seq := bits w 0 1 == 1
  if s.on F.MON_CTRL_PAIR_RUN && !pair && (s.on F.SCAN_CTRL_FAST_EN || s.on F.SCAN_CTRL_SLOW_EN) then s.refuse .mon
  else
    let s := (s.sf F.MON_CTRL_IMP_EN (bits w 4 1)).sf F.MON_CTRL_SYNC_PIN_EN (bits w 3 1)
    let s := if pair = s.on F.MON_CTRL_PAIR_RUN then s else s.setPair pair
    let s := if seq = s.on F.MON_CTRL_SEQ_RUN then s else s.setSeq seq
    if bits w 2 1 = 1 then s.decSyncCore (cycleFrom (s.now + 1)) else s

/-- SYNC1_EDGE (R531): the reset comes with the first modulator cycle that begins 1 us or more after the edge. -/
def Dev.sync1Edge (s : Dev) : Dev :=
  if s.on F.MON_CTRL_SYNC_PIN_EN then
    let n := cycleFrom (s.now + 1000)
    (s.advanceTo (cycleNs n)).decSyncCore n
  else s

/-- CH_EXC (R520, R522): for channel 0 or 1 at once, for the others at their next dwell. -/
def Dev.excWrite (s : Dev) (c : Nat) (w : Word) : Dev :=
  let s := s.storeReg .mon (R.MON_CH_EXC c).off w
  if c < 2 ∧ s.on F.MON_CTRL_PAIR_RUN then ((s.putExc c (s.rd (R.MON_CH_EXC c))).disturb c).dedicateSync else s

/-- A write of COEF_DATA (R515, R534) at the requester's COEF_ADDR. -/
def Dev.coefWrite (s : Dev) (q : Requester) (w : Word) : Dev :=
  let p := s.gfQ q F.MON_COEF_ADDR_PRESET
  let k := s.gfQ q F.MON_COEF_ADDR_STAGE
  let t := s.gfQ q F.MON_COEF_ADDR_TAP
  if t < firTaps p k then
    let m := fset coef0 s.mon.coefs (512 * p + 64 * k + t) (some (bits w 0 24))
    { s with mon := { s.mon with coefs := m } }
  else s

/-- COEF_DATA as it reads for a requester (R534). -/
def Dev.coefRead (s : Dev) (q : Requester) : Nat :=
  let p := s.gfQ q F.MON_COEF_ADDR_PRESET
  let k := s.gfQ q F.MON_COEF_ADDR_STAGE
  let t := s.gfQ q F.MON_COEF_ADDR_TAP
  if t < firTaps p k then s.coefAt p k t else 0

end Sys2Proof.Machine
end

