-- ==== Sys2Proof/Machine/Thermal.lean ====
section
/-! DEFINITION. Thermal management (16_thermal_and_power.md): the model's samples, thresholds, throttling, modes. -/
namespace Sys2Proof.Machine

/-- Default of the store of tasks. -/
def task0 (_ : Nat) : TaskX := {}
/-- What a task slot keeps. -/
def Dev.task (s : Dev) (i : Nat) : TaskX := fget task0 s.tasks i
/-- Replace it. -/
def Dev.setTask (s : Dev) (i : Nat) (x : TaskX) : Dev := { s with tasks := fset task0 s.tasks i x }

/-- Default of the store of nodes. -/
def node0 (_ : Nat) : NodeX := {}
/-- A thermal node. -/
def Dev.node (s : Dev) (n : Nat) : NodeX := fget node0 s.therm.nodes n
/-- Replace it. -/
def Dev.setNode (s : Dev) (n : Nat) (x : NodeX) : Dev :=
  let m := fset node0 s.therm.nodes n x
  { s with therm := { s.therm with nodes := m } }

/-- One sample against a threshold (R547). -/
def ThresX.sample (x : ThresX) (v limit hyst : Int) : ThresX :=
  if limit < v then
    let u := min 10 (x.up + 1)
    { on := x.on || u == 10, up := u, down := 0 }
  else if v ≤ limit - hyst ∧ v < limit then
    let d := min 10 (x.down + 1)
    { on := x.on && d != 10, up := 0, down := d }
  else { x with up := 0, down := 0 }

/-- HYST, 0.1 C (R558). -/
def Dev.thermHyst (s : Dev) : Nat := max 1 (s.gf F.THERM_HYST_TEMP)
/-- P_CEIL in force (R10, R557): above the grade's value it acts as that value. -/
def Dev.pCeil (s : Dev) : Nat := min s.gradeCeil (s.gf F.PWR_P_CEIL_MW)
/-- GRACE, ns (R558). -/
def Dev.graceNs (s : Dev) : Nat := min 10000 (max 1 (s.gf F.THERM_CTRL_GRACE)) * 1000000

/-- A diode's reading and its node's estimate (R545). -/
def Dev.diodeSample (s : Dev) (d : Nat) (r : Option Int) : Dev :=
  let n := diodeNode d
  let x := s.node n
  let bad := bit s.therm.badDiodes d
  match r with
  | none =>
    let s := { s with therm := { s.therm with badDiodes := setBit s.therm.badDiodes d true } }
    let s := (s.sb (F.THERM_DIODE_VALID d) false).sb (F.THERM_NODE_TEMP_DIODE_DIRECT n) false
    let s := s.setNode n { x with far := 0, near := 0 }
    if bad then s else s.raise C.THERM_DIODE_FAULT d
  | some t =>
    let s := { s with therm := { s.therm with badDiodes := setBit s.therm.badDiodes d false } }
    let s := (s.sb (F.THERM_DIODE_VALID d) true).si (F.THERM_DIODE_TEMP d) t
    let m := s.gi (F.THERM_NODE_TEMP_TEMP n)
    let diff := (t - m).natAbs
    let direct := s.on (F.THERM_NODE_TEMP_DIODE_DIRECT n)
    let far := if 100 < diff then min 10 (x.far + 1) else 0
    let near := if diff ≤ 50 then min 10 (x.near + 1) else 0
    let s := s.setNode n { x with far := far, near := near }
    let now := if direct then near != 10 else far == 10
    let s := if now && !direct then s.raise C.THERM_MODEL_MISMATCH n else s
    (s.sb (F.THERM_NODE_TEMP_DIODE_DIRECT n) now).si (F.THERM_NODE_TEMP_TEMP n) (if now then t else m + (t - m) / 8)

/-- The thresholds of a node (R547, R548). -/
def Dev.nodeThresholds (s : Dev) (n : Nat) : Dev :=
  let t := s.gi (F.THERM_NODE_TEMP_TEMP n)
  let x := s.node n
  let h : Int := s.thermHyst
  let thr := x.thr.sample t (s.gi (F.THERM_NODE_LIMIT_THROTTLE n)) h
  let crit := x.crit.sample t (s.gi (F.THERM_NODE_LIMIT_CRIT n)) h
  let s := s.setNode n { x with thr := thr, crit := crit }
  let s := s.sf (F.THERM_NODE_TEMP_STATE n) (if crit.on then 2 else if thr.on then 1 else 0)
  if crit.on && !x.crit.on then s.raise C.THERM_OVERTEMP n else s

/-- A node's contribution to L_T (R549). -/
def Dev.nodeLevel (s : Dev) (n : Nat) : Nat :=
  let thr := s.gi (F.THERM_NODE_LIMIT_THROTTLE n)
  let e := (s.gi (F.THERM_NODE_TEMP_TEMP n) - thr).toNat
  if (s.node n).thr.on then min 255 (256 * e / (s.gi (F.THERM_NODE_LIMIT_CRIT n) - thr).toNat) else 0

/-- e of a node in EXCEEDED (R549). -/
def Dev.nodeExcess (s : Dev) (n : Nat) : Nat :=
  if (s.node n).thr.on then (s.gi (F.THERM_NODE_TEMP_TEMP n) - s.gi (F.THERM_NODE_LIMIT_THROTTLE n)).toNat else 0

/-- L_d (R549), with the free value it may take where P_CEIL is 0 (log 73). -/
def Dev.demandLevel (s : Dev) : Nat × Dev :=
  let lt := (List.range 24).foldl (fun m n => max m (s.nodeLevel n)) 0
  if !s.therm.power.on then (lt, s)
  else if s.pCeil = 0 then
    let f := s.free
    (max lt (f.1 % 256), f.2)
  else (max lt (min 255 (2048 * (s.gf F.PWR_P_EST_MW - s.pCeil) / s.pCeil)), s)

/-- x_k of a class at level L (R551). -/
def shotX (l off : Nat) : Nat := min 256 (3 * l - off)

/-- The open column and its frame are throttled (R388, R389, R552). -/
def Dev.throttleColumn (s : Dev) : Dev :=
  match s.column with
  | some c => { s with column := some { c with throttled := true } }.modFrame c.frame (fun f => { f with throttled := true })
  | none => s

/-- Put a throttle level in force (R549 to R552, R559). -/
def Dev.setLevel (s : Dev) (l : Nat) : Dev :=
  let old := s.gf F.THERM_STATUS_LEVEL
  if l = old then s
  else
    let s := if l = 0 then s else s.throttleColumn
    let s := (s.sf F.THERM_STATUS_LEVEL l).sf F.THERM_ENG_CLOCK_MHZ ((1000 - 500 * l / 256) / 25 * 25)
    let s := ((s.sf F.THERM_SHOT_X_C (shotX l 0)).sf F.THERM_SHOT_X_B (shotX l 256)).sf F.THERM_SHOT_X_A (shotX l 512)
    let s := s.event E.THERM_LEVEL_CHANGE
    if l = 0 then s.sb F.THERM_STATUS_ENFORCED false
    else if old = 0 then s.raise C.THERM_THROTTLING else s

/-- What requests throttling: the nodes above their thresholds by bit, the power ceiling as bit 24 (R555). -/
def Dev.exceeding (s : Dev) : Nat :=
  (List.range 24).foldl (fun m n => if (s.node n).thr.on then setBit m n true else m) (if s.therm.power.on then 2^24 else 0)

/-- A node is CRITICAL (R548). -/
def Dev.anyCritical (s : Dev) : Bool := (List.range 24).any (fun n => (s.node n).crit.on)

/-- The grace ends (R555, R556). -/
def Dev.endGrace (s : Dev) : Dev := { s with therm := { s.therm with graceEnd := none } }.sb F.THERM_STATUS_REQUESTED false

/-- The grace starts (R555). -/
def Dev.startGrace (s : Dev) : Dev :=
  let t := s.now + s.graceNs
  let s := { s with therm := { s.therm with graceEnd := some t, graceFor := s.exceeding } }.sb F.THERM_STATUS_REQUESTED true
  (s.inc F.THERM_REQUESTS_COUNT).event E.THERM_THROTTLE_REQUEST

/-- What a sample's L_d does (R548, R554, R555). -/
def Dev.applyDemand (s : Dev) : Dev :=
  let r := s.demandLevel
  let s := r.2.sf F.THERM_STATUS_LEVEL_REQ r.1
  let l := s.gf F.THERM_STATUS_LEVEL
  if s.anyCritical then s.endGrace.setLevel 255
  else if !(s.on F.THERM_STATUS_MODE) then s.setLevel r.1
  else
    let s := if s.therm.graceEnd.isSome ∧ s.exceeding = 0 then s.endGrace else s
    if r.1 ≤ l then s.setLevel r.1
    else if s.therm.graceEnd.isSome then s else s.startGrace

/-- A node lies above its throttle threshold less 5.0 C (R546). -/
def Dev.nearThreshold (s : Dev) : Bool :=
  (List.range 24).any (fun n => decide (s.gi (F.THERM_NODE_LIMIT_THROTTLE n) - 50 < s.gi (F.THERM_NODE_TEMP_TEMP n)))

/-- STATUS.RATE (R546). -/
def Dev.rateSync (s : Dev) : Dev :=
  let near := s.nearThreshold
  let c := if near then 0 else min 100 (s.therm.cool + 1)
  let s := { s with therm := { s.therm with cool := c } }
  let was := s.on F.THERM_STATUS_RATE
  let now := near || (was && c != 100)
  if now = was then s else (s.sb F.THERM_STATUS_RATE now).event E.THERM_RATE_CHANGE

/-- The power estimates of a sample (R544, R547, R559). -/
def Dev.powerSample (s : Dev) (env : ThermEnv) : Dev :=
  let s := forN 16 (fun m (s : Dev) => s.sf (F.PWR_IMON_MA m) (min 65535 (env.imon.getD m 0))) s
  let s := forN 4 (fun q (s : Dev) => s.sf (F.PWR_P_REGION_MW q) (min 65535 (env.regions.getD q 0))) s
  let s := s.sf F.PWR_P_EST_MW (min 65535 env.power)
  let x := s.therm.power.sample (s.gf F.PWR_P_EST_MW : Nat) (s.pCeil : Nat) (s.gf F.PWR_P_HYST_MW : Nat)
  let was := s.therm.power.on
  let s := { s with therm := { s.therm with power := x } }
  if x.on && !was then s.raise C.PWR_POWER_CEILING else s

/-- MODEL_SAMPLE (R544 to R549, R554, R555). -/
def Dev.modelSample (s : Dev) (env : ThermEnv) : Dev :=
  let us := if s.on F.THERM_STATUS_RATE then 100 else 1000
  let s := s.advanceTo (s.therm.lastAt + us * 1000)
  let tu := s.therm.throttledUs + (if s.gf F.THERM_STATUS_LEVEL = 0 then 0 else us)
  let s := { s with therm := { s.therm with lastAt := s.now, throttledUs := tu } }
  let s := s.sf F.THERM_THROTTLE_MS_MS (tu / 1000)
  let s := s.powerSample env
  let s := forN 24 (fun n (s : Dev) => s.si (F.THERM_NODE_TEMP_TEMP n) (env.nodes.getD n (s.gi (F.THERM_NODE_TEMP_TEMP n)))) s
  let s := forN 12 (fun d (s : Dev) => s.diodeSample d (env.diodes.getD d none)) s
  let s := forN 24 (fun n (s : Dev) => s.nodeThresholds n) s
  let s := s.sb F.THERM_STATUS_OVERTEMP s.anyCritical
  let hot := (List.range 24).foldl (fun m n => if s.nodeExcess m < s.nodeExcess n then n else m) 0
  let s := (s.sf F.THERM_STATUS_HOT_NODE hot).applyDemand.rateSync
  forN 24 (fun n (s : Dev) => s.tempSample (32 + n) (s.gi (F.THERM_NODE_TEMP_TEMP n))) s

/-- GRACE_EXPIRE (R555): where a quantity that caused the request still exceeds its threshold, L takes L_d. -/
def Dev.graceExpire (s : Dev) : Dev :=
  match s.therm.graceEnd with
  | none => s
  | some t =>
    let s := (s.advanceTo t).endGrace
    let l := s.gf F.THERM_STATUS_LEVEL_REQ
    if Nat.land s.exceeding s.therm.graceFor = 0 then s
    else (s.setLevel l).sb F.THERM_STATUS_ENFORCED (decide (l ≠ 0))

/-- GRACE_LEFT as it reads (R558). -/
def Dev.graceLeft (s : Dev) : Nat :=
  match s.therm.graceEnd with
  | none => 0
  | some t => (t - s.now) / 1000000

/-- A task of R553 is RUNNING. -/
def Dev.guardTask (s : Dev) : Bool :=
  (List.range 16).any (fun i => s.gf (F.TASK_STATUS_STATE i) == 2 &&
    (let x := s.task i
     x.code == 0x10 || x.code == 0x02 || (x.code == 0x01 && x.args.getD 2 0 % 2 == 1)))

/-- The conditions of GUARDED (R553). -/
def Dev.guarded (s : Dev) : Bool := !s.therm.served || s.guardTask || decide (s.now < s.therm.guardTo)

/-- Quarantined regions, as a mask. -/
def Dev.quarMask (s : Dev) : Nat := (List.range 4).foldl (fun m q => if (s.region q).quarantined then m + 2^q else m) 0

/-- STATUS.MODE follows R553; a change to SERVICE ends a grace (R556). -/
def Dev.modeSync (s : Dev) : Dev :=
  let hold := s.on F.TIME_STATUS_HOLDOVER
  let quar := s.quarMask
  let t := s.therm
  let ended := (t.sawHold && !hold) || decide (Nat.land t.sawQuar quar ≠ t.sawQuar)
  let s := if t.sawHold = hold ∧ t.sawQuar = quar then s
    else
      let g := if ended then s.now + 1000000000 else t.guardTo
      { s with therm := { t with sawHold := hold, sawQuar := quar, guardTo := g } }
  let g := s.guarded
  if g = s.on F.THERM_STATUS_MODE then s
  else
    let s := s.sb F.THERM_STATUS_MODE g
    if !g ∧ s.therm.graceEnd.isSome then s.endGrace else s

end Sys2Proof.Machine
end

