-- ==== Sys2Proof/Machine/Security.lean ====
section
/-! DEFINITION. Security, the Almanac recorder and flash (17_security_and_almanac.md): sections and their checks,
measurements, quotes, the frame key, rollback counters, the ring and its flushes, flash operations. -/
namespace Sys2Proof.Machine

/-! ## The Almanac ring (R577 to R582) -/

/-- Numbers as little-endian bytes. -/
def bytesLE : Nat → Nat → List Nat
  | 0, _ => []
  | n + 1, v => v % 256 :: bytesLE n (v / 256)

/-- A number from its bytes, most significant first. -/
def ofBE (bs : List Nat) : Nat := bs.foldl (fun a b => a * 256 + b) 0

/-- The first 28 bytes of a record (R577). -/
def AlmRec.head (r : AlmRec) : List Nat :=
  bytesLE 4 r.seq ++ bytesLE 2 r.code ++ bytesLE 2 (r.sev.val * 2^14 + b2n r.meridian * 2^13 + r.source % 512)
    ++ bytesLE 8 r.time ++ bytesLE 4 r.p0 ++ bytesLE 4 r.p1 ++ bytesLE 4 r.p2

/-- A record's 32 bytes (R577). -/
def AlmRec.bytes (r : AlmRec) : List Nat := r.head ++ bytesLE 4 (crc32 r.head)

/-- Once room returns, one RECORDS_LOST record carries the count (R578). -/
def Dev.lostSync (s : Dev) : Dev :=
  if s.lostSince = 0 then s
  else
    let s := if s.alm.lossRaised then s else { s with alm := { s.alm with lossRaised := true } }.raise C.ALM_RECORDS_LOST
    if s.almRoom .info then
      { s with lostSince := 0, alm := { s.alm with lossRaised := false } }.stage 0x0005 .degraded Page.alm.base s.lostSince 0 0
    else s

/-- FLUSH_DONE (R579): everything staged is in MRAM, 0.6 us per record. -/
def Dev.flushDone (s : Dev) : Dev :=
  if !(s.on F.ALM_STATUS_FLUSHING) then s
  else
    let s := s.advanceTo (s.alm.flushAt + 600 * (s.alm.flushed + s.staging.length))
    let s := s.flushN s.staging.length
    let s := { s with alm := { s.alm with lastFlush := s.now } }
    let s := (s.sb F.ALM_STATUS_FLUSHING false).inc F.ALM_FLUSHES_COUNT
    (s.event E.ALM_FLUSH_DONE).lostSync

/-- ALM_FLUSH (R579). -/
def Dev.almFlushCore (s : Dev) : Dev := s.startFlush

/-- ALM_FLUSH_TIMER (R579): 1 s since the last flush. -/
def Dev.almFlushTimer (s : Dev) : Dev := (s.advanceTo (s.alm.lastFlush + 1000000000)).startFlush

/-- The readable record with a SEQ, from staging or from the ring (R582). -/
def Dev.almRead (s : Dev) (q : Nat) : Option AlmRec :=
  match s.staging.find? (fun r => r.seq == q) with
  | some r => some r
  | none =>
    if s.gf F.ALM_OLDEST_SEQ_SEQ ≤ q ∧ q < s.gf F.ALM_FLUSHED_SEQ_SEQ then
      match fget slot0 s.alm.ring (q % almSlots) with
      | .valid r => if r.seq = q then some r else none
      | _ => none
    else none

/-- WINDOW[i] as it reads for a requester (R586). -/
def Dev.almWindow (s : Dev) (q : Requester) (i : Nat) : Nat :=
  match s.almRead ((s.gfQ q F.ALM_READ_SEQ_SEQ + i / 8) % 2^32) with
  | none => 0
  | some r => ofBE ((r.bytes.drop (4 * (i % 8))).take 4).reverse

/-! ## MRAM and flash bytes (R575, R587) -/

/-- Default of the store of MRAM bytes. -/
def byte0 (_ : Nat) : Nat := 0
/-- Default of the store of flash bytes: erased. -/
def byteFF (_ : Nat) : Nat := 255

/-- A byte of MRAM (R575, R581). -/
def Dev.mramByte (s : Dev) (a : Nat) : Nat :=
  if a < 0x400000 then fget byte0 s.mram.bytes a
  else match fget slot0 s.alm.ring ((a - 0x400000) / 32) with
    | .empty => 0
    | .valid r => r.bytes.getD (a % 32) 0
    | .torn f => Config.freeByte f a % 256

/-- A byte of flash (R587). -/
def Dev.flashByte (s : Dev) (a : Nat) : Nat := fget byteFF s.flash.bytes a

/-- Bytes of flash from an address. -/
def Dev.flashBytes (s : Dev) (a n : Nat) : List Nat := (List.range n).map (fun i => s.flashByte (a + i))

/-- Write bytes of flash. -/
def Dev.setFlash (s : Dev) (a n : Nat) (f : Nat → Nat) : Dev :=
  forN n (fun i (s : Dev) =>
    let m := fset byteFF s.flash.bytes (a + i) (f (a + i))
    { s with flash := { s.flash with bytes := m } }) s

/-- The range an operation touches: its start and length (R587). -/
def flashRange (op a : Nat) : Nat × Nat :=
  if op = 0 then (a / 4096 * 4096, 4096) else if op = 1 then (a / 65536 * 65536, 65536) else (a / 256 * 256, 256)

/-- Two ranges share a byte. -/
def overlaps (a n b m : Nat) : Bool := decide (a < b + m) && decide (b < a + n)

/-- The slot that holds the running firmware (R564, R584). -/
def Dev.runningSlot (s : Dev) : Nat := if s.on F.SEC_STATUS_BOOT_SLOT then 0x1000000 else 0

/-- An erase or program that R584 refuses; while no firmware runs, no slot holds any (R610). -/
def Dev.flashProtected (s : Dev) (op a : Nat) : Bool :=
  let r := flashRange op a
  decide (op ≤ 2) && ((!s.noFirmware && overlaps r.1 r.2 s.runningSlot 0x1000000)
    || (List.range 16).any (fun i => s.gf (F.TASK_STATUS_STATE i) == 2 && (s.task i).code == 0x21
        && overlaps r.1 r.2 ((s.task i).args.getD 0 0) (max 1 ((s.task i).args.getD 2 0))))

/-- A write of FLASH.CMD that sets GO (R584, R587): ERASE_4K 0, ERASE_64K 1, PROGRAM 2, READ 3. -/
def Dev.flashGo (s : Dev) (op : Nat) : Dev :=
  if s.on F.FLASH_STATUS_BUSY then s.refuse .flash
  else
    let a := s.gf F.FLASH_ADDR_ADDR
    let s := (s.sf F.FLASH_CMD_OP op).sb F.FLASH_STATUS_PROTECTED false
    if s.flashProtected op a then s.sb F.FLASH_STATUS_PROTECTED true
    else
      let w := (List.range 64).map (fun i => s.gf (F.FLASH_BUF_DATA i))
      let s := { s with flash := { s.flash with op := some (op, a, if op = 2 then w else []) } }
      (s.sb F.FLASH_STATUS_BUSY true).sb F.FLASH_STATUS_ERROR false

/-- What a page of flash holds after a program (R587): a byte that was not erased takes a free value (log 74). -/
def programByte (old new f a : Nat) : Nat := if old = 255 ∨ old = new then new else Config.freeByte f a % 256

/-- OP_DONE (R587): the operation's effect; after a failure the bytes it touched are free. -/
def Dev.opDone (s : Dev) (err : BitVec 2) : Dev :=
  match s.flash.op with
  | none => s
  | some (op, a, ws) =>
    let r := flashRange op a
    let f := s.free
    let s := { f.2 with flash := { f.2.flash with op := none } }
    let bs := ws.flatMap (fun w => bytesLE 4 w)
    let s := if op = 3 then (if err = 0#2 then
          forN 64 (fun i (s : Dev) => s.sf (F.FLASH_BUF_DATA i) (ofBE (s.flashBytes (r.1 + 4 * i) 4).reverse)) s
        else forN 64 (fun i (s : Dev) => s.sf (F.FLASH_BUF_DATA i) (Config.freeByte f.1 i)) s)
      else if err ≠ 0#2 then s.setFlash r.1 r.2 (fun b => Config.freeByte f.1 b % 256)
      else if op = 2 then s.setFlash r.1 r.2 (fun b => programByte (s.flashByte b) (bs.getD (b - r.1) 0) f.1 b)
      else { s with flash := { s.flash with bytes := fdrop (fun k => decide (r.1 ≤ k) && decide (k < r.1 + r.2)) s.flash.bytes } }
    let s := (s.sb F.FLASH_STATUS_BUSY false).sb F.FLASH_STATUS_ERROR (decide (err ≠ 0#2))
    (if err = 0#2 then s else s.raise C.FLASH_FLASH_ERROR).event E.FLASH_OP_DONE

/-! ## Measurements (R569) -/

/-- Extend a measurement register and log it. -/
def Dev.extend (s : Dev) (i type version d : Nat) : Dev :=
  let m := Config.sha256 (bytesBE 32 (s.sec.meas.getD i 0) ++ bytesBE 32 d) % 2^256
  let s := { s with sec := { s.sec with meas := s.sec.meas.set i m } }
  if s.sec.log.length < 128 then { s with sec := { s.sec with log := s.sec.log ++ [(i, type, version, d, s.now)] } }
  else s.sb F.SEC_STATUS_LOG_OVERFLOW true

/-- State of an owner slot: EMPTY 0, ACTIVE 1, REVOKED 2 (R560). -/
def Dev.ownerSlot (s : Dev) (i : Nat) : Nat := s.gf F.SEC_STATUS_OWNER_SLOTS / 4^i % 4

/-- Set an owner slot's state. -/
def Dev.setOwnerSlot (s : Dev) (i v : Nat) : Dev :=
  let w := s.gf F.SEC_STATUS_OWNER_SLOTS
  s.sf F.SEC_STATUS_OWNER_SLOTS (w - s.ownerSlot i * 4^i + v * 4^i)

/-- Some owner slot is ACTIVE. -/
def Dev.anyOwner (s : Dev) : Bool := (List.range 4).any (fun i => s.ownerSlot i == 1)

/-! ## Signed sections (R561 to R563) -/

/-- The header fields of a section that are used after its checks. -/
structure Section where
  base : Nat
  magic : Nat
  type : Nat
  signer : Nat
  hdr : Nat
  len : Nat
  version : Nat
  rollback : Nat
  device : Nat
  digest : Nat
  pubkey : Nat
  sig : Nat
  zeros : Bool
  deriving DecidableEq, Repr

/-- A field of a header, big-endian. -/
def Dev.flashBE (s : Dev) (a n : Nat) : Nat := ofBE (s.flashBytes a n)

/-- Read the section header at a flash offset (R561). -/
def Dev.secAt (s : Dev) (b : Nat) : Section :=
  { base := b, magic := s.flashBE b 4, type := s.flashByte (b + 4), signer := s.flashByte (b + 5), hdr := s.flashByte (b + 6),
    len := s.flashBE (b + 8) 4, version := s.flashBE (b + 0x0C) 4, rollback := s.flashByte (b + 0x10),
    device := s.flashBE (b + 0x20) 32, digest := s.flashBE (b + 0x40) 32, pubkey := s.flashBE (b + 0x60) 64,
    sig := s.flashBE (b + 0xA0) 64,
    zeros := s.flashByte (b + 7) == 0 && s.flashBE (b + 0x11) 15 == 0 && s.flashBE (b + 0xE0) 32 == 0 }

/-- Where the next section of an image starts (R561). -/
def Section.next (x : Section) : Nat := x.base + (256 + x.len + 4095) / 4096 * 4096

/-- SIGNER is allowed for TYPE (R563). -/
def signerAllowed (type signer : Nat) (owners : Bool) : Bool :=
  match type with
  | 1 | 3 => decide (signer ≤ 1)
  | 2 | 4 => decide (2 ≤ signer) && decide (signer ≤ 5)
  | 5 | 7 => decide (signer ≤ 5)
  | 6 => decide (signer ≤ 1) || (decide (signer ≤ 5) && owners)
  | _ => false

/-- The counter that governs a TYPE (R567). -/
def counterOf (type : Nat) : Fld :=
  match type with
  | 1 | 2 => F.SEC_ROLLBACK_FIRMWARE
  | 3 => F.SEC_ROLLBACK_KERNEL_MOALITH
  | 4 => F.SEC_ROLLBACK_KERNEL_OWNER
  | _ => F.SEC_ROLLBACK_CONFIG

/-- The signer's key may be used (R560, R562): a Moalith key by the revocation bit, an owner's by its slot and hash. -/
def Dev.signerOk (s : Dev) (x : Section) : Bool :=
  signerAllowed x.type x.signer s.anyOwner &&
    (if x.signer = 0 then !(s.on F.SEC_STATUS_MOALITH0_REVOKED)
    else if x.signer = 1 then s.on F.SEC_STATUS_MOALITH0_REVOKED
    else s.ownerSlot (x.signer - 2) == 1
      && Config.sha256 (bytesBE 64 x.pubkey) % 2^256 == s.sec.ownerHash.getD (x.signer - 2) 0)

/-- SHA-256 of the device identity public key (R561). -/
def deviceHash : Nat := Config.sha256 (bytesBE 64 (Config.identityPub % 2^512)) % 2^256

/-- The first check of R562 that a section fails, 0 where it passes all. -/
def Dev.checkSection (s : Dev) (x : Section) (type : Nat) : Nat :=
  if x.magic ≠ 0x4D485331 ∨ x.hdr ≠ 1 ∨ x.type ≠ type ∨ x.zeros = false ∨ 16777216 < x.len then 1
  else if s.signerOk x = false then 2
  else if (x.device ≠ 0 ∨ type = 6 ∨ type = 7) ∧ x.device ≠ deviceHash then 3
  else if x.rollback < s.gf (counterOf type) then 4
  else if Config.sha256 (s.flashBytes (x.base + 256) x.len) % 2^256 ≠ x.digest then 5
  else
    let key := if x.signer ≤ 1 then Config.moalithPub x.signer % 2^512 else x.pubkey
    let h := Config.sha256 (s.flashBytes x.base 0xA0) % 2^256
    if Config.verify key h x.sig then 0 else 6

/-- A countersign's payload is the DIGEST of the FIRMWARE section before it (R563). -/
def Dev.countersigns (s : Dev) (x : Section) (digest : Nat) : Bool :=
  x.len == 32 && s.flashBE (x.base + 256) 32 == digest

/-! ## Owner key orders and debug tokens (R568, R573) -/

/-- An OWNER_KEY order (R568): whether it was accepted, and the state after it. -/
def Dev.ownerOrder (s : Dev) (x : Section) : Bool × Dev :=
  let p := x.base + 256
  let order := s.flashByte p
  let slot := s.flashByte (p + 1)
  let hash := s.flashBE (p + 4) 32
  let others := (List.range 4).any (fun i => decide (i ≠ slot) && s.ownerSlot i == 1)
  let ok := x.len == 36 && decide (slot < 4) &&
    (match order with
      | 1 => s.ownerSlot slot == 0 && (s.anyOwner || decide (x.signer ≤ 1))
      | 2 => s.ownerSlot slot == 1 && (others || !(s.on F.SEC_STATUS_OWNER_COUNTERSIGN))
      | 3 => s.anyOwner
      | _ => false)
  if !ok then (false, s)
  else
    let s := match order with
      | 1 => { s.setOwnerSlot slot 1 with sec := { s.sec with ownerHash := s.sec.ownerHash.set slot hash } }
      | 2 => s.setOwnerSlot slot 2
      | _ => s.sb F.SEC_STATUS_OWNER_COUNTERSIGN true
    (true, (s.record 0x0053 .info Page.sec.base order slot).extend 3 6 x.version x.digest)

/-- A fresh CHALLENGE (R573): entropy the spec does not give. -/
def Dev.drawChallenge (s : Dev) : Dev :=
  let f := s.free
  { f.2 with sec := { f.2.sec with challenge := f.1 % 2^256 } }

/-- A DEBUG_TOKEN whose checks have passed (R573, R574): whether it was accepted; a new CHALLENGE follows. -/
def Dev.debugToken (s : Dev) (x : Section) : Bool × Dev :=
  let p := x.base + 256
  let level := s.flashByte (p + 32)
  let ok := x.len == 33 && s.flashBE p 32 == s.sec.challenge && (level == 1 || (level == 2 && decide (x.signer ≤ 1)))
  let s := s.drawChallenge
  if !ok then (false, s)
  else
    let s := s.sf F.SEC_STATUS_DEBUG_LEVEL (max level (s.gf F.SEC_STATUS_DEBUG_LEVEL))
    let s := { s.sb F.SEC_STATUS_FK_VALID false with sec := { s.sec with fkPend := false, fkStatement := [] } }
    let s := ((s.sf F.SEC_FK_ID_KEY_ID 0).extend 3 7 x.version x.digest).record 0x0054 .degraded Page.sec.base level x.signer
    (true, s.raise C.SEC_DEBUG_UNLOCKED)

/-! ## Rollback counters (R567) -/

/-- ROLLBACK of the section of a counter's type in use; none where there is none. -/
def Dev.rollbackInUse (s : Dev) (type : Nat) : Nat :=
  match type with
  | 0 => s.sec.fwRollback
  | 1 => s.sec.kernRollback.1
  | 2 => s.sec.kernRollback.2
  | _ => s.sec.bundleRollback.getD 0

/-- A counter's field in SEC.ROLLBACK, in its order from 0 (R585). -/
def counterFld (type : Nat) : Fld := [F.SEC_ROLLBACK_FIRMWARE, F.SEC_ROLLBACK_KERNEL_MOALITH, F.SEC_ROLLBACK_KERNEL_OWNER].getD type F.SEC_ROLLBACK_CONFIG

/-- ROLLBACK_ADV (R567). -/
def Dev.rollbackAdvCore (s : Dev) (type val : Nat) : Dev :=
  let f := counterFld type
  if s.gf f < val ∧ val ≤ s.rollbackInUse type ∧ val ≤ 64 then (s.sf f val).record 0x0052 .info Page.sec.base type val
  else s.refuse .sec

/-! ## Quotes and the frame key (R570 to R572, R574) -/

/-- The first 192 bytes of a quote (R570). -/
def Dev.quoteBytes (s : Dev) : List Nat :=
  (List.range 8).flatMap (fun i => bytesBE 4 (s.gf (F.SEC_NONCE_DATA i)))
    ++ s.sec.meas.flatMap (fun m => bytesBE 32 m)
    ++ bytesBE 4 (s.gf F.SEC_BOOT_COUNT_COUNT) ++ bytesBE 4 (s.rd R.CHIP_FW_VERSION).toNat
    ++ bytesBE 2 (s.gf (F.CLU_KBANK_VERSION 0))
    ++ [s.gf F.SEC_STATUS_DEBUG_LEVEL + b2n (s.on F.SEC_STATUS_LOG_OVERFLOW) * 128, s.gf F.SEC_STATUS_OWNER_SLOTS]
    ++ [s.gf F.SEC_ROLLBACK_FIRMWARE, s.gf F.SEC_ROLLBACK_KERNEL_MOALITH, s.gf F.SEC_ROLLBACK_KERNEL_OWNER, s.gf F.SEC_ROLLBACK_CONFIG]
    ++ bytesBE 8 s.now ++ bytesBE 4 (if s.on F.SEC_STATUS_FK_VALID then s.gf F.SEC_FK_ID_KEY_ID else 0) ++ [0, 0, 0, 0]

/-- SEC.CTRL.QUOTE_GO (R570, R588). -/
def Dev.quoteGoCore (s : Dev) : Dev :=
  if s.on F.SEC_STATUS_QUOTE_BUSY ∨ s.sec.keyFault = true then s.refuse .sec
  else { s with sec := { s.sec with quotePend := some s.quoteBytes } }.sb F.SEC_STATUS_QUOTE_BUSY true

/-- Bytes signed by the identity key (R560). -/
def signed (bs : List Nat) : List Nat :=
  bs ++ bytesBE 64 (Config.sign Config.identityKey (Config.sha256 bs % 2^256) % 2^512)

/-- QUOTE_READY (R570). -/
def Dev.quoteReady (s : Dev) : Dev :=
  match s.sec.quotePend with
  | none => s
  | some bs =>
    let s := { s with sec := { s.sec with quotePend := none, quote := signed bs } }
    ((s.sb F.SEC_STATUS_QUOTE_BUSY false).sb F.SEC_STATUS_QUOTE_VALID true).event E.SEC_QUOTE_READY

/-- SEC.CTRL.FK_ROTATE (R571, R574, R588). -/
def Dev.fkRotateCore (s : Dev) : Dev :=
  if s.gf F.SEC_STATUS_DEBUG_LEVEL ≠ 0 ∨ s.sec.keyFault = true then s.refuse .sec
  else { s with sec := { s.sec with fkPend := true } }

/-- FRAME_KEY (R571, R572, R395): a new key, its statement, and a new signing chain. -/
def Dev.frameKey (s : Dev) : Dev :=
  if !s.sec.fkPend ∨ s.sec.keyFault = true then s
  else
    let f := s.free
    let s := f.2
    let pub := Config.framePub f.1 % 2^512
    let id := Config.sha256 (bytesBE 64 pub) % 2^256 / 2^224
    let tai := if s.on F.TIME_CAL_CTRL_TAI_VALID then s.tai s.now else 0
    let st := signed (bytesBE 4 1 ++ bytesBE 4 id ++ bytesBE 2 s.unit ++ [0, 0] ++ bytesBE 4 (s.gf F.SEC_BOOT_COUNT_COUNT)
      ++ bytesBE 8 s.now ++ bytesBE 8 tai ++ bytesBE 64 pub)
    let s := { s with sec := { s.sec with fkPend := false, fkStatement := st }, stream := { s.stream with chainStart := true } }
    let s := (s.sf F.SEC_FK_ID_KEY_ID id).sb F.SEC_STATUS_FK_VALID true
    (s.record 0x0055 .info Page.sec.base id).event E.SEC_FRAME_KEY_CHANGED

/-- SEC.CTRL.BAR2_CLOSE (R574). -/
def Dev.bar2CloseCore (s : Dev) : Dev := (s.sb F.SEC_CTRL_BAR2_CLOSE true).sb F.SEC_STATUS_BAR2_CLOSED true

/-- Bytes of the object a window shows (R585); the certificate is words of the part. -/
def Dev.winObject (s : Dev) (sel : Nat) : List Nat :=
  match sel with
  | 1 => bytesBE 64 (Config.identityPub % 2^512)
  | 2 => s.sec.fkStatement
  | 3 => s.sec.quote
  | 4 => s.sec.log.flatMap (fun e => [e.1, e.2.1, 0, 0] ++ bytesBE 4 e.2.2.1 ++ bytesBE 32 e.2.2.2.1 ++ bytesBE 8 e.2.2.2.2)
  | 5 => bytesBE 32 s.sec.challenge
  | _ => []

/-- WIN_DATA as it reads for a requester (R585). -/
def Dev.winWord (s : Dev) (q : Requester) : Nat :=
  let w := s.gfQ q F.SEC_WIN_SEL_WORD
  if s.gfQ q F.SEC_WIN_SEL_SEL = 0 then Config.certWord w % 2^32
  else ofBE (((s.winObject (s.gfQ q F.SEC_WIN_SEL_SEL)).drop (4 * w)).take 4)

/-- WIN_DATA (R585): a read advances the requester's WORD. -/
def Dev.winDataCore (s : Dev) (req : Requester) : Nat × Dev :=
  (s.winWord req, s.sfQ req F.SEC_WIN_SEL_WORD (s.gfQ req F.SEC_WIN_SEL_WORD + 1))

end Sys2Proof.Machine
end

