-- ==== Sys2Proof/Machine/Reserve.lean ====
section
/-! DEFINITION. Reserves and wear (18_reserves_and_lifetime.md): what a swap replaces, whether a reserve is left, the
moment a substitution takes effect. Units are numbered within their kind: converter 17 b + i, slice 4 b + s, engine
16 k + l, bank 33 q + n, lane n, MRAM row r. -/
namespace Sys2Proof.Machine

/-- Kinds of reserve (R589). -/
def kConverter : Nat := 0
/-- A waveform slice. -/
def kSlice : Nat := 1
/-- An Echo engine. -/
def kEngine : Nat := 2
/-- A pool bank. -/
def kBank : Nat := 3
/-- A lane. -/
def kLane : Nat := 4
/-- An MRAM row. -/
def kRow : Nat := 5

/-- The unit that a kind, a TARGET page and ARG1 name (R591); none for a kind that does not match its TARGET or an argument
out of its range. -/
def swapUnit (kind : Nat) (g : Page) (a1 : Nat) : Option Nat :=
  match g with
  | .bay b => if kind = 0 ∧ a1 < 16 then some (17 * b + 2 * (a1 % 8) + a1 / 8)
      else if kind = 1 ∧ a1 < 4 then some (4 * b + a1) else none
  | .clu k => if kind = 2 ∧ a1 < 16 then some (16 * k + a1) else none
  | .pool q => if kind = 3 ∧ a1 < 32 then some (33 * q + a1) else none
  | .lane n => if kind = 4 ∧ a1 = 0 ∧ 6 ≤ n then some n else none
  | .sec => if kind = 5 ∧ a1 < 8192 then some a1 else none
  | _ => none

/-- The TARGET page and ARG1 of a unit's swap (R591). -/
def swapTarget (kind unit : Nat) : Page × Nat :=
  match kind with
  | 0 => (.bay (unit / 17), unit % 17 % 2 * 8 + unit % 17 / 2)
  | 1 => (.bay (unit / 4), unit % 4)
  | 2 => (.clu (unit / 16), unit % 16)
  | 3 => (.pool (unit / 33), unit % 33)
  | 4 => (.lane unit, 0)
  | _ => (.sec, unit)

/-- The swap that has used the reserve of a unit's group: the bay, cluster, region or chain port it lies in; MRAM rows
share 256 (R589). -/
def Dev.swapOf (s : Dev) (kind unit : Nat) : Option Nat :=
  (s.mram.swaps.find? (fun e => e.1 == kind && (match kind with
    | 0 => e.2 / 17 == unit / 17
    | 1 => e.2 / 4 == unit / 4
    | 2 => e.2 / 16 == unit / 16
    | 3 => e.2 / 33 == unit / 33
    | 4 => portOf e.2 == portOf unit
    | _ => false))).map (·.2)

/-- A unit that a swap has replaced (R589). -/
def Dev.retired (s : Dev) (kind unit : Nat) : Bool := s.mram.swaps.contains (kind, unit)

/-- A unit that is itself a reserve: engine 15, bank 32, the spare converter, lanes 8 and 11 (R589, R591). -/
def isReserve (kind unit : Nat) : Bool :=
  match kind with
  | 0 => unit % 17 == 16
  | 2 => unit % 16 == 15
  | 3 => unit % 33 == 32
  | 4 => unit == 8 || unit == 11
  | _ => false

/-- No reserve of the kind remains for a unit (R589, R591). -/
def Dev.noReserve (s : Dev) (kind unit : Nat) : Bool :=
  if kind = 5 then decide (256 ≤ (s.mram.swaps.filter (fun e => e.1 == 5)).length) else (s.swapOf kind unit).isSome

/-- The reserve of a unit's group serves in the place of `u`: the registers that show it (R122, R277, R345, R433, R596). -/
def Dev.showSwap (s : Dev) (kind u : Nat) : Dev :=
  match kind with
  | 0 =>
    let b := u / 17
    let c := u % 17 / 2
    let e := u % 17 % 2
    let s := ((s.sb (F.BAY_SPARE_STATUS_IN_USE b) true).sf (F.BAY_SPARE_STATUS_CH b) c).sf (F.BAY_SPARE_STATUS_EDGE b) e
    let s := s.sb (F.BAY_CH_STATUS_SPARE b c) true
    ((s.sb (F.RES_BAY_SWAP_CONV_USED b) true).sf (F.RES_BAY_SWAP_CONV_CH b) c).sf (F.RES_BAY_SWAP_CONV_EDGE b) e
  | 1 =>
    let b := u / 4
    let s := (s.sb (F.BAY_WAVE_STATUS_SPARE_IN_USE b) true).sf (F.BAY_WAVE_STATUS_SPARE_FOR b) (u % 4)
    (s.sb (F.RES_BAY_SWAP_SLICE_USED b) true).sf (F.RES_BAY_SWAP_SLICE_FOR b) (u % 4)
  | 2 => (s.sb (F.RES_ENG_SWAP_USED (u / 16)) true).sf (F.RES_ENG_SWAP_REPLACED (u / 16)) (u % 16)
  | 3 =>
    let q := u / 33
    let s := (s.sb (F.POOL_ECC_STATUS_SPARE_IN_USE q) true).sf (F.POOL_ECC_STATUS_SPARE_FOR q) (u % 33)
    (s.sb (F.RES_BANK_SWAP_USED q) true).sf (F.RES_BANK_SWAP_BANK q) (u % 33)
  | 4 =>
    let sp := if u < 9 then 8 else 11
    let logical := (u - 6) % 3
    let s := (s.sf (F.LANE_LINK_STATUS_ROLE sp) logical).sf (F.LANE_LINK_STATUS_ROLE u) 3
    if u < 9 then (s.sb F.RES_LANE_SPARE_A_USED true).sf F.RES_LANE_SPARE_A_REPLACED logical
    else (s.sb F.RES_LANE_SPARE_B_B_USED true).sf F.RES_LANE_SPARE_B_B_REPLACED logical
  | _ => s

/-- REMAIN and RESERVE_GEN follow the assignments (R596). -/
def Dev.remainSync (s : Dev) : Dev :=
  let left := fun (n k : Nat) => n - (s.mram.swaps.filter (fun e => e.1 == k)).length
  let s := ((s.sf F.RES_REMAIN_CONVERTERS (left 48 0)).sf F.RES_REMAIN_SLICES (left 48 1)).sf F.RES_REMAIN_ENGINES (left 32 2)
  let s := ((s.sf F.RES_REMAIN_BANKS (left 4 3)).sf F.RES_REMAIN_LANES (left 2 4)).sf F.RES_REMAIN_MRAM_ROWS (left 256 5)
  s.sf F.RES_RESERVE_GEN_GEN s.mram.reserveGen

/-- The assignments in effect are applied at boot (R589). -/
def Dev.applySwaps (s : Dev) : Dev :=
  let s := s.mram.swaps.foldl (fun (s : Dev) e =>
    let s := s.showSwap e.1 e.2
    if e.1 = kEngine then (s.sf (F.CLU_ENG_STATUS_STATE (e.2 / 16) 15) 1).sf (F.CLU_ENG_STATUS_STATE (e.2 / 16) (e.2 % 16)) 3
    else s) s
  s.remainSync

/-- What else a substitution does as it takes effect (R429, R593): a quarantine is lifted, the spare lane wakes and trains
as the logical lane, and the replaced one sleeps. -/
def Dev.swapEffect (s : Dev) (kind u : Nat) : Dev :=
  match kind with
  | 0 =>
    let b := u / 17
    let c := u % 17 / 2
    let s := s.calSync b
    let s := if s.gf (F.BAY_CH_STATUS_STATE b c) ≠ 0 ∧ s.gf (F.BAY_CH_STATUS_FAILED_PART b c) = 2 + u % 17 % 2 then
        ((s.sf (F.BAY_CH_STATUS_FAULT b c) 0).sf (F.BAY_CH_STATUS_FAILED_PART b c) 0).setChState b c 0
      else s
    if s.gf (F.BAY_CH_STATUS_STATE b c) = 0 ∧ !(s.on (F.BAY_CH_STATUS_CAL_VALID b c)) then
      s.raise (C.BAY_CAL_INVALID b) c else s
  | 1 => (s.sliceSync (u / 4)).uncorrected (u / 4) [u % 4]
  | 2 =>
    let k := u / 16
    (s.setEngState (16 * k + 15) 1).setEngState u (s.engState u)
  | 4 =>
    let sp := if u < 9 then 8 else 11
    let s := s.sendSleep u 4
    let s := (s.sb (F.LANE_LINK_STATUS_TX_ASLEEP u) true).sb (F.LANE_LINK_STATUS_RX_ASLEEP u) true
    let s := (s.setLaneX u { s.laneX u with attempt := none }).setLaneState u 6
    let s := (s.sb (F.LANE_LINK_STATUS_TX_ASLEEP sp) false).sb (F.LANE_LINK_STATUS_RX_ASLEEP sp) false
    (((s.sb (F.LANE_LINK_STATUS_BLOCK_LOCK sp) false).setLaneState sp 1).startAttempt sp).widthSync (portOf u)
  | _ => s

/-- A substitution takes effect (R592 to R594): stored in MRAM, RESERVE_GEN rises, the unit replaced is retired. -/
def Dev.substitute (s : Dev) (kind u : Nat) : Dev :=
  let l := s.mram.swaps ++ [(kind, u)]
  let g := (s.mram.reserveGen + 1) % 2^32
  let s := { s with mram := { s.mram with swaps := l, reserveGen := g } }
  ((s.showSwap kind u).swapEffect kind u).remainSync

end Sys2Proof.Machine
end

