-- ==== Sys2Proof/Machine/Tasks.lean ====
section
/-! DEFINITION. Tasks (02_control_model.md, R68 to R76): submission, start, steps in rotation, ends, and the steps of every
task code. -/
namespace Sys2Proof.Machine

/-! ## Slots -/

/-- STATUS.STATE of a slot (R68). -/
def Dev.slotState (s : Dev) (i : Nat) : Nat := s.gf (F.TASK_STATUS_STATE i)
/-- STEPS_DONE of a slot. -/
def Dev.stepsDone (s : Dev) (i : Nat) : Nat := s.gf (F.TASK_PROGRESS_STEPS_DONE i)
/-- A slot is QUEUED or RUNNING. -/
def Dev.slotLive (s : Dev) (i : Nat) : Bool := s.slotState i == 1 || s.slotState i == 2
/-- An argument of a task as submitted. -/
def TaskX.arg (x : TaskX) (i : Nat) : Nat := x.args.getD i 0
/-- The page a TARGET names (R68). -/
def targetPage (t : Nat) : Option Page := (decodeAddr (t * 4096)).map (·.1)

/-- Bits set in a mask of `n` bits, lowest first. -/
def maskBits (n m : Nat) : List Nat := (List.range n).filter (fun i => bit m i)

/-- Every converter that a CAL_TDC had detached goes back at the next frame start (R142, R143). -/
def Dev.dropCalTdc (s : Dev) (b mask : Nat) : Dev :=
  (maskBits 17 mask).foldl (fun (s : Dev) i =>
    let x := s.conv b i
    s.setConv b i { x with detachReq := false, attachReq := x.detached, running := false, runs := [], aborted := false,
                           standIn := x.standIn && x.detached }) s

/-- CAL_WAVE ends: the digitiser takes other captures again (R343). -/
def Dev.dropCalWave (s : Dev) (b : Nat) : Dev :=
  let s := forN 8 (fun k (s : Dev) => s.setSlice b k { s.slice b k with calEst := [] }) s
  (s.sb (F.BAY_WAVE_STATUS_CAL_BUSY b) false).pointerSync b

/-- A task ends (R74, R75): its slot shows how, and the Almanac records it. -/
def Dev.endTask (s : Dev) (i state reason value : Nat) : Dev :=
  let x := s.task i
  let ran := s.slotState i == 2
  let s := ((s.sf (F.TASK_STATUS_STATE i) state).sf (F.TASK_RESULT_REASON i) reason).sf (F.TASK_RESULT_VALUE i) value
  let q := s.taskQueue.filter (· != i)
  let r := s.taskRun.filter (· != i)
  let s := { s with taskQueue := q, taskRun := r }
  let s := s.setTask i { x with cancel := false, latchAt := none }
  let s := match targetPage x.target with
    | some (.bay b) =>
      if ran ∧ x.code = 0x01 then s.dropCalTdc b (x.arg 0) else if ran ∧ x.code = 0x02 then s.dropCalWave b else s
    | _ => s
  s.record 0x0020 .info Page.task.base i (x.code * 65536 + x.target) (state * 65536 + s.stepsDone i)

/-- DONE, unless the task's own rule makes it FAILED with REJECTED (R74). -/
def Dev.taskDone (s : Dev) (i : Nat) : Dev :=
  let x := s.task i
  let v := s.gf (F.TASK_RESULT_VALUE i)
  match x.code with
  | 0x01 => if x.rejected = 0 then s.endTask i 3 0 0 else s.endTask i 4 8 x.rejected
  | 0x02 =>
    if x.rejected = 0 then s.endTask i 3 0 0
    else
      let b := match targetPage x.target with | some (.bay b) => b | _ => 0
      (s.endTask i 4 8 x.rejected).raise C.CAL_WAVE_REJECTED b
  | 0x10 => (s.endTask i 3 0 x.rejected).event E.RES_BIST_DONE
  | 0x30 => (s.endTask i 3 0 0).event E.RES_SWAP_DONE
  | _ => s.endTask i 3 0 v

/-- A step commits (R71, R75); a CANCEL that came during it ends the task there as CANCELLED, the last step included (R73);
after the last one the task is else DONE. -/
def Dev.commitStep (s : Dev) (i : Nat) : Dev :=
  let x := s.task i
  let n := s.stepsDone i + 1
  let s := s.sf (F.TASK_PROGRESS_STEPS_DONE i) n
  let s := if x.code = 0x20 ∨ x.code = 0x30 then s.record 0x0021 .info Page.task.base i x.code n else s
  if x.cancel then s.endTask i 5 1 0
  else if x.total ≤ n then s.taskDone i
  else s

/-! ## Submission (R68 to R70) -/

/-- The CONFIG section's payload is in the bundle buffer and a range lies within it; the destination lies within CAL or
within CONFIG (R576). -/
def Dev.mramArgsOk (s : Dev) (a : List Nat) : Bool :=
  let src := a.getD 0 0
  let dst := a.getD 1 0
  let n := a.getD 2 0
  s.sec.bundleRollback.isSome && decide (src + n ≤ s.sec.bundleLen)
    && ((decide (0x200000 ≤ dst) && decide (dst + n ≤ 0x300000)) || (decide (0x300000 ≤ dst) && decide (dst + n ≤ 0x400000)))

/-- The arguments of RESERVE_SWAP (R591). -/
def Dev.swapArgsOk (s : Dev) (g : Page) (a : List Nat) : Bool :=
  a.getD 2 0 == 0 && (match swapUnit (a.getD 0 0) g (a.getD 1 0) with
    | none => false
    | some u =>
      let kind := a.getD 0 0
      let free := match g with
        | .bay b => decide (kind ≠ 0) || s.gf (F.BAY_CH_STATUS_STATE b (u % 17 / 2)) == 0
            || s.gf (F.BAY_CH_STATUS_FAILED_PART b (u % 17 / 2)) != 1
        | _ => true
      free && !(s.retired kind u) && (!(isReserve kind u) || (s.swapOf kind u).isSome))

/-- A task's code, target and arguments are ones its chapter accepts (R69, R140, R342, R394, R565, R576, R591, R595). -/
def Dev.taskArgsOk (s : Dev) (code target : Nat) (a : List Nat) : Bool :=
  let a0 := a.getD 0 0
  let a1 := a.getD 1 0
  let a2 := a.getD 2 0
  match targetPage target with
  | none => false
  | some g => match code with
    | 0x01 => (match g with
        | .bay b => a0 != 0 && decide (a0 < 2^17) && (a1 == 0 || (decide (16 ≤ a1) && decide (a1 ≤ 24))) && decide (a2 ≤ 1)
            && !(a2 == 0 && a0 % 2^16 != 0 && s.on (F.BAY_SPARE_STATUS_IN_USE b))
        | _ => false)
    | 0x02 => (match g with
        | .bay _ => a0 != 0 && decide (a0 < 32) && (a1 == 0 || (decide (8 ≤ a1) && decide (a1 ≤ 14))) && a2 == 0
        | _ => false)
    | 0x10 => (match g with | .clu _ | .bay _ | .pool _ => a0 == 0 && a1 == 0 && a2 == 0 | _ => false)
    | 0x20 => g == .sec && s.mramArgsOk a
    | 0x21 => decide (a1 ≤ 4) && a0 % 4096 == 0 && (match g with | .clu _ => a1 == 1 | .sec => a1 != 1 | _ => false)
        && (a1 != 0 || a0 == 0x1000000 - s.runningSlot)
    | 0x30 => s.swapArgsOk g a
    | 0x40 => g == .stream && decide (a0 / 2^28 ≤ 1) && a0 % 2^28 / 4 == 0 && decide (1 ≤ a2) && decide (a1 + a2 ≤ 0x800000)
        && (a0 / 2^28 == 1 || decide (0x200000 ≤ a1)) && s.streamState == 1
    | _ => false

/-- Codes that conflict on one target (R70, R143, R343, R394, R565, R576, R594). -/
def conflicts (c d : Nat) : Bool :=
  let one := fun (c d : Nat) => match c with
    | 0x01 => d == 0x01 || d == 0x30
    | 0x02 => d == 0x02 || d == 0x30
    | 0x10 => d == 0x30
    | 0x20 => d == 0x20 || d == 0x21
    | 0x21 => d == 0x21 || d == 0x20
    | 0x30 => d == 0x30
    | 0x40 => d == 0x40
    | _ => false
  one c d || one d c

/-- The target is that of a QUEUED or RUNNING task with a conflicting code (R70). -/
def Dev.inConflict (s : Dev) (code target : Nat) : Bool :=
  (List.range 16).any (fun i => s.slotLive i && (s.task i).target == target && conflicts code (s.task i).code)

/-- A slot takes what its OP and ARG registers say, and its status starts anew (R68). -/
def Dev.loadSlot (s : Dev) (i : Nat) (q : Requester) : Dev :=
  let x : TaskX := { code := s.gf (F.TASK_OP_CODE i), target := s.gf (F.TASK_OP_TARGET i),
                     args := [s.gf (F.TASK_ARG0_ARG i), s.gf (F.TASK_ARG1_ARG i), s.gf (F.TASK_ARG2_ARG i)] }
  ((((s.setTask i x).wr (R.TASK_PROGRESS i) 0#32).wr (R.TASK_RESULT i) 0#32).wr (R.TASK_STATUS i) 0#32).sf
    (F.TASK_STATUS_REQ i) q.code

/-- A slot joins the queue. -/
def Dev.queueSlot (s : Dev) (i : Nat) : Dev := { s with taskQueue := s.taskQueue ++ [i] }

/-- The code, target and arguments of a FREE slot are ones its chapter accepts (R69). -/
def Dev.slotArgsOk (s : Dev) (i : Nat) : Bool :=
  s.taskArgsOk (s.gf (F.TASK_OP_CODE i)) (s.gf (F.TASK_OP_TARGET i))
    [s.gf (F.TASK_ARG0_ARG i), s.gf (F.TASK_ARG1_ARG i), s.gf (F.TASK_ARG2_ARG i)]

/-- The slot's task conflicts with one that is QUEUED or RUNNING (R70). -/
def Dev.slotConflict (s : Dev) (i : Nat) : Bool := s.inConflict (s.gf (F.TASK_OP_CODE i)) (s.gf (F.TASK_OP_TARGET i))

/-- GO (R68 to R70). -/
def Dev.taskGo (s : Dev) (i : Nat) (q : Requester) : Dev :=
  if s.slotState i ≠ 0 then s.refuse .task
  else if !(s.slotArgsOk i) then (s.loadSlot i q).endTask i 4 3 0
  else if s.slotConflict i then (s.loadSlot i q).endTask i 4 2 0
  else ((s.loadSlot i q).queueSlot i).sf (F.TASK_STATUS_STATE i) 1

/-- A slot the firmware can use: FREE, else one whose own task has ended, which it releases (log 80). -/
def Dev.ownSlot (s : Dev) (p : Nat → Bool) : Option Nat :=
  match (List.range 16).find? (fun i => s.slotState i == 0 && p i) with
  | some i => some i
  | none => (List.range 16).find? (fun i => decide (3 ≤ s.slotState i) && s.gf (F.TASK_STATUS_REQ i) == 0 && p i)

/-- The firmware submits a task of its own in slot `i`. -/
def Dev.submitIn (s : Dev) (i code target : Nat) (a0 a1 a2 : Nat) : Dev :=
  let s := s.sf (F.TASK_STATUS_STATE i) 0
  let s := (s.sf (F.TASK_OP_CODE i) code).sf (F.TASK_OP_TARGET i) target
  let s := ((s.sf (F.TASK_ARG0_ARG i) a0).sf (F.TASK_ARG1_ARG i) a1).sf (F.TASK_ARG2_ARG i) a2
  s.taskGo i .firmware

/-! ## Start (R70, R71) -/

/-- The target can take a step (R74): ON and neither paused nor quarantined; a calibration needs RUN = ACTIVE and CAL_WAVE the
digitiser ON (R143, R343), an export a RUNNING stream (R394). -/
def Dev.targetUp (s : Dev) (x : TaskX) : Bool :=
  match targetPage x.target with
  | none => false
  | some g =>
    let quar := match g with
      | .bay b => (s.region (b / 12)).quarantined
      | .clu k => (s.region (k / 8)).quarantined
      | .pool q => (s.region q).quarantined
      | _ => false
    s.isOn g && s.run g != rPaused && !quar
      && (match g with
        | .bay b => (decide (x.code ≠ 0x01) && decide (x.code ≠ 0x02)) || s.run g == rActive
            && (decide (x.code ≠ 0x02) || s.waveState b == 2)
        | .stream => s.streamState == 1
        | _ => true)

/-- Units a BIST tests (R595); the spare bank only while it is not in use. -/
def Dev.bistUnits (s : Dev) (g : Page) : Nat :=
  match g with
  | .clu _ => 16
  | .bay _ => 2
  | .pool q => if s.on (F.POOL_ECC_STATUS_SPARE_IN_USE q) then 0 else 1
  | _ => 0

/-- The sections of an image of a KIND at a flash offset, with the TYPE each must have (R563, R565): FIRMWARE 0, KERNEL 1,
CONFIG 2, OWNER_KEY 3, DEBUG_TOKEN 4. -/
def Dev.imageSections (s : Dev) (kind a : Nat) : List (Nat × Nat) :=
  let x := s.secAt a
  match kind with
  | 0 => if s.on F.SEC_STATUS_OWNER_COUNTERSIGN then [(a, 1), (x.next, 2)] else [(a, 1)]
  | 1 =>
    let y := s.secAt x.next
    if y.magic = 0x4D485331 ∧ y.type = 4 then [(a, 3), (x.next, 4)] else [(a, 3)]
  | 2 => [(a, 5)]
  | 3 => [(a, 6)]
  | _ => [(a, 7)]

/-- Installation steps (R566). -/
def Dev.installSteps (s : Dev) (kind : Nat) (secs : List (Nat × Nat)) : Nat :=
  match kind with
  | 1 => max 1 ((secs.foldl (fun n e => n + (s.secAt e.1).len) 0 + 8191) / 8192)
  | 2 => 0
  | _ => 1

/-- Steps of 16 KiB of payload (R565). -/
def Dev.hashSteps (s : Dev) (secs : List (Nat × Nat)) : Nat :=
  secs.foldl (fun n e => n + ((s.secAt e.1).len + 16383) / 16384) 0

/-- Steps of a task as it starts (R141, R342, R394, R565, R576, R591, R595). -/
def Dev.stepsOf (s : Dev) (x : TaskX) : Nat :=
  match x.code with
  | 0x01 => 4 * (maskBits 17 (x.arg 0)).length
  | 0x02 => 3 + (maskBits 5 (x.arg 0)).length
  | 0x10 => match targetPage x.target with | some g => s.bistUnits g | none => 0
  | 0x20 => (x.arg 2 + 4095) / 4096
  | 0x21 => s.hashSteps x.sections + x.sections.length + s.installSteps (x.arg 1) x.sections
  | 0x30 => match x.arg 0 with | 3 => 7 | _ => 3
  | 0x40 => (x.arg 2 + 8063) / 8064
  | _ => 0

/-- What the headers of an image say at start (R565): BAD_ARG with its VALUE, or nothing. -/
def Dev.imageBad (s : Dev) (x : TaskX) : Option Nat :=
  let last := (x.sections.getLast?.getD (0, 0)).1
  if x.arg 2 < last + 256 + (s.secAt last).len - x.arg 0 then some 0
  else if x.arg 1 = 2 ∧ 262144 < (s.secAt (x.arg 0)).len then some 0
  else none

/-- The oldest queued task that may start: a BIST waits while ENFORCED reads 1 (R555). -/
def Dev.nextStart (s : Dev) : Option Nat :=
  s.taskQueue.find? (fun i => (s.task i).code != 0x10 || !(s.on F.THERM_STATUS_ENFORCED))

/-- What a starting task takes from the flash headers (R563, R565). -/
def Dev.startX (s : Dev) (i : Nat) : TaskX :=
  let x := s.task i
  { x with sections := if x.code = 0x21 then s.imageSections (x.arg 1) (x.arg 0) else [] }

/-- A slot leaves the queue and runs. -/
def Dev.runSlot (s : Dev) (i : Nat) : Dev :=
  { s with taskQueue := s.taskQueue.filter (· != i), taskRun := s.taskRun ++ [i] }

/-- A task starts with its steps counted: RUNNING (R70). -/
def Dev.startSlot (s : Dev) (i : Nat) (x : TaskX) : Dev :=
  let s := (((s.runSlot i).setTask i x).sf (F.TASK_STATUS_STATE i) 2).sf (F.TASK_PROGRESS_STEPS_TOTAL i) x.total
  if x.code = 0x40 then (s.sf F.STREAM_EXPORT_CONSUMED_BYTES 0).sf F.STREAM_EXPORT_PRODUCED_COUNT 0 else s

/-- TASK_START (R70): fewer than 4 tasks run. -/
def Dev.taskStart (s : Dev) : Dev :=
  match s.nextStart with
  | none => s
  | some i =>
    if 4 ≤ s.taskRun.length then s
    else if !(s.targetUp (s.task i)) then s.endTask i 4 4 0
    else
      let x := s.startX i
      match (if x.code = 0x21 then s.imageBad x else none) with
      | some v => s.endTask i 4 3 v
      | none =>
        let n := s.stepsOf x
        let s := s.startSlot i { x with total := n }
        if n = 0 then s.taskDone i else s

/-! ## Waiting (R71, R141, R592) -/

/-- Bytes of the next export step, and its packets' bytes in the buffer (R394). -/
def exportStep (x : TaskX) (done : Nat) : Nat × Nat :=
  let n := min 8064 (x.arg 2 - 8064 * done)
  (n, (n + 1007) / 1008 * 32 + (n + 15) / 16 * 16)

/-- The page and unit of a RESERVE_SWAP. -/
def TaskX.swap (x : TaskX) : Nat × Nat :=
  (x.arg 0, match targetPage x.target with
    | some g => (swapUnit (x.arg 0) g (x.arg 1)).getD 0
    | none => 0)

/-- Index of the SWITCH step of a kind (R591). -/
def switchStep (kind : Nat) : Nat := if kind = 3 then 5 else if kind = 5 then 2 else 1

/-- How often VERIFY's evidence has come so far (R592): self-checks of the channel, estimates of the phase served. -/
def Dev.swapEvidence (s : Dev) (kind u : Nat) : Nat :=
  match kind with
  | 0 => (s.chan (u / 17) (u % 17 / 2)).checks
  | 1 => (s.slice (u / 4) (4 + u % 4)).ests
  | _ => 0

/-- VERIFY of a swap can be decided (R592). -/
def Dev.verifyReady (s : Dev) (kind u mark : Nat) : Bool :=
  match kind with
  | 0 | 1 => decide (mark < s.swapEvidence kind u)
  | 2 => s.engState (u / 16 * 16 + 15) != 2
  | 4 => s.laneUp (if u < 9 then 8 else 11) || decide (mark + 300000 ≤ s.now)
  | _ => true

/-- The next step of a RUNNING task can be taken; otherwise the task waits (R141, R394, R592, R595). -/
def Dev.stepReady (s : Dev) (i : Nat) : Bool :=
  let x := s.task i
  let n := s.stepsDone i
  s.slotState i == 2 && (!(s.targetUp x) || (match x.code with
    | 0x01 => (match targetPage x.target with
        | some (.bay b) =>
          let c := s.conv b ((maskBits 17 (x.arg 0)).getD (n / 4) 0)
          (match n % 4 with
          | 1 => c.aborted || c.suspended || decide (1 ≤ c.runs.length)
          | 2 => c.aborted || c.suspended || decide (2 ≤ c.runs.length)
          | _ => true)
        | _ => true)
    | 0x10 => (match targetPage x.target with | some (.clu k) => s.engState (16 * k + n) != 2 | _ => true)
    | 0x30 =>
      let w := x.swap
      if n = switchStep w.1 then x.latchAt.isNone
      else if n = switchStep w.1 + 1 then s.verifyReady w.1 w.2 x.mark else true
    | 0x40 => s.stream.hasRoom kSnapshot (exportStep x n).2
    | _ => true))

/-- The slot whose step is in progress: RUNNING tasks take steps in rotation (R71); while PFW reads 1 only the step that was in
progress at the warning (R580). -/
def Dev.nextStep (s : Dev) : Option Nat :=
  if s.on F.ALM_STATUS_PFW then
    match s.alm.pfwStep with
    | some e => if s.stepReady e.1 && s.stepsDone e.1 == e.2 then some e.1 else none
    | none => none
  else ((List.range 16).map (fun k => (s.taskLast + 1 + k) % 16)).find? s.stepReady

/-- POWER_FAIL_WARNING (R580): the record enters staging, no new step starts, and the flush starts once the step in progress has
ended. -/
def Dev.powerFailWarning (s : Dev) : Dev :=
  if s.on F.ALM_STATUS_PFW then s
  else
    let p := s.nextStep.map (fun i => (i, s.stepsDone i))
    let s := ({ s with alm := { s.alm with pfwStep := p } }.sb F.ALM_STATUS_PFW true).record 0x0004 .info Page.alm.base
    if p.isNone then s.startFlush else s

/-- The flush of a power-fail warning starts as the step in progress has ended (R580). -/
def Dev.pfwSync (s : Dev) : Dev :=
  if s.alm.pfwStep.isSome && s.nextStep.isNone then { s with alm := { s.alm with pfwStep := none } }.startFlush else s

/-- PAGE_STATE.TASK_BUSY (R46): the step in progress targets the page. -/
def Dev.taskBusy (s : Dev) (g : Page) : Bool :=
  match s.nextStep with
  | some i => targetPage (s.task i).target == some g
  | none => false

/-! ## The steps of each task -/

/-- CAL_TDC (R141, R142, R144): SETUP, READ_A, READ_B, DECIDE for each converter of the mask. -/
def Dev.stepCalTdc (s : Dev) (i b : Nat) (x : TaskX) (env : StepEnv) : Dev :=
  let n := s.stepsDone i
  let l := maskBits 17 (x.arg 0)
  let k := l.getD (n / 4) 0
  let fg := x.arg 2 % 2 == 1
  let lg := if x.arg 1 = 0 then min 24 (max 16 (s.gf F.CAL_TDC_RUN_HITS_LOG2)) else x.arg 1
  match n % 4 with
  | 0 =>
    let one := fun (s : Dev) (k : Nat) =>
      let c := { s.conv b k with hits := lg, runs := [], aborted := false }
      if k = 16 ∧ !(s.on (F.BAY_SPARE_STATUS_IN_USE b)) then s.setConv b k { c with running := true }
      else s.setConv b k { c with detachReq := true, attachReq := false, standIn := !fg && decide (k ≠ 16) }
    let s := if fg then (if n = 0 then l.foldl one s else s) else one s k
    s.commitStep i
  | 3 =>
    let r := s.decideTable b k env.ok
    let s := r.2.setConv b k { r.2.conv b k with attachReq := (r.2.conv b k).detached, detachReq := false }
    let s := s.setTask i { x with rejected := setBit x.rejected k (!r.1) }
    (s.calSync b).commitStep i
  | _ => s.commitStep i

/-- An estimate as a step delivers it: offset, gain, skew. -/
def corrOf (v : List Int) : SliceCorr := { offset := v.getD 0 0, gain := v.getD 1 0, skew := v.getD 2 0 }

/-- Correction sets of a slice mask (R327): each slice's own, and the spare's four phases. -/
def maskSets (m : Nat) : List Nat := (maskBits 5 m).flatMap (fun i => if i = 4 then [4, 5, 6, 7] else [i])

/-- The decision on one correction set (R151, R328, R342). -/
def Dev.decideSlice (s : Dev) (b k : Nat) : Bool × Dev :=
  let x := s.slice b k
  let p := x.calEst.getD 0 {}
  let e := x.calEst.getD 1 {}
  let fit := inRange p && inRange e
  if fit && s.sliceAgree p e then
    let s := s.setSlice b k { x with pending := some (sliceMean p e), pendingAt := s.now, lastEst := none }
    (true, (s.storeSlice b k (sliceMean p e)).sliceSync b (some (k, 1)))
  else (false, (s.setSlice b k { x with lastEst := none }).sliceSync b (some (k, if fit then 2 else 3)))

/-- Captures that an estimate step of CAL_WAVE takes (R342). -/
def TaskX.captures (x : TaskX) : Nat := 2 ^ (if x.arg 1 = 0 then 11 else x.arg 1)

/-- CAL_WAVE (R342, R343): SETUP, EST_A, EST_B, then a DECIDE per slice. An estimate step goes on until its captures are written. -/
def Dev.stepCalWave (s : Dev) (i b : Nat) (x : TaskX) (env : StepEnv) : Dev :=
  let sets := maskSets (x.arg 0)
  match s.stepsDone i with
  | 0 =>
    let s := forN 8 (fun k (s : Dev) => s.setSlice b k { s.slice b k with calEst := [] }) s
    let s := s.setWave b { s.wave b with calCaps := 0 }
    (s.sb (F.BAY_WAVE_STATUS_CAL_BUSY b) true).commitStep i
  | n + 1 =>
    if n < 2 then
      if (s.wave b).calCaps < x.captures then s
      else
        let s := s.setWave b { s.wave b with calCaps := 0 }
        let s := (List.range sets.length).foldl (fun (s : Dev) j =>
          let k := sets.getD j 0
          let e := corrOf (env.vals.getD j [])
          let s := s.noteEstimate b k e
          s.setSlice b k { s.slice b k with calEst := (s.slice b k).calEst ++ [e] }) s
        (s.sliceSync b).commitStep i
    else
      let sl := (maskBits 5 (x.arg 0)).getD (n - 2) 0
      let r := (if sl = 4 then [4, 5, 6, 7] else [sl]).foldl (fun (a : Bool × Dev) k =>
        let d := a.2.decideSlice b k
        (a.1 && d.1, d.2)) (true, s)
      (r.2.setTask i { x with rejected := setBit x.rejected sl (!r.1) }).commitStep i

/-- BIST (R595): one unit per step; a failure feeds the wear rules for a unit in service. -/
def Dev.stepBist (s : Dev) (i : Nat) (g : Page) (x : TaskX) (env : StepEnv) : Dev :=
  let n := s.stepsDone i
  if env.ok then s.commitStep i
  else
    let s := s.setTask i { x with rejected := setBit x.rejected n true }
    let s := match g with
      | .clu k =>
        let s := s.raise C.RES_BIST_FAIL kEngine
        if n < 15 ∨ s.on (F.RES_ENG_SWAP_USED k) then s.wear kEngine (16 * k + n) else s
      | .bay b =>
        if n = 0 then
          let s := s.raise C.RES_BIST_FAIL kConverter
          if s.on (F.BAY_SPARE_STATUS_IN_USE b) then s.wear kConverter (17 * b + 16) else s
        else
          let s := s.raise C.RES_BIST_FAIL kSlice
          if s.on (F.BAY_WAVE_STATUS_SPARE_IN_USE b) then s.wear kSlice (4 * b + s.gf (F.BAY_WAVE_STATUS_SPARE_FOR b)) else s
      | _ => s.raise C.RES_BIST_FAIL kBank
    s.commitStep i

/-- MRAM_WRITE (R576): 4,096 bytes of the bundle buffer. -/
def Dev.stepMram (s : Dev) (i : Nat) (x : TaskX) : Dev :=
  let n := s.stepsDone i
  let len := min 4096 (x.arg 2 - 4096 * n)
  let s := forN len (fun j (s : Dev) =>
    let v := fget byte0 s.sec.bundle (x.arg 0 + 4096 * n + j)
    let m := fset byte0 s.mram.bytes (x.arg 1 + 4096 * n + j) v
    { s with mram := { s.mram with bytes := m } }) s
  s.commitStep i

/-- A byte of a region's pool as it stands: of the histogram, capture or ambient block whose chunk it lies in (R257, R336, R351);
other bytes are free (R394). -/
def Dev.poolByte (s : Dev) (q f a : Nat) : Nat :=
  let c := a / 2048
  let at_ := fun (cs : List Nat) (bs : List Nat) => bs.getD (2048 * cs.findIdx (· == c) + a % 2048) 0
  match s.hists.find? (fun e => e.2.region == q && e.2.chunks.contains c) with
  | some (_, h) => at_ h.chunks h.bytes
  | none => match s.hists.find? (fun e => e.2.region == q && (match e.2.capture with | some w => w.chunks.contains c | none => false)) with
    | some (_, h) => (match h.capture with | some w => at_ w.chunks (w.bytes h.bay 0) | none => 0)
    | none => match s.ambs.find? (fun e => e.2.bay / 12 == q && e.2.chunk == some c) with
      | some (_, b) => if a % 2048 < 0x280 then at_ [c] b.bytes else Config.freeByte f a % 256
      | none => match ((List.range 12).filterMap (fun l => (s.wave (12 * q + l)).hostCap.map (fun w => (12 * q + l, w)))).find?
          (fun e => e.2.chunks.contains c) with
        | some (b, w) => at_ w.chunks (w.bytes b (s.gf (F.BAY_WAVE_STATUS_SPARE_FOR b)))
        | none => Config.freeByte f a % 256

/-- SNAPSHOT_EXPORT (R394): up to 8 packets of 1,008 bytes. -/
def Dev.stepExport (s : Dev) (i : Nat) (x : TaskX) : Dev :=
  let s := s.flushSync
  let n := s.stepsDone i
  let len := (exportStep x n).1
  let src := x.arg 0 / 2^28
  let off := x.arg 1 + 8064 * n
  let f := s.free
  let bs := (List.range len).map (fun j => if src = 0 then f.2.mramByte (off + j) else f.2.poolByte (x.arg 0 % 4) f.1 (off + j))
  let ps := slices1008 len off bs
  let s := ps.foldl (fun (s : Dev) p =>
    s.emit_ kSnapshot srcChip false (s.gf F.SCAN_FRAME_NUM_FRAME) (snapPayload src i p.1 (x.arg 2) p.2)) f.2
  let sent := x.packets + ps.length
  let s := s.setTask i { x with packets := sent }
  let s := s.sf F.STREAM_EXPORT_CONSUMED_BYTES (min (8064 * (n + 1)) (x.arg 2))
  let s := (s.sf F.STREAM_EXPORT_PRODUCED_COUNT sent).sf (F.TASK_RESULT_VALUE i) sent
  s.commitStep i

/-! ### IMAGE_VERIFY (R565, R566) -/

/-- A rejection (R565, R566). -/
def Dev.rejectImage (s : Dev) (i type check idx : Nat) : Dev :=
  let s := (s.record 0x0051 .degraded Page.sec.base type check idx).raise C.SEC_IMAGE_REJECTED check
  s.endTask i 4 7 (check * 65536 + idx)

/-- The whole image is accepted (R566, R569, R608): IMAGE_ACCEPTED for each section; a CONFIG payload enters the buffer,
a kernel bundle's offset the BOOT area. -/
def Dev.acceptImage (s : Dev) (x : TaskX) : Dev :=
  let s := x.sections.foldl (fun (s : Dev) e =>
    let y := s.secAt e.1
    s.record 0x0050 .info Page.sec.base y.type y.version y.signer) s
  if x.arg 1 = 2 then
    let y := s.secAt (x.arg 0)
    let s := s.extend 2 5 y.version y.digest
    let s := { s with sec := { s.sec with bundle := [], bundleLen := y.len, bundleRollback := some y.rollback } }
    forN y.len (fun j (s : Dev) =>
      let m := fset byte0 s.sec.bundle j (s.flashByte (y.base + 256 + j))
      { s with sec := { s.sec with bundle := m } }) s
  else if x.arg 1 = 1 then
    let a := x.arg 0
    { s with mram := { s.mram with kernelOff := some a } }
  else s

/-- The kernels that parameter sets in force, or committed and not yet applied, name (R289, R306, R309). -/
def Dev.kernelsNamed (s : Dev) : List Nat :=
  (List.range 4).flatMap (fun q => (List.range 8).flatMap (fun p =>
    let at_ := fun (w : Nat) => (s.rd (R.CLU_PSET (8 * q) p w)).toNat
    let new := fun (w : Nat) => match (s.px (.clu (8 * q))).latched.find? (fun e => e.1 == (R.CLU_PSET (8 * q) p w).off) with
      | some e => e.2.toNat
      | none => at_ w
    chainIds (at_ 0) (at_ 1) ++ chainIds (new 0) (new 1)))

/-- A section's kernels carry the IDs its type allows (R305, R563); which it holds, its payload's form not being in the spec, the
step says. -/
def kernelIdsOk (type : Nat) (ids : List Nat) : Bool :=
  ids.all (fun k => if type = 3 then decide (1 ≤ k) && decide (k ≤ 0x7F)
    else if type = 4 then decide (0x80 ≤ k) && decide (k ≤ 0xFE) else true)

/-- The contents of a kernel store of 64 KiB (R283): the payloads of a bundle's sections, one after the other. -/
def Dev.bundleBytes (s : Dev) (x : TaskX) : List Nat :=
  (x.sections.flatMap (fun e => let y := s.secAt e.1; s.flashBytes (y.base + 256) y.len)).take 65536

/-- A bundle goes into the inactive bank of every cluster (R306). -/
def Dev.fillBank (s : Dev) (bs : List Nat) : Dev :=
  { s with kbank := if s.on (F.CLU_KBANK_ACTIVE 0) then { s.kbank with bank0 := bs } else { s.kbank with bank1 := bs } }

/-- An installation step (R306, R566, R568, R573). -/
def Dev.stepInstall (s : Dev) (i : Nat) (x : TaskX) : Dev :=
  let y := s.secAt (x.arg 0)
  match x.arg 1 with
  | 0 =>
    let b := decide (x.arg 0 = 0x1000000)
    { s with mram := { s.mram with preferB := b } }.commitStep i
  | 1 =>
    if s.oldBusy then s.endTask i 4 2 0
    else if s.stepsDone i + 1 < x.total then s.commitStep i
    else
      let ids := x.kernels
      if s.kernelsNamed.any (fun k => !(ids.contains k)) then s.endTask i 4 8 0
      else
        let ms := x.sections.map (fun e => let z := s.secAt e.1; (z.type, z.version, z.rollback, z.digest))
        let s := s.fillBank (s.bundleBytes x)
        let s := { s with kbank := { s.kbank with next := some (ids, y.version), nextAt := s.now }, sec := { s.sec with kernNext := ms } }
        s.commitStep i
  | 3 =>
    let r := s.ownerOrder y
    if r.1 then r.2.commitStep i else s.endTask i 4 8 0
  | _ =>
    let r := s.debugToken y
    if r.1 then r.2.commitStep i else r.2.endTask i 4 8 0

/-- IMAGE_VERIFY (R565): payload steps, one step per section, installation. A DEBUG_TOKEN that fails a check has been verified too: a
fresh CHALLENGE follows (R573; DEDUCED, log 101). -/
def Dev.stepImage (s : Dev) (i : Nat) (x : TaskX) (env : StepEnv) : Dev :=
  let n := s.stepsDone i
  let h := s.hashSteps x.sections
  if n < h then s.commitStep i
  else if n < h + x.sections.length then
    let j := n - h
    let e := x.sections.getD j (0, 0)
    let y := s.secAt e.1
    let c := s.checkSection y e.2
    let ids := (env.vals.getD 0 []).map (·.toNat)
    let c := if c = 0 ∧ x.arg 1 = 1 ∧ !(kernelIdsOk e.2 ids) then 2 else c
    let c := if c = 0 ∧ e.2 = 2 ∧ !(s.countersigns y (s.secAt (x.arg 0)).digest) then 1 else c
    if c ≠ 0 then (if e.2 = 7 then s.drawChallenge else s).rejectImage i e.2 c j
    else
      let s := if x.arg 1 = 1 then s.setTask i { s.task i with kernels := x.kernels ++ ids } else s
      let s := if j + 1 = x.sections.length then s.acceptImage x else s
      s.commitStep i
  else s.stepInstall i x

/-! ### RESERVE_SWAP (R591 to R594) -/

/-- Another RUNNING swap, submitted earlier, needs the same reserve (R594). -/
def Dev.reserveTaken (s : Dev) (i kind u : Nat) : Bool :=
  (s.taskRun.takeWhile (· != i)).any (fun j =>
    let x := s.task j
    x.code == 0x30 && x.arg 0 == kind && kind == 4 && portOf x.swap.2 == portOf u)

/-- SWITCH commits (R592, R593). -/
def Dev.commitSwitch (s : Dev) (i : Nat) : Dev :=
  let w := (s.task i).swap
  let s := s.substitute w.1 w.2
  let m := if w.1 = 4 then s.now else s.swapEvidence w.1 w.2
  (s.setTask i { s.task i with latchAt := none, mark := m }).commitStep i

/-- What VERIFY finds (R592). -/
def Dev.verifyOk (s : Dev) (kind u : Nat) (env : StepEnv) : Bool :=
  match kind with
  | 0 => (s.chan (u / 17) (u % 17 / 2)).checkOk
  | 1 => (s.slice (u / 4) (4 + u % 4)).estOk
  | 2 => s.engState (u / 16 * 16 + 15) == 1
  | 4 => s.laneUp (if u < 9 then 8 else 11)
  | _ => env.ok

/-- A step of RESERVE_SWAP (R592). -/
def Dev.stepSwap (s : Dev) (i : Nat) (x : TaskX) (env : StepEnv) : Dev :=
  let w := x.swap
  let n := s.stepsDone i
  let sw := switchStep w.1
  if n = 0 then
    if s.noReserve w.1 w.2 ∨ s.reserveTaken i w.1 w.2 then s.endTask i 4 8 1
    else if !env.ok then s.endTask i 4 8 2
    else s.commitStep i
  else if n < sw then
    let s := if w.1 = 3 then
        (env.vals.getD 0 []).foldl (fun (s : Dev) c => s.poolEcc (w.2 / 33) (w.2 % 33) c.toNat) s else s
    s.commitStep i
  else if n = sw then
    if s.gf F.SCAN_STATUS_STATE = 3 then
      let t := s.now
      s.setTask i { x with latchAt := some t }
    else s.commitSwitch i
  else if s.verifyOk w.1 w.2 env then s.commitStep i
  else (s.endTask i 4 5 env.code).raise C.RES_SWAP_FAIL w.1

/-- SWITCH commits at the first frame start at least 10 us after its latch (R592); not for a target that is no longer up (R594). -/
def Dev.swapFrame (s : Dev) : Dev :=
  s.taskRun.foldl (fun (s : Dev) i =>
    match (s.task i).latchAt with
    | some t => if t + 10000 ≤ s.now ∧ s.targetUp (s.task i) then s.commitSwitch i else s
    | none => s) s

/-- The slot that stepped last (R71). -/
def Dev.markStep (s : Dev) (i : Nat) : Dev := { s with taskLast := i }

/-- A step of a RUNNING task whose target is up, by its code and target. -/
def Dev.runStep (s : Dev) (i : Nat) (x : TaskX) (g : Page) (env : StepEnv) : Dev :=
  match x.code, g with
  | 0x01, .bay b => s.stepCalTdc i b x env
  | 0x02, .bay b => if env.ok then s.stepCalWave i b x env else s.endTask i 4 5 env.code
  | 0x10, g => s.stepBist i g x env
  | 0x20, _ => if env.ok then s.stepMram i x else s.endTask i 4 5 env.code
  | 0x21, _ => if env.ok then s.stepImage i x env else s.endTask i 4 5 env.code
  | 0x30, _ => s.stepSwap i x env
  | 0x40, _ => s.stepExport i x
  | _, _ => s

/-- The step in progress of slot `i` was already running at the quiesce start of its page, and runs to its end (R632). -/
def Dev.quietRun (s : Dev) (i : Nat) (g : Page) : Bool :=
  s.run g == rQuiescing && s.isOn g && (s.px g).quietStep == some (i, s.stepsDone i)

/-- TASK_STEP (R71, R74): the task whose turn it is takes its next step; without a target that is up it ends. -/
def Dev.taskStep (s : Dev) (slot : Fin 16) (env : StepEnv) : Dev :=
  let i := slot.val
  if s.nextStep = some i then
    match targetPage (s.task i).target with
    | none => (s.markStep i).endTask i 4 4 0
    | some g =>
      if s.targetUp (s.task i) || s.quietRun i g then (s.markStep i).runStep i (s.task i) g env
      else (s.markStep i).endTask i 4 4 (s.gf (F.TASK_RESULT_VALUE i))
  else s

/-- TASK_CANCEL (R73, R594): a queued task ends at once, so does one that waits; a step in progress commits first. On a slot that is
FREE, FAILED, CANCELLED or ABORTED it has no effect, and no ACCESS (DESIGN CHOICE, log 88). -/
def Dev.taskCancelCore (s : Dev) (i : Nat) : Dev :=
  match s.slotState i with
  | 1 => s.endTask i 5 1 0
  | 2 => if s.nextStep = some i then s.setTask i { s.task i with cancel := true } else s.endTask i 5 1 0
  | 3 => s.sb (F.TASK_STATUS_CANCEL_LATE i) true
  | _ => s

/-- TASK_RELEASE (R68). On a slot that is FREE, QUEUED or RUNNING it has no effect, and no ACCESS (DESIGN CHOICE, log 88). -/
def Dev.taskReleaseCore (s : Dev) (i : Nat) : Dev :=
  if 3 ≤ s.slotState i then s.sf (F.TASK_STATUS_STATE i) 0 else s

/-- Every QUEUED and RUNNING task, or those with one target, ends as ABORTED (R74, R75). -/
def Dev.abortTasks (s : Dev) (p : Nat → Bool) : Dev :=
  forN 16 (fun i (s : Dev) => if s.slotLive i ∧ p (s.task i).target then s.endTask i 6 6 (s.gf (F.TASK_RESULT_VALUE i)) else s) s

/-! ## Tasks the firmware submits -/

/-- A converter is due for an automatic calibration (R145): by the interval, or by the change of its bay's node. -/
def Dev.calDue (s : Dev) (b i : Nat) : Bool :=
  let x := s.conv b i
  let iv := s.gf F.CAL_AUTO_CFG_INTERVAL
  let dt := s.gf F.CAL_AUTO_CFG_DELTA_T
  (iv != 0 && decide (x.acceptedAt + iv * 1000000000 ≤ s.now))
    || (dt != 0 && decide ((dt : Int) < (s.gi (F.THERM_NODE_TEMP_TEMP (b / 6)) - x.acceptedTemp).natAbs))

/-- AUTO_CAL_SUBMIT (R145): at most 2 slots, none on a bay with a host task, none where the spare is in use. -/
def Dev.autoCalSubmit (s : Dev) (bay : Fin 48) (convMask : BitVec 17) : Dev :=
  let b := bay.val
  let m := (maskBits 17 convMask.toNat).filter (s.calDue b)
  if !(s.on F.CAL_CTRL_AUTO_EN) ∨ !(s.isOn (.bay b)) ∨ m = [] then s
  else if s.on (F.BAY_SPARE_STATUS_IN_USE b) then s.raise C.CAL_AUTO_SKIPPED b
  else if s.inConflict 0x01 (Page.bay b).base then s
  else
    let mine := fun (i : Nat) => s.slotState i != 0 && s.gf (F.TASK_STATUS_REQ i) == 0 && (s.task i).code == 0x01
    let n := ((List.range 16).filter mine).length
    match s.ownSlot (fun i => decide (n < 2) || mine i) with
    | none => s
    | some i => s.submitIn i 0x01 (Page.bay b).base (m.foldl (fun v k => v + 2^k) 0) 0 0

/-- Drop an indicator that has been acted on. -/
def Dev.clearDue (s : Dev) (kind unit : Nat) : Dev :=
  let d := s.res.due.filter (· != (kind, unit))
  { s with res := { s.res with due := d } }

/-- The firmware submits a swap, or warns the host while the kind's AUTO_EN bit is 0 (R590). -/
def Dev.submitSwap (s : Dev) (k unit : Nat) : Dev :=
  if !(bit (s.gf F.RES_CTRL_AUTO_EN) k) then (s.clearDue k unit).raise C.RES_WEAR_WARN k
  else
    match s.ownSlot (fun _ => true) with
    | none => s
    | some i =>
      let t := swapTarget k unit
      (s.clearDue k unit).submitIn i 0x30 t.1.base k t.2 0

/-- AUTO_SWAP_SUBMIT (R589, R590): the firmware acts on an indicator that has reached its threshold. MRAM rows report theirs
with the command (log 81). -/
def Dev.autoSwapSubmit (s : Dev) (kind : BitVec 3) (unit : Nat) : Dev :=
  let k := kind.toNat
  let row := k == 5 && decide (unit < 8192)
  if !row ∧ !(s.res.due.contains (k, unit)) then s
  else if isReserve k unit ∧ (s.swapOf k unit).isNone then (s.clearDue k unit).raise C.RES_WEAR_WARN k
  else if s.retired k unit ∨ s.noReserve k unit then (s.clearDue k unit).raise C.RES_RESERVE_EXHAUSTED k
  else s.submitSwap k unit

/-- Submit the automatic BISTs that wait, as slots allow (R590, R595). -/
def Dev.bistPump (s : Dev) : Dev :=
  s.res.bist.foldl (fun (s : Dev) n =>
    match pageOfNum n, s.ownSlot (fun i => (s.task i).code != 0x30) with
    | some g, some i =>
      let l := s.res.bist.filter (· != n)
      { s with res := { s.res with bist := l } }.submitIn i 0x10 g.base 0 0 0
    | _, _ => s) s

/-- Let automatic BISTs wait for their slots. -/
def Dev.queueBist (s : Dev) (gs : List Page) : Dev :=
  let l := s.res.bist ++ (gs.map Page.num).filter (fun n => !(s.res.bist.contains n))
  { s with res := { s.res with bist := l } }.bistPump

/-- The pages of a region that a BIST can target. -/
def regionPages (q : Nat) : List Page :=
  (List.range 8).map (fun i => Page.clu (8 * q + i)) ++ (List.range 12).map (fun i => Page.bay (12 * q + i)) ++ [.pool q]

/-- AGE_SAMPLE (R590), once per minute: the six sensors' losses; one found above LIMIT raises AGEING and a BIST of its region,
once until it is found at or below LIMIT again. -/
def Dev.ageSample (s : Dev) (losses : List Nat) : Dev :=
  let s := s.advanceTo (s.res.ageAt + 60000000000)
  let s := { s with res := { s.res with ageAt := s.now } }
  forN 6 (fun i (s : Dev) =>
    let v := min 65535 (losses.getD i 0)
    let above := decide (s.gf F.RES_AGE_CFG_LIMIT < v)
    let was := bit s.res.aged i
    let s := { s with res := { s.res with aged := setBit s.res.aged i above } }.sf (F.RES_AGE_LOSS i) v
    if above && !was then
      let s := s.raise C.RES_AGEING i
      if i < 4 then s.queueBist (regionPages i) else s
    else s) s

/-- BIST_AUTO_SUBMIT (R595): on every CLU, BAY and POOL page, once per PERIOD hours. -/
def Dev.bistAutoSubmit (s : Dev) : Dev :=
  if s.gf F.RES_BIST_CFG_PERIOD = 0 then s
  else
    let s := s.advanceTo (s.res.bistAt + s.gf F.RES_BIST_CFG_PERIOD * 3600000000000)
    { s with res := { s.res with bistAt := s.now } }.queueBist ((List.range 32).map Page.clu ++ (List.range 48).map Page.bay ++ (List.range 4).map Page.pool)

/-- The codes of R69. -/
def taskCodes : List Nat := [0x01, 0x02, 0x10, 0x20, 0x21, 0x30, 0x40]

end Sys2Proof.Machine
end

