-- ==== Sys2Proof/Machine/Irq.lean ====
section
/-! DEFINITION. Interrupt messages and pins (02_control_model.md, R81 to R83; 12_lanes.md, R408, R414). -/
namespace Sys2Proof.Machine

/-- A register-access packet as bytes (R86). -/
def raBytes (op unit seq status : Nat) (entries : List (Word × Word)) : List Nat :=
  [1, op] ++ bytesBE 2 unit ++ bytesBE 4 seq ++ [entries.length, status, 0, 0]
    ++ entries.flatMap (fun e => bytesBE 4 e.1.toNat ++ bytesBE 4 e.2.toNat)

/-- Reset of the MSI-X table: every vector masked. PRESUMED from the PCI specification (log 84). -/
def msix0 (i : Nat) : Word := if i % 4 = 3 then 1#32 else 0#32

/-- A vector's entry lets its message out: the link is up and the entry is not masked (R408, R409). -/
def Dev.msixOpen (s : Dev) (v : Nat) : Bool :=
  s.on F.HOST_LINK_STATUS_DL_UP && bits (fget msix0 s.host.msix (4 * v + 3)) 0 1 == 0

/-- Notification packets of a vector's message: one on each port with NOTIFY_EN for each asserted route with NET set (R414). On a
port that is disabled or whose link is down it is dropped and takes no SEQUENCE number (DESIGN CHOICE, log 87). -/
def Dev.notifyVector (s : Dev) (v : Nat) : Dev :=
  (s.asserted.filter (fun e => bits e.2 0 6 == v && bits e.2 30 1 == 1)).foldl (fun (s : Dev) e =>
    forN 2 (fun p (s : Dev) =>
      if s.on (F.NET_CTRL_NOTIFY_EN p) && s.on (F.NET_CTRL_EN p) && s.on (F.NET_STATUS_LINK_UP p) then
        let x := s.net p
        let s := s.setNet p { x with notifySeq := x.notifySeq + 1 }
        (s.inc (F.NET_TX_FRAMES_COUNT p)).send (.notify p
          (s.udpTo p none (s.gf (F.NET_RA_PORT_NOTIFY_PORT p)))
          (raBytes 4 0 x.notifySeq 0 [(BitVec.ofNat 32 e.1, BitVec.ofNat 32 v)]))
      else s) s) s

/-- Send a vector's message (R83), or keep it pending while its entry holds it back. -/
def Dev.sendVector (s : Dev) (v : Nat) : Dev :=
  let s := s.notifyVector v
  if s.msixOpen v then s.send (.msi v)
  else
    let p := setBit s.host.pba v true
    { s with host := { s.host with pba := p } }

/-- Pending messages whose entry now lets them out are sent. -/
def Dev.pbaSync (s : Dev) : Dev :=
  if s.host.pba = 0 then s
  else forN 64 (fun v (s : Dev) =>
    if bit s.host.pba v ∧ s.msixOpen v then
      let p := setBit s.host.pba v false
      { s with host := { s.host with pba := p } }.send (.msi v)
    else s) s

/-- The lines after a change (R83): a vector whose OR rises sends its message, and the pins follow their lines. -/
def Dev.irqSync (s : Dev) : Dev :=
  let m := s.vectorMask
  let old := s.vectors
  let s := if m = old then s else
    forN 64 (fun v (s : Dev) => if bit m v ∧ !(bit old v) then s.sendVector v else s) { s with vectors := m }
  { s with int0 := s.pinLevel 0, int1 := s.pinLevel 1 }.pbaSync

/-- A W1C write of IRQ_STATUS (R51, R83): the events clear, and a vector whose OR stays asserted sends its message again. -/
def Dev.ackIrq (s : Dev) (g : Page) (mask : Word) : Dev :=
  let s := s.wr (R.IRQ_STATUS g) (s.rd (R.IRQ_STATUS g) &&& ~~~(mask &&& 0x7FFFFFFF#32))
  let r := s.rd (R.IRQ_ROUTE g.num)
  let v := bits r 0 6
  if bits r 31 1 = 1 ∧ bit s.vectorMask v ∧ bit s.vectors v then s.sendVector v else s

end Sys2Proof.Machine
end

