-- ==== Sys2Proof/Machine/Pages.lean ====
section
/-! DEFINITION. Page states, drains, wakes and resets (02_control_model.md, R45 to R59, R631, R632; 16_thermal_and_power.md,
R538 to R542; R24). -/
namespace Sys2Proof.Machine

/-! ## Power domains (R538, R539, R541) -/

/-- The domain a page switches. -/
def domainOf : Page → Option Nat
  | .bay b => some b
  | .clu k => some (48 + k)
  | .qtr q => some (80 + q)
  | .lane n => some (84 + n)
  | .scan => some 100
  | _ => none

/-- The region whose QF a page's domain depends on (R539). -/
def qfOf : Page → Option Nat
  | .bay b => some (b / 12)
  | .clu k => some (k / 8)
  | _ => none

/-- The pages whose domains a QF carries. -/
def qfPages (q : Nat) : List Page :=
  (List.range 12).map (fun i => Page.bay (12 * q + i)) ++ (List.range 8).map (fun i => Page.clu (8 * q + i))

/-- SUPPLY_ON of a domain (R557). -/
def Dev.setSupply (s : Dev) (i : Nat) (on : Bool) : Dev :=
  s.sf (F.PWR_SUPPLY_ON_ON (i / 32)) (setBit (s.gf (F.PWR_SUPPLY_ON_ON (i / 32))) (i % 32) on)

/-- OFF_ALLOW lets the supply switch of a page's domain open while the page is OFF (R538, R557). -/
def Dev.mayOpen (s : Dev) (g : Page) : Bool :=
  match domainOf g with
  | some i => bit (s.gf (F.PWR_OFF_ALLOW_ALLOW (i / 32))) (i % 32)
  | none => false

/-- The supply switch of a page's domain opens. -/
def Dev.openSupply (s : Dev) (g : Page) : Dev :=
  match domainOf g with
  | some i => s.setSupply i false
  | none => s

/-- POWER of a page that switches a domain changes; PWR sees a DOMAIN_CHANGE (R559). -/
def Dev.domainPower (s : Dev) (g : Page) (p : Nat) : Dev :=
  if s.power g = p then s
  else
    let s := s.setPower g p
    match domainOf g with
    | some _ => s.event E.PWR_DOMAIN_CHANGE
    | none => s

/-- What a cluster's or bay's power change means for the region's engines in service (R304). -/
def Dev.regionSync (s : Dev) (g : Page) : Dev :=
  match g with
  | .clu k => s.engineSync (k / 8)
  | .qtr q => s.engineSync q
  | _ => s

/-- WAKING starts (R54, R541). -/
def Dev.startWake (s : Dev) (g : Page) : Dev :=
  let s := (s.sb (F.PAGE_STATE_REENABLE_PENDING g) false).domainPower g pWaking
  match domainOf g with
  | some i => s.setSupply i true
  | none => s

/-- Wake an OFF page, or let it wait for its QF (R539). -/
def Dev.tryWake (s : Dev) (g : Page) : Dev :=
  match qfOf g with
  | some q => if s.isOn (.qtr q) then s.startWake g else s.sb (F.PAGE_STATE_REENABLE_PENDING g) true
  | none => s.startWake g

/-! ## What a drain closes and a wake starts (R32, R57) -/

/-- Every open accumulation of a page closes as a PAGE_DRAINED gap (R57). -/
def Dev.closeWork (s : Dev) (g : Page) : Dev :=
  match g with
  | .bay b => s.endBayWork b 5
  | .pool q | .qtr q => forN 12 (fun l (s : Dev) => (s.endOpen (12 * q + l) 5).stopListening (12 * q + l)) s
  | .lane n => s.laneDisable n
  | .scan => s.scanDisable
  | _ => s

/-- Work of a region that closed before a drain is still to be processed (R57): its histograms and ambient blocks. -/
def Dev.regionBusy (s : Dev) (q : Nat) : Bool :=
  s.hists.any (fun e => e.2.region == q) || s.ambs.any (fun e => e.2.bay / 12 == q)

/-- Nothing of the page's work is left that a drain must wait for (R57): chains of a cluster, a digitiser's capture. -/
def Dev.drained (s : Dev) (g : Page) : Bool :=
  match g with
  | .clu k => (List.range 16).all (fun l => (s.running? (16 * k + l)).isNone)
  | .bay b => (s.wave b).inFlight.isEmpty
  | .qtr q => !(s.regionBusy q)
      && (!(s.px g).regionDrain || (qfPages q).all (fun h => s.power h == pOff))
  | _ => true

/-- Computed status fields are stored as they stand, for a page that leaves ON (R56). -/
def Dev.latchStatus (s : Dev) (g : Page) : Dev :=
  match g with
  | .clu _ => s.sb (F.CLU_KBANK_OLD_BUSY 0) s.oldBusy
  | .bay b => (s.drainVotes b).sb (F.BAY_WAVE_STATUS_BUSY b) (s.sampling b)
  | .qtr q => s.latchQueues q
  | .lane n => s.prbsSync n
  | _ => s

/-- A drain starts (R54, R57): what it does at once, and then what the page's registers read is frozen (R56). -/
def Dev.startDrain (s : Dev) (g : Page) : Dev :=
  ((((s.latchStatus g).domainPower g pDraining).closeWork g).regionSync g).freeze g

/-- A domain has powered down: what its logic held is gone. -/
def Dev.domainOff (s : Dev) (g : Page) : Dev :=
  match g with
  | .bay b =>
    let s := (s.sb (F.BAY_WAVE_STATUS_REENABLE_PENDING b) false).setWaveState b 0
    let s := forN 8 (fun c (s : Dev) => s.setChan b c { checks := (s.chan b c).checks, checkOk := (s.chan b c).checkOk, refDelay := (s.chan b c).refDelay }) s
    s.setBay b { s.bay b with events := [], tdcEn := false }
  | .clu k => forN 16 (fun l (s : Dev) =>
      let s := s.setEng (16 * k + l) { hw := (s.eng (16 * k + l)).hw }
      if s.gf (F.CLU_ENG_STATUS_STATE k l) = 5 then s.sf (F.CLU_ENG_STATUS_STATE k l) 4 else s) (s.setClu k {})
  | _ => s

/-- A page reads ON: what its logic starts with (R284, R344, R420). -/
def Dev.pageOn (s : Dev) (g : Page) : Dev :=
  let s := s.domainPower g pOn
  let s := match g with
    | .bay b =>
      let s := s.setPort b { s.port b with needResume := true }
      let s := s.waveResume b
      (if s.waveState b = 2 then (s.restartEst b).uncorrected b (List.range 4) else s).calSync b
    | .clu k => s.setClu k { s.clu k with mem := (s.clu k).mem.filter (fun e => decide (e.1 < 0x4000)), clear := true }
    | .lane n => s.laneOn n
    | .scan => s.scanWake
    | .qtr q =>
      let s := forN 12 (fun l (s : Dev) => s.waveResume (12 * q + l)) s
      (qfPages q).foldl (fun (s : Dev) h =>
        if s.power h = pOff ∧ s.on (F.PAGE_CTRL_EN h) then s.startWake h else s) s
    | _ => s
  s.regionSync g

/-! ## Reset of fields (R24, R58) -/

/-- Bits of a register that show what a warm or page reset leaves: boot values (R609), OTP, MRAM and Almanac state, the
PLL and link states (R602), reserve assignments (R589), Nightwatch (R25). -/
def liveBits (g : Page) (off : Nat) : Nat :=
  let all := 2^32 - 1
  match g with
  | .nw => all
  | .res => if off = 0x58 then all - 3 else if 0x50 ≤ off ∧ off < 0x1C0 then all else 0
  | .chip => if off = 0x44 ∨ off = 0x58 then all else 0
  | .pwr => if off < 0x50 ∧ 0x40 ≤ off then all else 0
  | .time => if off = 0x44 then 0x170 else 0
  | .code => if off = 0x48 then 0x37FFFFFF else 0
  | .host => if off = 0x40 then all else 0
  | .sec => if off = 0x40 then all - 3 * 2^24 else if off = 0x48 ∨ off = 0x50 ∨ off = 0x54 then all else if off = 0x44 then 4 else 0
  | .alm => if 0x44 ≤ off ∧ off ≤ 0x54 then all else 0
  | .flash => if off = 0x40 then all else 0
  | .lane _ => if off = 0x44 then 3 * 2^22 else 0
  | .clu _ => if off = 0x6C then all else 0
  | _ => 0

/-- Bits of a register that survive a warm or page reset. -/
def keepBits (g : Page) (off : Nat) : Nat :=
  let k := match regRow g off with | some r => r.keep | none => 0
  let h := if off = 0x08 then 7 else if off = 0x0C then 1 else 0
  Nat.lor (Nat.lor k h) (liveBits g off)

/-- What a register holds after a warm or page reset: its reset word, but for the bits that survive (R24). -/
def resetWordOf (g : Page) (off k : Nat) (w : Word) : Word :=
  let m := BitVec.ofNat 32 (keepBits g off)
  (w &&& m) ||| (regDefault k &&& ~~~m)

/-- Every field of the registers chosen takes its Reset value, but for the bits that survive (R24). -/
def Dev.resetRegs (s : Dev) (p : Page → Nat → Bool) : Dev :=
  (s.regs.map (fun e => e.1)).foldl (fun (s : Dev) k =>
    match keyPage k with
    | some g => if p g (k % 4096) then { s with regs := fset regDefault s.regs k (resetWordOf g (k % 4096) k (fget regDefault s.regs k)) } else s
    | none => s) s

/-- A page reset acts on a register of the page; KBANK, which every CLU page shows, stays (R307, R609). -/
def resetsReg (g h : Page) (off : Nat) : Bool :=
  ofPage g h off && (match g with | .clu _ => off != 0x6C | _ => true)

/-- What a page's logic keeps beside its registers starts anew with them (R58); an engine's quarantine after a HARDWARE trap stays
(R303). -/
def Dev.resetInner (s : Dev) (g : Page) : Dev :=
  match g with
  | .bay b =>
    let s := s.clearWave b
    let s := forN 8 (fun c (s : Dev) => s.setChan b c { refDelay := (s.chan b c).refDelay }) s
    let s := s.setBay b { dq := (s.bay b).dq, heldDesc := (s.bay b).heldDesc }
    (s.sliceSync b).calSync b
  | .clu k => forN 16 (fun l (s : Dev) =>
      let hw := (s.eng (16 * k + l)).hw
      let s := s.setEng (16 * k + l) { hw := hw }
      if hw then s.setEngState (16 * k + l) 3 else s) (s.setClu k { mem := (s.clu k).mem, clear := (s.clu k).clear })
  | .pool q => ((s.setPool q { s.pool q with scrubAt := s.now, found := [] }).poolSync q).waitSync q
  | .qtr q => forN 12 (fun l (s : Dev) => s.queueSync (12 * q + l)) (s.setRegion q { s.region q with quarantined := false })
  | .lane n => s.setLaneX n {}
  | .scan => { s with scan := {} }
  | .time => { s.setSettled false with time := { s.time with first := true, start := s.now, gateAt := s.now, bad := 0 } }
  | .emit =>
    let s := { s with emit := { codeCfg := s.emit.codeCfg, codeSeed := s.emit.codeSeed, codeAddr := s.emit.codeAddr,
                                regenAt := s.emit.regenAt, lastSubEnd := s.emit.lastSubEnd, pulseAt := s.emit.pulseAt } }
    (forN 48 (fun p (s : Dev) => s.setPort p { bursts := (s.port p).bursts }) s).derateAll
  | .chain => { s with chain := { links := s.chain.links } }
  | .ptp => { s with ptp := {} }
  | .mon => { s with mon := {} }.loadShifts
  | .pwr => { s with therm := { s.therm with power := {} } }
  | .therm => { s with therm := { power := s.therm.power, lastAt := s.therm.lastAt, served := s.therm.served,
                                  guardTo := s.therm.guardTo, sawHold := s.therm.sawHold, sawQuar := s.therm.sawQuar } }
  | .stream => { s.dropHosts with stream := { compEn := s.stream.compEn } }
  | .net i => s.setNet (i % 2) {}
  | .flash => { s with flash := { s.flash with op := none } }
  | .sec => { s with sec := { s.sec with quotePend := none, quote := [] } }
  | .cal => forN 48 (fun p (s : Dev) =>
      (s.setRz p { s.rzOf p with sum := 0, count := 0, lastEst := none, reseed := false, held := false }).rzSync p)
      { s with time := { s.time with rzFrames := 0, rzOpen := false } }
  | _ => s

/-- Show again what the reset leaves: assignments in effect (R589), engines in service. -/
def Dev.showAgain (s : Dev) (g : Page) : Dev :=
  let s := s.mram.swaps.foldl (fun (s : Dev) e =>
    let s := s.showSwap e.1 e.2
    if e.1 = kEngine ∧ g = .clu (e.2 / 16) then (s.setEngState (e.2 / 16 * 16 + 15) 1).setEngState e.2 3 else s) s
  match g with
  | .bay b => s.calSync b
  | g => s.regionSync g

/-- Steps 2 and 3 of a page reset (R58): held writes are discarded, the fields take their Reset value. -/
def Dev.resetFields (s : Dev) (g : Page) : Dev :=
  let s := s.setPx g {}
  let s := match g with
    | .clu k => s.setPx (.clu (k / 8 * 8)) {}
    | _ => s
  (((s.resetRegs (resetsReg g)).gradeRegs g).resetInner g).showAgain g

/-- Step 4 of a page reset (R58): the page follows EN; `wasOn` says that it read ON. -/
def Dev.afterReset (s : Dev) (g : Page) (wasOn : Bool) : Dev :=
  let s := s.setRun g rActive
  if !g.switchable then s
  else if s.on (F.PAGE_CTRL_EN g) then
    if wasOn then s.pageOn g
    else (s.domainPower g pOff).tryWake g
  else
    let open_ := s.mayOpen g
    let s := (s.domainPower g pOff).domainOff g
    (if open_ then s.openSupply g else s).regionSync g

/-- A page reset with EN already stored (R58). -/
def Dev.resetPage (s : Dev) (g : Page) : Dev :=
  let s := s.abortTasks (fun t => targetPage t == some g)
  if !g.switchable then ((s.closeWork g).resetFields g).afterReset g true
  else
    let p := s.power g
    let x := s.px g
    if p = pOff ∨ p = pQuar then (s.resetFields g).afterReset g false
    else if p = pOn then (s.setPx g { x with resetPend := some true }).startDrain g
    else s.setPx g { x with resetPend := some false, held := [] }

/-- Once what closed before the drain of a QF is processed, the region's clusters drain too (R57, R539). -/
def Dev.drainClusters (s : Dev) (q : Nat) : Dev :=
  if s.regionBusy q then s
  else forN 8 (fun l (s : Dev) => if s.isOn (.clu (8 * q + l)) then s.startDrain (.clu (8 * q + l)) else s) s

/-- The clusters of every region whose QF drains after EN was cleared. -/
def Dev.clusterDrains (s : Dev) : Dev :=
  forN 4 (fun q (s : Dev) =>
    if s.power (.qtr q) = pDraining ∧ (s.px (.qtr q)).regionDrain then s.drainClusters q else s) s

/-- The bays of a region whose QF drains drain with it; its clusters follow once what had closed before is processed (R57,
R539). -/
def Dev.drainRegion (s : Dev) (q : Nat) : Dev :=
  let s := s.setPx (.qtr q) { s.px (.qtr q) with regionDrain := true }
  let s := forN 12 (fun l (s : Dev) => if s.isOn (.bay (12 * q + l)) then s.startDrain (.bay (12 * q + l)) else s) s
  s.drainClusters q

/-! ## The PAGE_CTRL commands (R45, R47, R54, R59, R540, R632) -/

/-- PAGE_CTRL sets EN (R54, R539). -/
def Dev.enablePage (s : Dev) (g : Page) : Dev :=
  if s.on (F.PAGE_CTRL_EN g) then s
  else
    let s := s.sb (F.PAGE_CTRL_EN g) true
    let p := s.power g
    if p = pDraining then s.sb (F.PAGE_STATE_REENABLE_PENDING g) true
    else if p = pOff then s.tryWake g
    else s

/-- PAGE_CTRL clears EN (R54, R539, R540). -/
def Dev.disablePage (s : Dev) (g : Page) : Dev :=
  if !(s.on (F.PAGE_CTRL_EN g)) then s
  else if !g.switchable then s.refuse g
  else
    let s := s.sb (F.PAGE_CTRL_EN g) false
    let p := s.power g
    if p = pOn then
      let s := s.startDrain g
      match g with
      | .qtr q => s.drainRegion q
      | _ => s
    else if p = pDraining ∨ p = pOff then
      let s := s.sb (F.PAGE_STATE_REENABLE_PENDING g) false
      match g with
      | .qtr q => if p = pDraining ∧ (s.px g).resetPend.isNone then s.drainRegion q else s
      | _ => s
    else s

/-- PAGE_CTRL sets QUIESCE (R632): it acts from the next frame start. -/
def Dev.quiescePage (s : Dev) (g : Page) : Dev :=
  if s.on (F.PAGE_CTRL_QUIESCE g) then s
  else if !g.quiesces then s.refuse g
  else (s.sb (F.PAGE_CTRL_QUIESCE g) true).setPx g { s.px g with quiesceReq := true }

/-- DRAIN_REQ (R47): drain now, then hold the page ON. On a page that is not ON there is nothing to drain and nothing to hold:
no effect, and no ACCESS (DESIGN CHOICE, log 86). -/
def Dev.drainPage (s : Dev) (g : Page) : Dev :=
  if !g.quiesces then s.refuse g
  else if s.isOn g then (s.setPx g { s.px g with drainHold := true }).startDrain g
  else s

/-- Some ERR_STATUS bit of severity DATA_LOST or UNSAFE stands, LOWER included while it carries such a severity (R59). -/
def Dev.severeErrors (s : Dev) (g : Page) : Bool :=
  let w := (s.rd (R.ERR_STATUS g)).toNat
  (List.range 30).any (fun i => bit w i && decide (2 ≤ (causeSev g i).val))
    || (bit w 31 && decide (2 ≤ (s.px g).lowerSev))

/-- RESUME (R59): a PAUSED or HELD page returns to ACTIVE at the next frame start (of a PAUSED one, if no severe error stands
then either: `pageFrame`). -/
def Dev.resumePage (s : Dev) (g : Page) : Dev :=
  let r := s.run g
  if r = rPaused ∧ s.severeErrors g then s.refuse g
  else if r = rPaused ∨ r = rHeld then s.setPx g { s.px g with resumeReq := true }
  else s

/-- A PAGE_CTRL write with PAGE_RESET (R47, R58): the EN it carries is stored first. -/
def Dev.resetCtrl (s : Dev) (g : Page) (key : Nat) (en : Bool) : Dev :=
  if key ≠ 0xC3 ∨ g = .nw then s.refuse g
  else (s.sb (F.PAGE_CTRL_EN g) en).resetPage g

/-- A write of PAGE_CTRL as a whole (R47, R58). Clearing QUIESCE before the quiesce start withdraws it; on a page that is
QUIESCING already the quiesce goes on to HELD (DESIGN CHOICE, log 86). -/
def Dev.pageCtrl (s : Dev) (g : Page) (w : Word) : Dev :=
  let v := w.toNat
  if bit v 8 then s.resetCtrl g (v / 2^24) (bit v 0)
  else
    let en := s.on (F.PAGE_CTRL_EN g)
    let s := if bit v 1 then s.quiescePage g
      else if s.on (F.PAGE_CTRL_QUIESCE g) then
        (s.sb (F.PAGE_CTRL_QUIESCE g) false).setPx g { s.px g with quiesceReq := false }
      else s
    let s := if bit v 2 then s.drainPage g else s
    let s := if bit v 3 then s.resumePage g else s
    if bit v 0 == en then s else if bit v 0 then s.enablePage g else s.disablePage g

/-- The drain of a page whose EN was cleared while it woke starts (R540), and R539's with it. -/
def Dev.lateDrain (s : Dev) (g : Page) : Dev :=
  let s := (s.setPx g { s.px g with drainAt := none }).startDrain g
  if s.on (F.PAGE_CTRL_EN g) then s.sb (F.PAGE_STATE_REENABLE_PENDING g) true
  else match g with
    | .qtr q => s.drainRegion q
    | _ => s

/-- The drains whose page has read ON for a control-domain cycle (2.5 ns, R540) start. -/
def Dev.lateDrains (s : Dev) : Dev :=
  (s.pages.filter (fun e => match e.2.drainAt with | some t => decide (t ≤ s.now) | none => false)).foldl
    (fun (s : Dev) e => match pageOfNum e.1 with
      | some g => if s.isOn g then s.lateDrain g else s.setPx g { s.px g with drainAt := none }
      | none => s) s

/-- DRAIN_COMPLETE (R54, R58, R541): the page powers down, or is held, or its reset goes on. -/
def Dev.drainComplete (s : Dev) (g : Page) : Dev :=
  let s := match (s.px g).drainAt with
    | some t => (s.advanceTo t).lateDrains
    | none => s
  if s.power g ≠ pDraining ∨ !(s.drained g) then s
  else
    let x := s.px g
    match x.resetPend with
    | some wasOn =>
      let s := s.domainOff g
      (s.resetFields g).afterReset g wasOn
    | none =>
      if x.drainHold ∧ s.on (F.PAGE_CTRL_EN g) ∧ !(s.on (F.PAGE_STATE_REENABLE_PENDING g)) then
        let s := (s.setPx g { x with drainHold := false }).domainPower g pOn
        (if s.run g = rPaused then s else s.setRun g rHeld).regionSync g
      else
        let en := s.on (F.PAGE_CTRL_EN g)
        let open_ := s.mayOpen g
        let s := (s.setPx g { x with drainHold := false, regionDrain := false }).sb (F.PAGE_STATE_REENABLE_PENDING g) false
        let s := (((s.latchStatus g).domainPower g pOff).domainOff g).freeze g
        let s := (if open_ then s.openSupply g else s).regionSync g
        if en then s.tryWake g else s

/-- WAKE_FAIL (R559): the page stays OFF with REENABLE_PENDING, and the host must clear and set EN. -/
def Dev.wakeFail (s : Dev) (g : Page) : Dev :=
  if s.power g ≠ pWaking then s
  else
    let s := (s.domainPower g pOff).sb (F.PAGE_STATE_REENABLE_PENDING g) true
    s.raise C.PWR_WAKE_FAIL ((domainOf g).getD 0)

/-- The task step that ran on the page at the quiesce start has ended (R632). -/
def Dev.quietStep (s : Dev) (g : Page) : Bool :=
  match (s.px g).quietStep with
  | some e => s.slotState e.1 != 2 || s.stepsDone e.1 != e.2
  | none => true

/-- The work in flight that a QUIESCING page waits for has ended (R632). -/
def Dev.quietNow (s : Dev) (g : Page) : Bool :=
  s.quietStep g && (match g with
    | .bay b => !(s.hists.any (fun e => e.2.bay == b)) && !(s.ambs.any (fun e => e.2.bay == b)) && (s.wave b).inFlight.isEmpty
    | .pool q | .qtr q => !(s.hists.any (fun e => e.2.region == q)) && !(s.ambs.any (fun e => e.2.bay / 12 == q))
    | .clu k => s.drained (.clu k)
    | _ => true)

/-- QUIESCE_DONE (R632): RUN reads HELD. -/
def Dev.quiesceDone (s : Dev) (g : Page) : Dev :=
  if s.run g = rQuiescing ∧ s.quietNow g then (s.setRun g rHeld).regionSync g else s

/-- A page whose QUIESCE deadline has passed reads HELD once the task step of its quiesce start has ended (R632). -/
def Dev.quietSync (s : Dev) : Dev :=
  (s.pages.filter (fun e => e.2.quietLate)).foldl (fun (s : Dev) e => match pageOfNum e.1 with
    | some g =>
      if s.run g ≠ rQuiescing then s.setPx g { s.px g with quietLate := false }
      else if s.quietStep g then ((s.setPx g { s.px g with quietLate := false }).setRun g rHeld).regionSync g
      else s
    | none => s) s

/-- A page that asked to resume may leave its state (R59): a PAUSED one only without a severe error. -/
def Dev.mayResume (s : Dev) (g : Page) : Bool := s.isOn g && !(s.run g == rPaused && s.severeErrors g)

/-- The task step in progress on a page, as its slot and the steps done before it (R71). -/
def Dev.stepOn (s : Dev) (g : Page) : Option (Nat × Nat) :=
  match s.nextStep with
  | some i => if targetPage (s.task i).target = some g then some (i, s.stepsDone i) else none
  | none => none

/-- RUN returns to ACTIVE: a bay's digitiser wakes again (R344). -/
def Dev.goActive (s : Dev) (g : Page) : Dev :=
  let s := s.setRun g rActive
  match g with | .bay b => s.waveResume b | _ => s

/-- What a frame start does to a page's RUN (R59, R632): a resume, or a quiesce start. -/
def Dev.pageFrame (s : Dev) (g : Page) : Dev :=
  let x := s.px g
  let s := if x.resumeReq ∧ s.mayResume g then (s.setPx g { x with resumeReq := false }).goActive g else s
  let x := s.px g
  if x.quiesceReq ∧ s.active g then
    let s := (s.setPx g { x with quiesceReq := false, quietFrom := s.now, quietLate := false, quietStep := s.stepOn g }).setRun g rQuiescing
    let s := match g with | .bay b => s.closeBatch b | _ => s
    s.regionSync g
  else s

/-! ## Error and event registers (R48 to R52, R83, R506) -/

/-- A W1C write of ERR_STATUS (R48, R631). -/
def Dev.clearErr (s : Dev) (g : Page) (mask : Word) : Dev :=
  let s := s.wr (R.ERR_STATUS g) (s.rd (R.ERR_STATUS g) &&& ~~~mask)
  if bits mask 31 1 = 1 then s.setPx g { s.px g with lowerSev := 0, lowerUnsafe := false } else s

/-- A write of 1 to ERR_FIRST.VALID (R49). -/
def Dev.clearFirst (s : Dev) (g : Page) : Dev := s.wr (R.ERR_FIRST g) 0#32

/-- A write of SEQ_APPLIED.TAG (R52). -/
def Dev.putTag (s : Dev) (g : Page) (q : Requester) (tag : Nat) : Dev :=
  (s.sf (F.SEQ_APPLIED_REQ g) q.code).sf (F.SEQ_APPLIED_TAG g) tag

end Sys2Proof.Machine
end

