-- ==== Sys2Proof/Machine/Boot.lean ====
section
/-! DEFINITION. Power-up, boot and reset (19_startup_and_reset.md, R23 to R26, R598 to R612; R564, R569, R571, R581). -/
namespace Sys2Proof.Machine

/-- BOOT_STATUS.STAGE: ROM 0, FIRMWARE_INIT 1, RUNNING 2, RECOVERY 3. -/
def Dev.stageNow (s : Dev) : Nat := s.gf F.CHIP_BOOT_STATUS_STAGE

/-! ## Cold reset (R23 to R26, R599) -/

/-- What a cold reset finds of a flush in progress (R579, R581): records written before it are in the ring, the one being
written is torn. -/
def Dev.tearFlush (s : Dev) : Dev :=
  if !(s.on F.ALM_STATUS_FLUSHING) then s
  else
    let s := s.flushN (min s.flushReady s.staging.length)
    match s.staging with
    | [] => s
    | r :: _ =>
      let f := s.free
      f.2.toRing (.torn f.1) r.seq

/-- A flash operation cut off by a reset leaves the bytes it touches free (R587, log 74). -/
def Dev.tearFlash (s : Dev) : Dev :=
  match s.flash.op with
  | none => s
  | some (op, a, _) =>
    let s := { s with flash := { s.flash with op := none } }
    if op = 3 then s
    else
      let r := flashRange op a
      let f := s.free
      f.2.setFlash r.1 r.2 (fun b => Config.freeByte f.1 b % 256)

/-- COLD_RESET (R9, R23, R24, R26, R599): every field at its reset value; fuses, MRAM with the Almanac ring, flash and OTP stay. -/
def Dev.coldReset (s : Dev) : Dev :=
  let s := s.tearFlush.tearFlash
  let owners := s.gf F.SEC_STATUS_OWNER_SLOTS
  let counter := s.on F.SEC_STATUS_OWNER_COUNTERSIGN
  let revoked := s.on F.SEC_STATUS_MOALITH0_REVOKED
  let roll := s.rd R.SEC_ROLLBACK
  let part := s.rd R.CHIP_PART_ID
  let d : Dev := { mram := s.mram, flash := s.flash, alm := { ring := s.alm.ring }, sec := { ownerHash := s.sec.ownerHash },
                   freeCtr := s.freeCtr, out := s.out }
  let d := (((d.wr R.SEC_ROLLBACK roll).sf F.SEC_STATUS_OWNER_SLOTS owners).sb F.SEC_STATUS_OWNER_COUNTERSIGN counter).sb
    F.SEC_STATUS_MOALITH0_REVOKED revoked
  (d.wr R.CHIP_PART_ID part).gradePwr.gradeTherm

/-! ## The boot ROM (R564, R569, R571, R603, R604, R610) -/

/-- POR_RELEASE (R584, R603): the ROM starts; the flash is identified, a CHALLENGE drawn (R573). -/
def Dev.porRelease (s : Dev) (env : BootEnv) : Dev :=
  if s.boot.released then s
  else
    let s := { s with boot := { s.boot with released := true } }
    ((s.sb F.FLASH_INFO_OCTAL_DTR env.octal).sf F.FLASH_INFO_SIZE_LOG2 env.sizeLog2).drawChallenge

/-- The nominal reference, as REF_CFG.FREQ names it, within 5 % of a measured frequency in kHz (R603). -/
def nominalOf (f : Nat) : Option Nat :=
  (List.range 4).find? (fun i =>
    let n := [10000, 25000, 50000, 100000].getD i 0
    decide (95 * n ≤ 100 * f) && decide (100 * f ≤ 105 * n))

/-- REF_MEASURE_DONE (R603): at a cold boot FREQ takes the nominal frequency, and the PLL starts at its ratio. -/
def Dev.refMeasureDone (s : Dev) (freqKHz : Nat) : Dev :=
  if s.stageNow ≠ 0 ∨ s.boot.released = false ∨ s.boot.warm ∨ s.boot.measured then s
  else
    let s := match nominalOf freqKHz with
      | some i => s.sf F.TIME_REF_CFG_FREQ i
      | none => s
    let f := s.gf F.TIME_REF_CFG_FREQ
    { s with time := { s.time with freq := f }, boot := { s.boot with measured := true } }

/-- Where a slot starts in flash (R564). -/
def slotBase (b : Bool) : Nat := if b then 0x1000000 else 0

/-- The first check of R562 that a slot's image fails, 0 where it passes, COUNTERSIGN included where required (R564). -/
def Dev.romCheck (s : Dev) (b : Bool) : Nat :=
  let x := s.secAt (slotBase b)
  let c := s.checkSection x 1
  if c ≠ 0 ∨ s.on F.SEC_STATUS_OWNER_COUNTERSIGN = false then c
  else
    let y := s.secAt x.next
    let c := s.checkSection y 2
    if c ≠ 0 then c else if s.countersigns y x.digest then 0 else 1

/-- SLOT_x_CHECK (R614). -/
def slotCheckFld (b : Bool) : Fld := if b then F.CHIP_BOOT_STATUS_SLOT_B_CHECK else F.CHIP_BOOT_STATUS_SLOT_A_CHECK

/-- The measurements of a boot (R569): the ROM, the sections accepted, and the owner slots' states, whose digest's form the
spec does not give. -/
def Dev.measureBoot (s : Dev) (b : Bool) (version : Nat) : Dev :=
  let x := s.secAt (slotBase b)
  let s := (s.extend 0 0 0 (Config.romDigest % 2^256)).extend 0 1 version x.digest
  let s := if s.on F.SEC_STATUS_OWNER_COUNTERSIGN then
      let y := s.secAt x.next
      s.extend 0 2 y.version y.digest
    else s
  let f := s.free
  { f.2 with sec := { f.2.sec with fwRollback := x.rollback } }.extend 3 0 0 (f.1 % 2^256)

/-- BOOT_HANDOVER (R8, R564, R569, R571, R603, R604): the ROM hands over to the preferred slot if that passes every check, or to
the other where the preferred one fails and it passes. FW_VERSION takes the VERSION of the section accepted. -/
def Dev.bootHandover (s : Dev) (slot : Bool) : Dev :=
  let pref := s.mram.preferB
  let c := s.romCheck pref
  if s.stageNow ≠ 0 ∨ s.boot.released = false ∨ (s.boot.measured = false ∧ s.boot.warm = false) then s
  else if (slot = pref ∧ c ≠ 0) ∨ (slot ≠ pref ∧ (c = 0 ∨ s.romCheck slot ≠ 0)) then s
  else
    let s := if s.boot.recovered then s else (s.sf F.CHIP_BOOT_STATUS_SLOT_A_CHECK 0).sf F.CHIP_BOOT_STATUS_SLOT_B_CHECK 0
    let s := if slot = pref then s else s.sf (slotCheckFld pref) c
    let n := (s.mram.boots + 1) % 2^32
    let v := (s.secAt (slotBase slot)).version
    let key := !s.boot.warm || s.gf F.SEC_STATUS_DEBUG_LEVEL == 0
    let s := { s with mram := { s.mram with boots := n }, sec := { s.sec with fkPend := key } }
    let s := ((s.wr R.CHIP_FW_VERSION (BitVec.ofNat 32 v)).sb F.SEC_STATUS_BOOT_SLOT slot).sf F.SEC_BOOT_COUNT_COUNT n
    (s.measureBoot slot v).sf F.CHIP_BOOT_STATUS_STAGE 1

/-- RECOVERY (R610): both slots have failed, each with the check it shows. -/
def Dev.recovery (s : Dev) : Dev :=
  let a := s.romCheck false
  let b := s.romCheck true
  if s.stageNow ≠ 0 ∨ s.boot.released = false ∨ a = 0 ∨ b = 0 then s
  else
    let s := s.extend 0 0 0 (Config.romDigest % 2^256)
    let s := { s with boot := { s.boot with recovered := true } }
    let s := (s.wr R.CHIP_FW_VERSION 0#32).sf F.CHIP_BOOT_STATUS_SLOT_A_CHECK a
    (s.sf F.CHIP_BOOT_STATUS_SLOT_B_CHECK b).sf F.CHIP_BOOT_STATUS_STAGE 3

/-! ## Firmware initialisation (R605 to R612) -/

/-- Step 2 (R149, R605): tables, corrections and offsets kept in MRAM are in force from the first frame. -/
def Dev.loadCal (s : Dev) : Dev :=
  let s := s.mram.tables.foldl (fun (s : Dev) e =>
    let b := e.1 / 17
    let i := e.1 % 17
    let x := s.conv b i
    let now := s.now
    let t := s.gi (F.THERM_NODE_TEMP_TEMP (b / 6))
    s.setConv b i { x with table := e.2, old := [], step := 16, accepted := e.2, acceptedAt := now, acceptedTemp := t }) s
  let s := s.mram.slices.foldl (fun (s : Dev) e =>
    s.setSlice (e.1 / 8) (e.1 % 8) { s.slice (e.1 / 8) (e.1 % 8) with valid := true, new := e.2, old := e.2, step := 16 }) s
  let s := s.mram.rz.foldl (fun (s : Dev) e => s.setRz e.1 { s.rzOf e.1 with valid := true, new := e.2, old := e.2, step := 16 }) s
  forN 48 (fun b (s : Dev) => ((s.calSync b).sliceSync b).rzSync b) s

/-- A little-endian word of MRAM. -/
def Dev.mramWord (s : Dev) (a : Nat) : Nat := ofBE ((List.range 4).map (fun i => s.mramByte (a + 3 - i)))

/-- A configuration write by the firmware (R506, R507, R606). -/
def Dev.nwBootWrite (s : Dev) (off : Nat) (w : Word) : Dev :=
  if s.releasing && !(s.onlyReduces off w) then s.refuse .nw else s.cfgWrite .firmware off w

/-- Entries of the Nightwatch configuration block from the `e`th on, `n` of them (R606): false where one names a register
outside the list of R508. -/
def Dev.nwEntries : Nat → Nat → Dev → Bool × Dev
  | 0, _, s => (true, s)
  | n + 1, e, s =>
    let a := 0x3F0010 + 8 * e
    if nwConfig (s.mramWord a) then
      Dev.nwEntries n (e + 1) (s.nwBootWrite (s.mramWord a) (BitVec.ofNat 32 (s.mramWord (a + 4))))
    else (false, s)

/-- Step 3: the Nightwatch configuration block (R606). -/
def Dev.nwBlock (s : Dev) : Dev :=
  let magic := s.mramWord 0x3F0000
  let n := s.mramWord 0x3F0004
  let crc := s.mramWord 0x3F0008
  if magic = 0 ∨ magic = 0xFFFFFFFF then s
  else if magic ≠ 0x4E574346 ∨ n = 0 ∨ 256 < n then s.raise C.CHIP_NW_CONFIG_INVALID
  else
    let r := Dev.nwEntries n 0 s
    if r.1 ∧ r.2.cfgCrc = crc then r.2.sealGo .firmware (BitVec.ofNat 32 crc)
    else r.2.raise C.CHIP_NW_CONFIG_INVALID

/-- Step 4: the recorded kernel bundle (R569, R608). -/
def Dev.loadKernels (s : Dev) (ids : List Nat) : Dev :=
  let secs := match s.mram.kernelOff with
    | none => []
    | some a => s.imageSections 1 a
  if secs ≠ [] ∧ secs.all (fun e => s.checkSection (s.secAt e.1) e.2 == 0) then
    let s := secs.foldl (fun (s : Dev) e => let y := s.secAt e.1; s.extend 1 y.type y.version y.digest) s
    let roll := fun (t : Nat) => match secs.find? (fun e => e.2 == t) with
      | some e => (s.secAt e.1).rollback
      | none => 0
    let v := (s.secAt (secs.headD (0, 0)).1).version
    let signed := fun (k : Nat) => secs.any (fun e => kernelIdsOk e.2 [k])
    let ks := ids.filter (fun k => decide (0 < k) && decide (k < 255) && signed k)
    let bs := (secs.flatMap (fun e => let y := s.secAt e.1; s.flashBytes (y.base + 256) y.len)).take 65536
    { s with kbank := { ids := ks, bank0 := bs }, sec := { s.sec with kernRollback := (roll 3, roll 4) } }.sf
      (F.CLU_KBANK_VERSION 0) v
  else
    let s := { s with kbank := {} }.sf (F.CLU_KBANK_VERSION 0) 0
    (forN 32 (fun k (s : Dev) => s.sb (F.CLU_CTRL_DISPATCH_EN k) false) s).raise C.CHIP_KERNELS_ABSENT

/-- The SEQ of a valid record in a ring slot. -/
def RingSlot.seq? : RingSlot → Option Nat
  | .valid r => some r.seq
  | _ => none

/-- A slot whose CRC fails. -/
def RingSlot.bad : RingSlot → Bool
  | .torn _ => true
  | _ => false

/-- Step 5: the ring scan (R581). Records that wait in staging get the numbers that follow; the number of a torn record
stays unused. -/
def Dev.ringScan (s : Dev) : Dev :=
  if s.alm.scanned then s
  else
    let seqs := s.alm.ring.filterMap (fun e => e.2.seq?)
    let bad := (s.alm.ring.filter (fun e => e.2.bad)).length
    let last := seqs.foldl max 0
    let after := (last + 1) % 2^32
    let torn := (fget slot0 s.alm.ring (after % almSlots)).bad
    let next := if seqs = [] then 0 else if torn then (after + 1) % 2^32 else after
    let st := (List.range s.staging.length).filterMap (fun k => (s.staging[k]?).map (fun r => { r with seq := (next + k) % 2^32 }))
    let s := { s with staging := st, alm := { s.alm with scanned := true } }
    let s := (s.setFlushed next).sf F.ALM_NEXT_SEQ_SEQ (next + st.length)
    s.record 0x0003 .info Page.alm.base (if seqs = [] then 0xFFFFFFFF else last) bad (b2n (seqs != []))

/-- The BOOT_FALLBACK records (R564, R611) and what clears them. -/
def Dev.fallbackRecords (s : Dev) : Dev :=
  let one := fun (s : Dev) (b : Bool) =>
    let c := s.gf (slotCheckFld b)
    if c = 0 then s
    else (s.record 0x0002 .degraded Page.sec.base (b2n b) c).raise C.SEC_BOOT_FALLBACK c
  if s.boot.recovered then
    let s := one (one s false) true
    let s := { s with boot := { s.boot with recovered := false } }
    (s.sf F.CHIP_BOOT_STATUS_SLOT_A_CHECK 0).sf F.CHIP_BOOT_STATUS_SLOT_B_CHECK 0
  else one (one s false) true

/-- The pages whose domains initialisation enables, each QF before what it carries (R538, R539). -/
def bootPages : List Page :=
  (List.range 4).map Page.qtr ++ (List.range 32).map Page.clu ++ (List.range 48).map Page.bay
    ++ (List.range 12).map Page.lane ++ [.scan]

/-- Domains that the power-up enable block leaves off, as a mask (R607). -/
def Dev.enableBlock (s : Dev) : Nat :=
  let a := 0x3E0000
  let ok := s.mramWord a == 0x50454E42 && crc32 ((List.range 20).map (fun i => s.mramByte (a + i))) == s.mramWord (a + 20)
  if ok then s.mramWord (a + 4) + s.mramWord (a + 8) * 2^32 + s.mramWord (a + 12) * 2^64 + s.mramWord (a + 16) % 32 * 2^96
  else 0

/-- The code table generated at boot (R173, R609). -/
def Dev.codeBoot (s : Dev) : Dev :=
  let p := s.emit.pulses
  let w := s.emit.wc
  let a := s.emit.codeAddr
  ((s.sf F.CODE_CODE_STATUS_RADIX (codeRadix p w)).sb F.CODE_CODE_STATUS_DISJOINT (codeDisjoint p w)).sf
    F.CODE_CODE_STATUS_ADDRESS a

/-! ## Warm reset (R24, R25, R461, R601, R602) -/

/-- Bits that survive a warm reset: those of a page reset but for EN, POWER, the supplies, the kernel banks and FW_VERSION, which
the boot sets again (R8, R24, R605, R609). -/
def warmKeep (g : Page) (off : Nat) : Nat :=
  let k := match regRow g off with | some r => r.keep | none => 0
  match g with
  | .nw => 2^32 - 1
  | .clu _ | .pwr | .chip => k
  | g => Nat.lor k (liveBits g off)

/-- Every register takes its Reset value but for the bits that survive. -/
def Dev.warmRegs (s : Dev) : FMap Word :=
  s.regs.foldl (fun m e =>
    match keyPage e.1 with
    | some g =>
      let k := BitVec.ofNat 32 (warmKeep g (e.1 % 4096))
      fset regDefault m e.1 ((e.2 &&& k) ||| (regDefault e.1 &&& ~~~k))
    | none => m) []

/-- Every ARMED action ends as CANCELLED (R461); STATE is FREE 0, ARMED 1, CANCELLED 6. -/
def Dev.cancelActions (s : Dev) : Dev :=
  forN 16 (fun i (s : Dev) =>
    if s.gf (F.TIME_ACT_STATUS_STATE i) = 1 then (s.sf (F.TIME_ACT_STATUS_STATE i) 6).record 0x0041 .info Page.time.base i else s) s

/-- What a warm reset leaves of the block (R24, R602). Bursts that have launched can still be charged by Nightwatch. -/
def Dev.warmClear (s : Dev) : Dev :=
  let x := s.px .nw
  let regs := s.warmRegs
  let ports := s.ports.map (fun e => (e.1, ({ bursts := e.2.bursts } : PortX)))
  let d : Dev :=
    { regs := regs, now := s.now, running := s.running, staging := s.staging,
      time := { start := s.now, freq := s.time.freq, slewEnd := s.time.slewEnd, epochDue := true },
      ledger := s.ledger, host := s.host, nw := s.nw, mram := s.mram, flash := { bytes := s.flash.bytes },
      alm := { s.alm with scanned := false },
      sec := { meas := s.sec.meas, log := s.sec.log, challenge := s.sec.challenge, ownerHash := s.sec.ownerHash,
               keyFault := s.sec.keyFault },
      res := { ageAt := s.now, bistAt := s.now }, boot := { s.boot with warm := true }, freeCtr := s.freeCtr, out := s.out }
  let d := ports.foldl (fun (d : Dev) e => if e.2.bursts = [] then d else d.setPort e.1 e.2) d
  (d.setPx .nw x).gradePwr.gradeTherm

/-- SEC fields that name a key or a quote of the boot that ends (R570, R571). -/
def Dev.dropKeys (s : Dev) : Dev :=
  let s := (s.sb F.SEC_STATUS_FK_VALID false).sf F.SEC_FK_ID_KEY_ID 0
  (s.sb F.SEC_STATUS_QUOTE_BUSY false).sb F.SEC_STATUS_QUOTE_VALID false

/-- The reference qualifier restarts, and a changed REF_CFG.FREQ is relocked to through holdover (R125, R127, R129, R602). -/
def Dev.warmTime (s : Dev) : Dev :=
  let f := s.gf F.TIME_REF_CFG_FREQ
  if f ≠ s.time.freq then
    let s := { s with time := { s.time with freq := f } }
    if s.on F.TIME_STATUS_PLL_LOCKED then s.pllUnlock else s.qualRestart 1
  else s.qualRestart (if s.on F.TIME_STATUS_PLL_LOCKED then 2 else if s.on F.TIME_STATUS_REF_PRESENT then 1 else 0)

/-- The frames in progress are lost without a FRAME_CLOSE (R602). -/
def Dev.dropFrames (s : Dev) : Dev := { s with frames := [] }

/-- A warm reset (R601, R602): its cause HOST 1, LOCKSTEP 2 or FIRMWARE 3, and the requester of a HOST reset. The boot ROM
then verifies and hands over as after POR_N. -/
def Dev.warm (s : Dev) (cause req : Nat) : Dev :=
  if s.boot.released = false then s
  else
    let s := ((s.sf F.CHIP_RESET_CAUSE_LAST cause).sf F.CHIP_RESET_CAUSE_REQ req).incSat F.CHIP_RESET_CAUSE_WARM_COUNT
    let s := (s.dropFrames.watchdogLatch.nwSync).record 0x0006 .info Page.chip.base req
    let s := ((s.abortTasks (fun _ => true)).cancelActions).startFlush.flushDone
    let s := (s.tearFlash.warmClear).dropKeys
    (s.sf F.CHIP_BOOT_STATUS_STAGE 0).warmTime

/-- A write of RESET_CTRL.WARM with its KEY (R601, R614). -/
def Dev.warmReset (s : Dev) (req : Requester) (key : BitVec 8) : Dev :=
  if key = 0x5A#8 then s.warm 1 req.code else s.refuse .chip

/-- CTRL_LOCKSTEP (R28, R601, R615): recorded, then a warm reset; RECOVERY is left by RESET_CTRL alone (R611; DEDUCED, log 101). -/
def Dev.ctrlLockstep (s : Dev) : Dev :=
  if s.boot.released = false then s
  else
    if s.stageNow = 3 then (s.raise C.CHIP_CTRL_LOCKSTEP).nwSync
    else (s.dropFrames.raise C.CHIP_CTRL_LOCKSTEP).nwSync.warm 2 0

/-- FIRMWARE_FATAL (R601). -/
def Dev.firmwareFatal (s : Dev) : Dev := if s.stageNow = 1 ∨ s.stageNow = 2 then s.warm 3 0 else s

end Sys2Proof.Machine
end

