-- ==== Sys2Proof/Machine/Shadow.lean ====
section
/-! DEFINITION. Shadow sets (R53, R60 to R63, R307, R364), the apply pulse (R199), and what the sets of every page become
when they apply at a frame start (R113, R118, R120, R157, R170 to R173, R191, R200, R219, R239, R264, R308, R361, R362). -/
namespace Sys2Proof.Machine

/-- The page that keeps the shadow set of a page: the CLU pages of a region share one (R307). -/
def setHome : Page → Page
  | .clu k => .clu (k / 8 * 8)
  | g => g

/-- A register is shadowed (R60). -/
def shadowedReg (g : Page) (off : Nat) : Bool :=
  match regRow g off with
  | some r => r.shadowed
  | none => false

/-- CH_THRESH of a bay. -/
def threshReg (off : Nat) : Bool := decide (0x100 ≤ off) && decide (off < 0x200) && off % 0x20 == 0

/-- The exposure registers (R361). -/
def expoReg (g : Page) (off : Nat) : Bool :=
  match g with
  | .bay _ => threshReg off || (decide (0x100 ≤ off) && decide (off < 0x200) && off % 0x20 == 4) || off == 0x48 || off == 0x5C
  | .emit => decide (0x100 ≤ off) && decide (off < 0x400) && off % 0x10 == 8
  | .sky => off == 0x4C || off == 0x50 || off == 0x54 || (decide (0x100 ≤ off) && decide (off < 0x154))
      || (decide (0x200 ≤ off) && decide (off < 0x800))
  | _ => false

/-! ## Arming, writing, committing (R60, R61, R63, R197, R198) -/

/-- The open set of a page is dropped. -/
def Dev.dropSet (s : Dev) (g : Page) : Dev := s.setPx (setHome g) { s.px (setHome g) with setOpen := [], setExpo := false }

/-- ARM (R60): a set opens afresh from the values in force. -/
def Dev.armSet (s : Dev) (g : Page) (q : Requester) : Dev :=
  if s.on (F.SHADOW_CTRL_PENDING g) ∨ (s.on (F.SHADOW_CTRL_ARMED g) ∧ s.gf (F.SHADOW_CTRL_OWNER g) ≠ q.code) then s.refuse g
  else
    let s := (s.sb (F.SHADOW_CTRL_ARMED g) true).sf (F.SHADOW_CTRL_OWNER g) q.code
    let s := if g = .emit ∧ s.emit.stagedKind = 1 then { s with emit := { s.emit with stagedKind := 0 } } else s
    s.dropSet g

/-- The open set of a page is the requester's (R60). -/
def Dev.holdsSet (s : Dev) (g : Page) (q : Requester) : Bool :=
  s.on (F.SHADOW_CTRL_ARMED g) && s.gf (F.SHADOW_CTRL_OWNER g) == q.code

/-- A commit of the EMIT page waits for its apply pulse, and for a transfer where none has staged its words (R199). -/
def Dev.emitLatched (s : Dev) : Dev :=
  let s := { s with emit := { s.emit with applyAt := none } }
  let s := if s.emit.stagedKind = 1 then s else s.needTransfer 1
  s.sb F.EMIT_STARLINE_STATUS_APPLY_PENDING true

/-- Latch a commit of the open set of a page, in the present group (R61). -/
def Dev.latchOpen_ (s : Dev) (g : Page) : Dev :=
  let s := s.latchSet (setHome g) (s.gf (F.SHADOW_CTRL_OWNER g)) (s.px (setHome g)).setOpen s.now
  if g = .emit then s.emitLatched else s

/-- COMMIT (R60, R61, R198, R458): the owner's, while no preload runs, of a set that no timed action is to commit. With no set open
there is nothing to commit, and it is refused with ACCESS (DESIGN CHOICE, log 86). -/
def Dev.commitSet (s : Dev) (g : Page) (q : Requester) : Dev :=
  if !(s.holdsSet g q) ∨ s.gf (F.SHADOW_CTRL_MODE g) = 2 ∨ (g = .emit ∧ s.on F.EMIT_STARLINE_STATUS_PRELOAD_BUSY) then s.refuse g
  else s.newGroup.latchOpen_ g

/-- DISCARD (R63). With neither an open nor a pending set it has no effect, and no ACCESS (DESIGN CHOICE, log 86). -/
def Dev.discardSet (s : Dev) (g : Page) (q : Requester) : Dev :=
  if s.on (F.SHADOW_CTRL_PENDING g) then s.refuse g
  else if !(s.on (F.SHADOW_CTRL_ARMED g)) then s
  else if !(s.holdsSet g q) then s.refuse g
  else
    let s := (s.sb (F.SHADOW_CTRL_ARMED g) false).dropSet g
    if g = .emit then s.restage else s

/-- A write of SHADOW_CTRL (R45, R53, R60): MODE is stored, then the one action acts. An ARM of the EMIT page waits for a
transfer in progress (R197). -/
def Dev.shadowCtrl (s : Dev) (g : Page) (q : Requester) (w : Word) : Dev :=
  let v := w.toNat
  let mode := v / 2^28 % 4
  let n := b2n (bit v 0) + b2n (bit v 1) + b2n (bit v 2)
  if mode = 3 ∨ 1 < n then s.refuse g
  else if g = .emit ∧ bit v 0 ∧ s.transferring then
    { s with emit := { s.emit with armWait := s.emit.armWait ++ [(q, mode)] } }
  else
    let s := s.sf (F.SHADOW_CTRL_MODE g) mode
    if n = 0 then s
    else if !g.shadowed then s.refuse g
    else if bit v 0 then s.armSet g q
    else if bit v 1 then s.commitSet g q
    else s.discardSet g q

/-- Put a value into a list of register values. -/
def putReg (l : List (Nat × Word)) (off : Nat) (w : Word) : List (Nat × Word) :=
  l.filter (fun e => e.1 != off) ++ [(off, w)]

/-- The shadow value of a register: of the open set, else in force. -/
def Dev.shadowVal (s : Dev) (g : Page) (off : Nat) : Word :=
  match (s.px (setHome g)).setOpen.find? (fun e => e.1 == off) with
  | some e => e.2
  | none => s.rd ⟨g, off⟩

/-- A write of a shadowed register (R60, R366): accepted from the owner of the open set. -/
def Dev.shadowWrite (s : Dev) (g : Page) (q : Requester) (off : Nat) (w : Word) : Dev :=
  let bayTh : Bool := match g with | .bay _ => threshReg off | _ => false
  if !(s.holdsSet g q) ∨ (bayTh ∧ q ≠ .firmware ∧ s.on F.SKY_CTRL_AE_EN) then s.refuse g
  else
    let h := setHome g
    let x := s.px h
    let v := mergeBits (s.shadowVal g off) w (rwMask g off)
    let s := s.setPx h { x with setOpen := putReg x.setOpen off v, setExpo := x.setExpo || expoReg g off }
    if g = .emit then (s.sb F.EMIT_STARLINE_STATUS_APPLY_PENDING false).needTransfer 1 else s

/-- The pages EXPO_COMMIT can commit. -/
def expoPages : List Page := (List.range 48).map Page.bay ++ [.emit, .sky]

/-- EXPO_COMMIT.GO (R364). -/
def Dev.expoGo (s : Dev) (q : Requester) : Dev :=
  let mine := expoPages.filter (fun g => s.holdsSet g q)
  let go := mine.filter (fun g => s.gf (F.SHADOW_CTRL_MODE g) != 2)
  let s := if go.length = mine.length then s else s.refuse .sky
  if go.isEmpty then s
  else if go.contains .emit ∧ s.on F.EMIT_STARLINE_STATUS_PRELOAD_BUSY then s.refuse .sky
  else go.foldl (fun (s : Dev) g => s.latchOpen_ g) s.newGroup

/-! ## Frame starts to come and the apply pulse (R199, R220, R221) -/

/-- The first instant FRAME_ANCHOR + m * FRAME_PERIOD at or after `lo` (R220). -/
def Dev.nextFree (s : Dev) (lo : Nat) : Nat :=
  let a : Int := s.g64 F.SCAN_FRAME_ANCHOR_LO_NS F.SCAN_FRAME_ANCHOR_HI_NS
  ((lo : Int) + (a - lo) % (s.framePeriod * 1000 : Nat)).toNat

/-- The moment after which the first scheduled start lies (R220, R221). -/
def Dev.firstFrom (s : Dev) : Nat := max s.scan.enAt s.scan.readyAt + 10000

/-- FRAME_SRC is SYNC, as the next scheduled instant takes it (R235). -/
def Dev.frameSync (s : Dev) : Bool := if s.scan.lastSched.isSome then s.scan.src else s.on F.SCAN_CTRL_FRAME_SRC

/-- The next scheduled start under FREE, not before the present (R220, log 51). -/
def Dev.freeStart (s : Dev) : Nat :=
  let lo := match s.scan.lastSched with | some f => f + 1 | none => 0
  s.nextFree (max (max lo s.now) s.firstFrom)

/-- The expected start under SYNC (R221). -/
def Dev.expected (s : Dev) : Option Nat := s.scan.lastSched.map (fun f => f + s.framePeriod * 1000)

/-- The earliest moment the next frame start can have (R220, R221); none where no start is to come. -/
def Dev.nextStartAt (s : Dev) : Option Nat :=
  if !(s.on F.SCAN_CTRL_FRAME_EN) then none
  else if !s.frameSync then some s.freeStart
  else match s.scan.syncAt with
    | some f => some f
    | none => s.expected.map (fun f => f - s.syncWin * 1000)

/-- Whether the staged words may be applied at `t` (R199): a latched set's, or a compensation update's, in RUNNING no later
than 10 us before the next frame start and, for a set, only before a start at which it can apply. -/
def Dev.pulseFits (s : Dev) (t : Nat) : Bool :=
  let set := s.emit.stagedKind == 1
  let ok := if set then s.on (F.SHADOW_CTRL_PENDING .emit) else s.emit.stagedKind == 2
  ok && (if s.gf F.SCAN_STATUS_STATE = 3 then
    match s.nextStartAt with
    | some f => decide (t + 10000 ≤ f) && (!set || decide ((s.px .emit).latchT + 10000 ≤ f))
    | none => true
  else true)

/-- APPLY_PULSE (R199): the staged words become active, no earlier than the end of the last sub-pulse. -/
def Dev.applyPulse (s : Dev) : Dev :=
  let t := max s.now s.emit.lastSubEnd
  if s.on F.EMIT_STARLINE_STATUS_APPLY_PENDING ∧ !s.transferring ∧ s.frameOver ∧ s.pulseFits t then
    let s := s.advanceTo t
    let codes := s.emit.stagedCodes
    let set := s.emit.stagedKind = 1
    let s := forN 48 (fun p (s : Dev) => s.sf (F.EMIT_PORT_STATUS_SENT_CODE p) (fget code0 codes p)) s
    let s := { s with emit := { s.emit with stagedKind := 0, pulseAt := some s.now, applyAt := if set then some s.now else s.emit.applyAt } }
    let s := (s.sb F.EMIT_STARLINE_STATUS_APPLY_PENDING false).inc F.EMIT_STARLINE_STATUS_APPLIES
    (forN 48 (fun p (s : Dev) => s.portCells p) (s.event E.EMIT_APPLIED)).send (.applyPulse t)
  else s

/-! ## What a set becomes when it applies -/

/-- Put the values of a set in force; the bits of their registers that no write stores stay (R22). -/
def Dev.mergeSet (s : Dev) (g : Page) (l : List (Nat × Word)) : Dev :=
  l.foldl (fun (s : Dev) e => s.wr ⟨g, e.1⟩ (mergeBits (s.rd ⟨g, e.1⟩) e.2 (rwMask g e.1))) s

/-- One SET_ADJUSTED for each adjustment. -/
def Dev.raiseEach (r : List Nat × Dev) (c : Cause) : Dev := r.1.foldl (fun (s : Dev) u => s.raise c u) r.2

/-- Nightwatch holds the Eclipse release of a bay (R502). -/
def Dev.eclipseReleased (s : Dev) (b : Nat) : Bool :=
  bit (s.gf F.NW_ECLIPSE_REL0_BAYS + s.gf F.NW_ECLIPSE_REL1_BAYS * 2^32) b

/-- The committed EC_CTRL gives up protection (R118). -/
def Dev.ecLowers (s old : Dev) (b : Nat) : Bool :=
  (old.on (F.BAY_EC_CTRL_EN b) && !(s.on (F.BAY_EC_CTRL_EN b)))
    || (List.range 8).any (fun c => bit (old.gf (F.BAY_EC_CTRL_CH_MASK b)) c && !(bit (s.gf (F.BAY_EC_CTRL_CH_MASK b)) c)
      && bit (s.gf (F.BAY_CH_ENABLE_EN b)) c)

/-- The timing, thresholds and Eclipse settings of a BAY set (R113, R118, R120). -/
def Dev.bayResolve (s old : Dev) (b : Nat) : List Nat × Dev :=
  let f := F.BAY_TDC_TIMING_TIMEOUT b
  let r := adjust ([], s) (fun s => decide (s.gf f = 0) || decide (1024 < s.gf f)) 0 (fun s => s.sf f 1024)
  let r := adjust r (fun s => decide (s.gf (F.BAY_TDC_TIMING_TOT_MAX b) = 0)) 0 (fun s => s.sf (F.BAY_TDC_TIMING_TOT_MAX b) 1)
  let r := adjust r (fun s => decide (s.gf (F.BAY_TDC_TIMING_VAL_WIN b) = 0)) 0 (fun s => s.sf (F.BAY_TDC_TIMING_VAL_WIN b) 1)
  let r := (List.range 8).foldl (fun r c =>
    adjust r (fun s => bit (s.gf (F.BAY_CH_ENABLE_EN b)) c && decide (s.gf (F.BAY_CH_THRESH_VAL b c) < s.gf (F.BAY_CH_THRESH_ARM b c))) c
      (fun s => s.sf (F.BAY_CH_THRESH_VAL b c) (s.gf (F.BAY_CH_THRESH_ARM b c)))) r
  let close := old.gf (F.CAL_HALO_WIN_CLOSE b)
  let r := adjust r (fun s => decide (s.gf (F.BAY_EC_WINDOW_OPEN b) < close)) 0 (fun s => s.sf (F.BAY_EC_WINDOW_OPEN b) close)
  let r := adjust r (fun s => decide (s.gf (F.BAY_EC_WINDOW_CLOSE b) ≤ s.gf (F.BAY_EC_WINDOW_OPEN b))) 0
    (fun s => s.wr (R.BAY_EC_WINDOW b) (old.rd (R.BAY_EC_WINDOW b)))
  adjust r (fun s => s.ecLowers old b && !(s.eclipseReleased b)) 0 (fun s => s.wr (R.BAY_EC_CTRL b) (old.rd (R.BAY_EC_CTRL b)))

/-- Bins that the gate of a bay would have (R238). -/
def Dev.gateBins (s : Dev) (b : Nat) : Nat :=
  binsOf (s.gf (F.BAY_GATE_OPEN_OPEN b)) (s.gf (F.BAY_GATE_CLOSE_CLOSE b)) (64 * 2^(s.gf (F.BAY_HIST_CFG_BIN_W b)))

/-- CLOSE is cut to 2,048 bins (R239). -/
def Dev.cutGate (s : Dev) (b : Nat) : Dev :=
  s.sf (F.BAY_GATE_CLOSE_CLOSE b) (s.gf (F.BAY_GATE_OPEN_OPEN b) + 2048 * (64 * 2^(s.gf (F.BAY_HIST_CFG_BIN_W b))))

/-- The gate of a BAY set (R239), a previous gate under a narrower bin included (log 52), and WAVE_SCAN (R345). -/
def Dev.gateResolve (r : List Nat × Dev) (old : Dev) (b : Nat) : List Nat × Dev :=
  let r := adjust r (fun s => decide (1048576 < s.gf (F.BAY_GATE_CLOSE_CLOSE b))) 0 (fun s => s.sf (F.BAY_GATE_CLOSE_CLOSE b) 1048576)
  let r := adjust r (fun s => decide (2048 < s.gateBins b)) 0 (fun s => s.cutGate b)
  let r := adjust r (fun s => decide (s.gf (F.BAY_GATE_CLOSE_CLOSE b) ≤ s.gf (F.BAY_GATE_OPEN_OPEN b))) 0
    (fun s =>
      let s := (s.wr (R.BAY_GATE_OPEN b) (old.rd (R.BAY_GATE_OPEN b))).wr (R.BAY_GATE_CLOSE b) (old.rd (R.BAY_GATE_CLOSE b))
      if 2048 < s.gateBins b then s.cutGate b else s)
  adjust r (fun s => decide (992 < s.gf (F.BAY_WAVE_SCAN_LEN b))) 0 (fun s => s.sf (F.BAY_WAVE_SCAN_LEN b) 992)

/-- HIST_GEOM shows the histograms of the settings in force (R247, R279). -/
def Dev.geomSync (s : Dev) (b : Nat) : Dev :=
  let n := s.gateBins b
  (s.sf (F.BAY_HIST_GEOM_NBINS b) n).sf (F.BAY_HIST_GEOM_CHUNKS b) (chunksOf n (s.on (F.BAY_HIST_CFG_FES_EN b)))

/-- A BAY set in force: the scan pointer keeps its channel or moves on (R334). -/
def Dev.bayApply (s old : Dev) (b : Nat) : Dev :=
  ((Dev.raiseEach (Dev.gateResolve (s.bayResolve old b) old b) (C.BAY_SET_ADJUSTED b)).geomSync b).pointerSync b

/-- A CAL set in force (R157). -/
def Dev.calApply (s old : Dev) : Dev :=
  let r := (List.range 48).foldl (fun r p =>
    adjust r (fun s => decide (s.gf (F.BAY_EC_WINDOW_OPEN p) < s.gf (F.CAL_HALO_WIN_CLOSE p)) && decide (s.rd (R.CAL_HALO_WIN p) ≠ old.rd (R.CAL_HALO_WIN p))) p
      (fun s => s.wr (R.CAL_HALO_WIN p) (old.rd (R.CAL_HALO_WIN p)))) ([], s)
  Dev.raiseEach r C.CAL_SET_ADJUSTED

/-- The sum of the floors of a region. -/
def Dev.floorSum (s : Dev) (q : Nat) : Nat := ((List.range 12).map (fun l => s.gf (F.POOL_FLOOR_FLOOR q l))).sum

/-- A POOL set in force (R264, R269). -/
def Dev.poolApply (s old : Dev) (q : Nat) : Dev :=
  let r := adjust ([], s) (fun s => decide (3840 < s.floorSum q)) 0
    (fun s => forN 12 (fun l (s : Dev) => s.sf (F.POOL_FLOOR_FLOOR q l) (old.gf (F.POOL_FLOOR_FLOOR q l))) s)
  let s := Dev.raiseEach r (C.POOL_SET_ADJUSTED q)
  let n := s.floorSum q
  ((s.sf (F.POOL_SHARED_FLOOR_SUM q) n).sf (F.POOL_SHARED_SHARED_CAP q) (4096 - n)).poolSync q

/-- A parameter set whose chain cannot run (R308). -/
def Dev.badChain (s : Dev) (k i : Nat) : Bool :=
  let ids := chainIds (s.gf (F.CLU_PSET_WORD k i 0)) (s.gf (F.CLU_PSET_WORD k i 1))
  ids.isEmpty || ids.any (fun d => d == 255 || !(s.kbank.ids.contains d))

/-- A walk table whose TOT points decrease (R308). -/
def Dev.badWalk (s : Dev) (k l : Nat) : Bool :=
  (List.range 15).any (fun i => decide (s.gf (F.CLU_WALK_TOT16 k l (i + 1)) < s.gf (F.CLU_WALK_TOT16 k l i)))

/-- A set of a region's parameter store in force (R308): only tables that the set wrote are judged. -/
def Dev.cluApply (s old : Dev) (k : Nat) (l : List (Nat × Word)) : Dev :=
  let wrote := fun (lo n : Nat) => l.any (fun e => decide (lo ≤ e.1) && decide (e.1 < lo + n))
  let r := (List.range 8).foldl (fun r i =>
    adjust r (fun s => wrote (0x400 + 0x80 * i) 0x80 && s.badChain k i) 0
      (fun s => forN 32 (fun w (s : Dev) => s.wr (R.CLU_PSET k i w) (old.rd (R.CLU_PSET k i w))) s)) ([], s)
  let r := (List.range 12).foldl (fun r b =>
    adjust r (fun s => wrote (0xB00 + 0x40 * b) 0x40 && s.badWalk k b) 0
      (fun s => forN 16 (fun w (s : Dev) => s.wr (R.CLU_WALK k b w) (old.rd (R.CLU_WALK k b w))) s)) r
  Dev.raiseEach r (C.CLU_SET_ADJUSTED k)

/-- An EMIT set in force: derating and port states follow it (R186, R193, R200). -/
def Dev.emitApply (s old : Dev) : Dev :=
  let s := (Dev.raiseEach (s.emitResolve old) C.EMIT_SET_ADJUSTED).derateAll
  let s := { s with emit := { s.emit with applyAt := none } }
  forN 48 (fun p (s : Dev) => (s.portSync p).portCells p) s

/-- A CODE set in force (R170, R205): the bank that was filled from it becomes active with it (`swapBank`). -/
def Dev.codeApply (s old : Dev) : Dev :=
  let r := adjust ([], s) (fun s => decide (28 < s.gf F.CODE_CODE_CFG_WIDTH)) 0 (fun s => s.sf F.CODE_CODE_CFG_WIDTH 28)
  let r := adjust r (fun s => decide (codeFree (s.gf F.CODE_CODE_CFG_PULSES) (s.gf F.CODE_CODE_CFG_WIDTH) < 0)) 0
    (fun s => s.wr R.CODE_CODE_CFG (old.rd R.CODE_CODE_CFG))
  let s := Dev.raiseEach r C.CODE_SET_ADJUSTED
  { s with emit := { s.emit with codeCfg := (s.rd R.CODE_CODE_CFG).toNat, codeSeed := s.gf F.CODE_SEED_SEED } }

/-- A SCAN set in force (R219). -/
def Dev.scanApply (s old : Dev) (l : List (Nat × Word)) : Dev :=
  let r := s.scanResolve old l
  if r.1 then r.2.raise C.SCAN_SET_ADJUSTED else r.2

/-- A SKY set in force (R354, R355). -/
def Dev.skyApply (s old : Dev) : Dev :=
  let r := adjust ([], s) (fun s => decide (1022 < s.gf F.SKY_MERGE_KNEE)) 0 (fun s => s.sf F.SKY_MERGE_KNEE 1022)
  let r := (List.range 48).foldl (fun r b =>
    adjust r (fun s => (List.range 7).any (fun i => decide (s.gf (F.SKY_PILEUP_RATE b (i + 1)) < s.gf (F.SKY_PILEUP_RATE b i)))) b
      (fun s => forN 8 (fun i (s : Dev) => s.wr (R.SKY_PILEUP b i) (old.rd (R.SKY_PILEUP b i))) s)) r
  Dev.raiseEach r C.SKY_SET_ADJUSTED

/-- A CHAIN set in force (R176, R476). -/
def Dev.chainApply (s : Dev) : Dev :=
  Dev.raiseEach (adjust ([], s) (fun s => decide (s.gf F.CHAIN_COORD_PERIOD_PERIOD < 1000)) 0 (fun s => s.sf F.CHAIN_COORD_PERIOD_PERIOD 1000))
    C.CHAIN_SET_ADJUSTED

/-- The values of a set in force and resolved; `old` holds the values before. -/
def Dev.resolveSet (s old : Dev) (g : Page) (l : List (Nat × Word)) : Dev :=
  match g with
  | .bay b => s.bayApply old b
  | .cal => s.calApply old
  | .pool q => s.poolApply old q
  | .clu k => s.cluApply old k l
  | .emit => s.emitApply old
  | .code => s.codeApply old
  | .scan => s.scanApply old l
  | .sky => s.skyApply old
  | .chain => s.chainApply
  | _ => s

/-- Pages whose IRQ_STATUS.COMMIT a set's application sets (R51, R307). -/
def commitPages : Page → List Page
  | .clu k => (List.range 8).map (fun i => Page.clu (k / 8 * 8 + i))
  | g => [g]

/-- The latched set of a page applies (R61). -/
def Dev.applySet (s : Dev) (g : Page) : Dev :=
  let x := s.px g
  let old := s
  let s := s.setPx g { x with latched := [], latchedExpo := false }
  let s := (s.mergeSet g x.latched).resolveSet old g x.latched
  let s := (s.sb (F.SHADOW_CTRL_PENDING g) false).inc (F.SHADOW_CTRL_GEN g)
  (commitPages g).foldl (fun (s : Dev) h => s.commitEvent h) s

/-- The pages with a shadow set of their own; BAY sets before CAL (R157). -/
def setPages : List Page :=
  (List.range 48).map Page.bay ++ [.chain, .scan, .emit, .code, .cal, .sky] ++ (List.range 4).map Page.pool
    ++ (List.range 4).map (fun q => Page.clu (8 * q))

/-- A latched set may apply at a frame start at `f` (R61, R199). -/
def Dev.setReady (s : Dev) (f : Nat) (g : Page) : Bool :=
  decide ((s.px g).latchT + 10000 ≤ f) && (if g = .emit then
    match s.emit.applyAt with
    | some a => decide (a + 10000 ≤ f)
    | none => false
  else true)

/-- The sets due at a frame start at `f` (R62, R199, R364): groups apply whole. -/
def Dev.dueSets (s : Dev) (f : Nat) : List Page :=
  let pend := setPages.filter (fun g => s.on (F.SHADOW_CTRL_PENDING g))
  pend.filter (fun g => pend.all (fun h => (s.px h).group != (s.px g).group || s.setReady f h))

/-- The active code bank changes (R172, R173). -/
def Dev.swapBank (s : Dev) (set : Bool) : Dev :=
  let s := s.codeBoot.sb F.CODE_CODE_STATUS_GEN_BUSY false
  let s := { s with emit := { s.emit with regenAt := none } }
  let s := (s.sb F.CODE_CODE_STATUS_BANK (!(s.on F.CODE_CODE_STATUS_BANK))).event E.CODE_BANK_SWAPPED
  if set ∧ !(s.on F.CODE_CODE_STATUS_DISJOINT) then s.raise C.CODE_NOT_DISJOINT else s

/-- The chain address granted at least 10 us before a frame start at `f` reaches the codes (R172, R448). -/
def Dev.takeCodeAddr (s : Dev) (f : Nat) : Bool × Dev :=
  match s.chain.pendAddr with
  | some (a, t) => if t + 10000 ≤ f then
      (true, { s with chain := { s.chain with pendAddr := none }, emit := { s.emit with codeAddr := a } })
    else (false, s)
  | none => (false, s)

/-- The sets due at a frame start at `f` apply, and the generation counts those with an exposure register (R61, R62,
R362). -/
def Dev.applyDue (s : Dev) (f : Nat) : Dev :=
  let due := s.dueSets f
  let expo := due.any (fun g => (s.px g).latchedExpo)
  let s := due.foldl (fun (s : Dev) g => s.applySet g) s
  let r := s.takeCodeAddr f
  let s := if r.1 ∨ due.contains .code then r.2.swapBank (due.contains .code) else r.2
  if expo then (s.inc F.SKY_GEN_G).event E.SKY_GEN_CHANGED else s

/-- CODE_BANK_FILLED (R173): the generator has filled the inactive bank, within 9 us. -/
def Dev.codeBankFilled (s : Dev) : Dev :=
  if s.on F.CODE_CODE_STATUS_GEN_BUSY then
    { s.sb F.CODE_CODE_STATUS_GEN_BUSY false with emit := { s.emit with regenAt := none } }
  else s

end Sys2Proof.Machine
end

