-- ==== Sys2Proof/Machine/Frame.lean ====
section
/-! DEFINITION. Frame starts and flyback (R217, R220 to R225, R228) and what a frame start does to every page (R61, R146,
R306, R470, R503, R592, R632). -/
namespace Sys2Proof.Machine

/-! ## SYNC0 (R221) -/

/-- An edge of SYNC0 that sets no start is counted. -/
def Dev.syncEarly (s : Dev) : Dev := s.inc F.SCAN_SYNC_COUNTS_SYNC_EARLY

/-- An edge at `t` sets a frame start (R221). -/
def Dev.edgeSets (s : Dev) (t : Nat) : Bool :=
  let d := s.gf F.SCAN_SYNC_CFG_DELAY
  let win := s.syncWin * 1000
  s.on F.SCAN_CTRL_FRAME_EN && s.scan.syncAt.isNone && (match s.expected with
    | some x => decide (x ≤ t + d + win) && decide (t + d < x + win) && decide (s.scan.returnEnd + 50000 ≤ t + d)
    | none => decide (s.firstFrom ≤ t))

/-- SYNC0_EDGE (R221). -/
def Dev.sync0Edge (s : Dev) (t : Nat) : Dev :=
  let s := s.advanceTo t
  let st := s.gf F.SCAN_STATUS_STATE
  if !s.frameSync ∨ !(s.isOn .scan) ∨ (st ≠ 2 ∧ st ≠ 3) then s
  else if s.edgeSets t then
    { s with scan := { s.scan with syncAt := some (t + s.gf F.SCAN_SYNC_CFG_DELAY), syncLost := false } }
  else s.syncEarly

/-- SYNC_WINDOW_EXPIRY (R221): no edge has set the expected start, and the frame starts at the end of its window. -/
def Dev.syncWindowExpiry (s : Dev) : Dev :=
  let st := s.gf F.SCAN_STATUS_STATE
  if !s.frameSync ∨ !(s.isOn .scan) ∨ !(s.on F.SCAN_CTRL_FRAME_EN) ∨ (st ≠ 2 ∧ st ≠ 3) ∨ s.scan.syncAt.isSome then s
  else match s.expected with
    | none => s
    | some x =>
      let f := x + s.syncWin * 1000
      let s := (s.advanceTo f).raise C.SCAN_SYNC_LOST
      { s with scan := { s.scan with syncAt := some f, syncLost := true } }

/-! ## What a frame start does -/

/-- The Eclipse restore of a bay (R503). -/
def Dev.eclipseRestore (s : Dev) (b : Nat) : Dev :=
  let m := Nat.lor (s.gf (F.BAY_EC_CTRL_CH_MASK b)) (s.gf (F.BAY_CH_ENABLE_EN b))
  let s := (s.sb (F.BAY_EC_CTRL_EN b) true).sf (F.BAY_EC_CTRL_CH_MASK b) m
  (s.inc (F.SHADOW_CTRL_GEN (.bay b))).commitEvent (.bay b)

/-- The restores due at a frame start (R503). -/
def Dev.restoreAll (s : Dev) : Dev :=
  let m := s.nw.eclRestore
  let s := { s with nw := { s.nw with eclRestore := 0 } }
  forN 48 (fun b (s : Dev) => if bit m b then s.eclipseRestore b else s) s

/-- The kernel banks switch (R301, R306, R567, R569). -/
def Dev.switchBanks (s : Dev) (ids : List Nat) (version : Nat) : Dev :=
  let ks := s.sec.kernNext
  let roll := fun (t : Nat) => match ks.find? (fun e => e.1 == t) with | some e => e.2.2.1 | none => 0
  let s := { s with kbank := { s.kbank with ids := ids, next := none },
                    sec := { s.sec with kernRollback := (roll 3, roll 4), kernNext := [] } }
  let s := ks.foldl (fun (s : Dev) e => s.extend 1 e.1 e.2.1 e.2.2.2) s
  let s := (s.sf (F.CLU_KBANK_VERSION 0) version).sb (F.CLU_KBANK_ACTIVE 0) (!(s.on (F.CLU_KBANK_ACTIVE 0)))
  let s := forN 4 (fun q (s : Dev) => (s.setRegion q { s.region q with blocked := [] }).blockSync q) s
  forN 32 (fun k (s : Dev) => s.event (E.CLU_KBANK_SWITCHED k)) s

/-- A verified bundle's banks switch at the first frame start at least 10 us after its task's last step (R306); not where a set
committed since names a kernel that the bundle lacks (DEDUCED, log 95). -/
def Dev.bankFrame (s : Dev) (f : Nat) : Dev :=
  match s.kbank.next with
  | some (ids, v) =>
    if f < s.kbank.nextAt + 10000 then s
    else if s.kernelsNamed.any (fun k => !(ids.contains k)) then
      { s with kbank := { s.kbank with next := none }, sec := { s.sec with kernNext := [] } }
    else s.switchBanks ids v
  | none => s

/-- Ports that do not fire at a frame start must pass a resume check when they begin again (R189). -/
def Dev.noteResume (s : Dev) : Dev :=
  forN 48 (fun p (s : Dev) =>
    if s.on (F.EMIT_PORT_CFG_EN p) ∧ s.bayUp p then s else s.setPort p { s.port p with needResume := true }) s

/-- A resume or a quiesce start of every page that awaits one (R59, R632). -/
def Dev.pagesFrame (s : Dev) : Dev :=
  s.pages.foldl (fun (s : Dev) e => match pageOfNum e.1 with | some g => s.pageFrame g | none => s) s

/-- The rows enabled by TDC_CTRL.EN and CH_ENABLE (R387). -/
def Dev.chanMapNow (s : Dev) : Nat :=
  (List.range 48).foldl (fun m b =>
    m + (if s.on (F.BAY_TDC_CTRL_EN b) then s.gf (F.BAY_CH_ENABLE_EN b) * 2^(8 * b) else 0)) 0

/-- The frame as it starts at `f` (R222, R228, R235, R387). -/
def Dev.newFrame (s : Dev) (f : Nat) : FrameX :=
  { num := s.gf F.SCAN_FRAME_NUM_FRAME, start := f, columns := s.columnsCfg, active := s.gf F.SCAN_FRAME_ACTIVE_ACTIVE,
    syncLost := s.frameSync && s.scan.syncLost, refUnsettled := !(s.on F.TIME_STATUS_REF_SETTLED), regs := s.regs,
    gen := s.gf F.SKY_GEN_G, chanMap := s.chanMapNow, streamed := decide (s.streamState = 1) }

/-- The slow axis at a frame start (R216, R217). -/
def Dev.slowFrame (s : Dev) : Dev :=
  if s.slowOn ∧ s.gf F.SCAN_FRAME_CFG_SLOW_MODE = 1 then s.startMove (s.gi F.SCAN_SLOW_RANGE_END) (s.gf F.SCAN_SLOW_VSCAN_V)
  else if s.slowOn then s.startMove s.slowHold (s.gf F.SCAN_SLOW_VMAX_V)
  else s

/-- The settings that a frame start at `f` puts in force: restores, kernel banks, shadow sets, calibration (R61, R146,
R306, R503, R592). -/
def Dev.frameSettings (s : Dev) (f : Nat) : Dev :=
  let s := (s.noteResume.restoreAll).bankFrame f
  let s := ((s.configDue f).applyDue f).swapFrame
  let s := s.calFrame
  let s := { s with emit := { s.emit with schedEn := s.on F.EMIT_CTRL_SCHED_EN, grants := [] } }
  forN 48 (fun b (s : Dev) => s.chanFrame b) s

/-- The units that act at a frame start: engines' self-tests, pages, cross-listening, the stream, the thermal manager's
first frame (R303, R371, R470, R553). -/
def Dev.frameUnits (s : Dev) : Dev :=
  let s := forN 32 (fun k (s : Dev) => (s.startEngineTests k).latchCycles k) s
  let s := ((s.pagesFrame).xlFrame).streamAtFrame
  let s := forN 4 (fun q (s : Dev) => s.setRegion q { s.region q with traps := [] }) s
  let s := forN 48 (fun p (s : Dev) => s.setPort p { s.port p with m := 0 }) s
  if s.streamState = 1 then { s with therm := { s.therm with served := true } } else s

/-- The next frame number (R235): after 0xFFFFFFFF comes 1. -/
def nextNum (n : Nat) : Nat := if n = 0xFFFFFFFF then 1 else n + 1

/-- A frame starts at `f` (R222, R223, R370). -/
def Dev.startFrame (s : Dev) (f : Nat) : Dev :=
  let s := (s.sf F.SCAN_FRAME_NUM_FRAME (nextNum (s.gf F.SCAN_FRAME_NUM_FRAME))).setScanState 3
  let out := !s.frameSync && s.on F.SCAN_SYNC_CFG_OUT
  let s := (s.frameSettings f).frameUnits
  let x := s.newFrame f
  let s := { s with frames := s.frames ++ [x], scan := { s.scan with begun := 0, line := 0, lastK := none, noMore := false } }
  let s := (s.emitFrameOpen x).event E.SCAN_FRAME_START
  let s := s.slowFrame.compUpdate
  if out then s.send (.sync0 f) else s

/-- The axes qualify for a frame start (R222). -/
def Dev.axesReady (s : Dev) : Bool :=
  s.on F.SCAN_STATUS_FAST_LOCKED && (!s.slowOn || s.on F.SCAN_STATUS_SLOW_AT_HOLD)

/-- A scheduled instant `f` has come (R222): a frame starts, or is deferred. FRAME_SRC acts from then on (R235). -/
def Dev.scheduled (s : Dev) (f : Nat) : Dev :=
  let s := if s.axesReady then s.startFrame f
    else (s.inc F.SCAN_SYNC_COUNTS_FRAMES_MISSED).raise C.SCAN_FRAME_DEFERRED
  { s with scan := { s.scan with lastSched := some f, syncAt := none, syncLost := false, src := s.on F.SCAN_CTRL_FRAME_SRC } }

/-- FRAME_START (R220 to R222): the next scheduled start comes. -/
def Dev.frameStart (s : Dev) : Dev :=
  let st := s.gf F.SCAN_STATUS_STATE
  if !(s.on F.SCAN_CTRL_FRAME_EN) ∨ !(s.isOn .scan) ∨ (st ≠ 2 ∧ st ≠ 3) ∨ s.openFrame.isSome ∨ !s.running then s
  else if s.frameSync then
    match s.scan.syncAt with
    | some f => (s.advanceTo f).scheduled f
    | none => s
  else
    let f := s.freeStart
    (s.advanceTo f).scheduled f

/-! ## Flyback (R217, R224, R225, R230) -/

/-- Runs of adjacent ones among the bits `lo` to `lo + n - 1` of a mask, as first and last. -/
def bitRuns (m : Nat) : Nat → Nat → Option Nat → List (Nat × Nat)
  | 0, lo, some a => [(a, lo - 1)]
  | 0, _, none => []
  | n + 1, lo, o =>
    if bit m lo then bitRuns m n (lo + 1) (some (o.getD lo))
    else match o with
      | some a => (a, lo - 1) :: bitRuns m n (lo + 1) none
      | none => bitRuns m n (lo + 1) none

/-- The frame closes short (R224). -/
def Dev.closeShort (s : Dev) (f : FrameX) : Dev :=
  let s := s.modFrame f.num (fun x => { x with short := true })
  let s := (s.inc F.SCAN_FRAME_COUNTS_SHORT_FRAMES).raise C.SCAN_SCAN_SHORT
  (bitRuns f.chanMap 384 0 none).foldl (fun (s : Dev) r =>
    s.mergeRecord srcChip f.num (gapRec 8 r.1 r.2 f.nb (f.columns - 1) none 0)) s

/-- The return move (R216). -/
def Dev.slowReturn (s : Dev) : Dev :=
  if s.slowOn ∧ s.gf F.SCAN_FRAME_CFG_SLOW_MODE = 1 then
    let s := s.startMove (s.gi F.SCAN_SLOW_RANGE_START) (s.gf F.SCAN_SLOW_VMAX_V)
    let e := match s.scan.move with | some m => m.end_ s.slowA s.slowJ | none => s.now
    { s with scan := { s.scan with returnEnd := e } }
  else s

/-- What flyback makes of STATE (R230). -/
def Dev.flybackState (s : Dev) : Dev :=
  if s.gf F.SCAN_STATUS_STATE ≠ 3 then s
  else if !(s.on F.SCAN_CTRL_FAST_EN) then s.enterStopping
  else if !(s.on F.SCAN_CTRL_FRAME_EN) then s.enterReady
  else s

/-- FLYBACK (R217, R224, R225): F + FRAME_ACTIVE of the open frame. -/
def Dev.flyback (s : Dev) (checks : List CheckResult) : Dev :=
  match s.openFrame with
  | none => s
  | some f =>
    let s := s.advanceTo (f.start + f.active * 1000)
    let s := s.modFrame f.num (fun x => { x with flyback := true })
    let s := (s.sf F.SCAN_LAST_FRAME_BEGUN f.nb).sf F.SCAN_LAST_FRAME_SUPPRESSED (min 65535 f.suppressed)
    let s := if f.nb < f.columns then s.closeShort f else s
    let s := s.event E.SCAN_FLYBACK
    let s := s.flybackChecks checks
    let s := forN 48 (fun b (s : Dev) => s.waveFlyback b) s
    let s := if f.long then forN 48 (fun p (s : Dev) => s.sb (F.EMIT_PORT_STATUS_INH_SCAN p) false) s else s
    (s.slowReturn.flybackState).scanCloseSync

end Sys2Proof.Machine
end

