-- ==== Sys2Proof/Machine/SkyPub.lean ====
section
/-! DEFINITION. The publication of a frame's statistics (R359), automatic threshold exposure (R365) and the close of a
frame at its deadline (R374). -/
namespace Sys2Proof.Machine

/-- The mean AVG of the valid zones of a zone row as its sum and its number (R365). -/
def Dev.zoneRow (s : Dev) (r : Nat) : Nat × Nat :=
  (List.range 16).foldl (fun (a : Nat × Nat) i =>
    let v := s.gf (F.SKY_ZONE_AVG_AVG (16 * r + i))
    if v = 0xFFFFFF then a else (a.1 + v, a.2 + 1)) (0, 0)

/-- ARM as automatic exposure moves it (R365). -/
def Dev.aeArm (s : Dev) (m : Nat × Nat) (arm : Nat) : Nat :=
  let target := s.gf F.SKY_AE_CFG_TARGET
  let band := s.gf F.SKY_AE_CFG_BAND
  let step := max 1 (s.gf F.SKY_AE_CFG_STEP)
  let v := if target * (256 + band) * m.2 < m.1 * 256 then arm + step
    else if m.1 * 256 < target * (256 - band) * m.2 then arm - step
    else arm
  max (s.gf F.SKY_AE_LIMITS_ARM_MIN) (min v (s.gf F.SKY_AE_LIMITS_ARM_MAX))

/-- CH_THRESH of a channel as automatic exposure leaves it: VAL keeps its offset from ARM (R365). -/
def Dev.aeThresh (s : Dev) (m : Nat × Nat) (b c : Nat) : Word :=
  let old := s.rd (R.BAY_CH_THRESH b c)
  let arm := s.gf (F.BAY_CH_THRESH_ARM b c)
  let new := s.aeArm m arm
  let val := min 1023 (s.gf (F.BAY_CH_THRESH_VAL b c) + new - arm)
  setBits (setBits old 16 10 new) 0 10 val

/-- The channels of a bay that automatic exposure changes. -/
def Dev.aeChannels (s : Dev) (m : Nat × Nat) (b : Nat) : List Nat :=
  (List.range 8).filter (fun c => bit (s.gf (F.BAY_CH_ENABLE_EN b)) c && s.aeThresh m b c != s.rd (R.BAY_CH_THRESH b c))

/-- A shadow set of the page is open or latched by a requester other than FIRMWARE (R365). -/
def Dev.setOfOther (s : Dev) (g : Page) : Bool :=
  (s.on (F.SHADOW_CTRL_ARMED g) || s.on (F.SHADOW_CTRL_PENDING g)) && s.gf (F.SHADOW_CTRL_OWNER g) != 0

/-- The firmware arms a BAY page, with a MODE that its commit reaches (log 53). -/
def Dev.aeOpen (s : Dev) (b : Nat) : Dev :=
  let g := Page.bay b
  let s := if s.gf (F.SHADOW_CTRL_MODE g) = 2 then s.sf (F.SHADOW_CTRL_MODE g) 1 else s
  s.armSet g .firmware

/-- Automatic exposure of one bay (R365). -/
def Dev.aeBay (s : Dev) (b : Nat) : Dev :=
  let m := s.zoneRow (b / 6)
  if !(s.isOn (.bay b)) then s
  else if s.setOfOther (.bay b) then (s.inc F.SKY_AE_SKIPPED_COUNT).raise C.SKY_AE_SKIPPED b
  else if m.2 = 0 then s
  else
    let cs := s.aeChannels m b
    if cs.isEmpty then s
    else cs.foldl (fun (s : Dev) c => s.shadowWrite (.bay b) .firmware (0x100 + 0x20 * c) (s.aeThresh m b c)) (s.aeOpen b)

/-- An automatic commit has not applied yet (R365). -/
def Dev.aePending (s : Dev) : Bool :=
  (List.range 48).any (fun b => s.on (F.SHADOW_CTRL_PENDING (.bay b)) && s.gf (F.SHADOW_CTRL_OWNER (.bay b)) == 0)

/-- Automatic threshold exposure acts on a publication (R365). -/
def Dev.autoExpo (s : Dev) : Dev :=
  if s.on F.SKY_CTRL_AE_EN ∧ s.gf F.SKY_STATS_GEN_G = s.gf F.SKY_GEN_G ∧ !s.aePending then
    (forN 48 (fun b (s : Dev) => s.aeBay b) s).expoGo .firmware
  else s

/-- A frame whose statistics are to be published. -/
def Dev.unpublished (f : FrameX) : Bool := f.scanClosed && f.on F.SKY_CTRL_EN && !f.skyPublished

/-- STATS_PUBLISH (R359, R365): the statistics of the oldest frame whose SKYGLOW descriptors have all ended. -/
def Dev.statsPublish (s : Dev) : Dev :=
  match s.frames.find? (fun f => Dev.unpublished f && s.skyDone f) with
  | some f => (s.publishStats f).autoExpo
  | none => s

/-- The deadline of QUIESCING pages has passed (R632): no frame from before the quiesce start is open. They read HELD, at once
or at the end of the task step that ran at their quiesce start. -/
def Dev.quietDeadline (s : Dev) : Dev :=
  (s.pages.foldl (fun (s : Dev) e => match pageOfNum e.1 with
    | some g => if s.run g = rQuiescing ∧ s.frames.all (fun f => f.closed || decide (e.2.quietFrom ≤ f.start))
        then s.setPx g { s.px g with quietLate := true } else s
    | none => s) s).quietSync

/-- FRAME_CLOSE_DEADLINE (R359, R374, R405): the oldest frame closes with what has not ended left out. Its ambient blocks that have
not ended read NONE, their IMAGE packets coming before the close (R373, R391; DEDUCED, log 98). -/
def Dev.frameCloseDeadline (s : Dev) : Dev :=
  match s.frames.find? (fun f => !f.closed) with
  | none => s
  | some f =>
    if f.scanClosed then
      let s := s.advanceTo (s.closeDeadline f)
      let s := (s.ambs.filter (fun a => a.2.frame == f.num)).foldl (fun (s : Dev) a => s.endBatch a.1 false) s
      let s := match s.frame? f.num with
        | some f => if Dev.unpublished f then (s.publishStats f).autoExpo else s
        | none => s
      let s := if s.hists.any (fun h => h.2.frame == f.num) then s.raise C.STREAM_DEADLINE_CLOSE srcChip else s
      (s.closeFrame f.num (!(s.frameDone { f with skyPublished := true }))).quietDeadline
    else s

end Sys2Proof.Machine
end

