-- ==== Sys2Proof/Machine/Faults.lean ====
section
/-! DEFINITION. Faults that have no command of their own and how each level contains them (R28, R29, R278, R307, R322), and
FAULT_REPORT (R78). -/
namespace Sys2Proof.Machine

/-- A bay's builder, vote-path or scout fault (R28, R282): the region pauses the bay. -/
def Dev.bayFault (s : Dev) (b bit unit : Nat) : Dev :=
  if bit = (C.BAY_BUILDER_FAULT b).bit then (s.raise (C.BAY_BUILDER_FAULT b) unit).pauseBay b else s

/-- A cluster's faults (R28, R307, R322): the region stops dispatch to the cluster. -/
def Dev.cluFault (s : Dev) (k bit unit : Nat) : Dev :=
  if bit = (C.CLU_SHARED_ECC_CORRECTED k).bit then
    (s.incSat (F.CLU_SHARED_ECC_CORRECTED k)).raise (C.CLU_SHARED_ECC_CORRECTED k) unit
  else if bit = (C.CLU_SHARED_ECC_UNCORRECTED k).bit then
    ((s.incSat (F.CLU_SHARED_ECC_UNCORRECTED k)).raise (C.CLU_SHARED_ECC_UNCORRECTED k) unit).stopCluster k
  else if bit = (C.CLU_PARAM_MISMATCH k).bit then (s.raise (C.CLU_PARAM_MISMATCH k) unit).stopCluster k
  else if bit = (C.CLU_DISPATCH_PATH k).bit then (s.raise (C.CLU_DISPATCH_PATH k) unit).stopCluster k
  else s

/-- A region's faults (R28): the chip quarantines the region. -/
def Dev.qtrFault (s : Dev) (q bit unit : Nat) : Dev :=
  if bit = (C.QTR_FABRIC_FAULT q).bit then (s.raise (C.QTR_FABRIC_FAULT q) unit).quarantineRegion q
  else if bit = (C.QTR_DISPATCH_FAULT q).bit then (s.raise (C.QTR_DISPATCH_FAULT q) unit).quarantineRegion q
  else s

/-- A parity fault in a page's register storage (R48, R631). -/
def Dev.parityFault (s : Dev) (g : Page) : Dev := s.raiseBit g 29 (paritySev g) 0

/-- A fault found by a page is raised there and contained by the level above (R28); a parity fault of its registers is raised
(R48). -/
def Dev.foundFault (s : Dev) (x : FoundFault) : Dev :=
  if x.bit = 29 then s.parityFault x.page
  else match x.page with
  | .bay b => s.bayFault b x.bit x.unit
  | .clu k => s.cluFault k x.bit x.unit
  | .qtr q => s.qtrFault q x.bit x.unit
  | .pool q => if x.bit = (C.POOL_ECC_CORRECTED q).bit then s.bankCorrected q (x.unit % 33) else if x.bit = (C.POOL_POOL_FAULT q).bit then (s.raise (C.POOL_POOL_FAULT q) x.unit).quarantineRegion q else s
  | .sec => if x.bit = C.SEC_KEY_FAULT.bit then { s.raise C.SEC_KEY_FAULT with sec := { s.sec with keyFault := true } } else s
  | .alm => if x.bit = C.ALM_MRAM_FAULT.bit then s.raise C.ALM_MRAM_FAULT else s
  | _ => s

/-- FAULT_REPORT (R28, R78): the oldest report reaches the level above; or a fault is detected, contained and reported. -/
def Dev.faultReport (s : Dev) (found : Option FoundFault) : Dev :=
  match found with
  | none => s.deliverReport
  | some x => s.foundFault x

end Sys2Proof.Machine
end

