-- ==== Sys2Proof/Machine/Actions.lean ====
section
/-! DEFINITION. Fences (R65, R66, R87), the answers to register-access packets (R86, R87, R472), timed actions (R458 to R461) and
CONFIG (R468). -/
namespace Sys2Proof.Machine

/-- The requester with a code. -/
def reqOf : Nat → Requester
  | 0 => .firmware | 1 => .pcie | 2 => .net0 | 3 => .net1 | 4 => .chain | _ => .debug

/-! ## Answers (R86, R413, R415, R440) -/

/-- A register-access response on an Ethernet port (R86, R413): bit 7 of OP is set, and it goes to the request's source address and
port. -/
def Dev.raOut (s : Dev) (port dst dstPort op unit seq status : Nat) (entries : List (Word × Word)) : Out :=
  .ra port { s.udpTo port none dstPort with dst := dst, destMac := none } (raBytes (op + 128) unit seq status entries)

/-- Answer a request: on its Ethernet port, where the answer is kept for a repeat (R87), or over the chain. -/
def Dev.answer (s : Dev) (r : ReplyX) (status : Nat) (entries : List (Word × Word)) : Dev :=
  if r.port = 2 then s.sendTo mRegResp r.src s.unit (raBytes (r.op + 128) r.unit r.seq status entries)
  else
    let l := s.answered.map (fun (a : AnsX) => if a.src = r.src ∧ a.seq = r.seq then { a with answer := some (status, entries) } else a)
    { s with answered := l }.respond r.port (s.raOut r.port r.src r.srcPort r.op r.unit r.seq status entries)

/-! ## Fences (R65, R66) -/

/-- The page with number `n` holds a write of the requester (R55, R344). -/
def Dev.heldBy (s : Dev) (q : Requester) (n : Nat) : Bool :=
  (fget pageX0 s.pages n).held.any (fun e => e.2.2 == q)
    || (decide (128 ≤ n) && (s.wave (n - 128)).held.any (fun e => e.2.2 == q))

/-- Pages that hold a write of the requester. -/
def Dev.holders (s : Dev) (q : Requester) : List Nat := (List.range 176).filter (fun n => s.heldBy q n)

/-- An access of the requester to the EMIT page waits behind its ARM (R197). -/
def Dev.armBlocked (s : Dev) (q : Requester) : Bool := s.emit.armWait.any (fun e => e.1 == q)

/-- Place a fence (R66); false where 8 are incomplete. -/
def Dev.placeFence (s : Dev) (q : Requester) (token : Option Nat) (reply : Option ReplyX) : Bool × Dev :=
  let x := s.req q
  if 8 ≤ x.fences.length then (false, s.refuse .chip)
  else
    let f : FenceX := { token := token, pages := s.holders q, waits := s.armBlocked q, reply := reply }
    (true, (s.setReq q { x with fences := x.fences ++ [f] }).sfQ q F.CHIP_FENCE_DONE_BUSY 1)

/-- FENCE_COMPLETE (R65, R66, R87): the oldest fence, in issue order. -/
def Dev.fenceComplete (s : Dev) (req : Requester) : Dev :=
  let x := s.req req
  match x.fences with
  | [] => s
  | f :: rest =>
    if f.waits ∧ s.armBlocked req then s
    else
      let held := f.pages.any (fun n => s.heldBy req n)
      let s := s.setReq req { x with fences := rest }
      let s := (s.sfQ req F.CHIP_FENCE_DONE_BUSY (b2n (!rest.isEmpty))).sfQ req F.CHIP_FENCE_DONE_HELD (b2n held)
      let s := match f.token with
        | some t => s.sfQ req F.CHIP_FENCE_DONE_TOKEN t
        | none => s
      match f.reply with
      | some r => s.answer r 0 []
      | none => s

/-! ## Timed actions (R458 to R461) -/

/-- ACT_STATUS.STATE of a slot. -/
def Dev.actState (s : Dev) (i : Nat) : Nat := s.gf (F.TIME_ACT_STATUS_STATE i)

/-- T of a slot, in ticks. -/
def Dev.actT (s : Dev) (i : Nat) : Nat :=
  s.g64 (F.TIME_ACT_TIME_LO_NS i) (F.TIME_ACT_TIME_HI_NS i) * 256 + s.gf (F.TIME_ACT_CFG_FRAC i)

/-- The first cycle whose Meridian time is at or after T, ns. -/
def Dev.actAt (s : Dev) (i : Nat) : Nat := (s.actT i + 255) / 256

/-- A bit of ARG0 with the pages it names (R458). -/
def actPages (i : Nat) : List Page :=
  if i < 24 then (pageOfNum i).toList
  else if i = 24 then (List.range 48).map Page.bay
  else if i = 25 then (List.range 4).map (fun q => Page.clu (8 * q))
  else if i = 26 then (List.range 4).map Page.pool
  else []

/-- An action of the requester would commit this page (R458). -/
def Dev.actTakes (s : Dev) (q : Requester) (g : Page) : Bool := s.holdsSet g q && s.gf (F.SHADOW_CTRL_MODE g) == 2

/-- Latch a commit of the open set of a page at `t`, in the present group. -/
def Dev.latchAt (s : Dev) (g : Page) (t : Nat) : Dev :=
  let s := s.latchSet (setHome g) (s.gf (F.SHADOW_CTRL_OWNER g)) (s.px (setHome g)).setOpen t
  if g = .emit then s.emitLatched else s

/-- The bits of ARG0 whose pages are not all committed (R461). -/
def Dev.actSkipped (s : Dev) (q : Requester) (mask : Nat) : Nat :=
  (List.range 27).foldl (fun m i => if bit mask i ∧ !((actPages i).all (fun g => s.actTakes q g)) then m + 2^i else m) 0

/-- The pages an action commits. -/
def Dev.actCommits (s : Dev) (q : Requester) (mask : Nat) : List Page :=
  ((List.range 27).filter (fun i => bit mask i)).flatMap (fun i => (actPages i).filter (fun g => s.actTakes q g))

/-- A COMMIT executes with latch time `t` (R461, R198); `st` is the state it ends in. -/
def Dev.actCommitGo (s : Dev) (i : Nat) (q : Requester) (st t : Nat) : Dev :=
  let mask := s.gf (F.TIME_ACT_ARG0_ARG i)
  let go := s.actCommits q mask
  if go.contains .emit ∧ s.on F.EMIT_STARLINE_STATUS_PRELOAD_BUSY then
    ((s.refuse .emit).sf (F.TIME_ACT_STATUS_STATE i) 5).raise C.TIME_ACTION_REFUSED i
  else
    let s := (s.sf (F.TIME_ACT_RESULT_SKIPPED i) (s.actSkipped q mask)).sf (F.TIME_ACT_STATUS_STATE i) st
    (go.foldl (fun (s : Dev) g => s.latchAt g t) s.newGroup).event E.TIME_ACTION_DONE

/-- An action executes (R458 to R460): state `st` and, for a COMMIT, latch time `t`; `iss` issues a register write. -/
def Dev.actGo (iss : Dev → Requester → Word → Word → Dev) (s : Dev) (i st t : Nat) : Dev :=
  let q := reqOf (s.gf (F.TIME_ACT_STATUS_REQ i))
  match s.gf (F.TIME_ACT_CFG_KIND i) with
  | 1 =>
    let s := (s.sf (F.TIME_ACT_STATUS_STATE i) st).event E.TIME_ACTION_DONE
    iss s q (s.rd (R.TIME_ACT_ARG0 i)) (s.rd (R.TIME_ACT_ARG1 i))
  | 2 => ((s.sf (F.TIME_ACT_STATUS_STATE i) st).event E.TIME_ACTION_DONE).decSyncCore (cycleFrom s.now)
  | _ => s.actCommitGo i q st t

/-- An action is late (R460): under RUN it executes at once, a COMMIT with the present time. -/
def Dev.actLate (iss : Dev → Requester → Word → Word → Dev) (s : Dev) (i : Nat) : Dev :=
  let s := s.raise C.TIME_ACTION_LATE i
  if s.on (F.TIME_ACT_CFG_POLICY i) then s.sf (F.TIME_ACT_STATUS_STATE i) 4
  else s.actGo iss i 3 s.now

/-- ACT_CTRL.ARM (R458, R460). -/
def Dev.actArmWith (iss : Dev → Requester → Word → Word → Dev) (s : Dev) (i : Nat) (q : Requester) : Dev :=
  if s.actState i ≠ 0 then s.refuse .time
  else
    let s := ((s.sf (F.TIME_ACT_STATUS_REQ i) q.code).sf (F.TIME_ACT_STATUS_STATE i) 1).sf (F.TIME_ACT_RESULT_SKIPPED i) 0
    if s.actT i < s.tick then s.actLate iss i else s

/-- ACT_CTRL.CANCEL (R474). -/
def Dev.actCancelCore (s : Dev) (i : Nat) : Dev :=
  if s.actState i = 1 then s.sf (F.TIME_ACT_STATUS_STATE i) 6 else s

/-- ACT_CTRL.RELEASE (R474): an ended slot returns to FREE. -/
def Dev.actReleaseCore (s : Dev) (i : Nat) : Dev :=
  if 2 ≤ s.actState i then s.sf (F.TIME_ACT_STATUS_STATE i) 0 else s

/-- A write of ACT_CTRL: its bits act from bit 0 upward (log 62). -/
def Dev.actCtrl (iss : Dev → Requester → Word → Word → Dev) (s : Dev) (i : Nat) (q : Requester) (w : Word) : Dev :=
  let v := w.toNat
  let s := if bit v 0 then s.actArmWith iss i q else s
  let s := if bit v 1 then s.actCancelCore i else s
  if bit v 2 then s.actReleaseCore i else s

/-- The ARMED slot that falls due first, in slot order within a cycle (R459). -/
def Dev.nextAct (s : Dev) : Option Nat :=
  minBy (fun i => s.actAt i * 16 + i) ((List.range 16).filter (fun i => s.actState i == 1))

/-- An action of these kinds meets its time (R459). -/
def Dev.actDue (iss : Dev → Requester → Word → Word → Dev) (s : Dev) (i : Nat) (kinds : List Nat) : Dev :=
  if s.nextAct = some i ∧ s.running ∧ kinds.contains (s.gf (F.TIME_ACT_CFG_KIND i)) then
    let s := s.advanceTo (s.actAt i)
    s.actGo iss i 2 (s.actAt i)
  else s

/-- A step of Meridian time past T makes an action late, and a CONFIG too (R456, R460, R461, R468). -/
def Dev.actStepped (iss : Dev → Requester → Word → Word → Dev) (s : Dev) (old : Nat) : Dev :=
  if s.now ≤ old then s
  else
    let s := (List.range 16).foldl (fun (s : Dev) i => if s.actState i = 1 ∧ s.actT i < s.tick then s.actLate iss i else s) s
    let late := s.chain.config.filter (fun e => decide (e.1 < s.tick))
    let s := { s with chain := { s.chain with config := s.chain.config.filter (fun e => decide (s.tick ≤ e.1)) } }
    late.foldl (fun (s : Dev) e => s.latchCode true e.2 s.now) s

/-! ## CONFIG (R468) -/

/-- The largest hop count of the chain. -/
def Dev.maxHop (s : Dev) : Nat := (List.range s.units).foldl (fun m i => max m ((s.hopOf (i + 1)).getD 0)) 0

/-- The Pole unit's open shadow values of the settings of R468. -/
def Dev.codeShadow (s : Dev) : List Nat :=
  [(s.shadowVal .code R.CODE_CODE_CFG.off).toNat, (s.shadowVal .code R.CODE_SEED.off).toNat,
   (s.shadowVal .chain R.CHAIN_COORD_ANCHOR_LO.off).toNat + (s.shadowVal .chain R.CHAIN_COORD_ANCHOR_HI.off).toNat * 2^32,
   bits (s.shadowVal .chain R.CHAIN_COORD_PERIOD.off) 0 16]

/-- CONFIG as bytes: the settings and T. -/
def configBytes (l : List Nat) (t : Nat) : List Nat := payloadOf (codeFields l ++ [(8, t / 256), (1, t % 256)])

/-- CTRL.CONFIG_PUSH (R468). -/
def Dev.configPushCore (s : Dev) : Dev :=
  let t := s.g64 F.CHAIN_CONFIG_AT_LO_NS F.CHAIN_CONFIG_AT_HI_NS
  if !s.pole ∨ t < s.now + 10000 + 2000 * s.maxHop then s.refuse .chain
  else
    let l := s.codeShadow
    (s.broadcast mConfig (configBytes l (256 * t))).takeConfig (256 * t) l

/-- CONFIG (R443, R468): taken and passed on; T is the fifth field, in ticks. -/
def Dev.config (s : Dev) (port : Fin 2) (m : ChainMsg) : Dev :=
  if m.src = s.unit ∨ s.pole then s
  else
    let t := m.args.getD 4 0
    (s.relay port.val mConfig m.src (configBytes m.args t)).takeConfig t m.args

/-! ## Remote accesses (R84, R85, R471, R472) -/

/-- Send a REG_REQ and wait for its answer. For the unit's own address no port leads there: nothing is sent, and the access ends
in TIMEOUT (DESIGN CHOICE, log 87). -/
def Dev.sendReq (s : Dev) (q : Requester) (reply : Option ReplyX) (unit op seq : Nat) (entries : List (Word × Word)) : Dev :=
  let lim := s.now + 10000 + 2000 * (s.distance s.unit unit).getD 0
  let x : RemoteX := { req := q, reply := reply, unit := unit, seq := seq, op := op, limit := lim }
  { s with chain := { s.chain with remote := s.chain.remote ++ [x] } }.sendTo mRegReq unit s.unit (raBytes op unit seq 0 entries)

/-- A remote access of a requester's RA registers completes (R471). -/
def Dev.raDone (s : Dev) (q : Requester) (status : Nat) (data : Option Word) : Dev :=
  let s := (s.sfQ q F.CHAIN_RA_STATUS_BUSY 0).sfQ q F.CHAIN_RA_STATUS_STATUS status
  let s := match data with
    | some w => s.wrQ q R.CHAIN_RA_DATA w
    | none => s
  s.event E.CHAIN_RA_DONE

/-- A write of RA_CTRL (R471). -/
def Dev.raCtrl (s : Dev) (q : Requester) (w : Word) : Dev :=
  if bits w 0 1 = 1 ∧ s.gfQ q F.CHAIN_RA_STATUS_BUSY = 1 then s.refuse .chain
  else
    let s := s.sfQ q F.CHAIN_RA_CTRL_OP (bits w 1 1)
    if bits w 0 1 = 0 then s
    else
      let u := s.gfQ q F.CHAIN_RA_UNIT_UNIT
      if (s.hopOf u).isNone then s.raDone q 4 none
      else
        let op := 1 + bits w 1 1
        let seq := s.chain.nextSeq
        let s := { s with chain := { s.chain with nextSeq := (seq + 1) % 2^32 } }
        let s := s.sfQ q F.CHAIN_RA_STATUS_BUSY 1
        s.sendReq q none u op seq [(s.rdQ q R.CHAIN_RA_ADDR, if op = 2 then s.rdQ q R.CHAIN_RA_DATA else 0#32)]

/-- A remote access ends with a status and the answer's entries. -/
def Dev.remoteEnd (s : Dev) (x : RemoteX) (status : Nat) (entries : List (Word × Word)) : Dev :=
  match x.reply with
  | some r => s.answer r status entries
  | none => s.raDone x.req status (if x.op = 1 ∧ status = 0 then (entries.head?).map (fun e => e.2) else none)

/-- Drop the first element that satisfies `p`. -/
def dropFirst {α : Type} (p : α → Bool) : List α → List α
  | [] => []
  | a :: l => if p a then l else a :: dropFirst p l

/-- REMOTE_ACCESS_TIMEOUT (R85, R471, R472): of the requester's oldest remote access. -/
def Dev.remoteAccessTimeout (s : Dev) (req : Requester) : Dev :=
  match s.chain.remote.find? (fun x => x.req == req) with
  | none => s
  | some x =>
    let l := dropFirst (fun (y : RemoteX) => y.req == req) s.chain.remote
    ({ s with chain := { s.chain with remote := l } }.advanceTo x.limit).remoteEnd x 1 []

/-- The bytes of big-endian words. -/
def wordsBE (ws : List Word) : List Nat := ws.flatMap (fun w => bytesBE 4 w.toNat)

/-- The entries of a register-access packet behind its three header words (R86). -/
def raEntries : List Word → List (Word × Word)
  | a :: d :: ws => (a, d) :: raEntries ws
  | _ => []

/-- REG_RESP (R443, R471): it completes the oldest access it answers, or is passed on. -/
def Dev.regResp (s : Dev) (_port : Fin 2) (m : ChainMsg) : Dev :=
  if m.dst ≠ s.unit then s.sendTo mRegResp m.dst m.src (wordsBE m.words)
  else
    let hit := fun (x : RemoteX) => x.unit == m.src && x.seq == (m.words.getD 1 0#32).toNat
    match s.chain.remote.find? hit with
    | none => s
    | some x =>
      let s := { s with chain := { s.chain with remote := dropFirst hit s.chain.remote } }
      s.remoteEnd x (bits (m.words.getD 2 0#32) 16 8) (raEntries (m.words.drop 3))

end Sys2Proof.Machine
end

