-- ==== Sys2Proof/Machine/Access.lean ====
section
/-! DEFINITION. Register reads (R22, R43, R55, R56, R604, R617): what a register shows to its reader. -/
namespace Sys2Proof.Machine

/-! ## Who may reach what (R573, R574, R604, R610) -/

/-- The page answers the requester's accesses. The firmware's own accesses are not held off by its boot. -/
def Dev.responds (s : Dev) (q : Requester) (g : Page) : Bool :=
  if q = .firmware ∨ s.stageNow = 2 then true
  else match g with
    | .chip | .sec | .flash => true
    | .host => s.stageNow == 3 && q == .pcie
    | .lane n => s.stageNow == 3 && q == .pcie && decide (n < 4)
    | _ => false

/-- The debug path is locked (R573): its accesses do not reach the block. -/
def Dev.debugLocked (s : Dev) (q : Requester) : Bool := q == .debug && s.gf F.SEC_STATUS_DEBUG_LEVEL == 0

/-! ## Views -/

/-- A word with one field. -/
def fieldWord (f : Fld) (v : Nat) : Word := setBits 0#32 f.lo f.len v

/-- Registers of which each requester has its own copy (R65, R159, R205, R392, R452, R471, R474, R533, R534, R585, R586, R499). -/
def ownCopy (g : Page) (off : Nat) : Bool :=
  match g with
  | .chip => off == 0x4C
  | .time => off == 0x84
  | .chain => decide (0x80 ≤ off) && decide (off ≤ 0x90)
  | .nw => off == 0xD0
  | .mon => off == 0x600 || (decide (0x300 ≤ off) && decide (off < 0x480) && off % 0x10 != 0)
  | .code => off == 0x4C
  | .cal => off == 0x60
  | .stream => off == 0x78
  | .sec => off == 0x58
  | .alm => off == 0x5C
  | _ => false

/-- Header registers as they read (R46, R51): TASK_BUSY and HELD_WRITES, and ERR. -/
def Dev.headerRead (s : Dev) (g : Page) (off : Nat) : Word :=
  let w := s.rd ⟨g, off⟩
  if off = 0x08 then setBits (setBits w 9 1 (b2n (!(s.px g).held.isEmpty))) 10 1 (b2n (s.taskBusy g))
  else if off = 0x20 then s.irqStatus g
  else w

/-- The converter that CONV_SEL of a requester names (R159). -/
def Dev.convSel (s : Dev) (q : Requester) : Option ConvX :=
  let b := s.gfQ q F.CAL_CONV_SEL_BAY
  let i := s.gfQ q F.CAL_CONV_SEL_CONV
  if b < 48 ∧ i < 17 then some (s.conv b i) else none

/-- CONV_STATUS, CONV_QUALITY, CONV_DRIFT and CONV_LAST_DIFF of a converter (R159). -/
def Dev.convRead (s : Dev) (x : ConvX) (off : Nat) : Word :=
  let none_ := x.table.isEmpty
  let table := if x.suspended then 3 else if none_ then 0 else if x.step < 16 then 2 else 1
  let age := if x.accepted.isEmpty then 0 else min 65535 ((s.now - x.acceptedAt) / 60000000000)
  if off = 0x64 then
    BitVec.ofNat 32 (table * 2^29 + (if none_ then 0 else min 16 x.step) * 2^24 + x.lastResult % 8 * 2^21 + age)
  else if off = 0x68 then BitVec.ofNat 32 (min 65535 x.q * 65536 + min 65535 x.qLast)
  else if off = 0x6C then BitVec.ofNat 32 (x.driftBin % 256 * 65536 + min 65535 x.drift)
  else BitVec.ofNat 32 (x.diffBin % 256 * 65536 + min 65535 x.diff)

/-- CODE_READ0 to CODE_READ2 (R173, R205): the code that CODE_SEL names, of the active bank. -/
def Dev.codeRead (s : Dev) (q : Requester) (off : Nat) : Word :=
  let l := s.slotsOf s.emit.codeAddr (s.gfQ q F.CODE_CODE_SEL_INDEX)
  let pack := fun (l : List Nat) => BitVec.ofNat 32 (l.foldr (fun v a => v % 256 + 256 * a) 0)
  if off = 0x50 then pack (l.take 4)
  else if off = 0x54 then pack ((l.drop 4).take 4)
  else BitVec.ofNat 32 (s.codeN * 2^28 + s.emit.wc * 65536)

/-- LEDGER_SUM, LEDGER_CEIL and LEDGER_RESERVE of the selected cell (R499 to R502). -/
def Dev.ledgerRead (s : Dev) (q : Requester) (off : Nat) : Word :=
  let p := s.gfQ q F.NW_LEDGER_SEL_PORT
  let x := s.gfQ q F.NW_LEDGER_SEL_SECTOR
  let w := min 2 (s.gfQ q F.NW_LEDGER_SEL_WIN)
  if 48 ≤ p then 0#32
  else BitVec.ofNat 32 (if off = 0xD4 then s.cellSum (128 * p + x) w else if off = 0xD8 then s.effCeil p x w else s.reserve p)

/-- IN_STATUS of a pair: the present disagreement, ms (R490). -/
def Dev.inStatus (s : Dev) (i : Nat) : Word :=
  let a := fget code0 s.nw.discAt i
  setBits (s.rd (R.NW_IN_STATUS i)) 0 9 (if a = 0 then 0 else min 511 ((s.nwNow - (a - 1)) / 1000000))

/-- PORT_STATUS of a port (R202, R481): its inhibits are those of the present moment. -/
def Dev.portView (s : Dev) (p : Nat) : Word :=
  let long := match s.curFrame with | some f => f.long && !f.flyback | none => false
  let w := setBits (setBits (s.rd (R.EMIT_PORT_STATUS p)) 27 1 (b2n (s.nwInhibits p))) 26 1 (b2n (!(s.bayFires p)))
  setBits (setBits w 25 1 (b2n (s.scanHolds none || long))) 24 1 (b2n (s.compCode p == 0))

/-- What a page-specific register shows; `none` for one that shows what is stored. -/
def Dev.view (s : Dev) (q : Requester) (g : Page) (off : Nat) : Option Word :=
  match g with
  | .chip => if off = 0x4C then some (setBits (s.rdQ q R.CHIP_FENCE_DONE) 16 4 q.code) else none
  | .therm => if off = 0x48 then some (fieldWord F.THERM_GRACE_LEFT_MS s.graceLeft) else none
  | .time => if off = 0x8C then some (fieldWord F.TIME_UTC_OFFSET_OFFSET s.utcOffset) else none
  | .nw => if off = 0x5C then some (BitVec.ofNat 32 s.cfgCrc)
      else if 0xA0 ≤ off ∧ off < 0xC0 then some (s.inStatus ((off - 0xA0) / 4))
      else if 0xD4 ≤ off ∧ off ≤ 0xDC then some (s.ledgerRead q off) else none
  | .mon => if off = 0x5C then some (fieldWord F.MON_NOTCH_STATUS_SKIPPED s.notchStatus)
      else if off = 0x604 then some (BitVec.ofNat 32 (s.coefRead q)) else none
  | .emit => if 0x400 ≤ off ∧ off < 0xA00 ∧ off % 0x20 = 0x10 then
        match (s.port ((off - 0x400) / 0x20)).haloAt with
        | some t => some (fieldWord (F.EMIT_HALO_AGE_AGE 0) (min 65535 ((s.now - t) / 1000000)))
        | none => none
      else if 0x100 ≤ off ∧ off < 0x400 ∧ off % 0x10 = 0xC then some (s.portView ((off - 0x100) / 0x10))
      else none
  | .code => if 0x50 ≤ off ∧ off ≤ 0x58 then some (s.codeRead q off) else none
  | .cal => if 0x64 ≤ off ∧ off ≤ 0x70 then some (match s.convSel q with | some x => s.convRead x off | none => 0#32) else none
  | .stream => if off = 0x78 then some (setBits (s.rdQ q R.STREAM_FENCE_DONE) 16 4 q.code)
      else if off = 0xA0 then some (s.rd R.SEC_FK_ID) else none
  | .alm => if 0x80 ≤ off ∧ off < 0x100 then some (BitVec.ofNat 32 (s.almWindow q ((off - 0x80) / 4))) else none
  | .bay b => if off = 0x210 then some (setBits (s.rd ⟨g, off⟩) 0 13 (s.voteQueue b))
      else if off = 0x30C then some (setBits (s.rd ⟨g, off⟩) 26 1 (b2n (s.sampling b))) else none
  | .qtr p => if 0x60 ≤ off ∧ off < 0x90 then
        some (setBits (s.rd ⟨g, off⟩) 0 16 (s.oldestAge (12 * p + (off - 0x60) / 4)))
      else none
  | .clu k =>
    if off = 0x6C then some (setBits (s.rd (R.CLU_KBANK k)) 30 1 (b2n s.oldBusy))
    else if 0x100 ≤ off ∧ off < 0x140 then some (setBits (s.rd ⟨g, off⟩) 28 4 (s.engState (16 * k + (off - 0x100) / 4)))
    else none
  | _ => none

/-- NOW_LO and NOW_HI (R452): the counter's low word is returned and its high word kept for the requester. -/
def Dev.readNow (s : Dev) (q : Requester) : Word × Dev :=
  (BitVec.ofNat 32 s.now, (s.sf F.TIME_NOW_LO_NS (s.now % 2^32)).sfQ q F.TIME_NOW_HI_NS (s.now / 2^32))

/-- CH_RAW of a channel (R533): the results of its sample are kept for the requester. -/
def Dev.readRaw (s : Dev) (q : Requester) (c : Nat) : Word × Dev :=
  let s := s.wrQ q (R.MON_CH_VALUE c) (s.rd (R.MON_CH_VALUE c))
  let s := s.wrQ q (R.MON_CH_TIME c) (s.rd (R.MON_CH_TIME c))
  (s.rd (R.MON_CH_RAW c), s.wrQ q (R.MON_CH_IMP c) (s.rd (R.MON_CH_IMP c)))

/-- A lane's buffer fill and the idle blocks it moved are free values (log 2). -/
def Dev.readFill (s : Dev) (n off : Nat) : Word × Dev :=
  let f := s.free
  if krylink n ∧ f.2.laneUp n then
    let w := BitVec.ofNat 32 (if off = 0x5C then f.1 % 65 else f.1)
    (w &&& (if off = 0x5C then 0x3F#32 else 0xFFFFFFFF#32), f.2.wr ⟨.lane n, off⟩ w)
  else (s.rd ⟨.lane n, off⟩, s)

/-- A page-specific register of a page that is ON, with what the read itself does (R452, R533, R585, R431). -/
def Dev.pageRead (s : Dev) (q : Requester) (g : Page) (off : Nat) : Word × Dev :=
  let plain : Word × Dev := (match s.view q g off with
    | some w => w
    | none => if ownCopy g off then s.rdQ q ⟨g, off⟩ else s.rd ⟨g, off⟩, s)
  match g with
  | .alm =>
    let s := s.flushSync
    (match s.view q g off with
      | some w => w
      | none => if ownCopy g off then s.rdQ q ⟨g, off⟩ else s.rd ⟨g, off⟩, s)
  | .time => if off = 0x80 then s.readNow q else plain
  | .mon => if 0x300 ≤ off ∧ off < 0x480 ∧ off % 0x10 = 0 then s.readRaw q ((off - 0x300) / 0x10) else plain
  | .sec => if off = 0x5C then
        let r := s.winDataCore q
        (BitVec.ofNat 32 r.1, r.2)
      else plain
  | .lane n => if off = 0x50 then ((s.prbsSync n).rd ⟨g, off⟩, s.prbsSync n)
      else if off = 0x5C ∨ off = 0x60 then s.readFill n off else plain
  | _ => plain

/-- A register of a page that is not ON (R56): as frozen, but for an engine's STATE, which reads OFF with its cluster (R302). -/
def Dev.frozenView (s : Dev) (g : Page) (off : Nat) : Word :=
  let w := s.frozenRd g off
  match g with
  | .clu k => if 0x100 ≤ off ∧ off < 0x140 ∧ s.power (.clu k) < pOn then setBits w 28 4 0 else w
  | _ => w

/-- The held write of a waveform register whose digitiser is not ON (R344). -/
def Dev.waveHeld (s : Dev) (g : Page) (off : Nat) : Option Word :=
  match g with
  | .bay b => ((s.wave b).held.find? (fun e => e.1 == off)).map (·.2.1)
  | _ => none

/-- A register of a page (R22, R55, R56): of a page that is not ON the value held, else the one it left ON with. -/
def Dev.regRead (s : Dev) (q : Requester) (g : Page) (off : Nat) : Word × Dev :=
  if off < 0x40 then (s.headerRead g off, s)
  else match regRow g off with
    | none => (0#32, s)
    | some r =>
      if s.isOn g then
        match s.waveHeld g off with
        | some w => if r.shadowed then s.pageRead q g off else (mergeBits (s.rd ⟨g, off⟩) w r.rw, s)
        | none => s.pageRead q g off
      else match (s.px g).held.find? (fun e => e.1 == off) with
        | some e => if r.shadowed then (s.frozenView g off, s) else (mergeBits (s.frozenView g off) e.2.1 r.rw, s)
        | none => (s.frozenView g off, s)

/-- A read at a register address (R604, R616, R617). -/
def Dev.busRead (s : Dev) (q : Requester) (a : Word) : Word × Dev :=
  if s.debugLocked q then (0#32, s)
  else
    let n := a.toNat
    if q = .pcie ∧ n % 4 = 0 ∧ 0x1F0000 ≤ n ∧ n < 0x200000 then
      (if n < 0x1F0400 then fget msix0 s.host.msix ((n - 0x1F0000) / 4)
       else if n = 0x1F8000 then BitVec.ofNat 32 s.host.pba
       else if n = 0x1F8004 then BitVec.ofNat 32 (s.host.pba / 2^32) else 0#32, s)
    else if n % 4 ≠ 0 then (0#32, s.refuse .chip)
    else match decodeAddr n with
      | none => (0#32, s.refuse .chip)
      | some (g, off) => if s.responds q g then s.regRead q g off else (0xFFFFFFFF#32, s)

end Sys2Proof.Machine
end

