-- ==== Sys2Proof/Machine/Bus.lean ====
section
/-! DEFINITION. Register writes (R21, R22, R45 to R56, R60, R64, R604, R617): the header registers, and the registers of each
page whose write does more than store. -/
namespace Sys2Proof.Machine

/-- What issues a register write from inside another: a timed WRITE that is late executes at once (R460). -/
abbrev Issue := Dev → Requester → Word → Word → Dev

/-- Store a write in the requester's own copy of a register (R43). -/
def Dev.storeOwn (s : Dev) (q : Requester) (g : Page) (off : Nat) (w : Word) : Dev :=
  s.wrQ q ⟨g, off⟩ (mergeBits (s.rdQ q ⟨g, off⟩) w (rwMask g off))

/-- A plain register: its RW bits are stored. -/
def Dev.storeAny (s : Dev) (q : Requester) (g : Page) (off : Nat) (w : Word) : Dev :=
  if ownCopy g off then s.storeOwn q g off w else s.storeReg g off w

/-! ## Pages whose registers act when written -/

/-- CHIP: FENCE and RESET_CTRL (R66, R601). -/
def Dev.chipWrite (s : Dev) (q : Requester) (off : Nat) (w : Word) : Dev :=
  if off = 0x48 then (s.placeFence q (some (bits w 0 16)) none).2
  else if off = 0x50 then (if bits w 0 1 = 1 then s.warmReset q (BitVec.ofNat 8 (bits w 24 8)) else s)
  else s.storeReg .chip off w

/-- TASK: CTRL of a slot (R68, R70, R73); its bits act from bit 0 upward (log 62). -/
def Dev.taskWrite (s : Dev) (q : Requester) (off : Nat) (w : Word) : Dev :=
  if off % 0x20 = 0x10 then
    let i := (off - 0x100) / 0x20
    let s := if bits w 0 1 = 1 then s.taskGo i q else s
    let s := if bits w 1 1 = 1 then s.taskCancelCore i else s
    if bits w 2 1 = 1 then s.taskReleaseCore i else s
  else s.storeReg .task off w

/-- IRQ: a ROUTE of a source that has no page ignores writes (R81). -/
def Dev.irqWrite (s : Dev) (off : Nat) (w : Word) : Dev :=
  if (pageOfNum ((off - 0x400) / 4)).isSome then s.storeReg .irq off w else s

/-- PWR: OFF_ALLOW bits of domains that cannot be switched ignore writes (R538, R557). -/
def Dev.pwrWrite (s : Dev) (off : Nat) (w : Word) : Dev :=
  if off = 0x5C then s.wr ⟨.pwr, off⟩ (mergeBits (s.rd ⟨.pwr, off⟩) w 0xFFFFFFF0) else s.storeReg .pwr off w

/-- THERM: a NODE_LIMIT that leaves CRIT no more than 1 C above THROTTLE is refused (R555). -/
def Dev.thermWrite (s : Dev) (off : Nat) (w : Word) : Dev :=
  if 0x100 ≤ off ∧ off < 0x160 ∧ toSigned 16 (bits w 16 16) ≤ toSigned 16 (bits w 0 16) + 10 then s.refuse .therm
  else s.storeReg .therm off w

/-- TIME (R463, R473, R474). -/
def Dev.timeWrite (iss : Issue) (s : Dev) (q : Requester) (off : Nat) (w : Word) : Dev :=
  if off = 0x88 then (s.storeReg .time off w).calSource
  else if off = 0xB4 then (if bits w 0 1 = 1 then s.setCtrlGo q else s)
  else if 0x100 ≤ off ∧ off % 0x20 = 0x14 then s.actCtrl iss ((off - 0x100) / 0x20) q w
  else s.storeReg .time off w

/-- CHAIN (R437, R446, R468, R471). -/
def Dev.chainWrite (s : Dev) (q : Requester) (off : Nat) (w : Word) : Dev :=
  if off = 0x40 then
    let s := ((s.storeReg .chain off w).alignSync).calSource
    let s := if bits w 4 1 = 1 then s.enumGo else s
    if bits w 5 1 = 1 then s.configPushCore else s
  else if off = 0x8C then s.raCtrl q w
  else s.storeAny q .chain off w

/-- NW (R482 to R508): protected registers, CMD, UNLOCK, WATCHDOG; any other write ends an unlock sequence. -/
def Dev.nwWrite (s : Dev) (q : Requester) (off : Nat) (w : Word) : Dev :=
  if off = 0x50 then s.unlock q w
  else if off = 0x54 then
    let s := if bits w 0 1 = 1 then (if bits w 1 1 = 1 then s.hostTripCore else s.hostTrip q) else s
    if bits w 1 1 = 1 then s.nwProtected q off w else if bits w 0 1 = 1 then s else s.nwOtherWrite q
  else if off = 0x58 then s.nwProtected q off w
  else if off = 0x64 then s.watchdog q w
  else if nwConfig off then s.nwProtected q off w
  else (s.nwOtherWrite q).storeAny q .nw off w

/-- Both decimation chains are stopped (R515). -/
def Dev.monStopped (s : Dev) : Bool := !(s.on F.MON_CTRL_SEQ_RUN) && !(s.on F.MON_CTRL_PAIR_RUN)

/-- MON (R515, R520, R531, R534, R535, R536). -/
def Dev.monWrite (s : Dev) (q : Requester) (off : Nat) (w : Word) : Dev :=
  if off = 0x40 then s.monCtrl w
  else if off = 0x48 ∨ (0x80 ≤ off ∧ off < 0x100) then
    if s.on F.MON_CTRL_SEQ_RUN then s.refuse .mon else s.storeReg .mon off w
  else if 0x100 ≤ off ∧ off < 0x280 then
    let c := (off - 0x100) / 0x10
    if off % 0x10 = 4 then s.excWrite c w
    else if s.on (if c < 2 then F.MON_CTRL_PAIR_RUN else F.MON_CTRL_SEQ_RUN) then s.refuse .mon
    else
      let s := s.storeReg .mon off w
      if c < 2 ∧ off % 0x10 = 0 then s.sf (F.MON_CH_CFG_PRESET c) 0 else s
  else if off = 0x600 then s.storeOwn q .mon off w
  else if (0x60 ≤ off ∧ off < 0x80) ∨ 0x500 ≤ off then
    if !s.monStopped then s.refuse .mon
    else if off = 0x604 then s.coefWrite q w
    else s.storeReg .mon off w
  else s.storeReg .mon off w

/-- SCAN.CTRL (R230, R234): FAST_MODE changes in OFF only; then each enable that changes acts, FAST_EN last, then CLEAR. -/
def Dev.scanCtrl (s : Dev) (w : Word) : Dev :=
  let s := (s.sf F.SCAN_CTRL_FAULT_ACTION (bits w 12 2)).sf F.SCAN_CTRL_FRAME_SRC (bits w 8 1)
  let s := if bits w 9 1 = s.gf F.SCAN_CTRL_FAST_MODE then s
    else if s.gf F.SCAN_STATUS_STATE ≠ 0 then s.refuse .scan
    else s.sf F.SCAN_CTRL_FAST_MODE (bits w 9 1)
  let slow := s.gf F.SCAN_CTRL_SLOW_EN
  let s := s.sf F.SCAN_CTRL_SLOW_EN (bits w 1 1)
  let s := if slow = bits w 1 1 then s else s.slowStart
  let s := if bits w 2 1 = s.gf F.SCAN_CTRL_FRAME_EN then s
    else if bits w 2 1 = 1 then s.frameEnSet else s.frameEnClear
  let s := if bits w 0 1 = 1 then s.fastEnSet else if s.on F.SCAN_CTRL_FAST_EN then s.fastEnClear else s
  if bits w 3 1 = 1 then s.scanClear else s

/-- SCAN: CTRL, and the safe codes while the outputs hold them (R209, R233). -/
def Dev.scanWrite (s : Dev) (off : Nat) (w : Word) : Dev :=
  if off = 0x40 then s.scanCtrl w
  else
    let s := s.storeReg .scan off w
    if 0xF0 ≤ off ∧ s.scan.safe then s.safeOutputs else s

/-- EMIT: PORT_CLEAR and DIAG_CFG (R190, R186). -/
def Dev.emitWrite (s : Dev) (q : Requester) (off : Nat) (w : Word) : Dev :=
  if off = 0x80 then s.portClear q (BitVec.ofNat 48 w.toNat)
  else if off = 0x84 then s.portClear q (BitVec.ofNat 48 (bits w 0 16 * 2^32))
  else
    let s := s.storeReg .emit off w
    if off = 0x48 then forN 48 (fun p (s : Dev) => s.portSync p) s else s

/-- CAL.CTRL (R156). -/
def Dev.calWrite (s : Dev) (q : Requester) (off : Nat) (w : Word) : Dev :=
  let s := s.storeAny q .cal off w
  if off = 0x40 ∧ bits w 3 1 = 1 then s.rzReseed q else s

/-- SKY.EXPO_COMMIT (R364). -/
def Dev.skyWrite (s : Dev) (q : Requester) (off : Nat) (w : Word) : Dev :=
  if off = 0x44 then (if bits w 0 1 = 1 then s.expoGo q else s) else s.storeReg .sky off w

/-- STREAM.CTRL (R395, R398): SIGN_EN set starts a signature chain; TRANSPORT and UDP_PORTS change in OFF only. -/
def Dev.streamCtrl (s : Dev) (q : Requester) (w : Word) : Dev :=
  let change := bits w 4 2 ≠ s.gf F.STREAM_CTRL_TRANSPORT ∨ bits w 6 2 ≠ s.gf F.STREAM_CTRL_UDP_PORTS
  let s := if bits w 1 1 = 1 ∧ !(s.on F.STREAM_CTRL_SIGN_EN) then s.setStream { s.stream with chainStart := true } else s
  let s := s.sf F.STREAM_CTRL_SIGN_EN (bits w 1 1)
  let s := if !change then s
    else if s.streamState ≠ 0 then s.refuse .stream
    else (s.sf F.STREAM_CTRL_TRANSPORT (bits w 4 2)).sf F.STREAM_CTRL_UDP_PORTS (bits w 6 2)
  if bits w 0 1 = s.gf F.STREAM_CTRL_EN then s
  else if bits w 0 1 = 1 then s.streamEnable q else s.streamDisable q

/-- STREAM (R392, R398, R399). -/
def Dev.streamWrite (s : Dev) (q : Requester) (off : Nat) (w : Word) : Dev :=
  if off = 0x40 then s.streamCtrl q w
  else if 0x50 ≤ off ∧ off ≤ 0x58 then (if s.streamState ≠ 0 then s.refuse .stream else s.storeReg .stream off w)
  else if off = 0x60 then (s.ringRptrWrite q w).pump
  else if off = 0x74 then s.streamFence q (BitVec.ofNat 16 (bits w 0 16))
  else s.storeReg .stream off w

/-- HOST.LINK_CTRL (R430, R434). -/
def Dev.hostWrite (s : Dev) (q : Requester) (off : Nat) (w : Word) : Dev :=
  if off = 0x44 then
    let was := s.on F.HOST_LINK_CTRL_TEST
    let s := s.storeReg .host off w
    let s := if s.on F.HOST_LINK_CTRL_TEST ∧ !was then s.pcieDown else s
    if bits w 3 1 = 1 then s.linkRetrain q else s
  else s.storeReg .host off w

/-- NET (R435): the address, port and VLAN registers only while EN is 0; RA_SRC_EN is none of them (DEDUCED, log 98). -/
def Dev.netWrite (s : Dev) (p off : Nat) (w : Word) : Dev :=
  if off = 0x40 then (s.storeReg (.net p) off w).pump
  else if off = 0x64 then s.storeReg (.net p) off w
  else if s.on (F.NET_CTRL_EN p) then s.refuse (.net p)
  else s.storeReg (.net p) off w

/-- SEC (R567, R570, R571, R574, R585). -/
def Dev.secWrite (s : Dev) (q : Requester) (off : Nat) (w : Word) : Dev :=
  if off = 0x44 then
    let s := if bits w 2 1 = 1 then s.bar2CloseCore else s
    let s := if bits w 1 1 = 1 then s.quoteGoCore else s
    if bits w 0 1 = 1 then s.fkRotateCore else s
  else if off = 0x4C then s.rollbackAdvCore (bits w 8 2) (bits w 0 7)
  else s.storeAny q .sec off w

/-- ALM (R579, R586). -/
def Dev.almWrite (s : Dev) (q : Requester) (off : Nat) (w : Word) : Dev :=
  if off = 0x40 then (if bits w 0 1 = 1 then s.almFlushCore else s) else s.storeAny q .alm off w

/-- FLASH.CMD (R587). -/
def Dev.flashWrite (s : Dev) (off : Nat) (w : Word) : Dev :=
  if off = 0x48 ∧ bits w 31 1 = 1 then s.flashGo (bits w 0 2) else s.storeReg .flash off w

/-- LANE_CTRL (R420, R426, R430, R432, R433): its Krylink fields do not exist on LANE0 to LANE5. -/
def Dev.laneCtrl (s : Dev) (q : Requester) (n : Nat) (w : Word) : Dev :=
  let i := Fin.ofNat 12 n
  let m := if krylink n then 0xB600 else 0x3000
  let was := s.loopback n
  let s := (s.prbsSync n).wr (R.LANE_LANE_CTRL n) (mergeBits (s.rd (R.LANE_LANE_CTRL n)) w m)
  let s := if s.loopback n = was then s else s.setLaneX n { s.laneX n with cleanAt := s.now }
  let s := s.test i q (bits w 11 1 == 1)
  if !(krylink n) then s
  else
    let s := if bits w 0 1 = s.gf (F.LANE_LANE_CTRL_TX_SLEEP n) then s else s.txSleep i q (bits w 0 1 == 1)
    let s := if bits w 1 1 = s.gf (F.LANE_LANE_CTRL_RX_SLEEP n) then s else s.rxSleep i q (bits w 1 1 == 1)
    let s := if bits w 8 1 = 1 then s.retrain i q else s
    if bits w 14 1 = 1 then s.slip i q else s

/-- LANE (R431, R433). -/
def Dev.laneWrite (s : Dev) (q : Requester) (n off : Nat) (w : Word) : Dev :=
  if off = 0x40 then s.laneCtrl q n w
  else if off = 0x4C then
    let was := s.on (F.LANE_PRBS_CTRL_CHK_EN n)
    let rate := s.gf (F.LANE_PRBS_CTRL_INJECT_RATE n)
    let gen := s.on (F.LANE_PRBS_CTRL_GEN_EN n)
    let s := (s.prbsSync n).storeReg (.lane n) off w
    let s := if s.gf (F.LANE_PRBS_CTRL_INJECT_RATE n) = rate ∧ s.on (F.LANE_PRBS_CTRL_GEN_EN n) = gen then s
      else s.setLaneX n { s.laneX n with injAt := s.now }
    let s := if s.on (F.LANE_PRBS_CTRL_CHK_EN n) ∧ !was then s.chkEnable n else s
    if bits w 27 1 = 1 then s.inject (Fin.ofNat 12 n) q else s
  else s.storeReg (.lane n) off w

/-- CLU (R301, R303, R304, R321). -/
def Dev.cluWrite (s : Dev) (q : Requester) (k off : Nat) (w : Word) : Dev :=
  if off = 0x40 then
    let s := s.storeReg (.clu k) off w
    ((if bits w 3 1 = 1 then s.statsClear (Fin.ofNat 32 k) q else s).engineSync (k / 8)).autoRelease k
  else if off = 0x4C then s.engRelease (Fin.ofNat 32 k) q (BitVec.ofNat 16 (bits w 0 16))
  else if off = 0x74 then s.kunblock (Fin.ofNat 4 (k / 8)) q (BitVec.ofNat 8 (bits w 0 8))
  else s.storeReg (.clu k) off w

/-- A waveform register of a BAY page (R344). -/
def waveReg (off : Nat) : Bool := decide (0x300 ≤ off) && decide (off < 0x320)

/-- WAVE_CTRL (R344): EN acts when it changes, in every state of the digitiser. -/
def Dev.waveEn (s : Dev) (q : Requester) (b : Nat) (w : Word) : Dev :=
  if bits w 0 1 = s.gf (F.BAY_WAVE_CTRL_EN b) then s
  else if bits w 0 1 = 1 then s.waveEnable (Fin.ofNat 48 b) q else s.waveDisable (Fin.ofNat 48 b) q

/-- A write of a waveform register while the digitiser is not ON (R344, R55): held, but for WAVE_CTRL.EN; GO is discarded. -/
def Dev.waveHold (s : Dev) (q : Requester) (b off : Nat) (w : Word) : Dev :=
  if off = 0x300 then (s.waveEn q b w).holdWave b off w q
  else if off = 0x314 then
    (if bits w 31 1 = 1 then s.refuse (.bay b) else s).holdWave b off (setBits w 31 1 0) q
  else s.holdWave b off w q

/-- WAVE_HOST_REQ1 (R340): GO, or its fields and HOST_DONE (W1C). -/
def Dev.hostReq1 (s : Dev) (b : Nat) (w : Word) : Dev :=
  if bits w 31 1 = 1 then s.hostGo b w
  else
    let s := s.storeReg (.bay b) 0x314 w
    if bits w 30 1 = 1 then s.sf (F.BAY_WAVE_HOST_REQ1_HOST_DONE b) 0 else s

/-- A register of a BAY page that is not shadowed (R108, R344). -/
def Dev.bayWrite (s : Dev) (q : Requester) (b off : Nat) (w : Word) : Dev :=
  if off = 0x50 then s.chRelease (Fin.ofNat 48 b) q (BitVec.ofNat 8 (bits w 0 8))
  else if off = 0x300 then (s.wr (R.BAY_WAVE_CTRL b) (mergeBits (s.rd (R.BAY_WAVE_CTRL b)) w 6)).waveEn q b w |>.pointerSync b
  else if off = 0x314 then s.hostReq1 b w
  else if off = 0x318 then
    let t := s.storeReg (.bay b) off w
    if s.on (F.BAY_WAVE_EST_EN b) then t else t.restartEst b
  else s.storeReg (.bay b) off w

/-- POOL (R267). -/
def Dev.poolWrite (s : Dev) (p off : Nat) (w : Word) : Dev := (s.storeReg (.pool p) off w).waitSync p

/-- A page-specific register that is not shadowed takes a write. -/
def Dev.effect (iss : Issue) (s : Dev) (q : Requester) (g : Page) (off : Nat) (w : Word) : Dev :=
  match g with
  | .chip => s.chipWrite q off w
  | .task => s.taskWrite q off w
  | .irq => s.irqWrite off w
  | .pwr => s.pwrWrite off w
  | .therm => s.thermWrite off w
  | .time => s.timeWrite iss q off w
  | .chain => s.chainWrite q off w
  | .ptp => if off = 0x40 then (s.storeReg .ptp off w).ptpCfg else if off = 0x44 then (s.storeReg .ptp off w).ptpThresh else s.storeReg .ptp off w
  | .nw => s.nwWrite q off w
  | .mon => s.monWrite q off w
  | .scan => s.scanWrite off w
  | .emit => s.emitWrite q off w
  | .code => s.storeAny q .code off w
  | .cal => s.calWrite q off w
  | .sky => s.skyWrite q off w
  | .stream => s.streamWrite q off w
  | .comp => s.storeReg .comp off w
  | .host => s.hostWrite q off w
  | .net p => s.netWrite (p % 2) off w
  | .sec => s.secWrite q off w
  | .alm => s.almWrite q off w
  | .res => s.storeReg .res off w
  | .flash => s.flashWrite off w
  | .lane n => s.laneWrite q (n % 12) off w
  | .qtr p => s.storeReg (.qtr (p % 4)) off w
  | .pool p => s.poolWrite (p % 4) off w
  | .clu k => s.cluWrite q (k % 32) off w
  | .bay b => s.bayWrite q (b % 48) off w

/-! ## From the bus to the page (R55, R60, R64, R197, R604, R617) -/

/-- A digitiser that holds writes (R344): the waveform registers of a bay whose WAVE_STATUS.STATE is not ON. -/
def Dev.waveOff (s : Dev) (g : Page) (off : Nat) : Bool :=
  match g with
  | .bay b => waveReg off && s.waveState b != 2
  | _ => false

/-- A write of a page-specific register applies: shadowed ones enter the open set (R60). -/
def Dev.apply_ (iss : Issue) (s : Dev) (q : Requester) (g : Page) (off : Nat) (w : Word) : Dev :=
  if s.waveOff g off then match g with | .bay b => s.waveHold q b off w | _ => s
  else if shadowedReg g off then s.shadowWrite g q off w
  else s.effect iss q g off w

/-- Hold a write (R55): the last value written to each register, in the order of their last write. -/
def Dev.hold (s : Dev) (q : Requester) (g : Page) (off : Nat) (w : Word) : Dev :=
  let x := s.px g
  s.setPx g { x with held := x.held.filter (fun e => e.1 != off) ++ [(off, w, q)] }

/-- A write of a page-specific register (R21, R22, R55): ignored where nothing can be written, held while the page is not ON, but for WO fields, which are discarded. -/
def Dev.pageWrite (iss : Issue) (s : Dev) (q : Requester) (g : Page) (off : Nat) (w : Word) : Dev :=
  match regRow g off with
  | none => if g = .nw then s.nwOtherWrite q else s
  | some r =>
    if r.readOnly ∧ g ≠ .nw then s
    else if s.isOn g then s.apply_ iss q g off w
    else
      let wo := BitVec.ofNat 32 r.wo
      let s := if w &&& wo = 0#32 then s else s.refuse g
      if r.rw = 0 then s else s.hold q g off (w &&& ~~~wo)

/-- A write of a header register (R45 to R53): it applies at once in every state. -/
def Dev.headerWrite (s : Dev) (q : Requester) (g : Page) (off : Nat) (w : Word) : Dev :=
  let s := if g = .nw then s.nwOtherWrite q else s
  match off with
  | 0x0C => s.pageCtrl g w
  | 0x10 => s.clearErr g w
  | 0x14 => s.storeReg g off w
  | 0x18 => if bits w 31 1 = 1 then s.clearFirst g else s
  | 0x20 => s.ackIrq g w
  | 0x24 => s.storeReg g off w
  | 0x28 => s.putTag g q (bits w 0 28)
  | 0x2C => s.shadowCtrl g q w
  | _ => s

/-- A write of the EMIT page waits behind its requester's ARM (R197). -/
def Dev.deferEmit (s : Dev) (q : Requester) (off : Nat) (w : Word) : Dev :=
  { s with emit := { s.emit with armHeld := s.emit.armHeld ++ [(q, off, w)] } }

/-- A write to a register of a page, once it may reach the page. -/
def Dev.regWriteWith (iss : Issue) (s : Dev) (q : Requester) (g : Page) (off : Nat) (w : Word) : Dev :=
  if s.debugLocked q then s
  else if !(s.responds q g) then s.refuse .chip
  else if q = .debug ∧ (g = .sec ∨ g = .nw) then s.refuse g
  else if g = .emit ∧ s.armBlocked q then s.deferEmit q off w
  else if off < 0x40 then s.headerWrite q g off w
  else s.pageWrite iss q g off w

/-- An MSI-X table write over PCIe (R408, R616); the pending bits are read only. -/
def Dev.msixWrite (s : Dev) (n : Nat) (w : Word) : Dev :=
  if n < 0x1F0400 then
    let i := (n - 0x1F0000) / 4
    let v := if i % 4 = 0 then w &&& 0xFFFFFFFC#32 else if i % 4 = 3 then w &&& 1#32 else w
    { s with host := { s.host with msix := fset msix0 s.host.msix i v } }
  else s

/-- A write at a register address (R616, R617). -/
def Dev.accessWith (iss : Issue) (s : Dev) (q : Requester) (a w : Word) : Dev :=
  let n := a.toNat
  if s.debugLocked q then s
  else if q = .pcie ∧ n % 4 = 0 ∧ 0x1F0000 ≤ n ∧ n < 0x200000 then s.msixWrite n w
  else if n % 4 ≠ 0 then s.refuse .chip
  else match decodeAddr n with
    | none => s.refuse .chip
    | some (g, off) => s.regWriteWith iss q g off w

/-- Writes issued from inside others, to a depth: a timed WRITE may arm the next of the 16 slots (R458). -/
def issueN : Nat → Issue
  | 0 => fun s _ _ _ => s
  | n + 1 => fun s q a w => s.accessWith (issueN n) q a w

/-- A write by a requester to a register of a page. -/
def Dev.regWrite (s : Dev) (q : Requester) (g : Page) (off : Nat) (w : Word) : Dev := s.regWriteWith (issueN 16) q g off w

/-- A write by a requester at an address. -/
def Dev.access (s : Dev) (q : Requester) (a w : Word) : Dev := s.accessWith (issueN 16) q a w

/-! ## Wakes (R54, R55, R58, R540, R344) -/

/-- Held writes apply in the order of their last write (R55). -/
def Dev.applyHeld (s : Dev) (g : Page) : Dev :=
  let h := (s.px g).held
  h.foldl (fun (s : Dev) e => s.apply_ (issueN 16) e.2.2 g e.1 e.2.1) (s.setPx g { s.px g with held := [] })

/-- What RUN reads after a wake: PAUSED stays (R59); a QUIESCE still set acts at the next frame start (R632). -/
def Dev.wakeRun (s : Dev) (g : Page) : Dev :=
  let s := if s.run g = rPaused then s else s.setRun g rActive
  if s.on (F.PAGE_CTRL_QUIESCE g) then s.setPx g { s.px g with quiesceReq := true } else s

/-- The end of WAKING (R55): held writes apply, then the page reads ON. -/
def Dev.wakeOn (s : Dev) (g : Page) : Dev :=
  let s := ((s.applyHeld g).wakeRun g).pageOn g
  if g = .scan ∧ s.on F.SCAN_CTRL_FAST_EN then s.fastEnSet else s

/-- WAKE_COMPLETE (R55, R58, R540). -/
def Dev.wakeComplete (s : Dev) (g : Page) : Dev :=
  if s.power g ≠ pWaking then s
  else if (s.px g).resetPend.isSome then (s.pageOn g).startDrain g
  else
    let s := s.wakeOn g
    if !(s.on (F.PAGE_CTRL_EN g)) then s.setPx g { s.px g with drainAt := some (s.now + 3) }
    else match g with
      | .bay b => if s.isOn (.qtr (b / 12)) then s else s.startDrain g
      | _ => s

/-- A held write of a waveform register applies (R344). -/
def Dev.applyWaveHeld (s : Dev) (b : Nat) (e : Nat × Word × Requester) : Dev :=
  if e.1 = 0x300 then s.wr (R.BAY_WAVE_CTRL b) (mergeBits (s.rd (R.BAY_WAVE_CTRL b)) e.2.1 6)
  else s.apply_ (issueN 16) e.2.2 (.bay b) e.1 e.2.1

/-- WAVE_WAKE_COMPLETE (R344): held writes apply in the order of their last write and STATE reads ON; background
estimation restarts. -/
def Dev.waveWakeComplete (s : Dev) (bay : Fin 48) : Dev :=
  let b := bay.val
  if s.waveState b = 1 then
    let w := s.wave b
    let s := s.setWave b { w with held := [] }
    let s := (s.setWaveState b 2).sb (F.BAY_WAVE_STATUS_HELD_WRITES b) false
    let s := w.held.foldl (fun (s : Dev) e => s.applyWaveHeld b e) s
    let s := ((s.restartEst b).pointerSync b).uncorrected b (List.range 4)
    if w.offPend then s.drainWave b else s
  else s

end Sys2Proof.Machine
end

