-- ==== Sys2Proof/Machine/Settle.lean ====
section
/-! DEFINITION. What the block makes of the present moment after any command: calibration before the first frame (R612),
thermal mode, alignment, Nightwatch, CHIP.READY, the Almanac's lost records, and last the interrupt lines. -/
namespace Sys2Proof.Machine

/-! ## Calibration while the scanner is not RUNNING (R612) -/

/-- A converter has something that acts at once. -/
def ConvX.idleDue (x : ConvX) : Bool := x.attachReq || x.detachReq || (x.pendingNew != [] && !x.detached)

/-- Detaching, attaching and an accepted table act at once, without a blend. -/
def ConvX.idle (x : ConvX) : ConvX :=
  let x := if x.attachReq then { x with detached := false, attachReq := false, standIn := false } else x
  let x := if x.detachReq then { x with detached := true, detachReq := false, running := true, runs := [], aborted := false } else x
  if x.pendingNew ≠ [] ∧ !x.detached then
    { x with table := x.pendingNew, old := [], step := 16, pendingNew := [], blends := x.blends + 1 }
  else x

/-- A correction replaced the one in force at once: EPOCH increments at the first frame start. -/
def Dev.dueEpoch (s : Dev) : Dev := { s with time := { s.time with epochDue := true } }

/-- The converters. -/
def Dev.idleConvs (s : Dev) : Dev :=
  (s.convs.filter (fun e => e.2.idleDue)).foldl (fun (s : Dev) e =>
    let s := { s with convs := fset conv0 s.convs e.1 e.2.idle }.calSync (e.1 / 17)
    if e.2.pendingNew ≠ [] then s.dueEpoch else s) s

/-- The slice corrections. -/
def Dev.idleSlices (s : Dev) : Dev :=
  s.slices.foldl (fun (s : Dev) e =>
    match e.2.pending with
    | none => s
    | some c =>
      let x := { e.2 with valid := true, new := c, old := c, step := 16, pending := none }
      ({ s with slices := fset slice0 s.slices e.1 x }.sliceSync (e.1 / 8)).dueEpoch) s

/-- The range-zero offsets. -/
def Dev.idleRz (s : Dev) : Dev :=
  s.rz.foldl (fun (s : Dev) e =>
    match e.2.pending with
    | none => s
    | some v =>
      ((s.setRz e.1 { e.2 with valid := true, new := v, old := v, step := 16, pending := none }).rzSync e.1).dueEpoch) s

/-- SWITCH steps that wait for a frame start commit. -/
def Dev.idleSwitch (s : Dev) : Dev :=
  s.taskRun.foldl (fun (s : Dev) i => if (s.task i).latchAt.isSome ∧ s.targetUp (s.task i) then s.commitSwitch i else s) s

/-- R612. -/
def Dev.idleSync (s : Dev) : Dev :=
  if s.gf F.SCAN_STATUS_STATE = 3 then s else (s.idleConvs.idleSlices.idleRz).idleSwitch

/-! ## CHIP.READY (R614) -/

/-- Every enabled channel reads CH_STATUS.CAL_VALID = 1. -/
def Dev.calValid (s : Dev) : Bool :=
  (List.range 48).all (fun b => !(s.on (F.BAY_TDC_CTRL_EN b)) ||
    (List.range 8).all (fun c => !(bit (s.gf (F.BAY_CH_ENABLE_EN b)) c) || s.on (F.BAY_CH_STATUS_CAL_VALID b c)))

/-- Every enabled port reads OK. -/
def Dev.portsOk (s : Dev) : Bool :=
  (List.range 48).all (fun p => !(s.on (F.EMIT_PORT_CFG_EN p)) || s.gf (F.EMIT_PORT_STATUS_STATE p) == 1)

/-- What READY reads. -/
def Dev.readyBits (s : Dev) : Nat :=
  b2n (s.gf F.CHIP_BOOT_STATUS_STAGE == 2)
    + b2n (s.on F.NW_STATUS_SEALED) * 2
    + b2n (s.on F.TIME_STATUS_PLL_LOCKED && !(s.on F.TIME_STATUS_HOLDOVER)) * 4
    + b2n (s.on F.TIME_STATUS_REF_SETTLED) * 8
    + b2n (s.gf F.SCAN_STATUS_STATE == 3) * 16
    + b2n (s.gf F.STREAM_STATUS_STATE == 1) * 32
    + b2n (s.gf F.NW_STATUS_STATE == 3) * 64
    + b2n s.portsOk * 128
    + b2n (s.gf (F.CLU_KBANK_VERSION 0) != 0) * 256
    + b2n s.calValid * 512

/-- READY follows its sources; a change raises READY_CHANGE. -/
def Dev.readySync (s : Dev) : Dev :=
  let w := BitVec.ofNat 32 s.readyBits
  if s.rd R.CHIP_READY = w then s else (s.wr R.CHIP_READY w).event E.CHIP_READY_CHANGE

/-! ## After every command -/

/-- Everything that follows the state of the block without a command of its own. -/
def Dev.settle (s : Dev) : Dev :=
  let s := ((((s.idleSync.lateDrains.clusterDrains.quietSync).configDue s.now).bistPump).modeSync).alignSync
  (((s.dropClosed.pfwSync.lostSync).nwSync).readySync).irqSync

/-- The next state of a command whose effect is `d`. -/
def State.done (s : State) (d : Dev) : Res := .next { s with dev := d.settle }

end Sys2Proof.Machine
end

