-- ==== Sys2Proof/Machine/Init.lean ====
section
/-! DEFINITION. The end of firmware initialisation (R539, R542, R559, R605, R607): the domains wake as any wake does, with the
writes held for them (R55). -/
namespace Sys2Proof.Machine

/-- Step 6 for one page (R539, R542, R559, R605, R607): its domain wakes, with what a wake applies (R55). -/
def Dev.bootEnable (s : Dev) (fails : List Nat) (g : Page) : Dev :=
  let i := (domainOf g).getD 0
  if bit s.enableBlock i then s
  else
    let s := s.sb (F.PAGE_CTRL_EN g) true
    let qf := match qfOf g with
      | some q => s.isOn (.qtr q)
      | none => true
    if !qf then s.sb (F.PAGE_STATE_REENABLE_PENDING g) true
    else if fails.contains g.num then (s.startWake g).wakeFail g
    else (s.startWake g).wakeOn g

/-- FIRMWARE_INIT_DONE (R605): the steps in order, then STAGE reads RUNNING. -/
def Dev.firmwareInitDone (s : Dev) (env : InitEnv) : Dev :=
  if s.stageNow ≠ 1 then s
  else
    let s := ((s.applySwaps.loadCal).nwBlock).loadKernels env.ids
    let s := s.ringScan.takeNwRecords
    let s := s.record 0x0001 .info Page.chip.base (s.gf F.SEC_STATUS_BOOT_SLOT) (s.rd R.CHIP_FW_VERSION).toNat (s.gf F.SEC_BOOT_COUNT_COUNT)
    let s := s.fallbackRecords.codeBoot.loadShifts
    let s := bootPages.foldl (fun (s : Dev) g => s.bootEnable env.fails g) s
    (s.sf F.CHIP_BOOT_STATUS_INIT_MS (min 65535 env.ms)).sf F.CHIP_BOOT_STATUS_STAGE 2

end Sys2Proof.Machine
end

