-- ==== Sys2Proof/Machine/Remote.lean ====
section
/-! DEFINITION. Register-access packets (R86, R87, R413, R472), REG_REQ (R84, R472), the end of a Starline transfer for the
accesses behind an ARM (R197), and the commands of timed actions (R459, R461). -/
namespace Sys2Proof.Machine

/-! ## Reads of a packet (R87, R197) -/

/-- The address lies in the EMIT page. -/
def inEmit (a : Word) : Bool := decide (a.toNat / 4096 = Page.emit.base)

/-- The reads of a packet, in entry order; those of the EMIT page behind the requester's ARM stay open. -/
def Dev.readAll (s : Dev) (q : Requester) : List Word → List (Word × Option Word) × Dev
  | [] => ([], s)
  | a :: l =>
    if s.armBlocked q ∧ inEmit a then
      let r := s.readAll q l
      ((a, none) :: r.1, r.2)
    else
      let v := s.busRead q a
      let r := v.2.readAll q l
      ((a, some v.1) :: r.1, r.2)

/-- Fill in the reads that stayed open. -/
def Dev.readOpen (s : Dev) (q : Requester) : List (Word × Option Word) → List (Word × Word) × Dev
  | [] => ([], s)
  | (a, some v) :: l =>
    let r := s.readOpen q l
    ((a, v) :: r.1, r.2)
  | (a, none) :: l =>
    let v := s.busRead q a
    let r := v.2.readOpen q l
    ((a, v.1) :: r.1, r.2)

/-- Answer a READ once no read of it waits any more. -/
def Dev.answerRead (s : Dev) (x : ReadX) : Dev :=
  if x.entries.any (fun e => e.2.isNone) ∧ s.armBlocked x.req then
    { s with emit := { s.emit with readHeld := s.emit.readHeld ++ [x] } }
  else
    let r := s.readOpen x.req x.entries
    r.2.answer x.reply 0 r.1

/-- Execute a request (R86, R87): READ 1, WRITE 2, FENCE 3. Each write settles before the next, as writes of their own would
(R83). A write that its page refuses leaves the answer OK: the refusal shows in the page's ACCESS; answers with another
status carry no entries (DESIGN CHOICE, log 87). -/
def Dev.execRequest (s : Dev) (q : Requester) (r : ReplyX) (entries : List (Word × Word)) : Dev :=
  match r.op with
  | 1 =>
    let v := s.readAll q (entries.map (fun e => e.1))
    v.2.answerRead { req := q, reply := r, entries := v.1 }
  | 2 => (entries.foldl (fun (s : Dev) e => (s.access q e.1 e.2).settle) s).answer r 0 entries
  | _ =>
    let f := s.placeFence q none (some r)
    if f.1 then f.2 else f.2.answer r 2 []

/-- A request's form is right (R86). -/
def raFormed (version op count : Nat) (entries : List (Word × Word)) : Bool :=
  version == 1 && (op == 1 || op == 2 || op == 3) && count == entries.length
    && (if op = 3 then count == 0 else decide (1 ≤ count) && decide (count ≤ 64))

/-! ## Packets on Ethernet (R413, R472) -/

/-- The source address of a packet is one the port accepts (R413, R435). -/
def Dev.raSource (s : Dev) (p src : Nat) : Bool :=
  let w := fun (a i : Nat) => (s.rd (R.NET_RA_SRC p a i)).toNat
  let six := s.on (F.NET_CTRL_IP_VER p)
  (List.range 4).any (fun a => bit (s.gf (F.NET_RA_SRC_EN_EN p)) a &&
    (if six then src == ((w a 0 * 2^32 + w a 1) * 2^32 + w a 2) * 2^32 + w a 3 else src == w a 0))

/-- The requester of an Ethernet port (R43). -/
def netReq (p : Nat) : Requester := if p = 0 then .net0 else .net1

/-- Note a request as the last executed from its source address, whatever the port (R87). -/
def Dev.noteRequest (s : Dev) (r : ReplyX) : Dev :=
  { s with answered := s.answered.filter (fun a => a.src != r.src) ++ [{ src := r.src, seq := r.seq, op := r.op }] }

/-- A request that can be executed (R66): a fence only while fewer than 8 are incomplete. -/
def Dev.mayExecute (s : Dev) (q : Requester) (op : Nat) : Bool := op != 3 || decide ((s.req q).fences.length < 8)

/-- Execute a request here or pass it to its unit (R472). One that is refused whole is not executed and leaves the answer of the
last one that was (R87). -/
def Dev.routeRequest (s : Dev) (q : Requester) (r : ReplyX) (entries : List (Word × Word)) : Dev :=
  if r.unit = 0 ∨ r.unit = s.unit ∨ (s.pole ∧ r.unit = 1) then
    (if s.mayExecute q r.op then s.noteRequest r else s).execRequest q r entries
  else if !s.pole ∨ (s.hopOf r.unit).isNone then s.answer r 2 []
  else (s.noteRequest r).sendReq q (some r) r.unit r.op r.seq entries

/-- A register-access packet arrives (R86, R87, R413). -/
def Dev.raPacket (s : Dev) (p : Nat) (h : RaHeader) (op : Nat) (entries : List (Word × Word)) : Dev :=
  if !(s.on (F.NET_STATUS_LINK_UP p) && s.on (F.NET_CTRL_EN p)) then s
  else
    let s := s.rxFrame p
    if !(s.on (F.NET_CTRL_RA_EN p)) ∨ h.dstPort ≠ s.gf (F.NET_RA_PORT_PORT p) ∨ !(s.raSource p h.srcIp) then
      (s.inc (F.NET_RA_REJECTED_COUNT p)).raise (C.NET_RA_REJECTED p)
    else
      let r : ReplyX := { port := p, op := op, unit := h.unit, seq := h.seq, src := h.srcIp, srcPort := h.srcPort }
      if !(raFormed h.version op h.count entries) then s.answer r 3 []
      else match s.answered.find? (fun a => a.src == h.srcIp && a.seq == h.seq) with
        | some a =>
          match a.answer with
          | some e => s.respond p (s.raOut p h.srcIp h.srcPort a.op h.unit h.seq e.1 e.2)
          | none => s
        | none => s.routeRequest (netReq p) r entries

/-- RA_READ (R86, R87). -/
def Dev.raRead (s : Dev) (port : Fin 2) (h : RaHeader) (addrs : List Word) : Dev :=
  s.raPacket port.val h 1 (addrs.map (fun a => (a, 0#32)))

/-- RA_WRITE (R86, R87). -/
def Dev.raWrite (s : Dev) (port : Fin 2) (h : RaHeader) (entries : List (Word × Word)) : Dev := s.raPacket port.val h 2 entries

/-- RA_FENCE (R86, R87). -/
def Dev.raFence (s : Dev) (port : Fin 2) (h : RaHeader) : Dev := s.raPacket port.val h 3 []

/-! ## REG_REQ (R84, R442, R472) -/

/-- REG_REQ: executed as requester CHAIN at the unit it names, and passed on by any other. -/
def Dev.regReq (s : Dev) (_port : Fin 2) (m : ChainMsg) : Dev :=
  if m.dst ≠ s.unit then s.sendTo mRegReq m.dst m.src (wordsBE m.words)
  else
    let w0 := m.words.getD 0 0#32
    let op := bits w0 16 8
    let entries := raEntries (m.words.drop 3)
    let r : ReplyX := { port := 2, op := op, unit := bits w0 0 16, seq := (m.words.getD 1 0#32).toNat, src := m.src }
    if raFormed (bits w0 24 8) op (bits (m.words.getD 2 0#32) 24 8) entries then s.execRequest .chain r entries
    else s.answer r 3 []

/-! ## The end of a Starline transfer (R197) -/

/-- The ARM writes that waited apply, each followed by the writes of its requester that waited behind it. -/
def Dev.releaseArms (s : Dev) : Dev :=
  let arms := s.emit.armWait
  let held := s.emit.armHeld
  let s := { s with emit := { s.emit with armWait := [], armHeld := [] } }
  arms.foldl (fun (s : Dev) e =>
    (held.filter (fun h => h.1 == e.1)).foldl (fun (s : Dev) h => s.regWrite h.1 .emit h.2.1 h.2.2)
      ((s.sf (F.SHADOW_CTRL_MODE .emit) e.2).armSet .emit e.1)) s

/-- The fences of a requester wait only while a write before them does. -/
def Dev.freeFences (s : Dev) : Dev :=
  [Requester.firmware, .pcie, .net0, .net1, .chain, .debug].foldl (fun (s : Dev) q =>
    if s.armBlocked q then s
    else
      let x := s.req q
      s.setReq q { x with fences := x.fences.map (fun f => { f with waits := false }) }) s

/-- The wire's transfer is the last of the running ones. -/
def Dev.lastWire (s : Dev) (w : Nat) : Bool := (s.wire w).busy && (List.range 4).all (fun v => v == w || !(s.wire v).busy)

/-- STARLINE_TRANSFER_DONE (R197): with the transfer's gap ended, the accesses that waited for it apply. -/
def Dev.starlineTransferDone (s : Dev) (wire : Fin 4) : Dev :=
  let last := s.lastWire wire.val
  let s := s.wireDone wire.val
  if !last ∨ s.emit.armWait.isEmpty then s
  else
    let s := s.releaseArms.freeFences
    let reads := s.emit.readHeld
    reads.foldl (fun (s : Dev) x => s.answerRead x) { s with emit := { s.emit with readHeld := [] } }

/-! ## Timed actions and DELAY_RESP (R456, R459, R461) -/

/-- ACTION_COMMIT: KIND 3 acts as COMMIT (R474). -/
def Dev.actionCommit (s : Dev) (slot : Fin 16) : Dev := s.actDue (issueN 16) slot.val [0, 3]

/-- ACTION_WRITE. -/
def Dev.actionWrite (s : Dev) (slot : Fin 16) : Dev := s.actDue (issueN 16) slot.val [1]

/-- ACTION_DEC_SYNC. -/
def Dev.actionDecSync (s : Dev) (slot : Fin 16) : Dev := s.actDue (issueN 16) slot.val [2]

/-- DELAY_RESP (R453 to R456): a step that carries Meridian time past T makes actions late (R461). -/
def Dev.delayResp (s : Dev) (port : Fin 2) (m : ChainMsg) (t4 : Nat) : Dev :=
  (s.delayRespCore port m t4).actStepped (issueN 16) s.now

end Sys2Proof.Machine
end

