-- ==== Sys2Proof/Machine/Commands.lean ====
section
/-! DEFINITION. The commands that are a requester's write or read of one register: each is that access, with the other RW
fields of the register written as they read (log 6). -/
namespace Sys2Proof.Machine

/-- A field of a register is written, its other RW fields as they read and its W1C and WO fields 0 (log 6). -/
def Dev.putF (s : Dev) (q : Requester) (f : Fld) (v : Nat) : Dev :=
  s.regWrite q f.pg f.off (setBits ((s.regRead q f.pg f.off).1 &&& BitVec.ofNat 32 (rwMask f.pg f.off)) f.lo f.len v)

/-- What a requester's read of a register returns, sent to it (R22, R604). -/
def Dev.readF (s : Dev) (q : Requester) (g : Page) (off : Nat) : Dev :=
  if s.debugLocked q then s
  else if s.responds q g then
    let r := s.regRead q g off
    r.2.send (.value q r.1)
  else s.send (.value q 0xFFFFFFFF#32)

/-! ## Pages -/

/-- PAGE_ENABLE (R47, R54). -/
def Dev.cmdPageEnable (s : Dev) (g : Page) (req : Requester) : Dev := s.putF req (F.PAGE_CTRL_EN g) 1
/-- PAGE_DISABLE (R47, R54). -/
def Dev.cmdPageDisable (s : Dev) (g : Page) (req : Requester) : Dev := s.putF req (F.PAGE_CTRL_EN g) 0
/-- PAGE_QUIESCE (R47, R632). -/
def Dev.cmdPageQuiesce (s : Dev) (g : Page) (req : Requester) : Dev := s.putF req (F.PAGE_CTRL_QUIESCE g) 1
/-- DRAIN_REQ (R47). -/
def Dev.cmdDrainReq (s : Dev) (g : Page) (req : Requester) : Dev := s.putF req (F.PAGE_CTRL_DRAIN_REQ g) 1
/-- PAGE_RESUME (R47, R59). -/
def Dev.cmdPageResume (s : Dev) (g : Page) (req : Requester) : Dev := s.putF req (F.PAGE_CTRL_RESUME g) 1

/-- PAGE_RESET (R47, R58). -/
def Dev.cmdPageReset (s : Dev) (g : Page) (req : Requester) (key : BitVec 8) (en : Bool) : Dev :=
  s.regWrite req g 0x0C (BitVec.ofNat 32 (key.toNat * 2^24 + 0x100 + b2n en))

/-- ERR_STATUS_CLEAR (R48). -/
def Dev.cmdErrStatusClear (s : Dev) (g : Page) (req : Requester) (mask : Word) : Dev := s.regWrite req g 0x10 mask
/-- ERR_FIRST_CLEAR (R49). -/
def Dev.cmdErrFirstClear (s : Dev) (g : Page) (req : Requester) : Dev := s.regWrite req g 0x18 0x80000000#32
/-- IRQ_STATUS_ACK (R83, R51). -/
def Dev.cmdIrqStatusAck (s : Dev) (g : Page) (req : Requester) (mask : Word) : Dev := s.regWrite req g 0x20 mask
/-- SEQ_APPLIED_TAG (R67, R52). -/
def Dev.cmdSeqAppliedTag (s : Dev) (g : Page) (req : Requester) (tag : BitVec 28) : Dev :=
  s.regWrite req g 0x28 (BitVec.ofNat 32 tag.toNat)

/-- A SHADOW_CTRL write with a MODE and one action (R53). -/
def Dev.shadowAct (s : Dev) (g : Page) (req : Requester) (mode : BitVec 2) (act : Nat) : Dev :=
  s.regWrite req g 0x2C (BitVec.ofNat 32 (mode.toNat * 2^28 + act))
/-- SHADOW_ARM (R53, R60). -/
def Dev.cmdShadowArm (s : Dev) (g : Page) (req : Requester) (mode : BitVec 2) : Dev := s.shadowAct g req mode 1
/-- SHADOW_COMMIT (R61, R53, R60). -/
def Dev.cmdShadowCommit (s : Dev) (g : Page) (req : Requester) (mode : BitVec 2) : Dev := s.shadowAct g req mode 2
/-- SHADOW_DISCARD (R63, R53, R60). -/
def Dev.cmdShadowDiscard (s : Dev) (g : Page) (req : Requester) (mode : BitVec 2) : Dev := s.shadowAct g req mode 4

/-- REGISTER_WRITE (R64, R22, R55, R617). -/
def Dev.cmdRegisterWrite (s : Dev) (req : Requester) (addr data : Word) : Dev := s.access req addr data
/-- FENCE (R66). -/
def Dev.cmdFence (s : Dev) (req : Requester) (token : BitVec 16) : Dev := s.putF req F.CHIP_FENCE_TOKEN token.toNat

/-! ## Tasks (R68 to R73) -/

/-- TASK_CANCEL (R73). -/
def Dev.cmdTaskCancel (s : Dev) (slot : Fin 16) (req : Requester) : Dev := s.putF req (F.TASK_CTRL_CANCEL slot.val) 1
/-- TASK_RELEASE (R68). -/
def Dev.cmdTaskRelease (s : Dev) (slot : Fin 16) (req : Requester) : Dev := s.putF req (F.TASK_CTRL_RELEASE slot.val) 1

/-- GO on a slot whose OP.CODE is as the command says; a command for another code does not occur (log 4). -/
def Dev.goIf (s : Dev) (slot : Fin 16) (req : Requester) (p : Nat → Bool) : Dev :=
  if p (s.gf (F.TASK_OP_CODE slot.val)) then s.putF req (F.TASK_CTRL_GO slot.val) 1 else s

/-- CAL_TDC (R140). -/
def Dev.cmdCalTdc (s : Dev) (slot : Fin 16) (req : Requester) : Dev := s.goIf slot req (· == 0x01)
/-- CAL_WAVE (R342). -/
def Dev.cmdCalWave (s : Dev) (slot : Fin 16) (req : Requester) : Dev := s.goIf slot req (· == 0x02)
/-- BIST (R595). -/
def Dev.cmdBist (s : Dev) (slot : Fin 16) (req : Requester) : Dev := s.goIf slot req (· == 0x10)
/-- MRAM_WRITE (R576). -/
def Dev.cmdMramWrite (s : Dev) (slot : Fin 16) (req : Requester) : Dev := s.goIf slot req (· == 0x20)
/-- IMAGE_VERIFY (R565). -/
def Dev.cmdImageVerify (s : Dev) (slot : Fin 16) (req : Requester) : Dev := s.goIf slot req (· == 0x21)
/-- RESERVE_SWAP (R591). -/
def Dev.cmdReserveSwap (s : Dev) (slot : Fin 16) (req : Requester) : Dev := s.goIf slot req (· == 0x30)
/-- SNAPSHOT_EXPORT (R394). -/
def Dev.cmdSnapshotExport (s : Dev) (slot : Fin 16) (req : Requester) : Dev := s.goIf slot req (· == 0x40)
/-- TASK_BAD_CODE (R69). -/
def Dev.cmdTaskBadCode (s : Dev) (slot : Fin 16) (req : Requester) : Dev :=
  s.goIf slot req (fun c => !(taskCodes.contains c))

/-! ## Bays, calibration, emission and scanning -/

/-- CH_RELEASE (R108). -/
def Dev.cmdChRelease (s : Dev) (bay : Fin 48) (req : Requester) (mask : BitVec 8) : Dev :=
  s.putF req (F.BAY_CH_RELEASE_RELEASE bay.val) mask.toNat
/-- RZ_RESEED (R155, R156). -/
def Dev.cmdRzReseed (s : Dev) (req : Requester) : Dev := s.putF req F.CAL_CTRL_RZ_RESEED 1
/-- PORT_CLEAR (R186, R190): both of its words. -/
def Dev.cmdPortClear (s : Dev) (req : Requester) (mask : BitVec 48) : Dev :=
  (s.regWrite req .emit 0x80 (BitVec.ofNat 32 mask.toNat)).regWrite req .emit 0x84 (BitVec.ofNat 32 (mask.toNat / 2^32))
/-- FAST_EN_SET (R230). -/
def Dev.cmdFastEnSet (s : Dev) (req : Requester) : Dev := s.putF req F.SCAN_CTRL_FAST_EN 1
/-- FAST_EN_CLEAR (R230). -/
def Dev.cmdFastEnClear (s : Dev) (req : Requester) : Dev := s.putF req F.SCAN_CTRL_FAST_EN 0
/-- FRAME_EN_SET (R220, R230). -/
def Dev.cmdFrameEnSet (s : Dev) (req : Requester) : Dev := s.putF req F.SCAN_CTRL_FRAME_EN 1
/-- FRAME_EN_CLEAR (R230). -/
def Dev.cmdFrameEnClear (s : Dev) (req : Requester) : Dev := s.putF req F.SCAN_CTRL_FRAME_EN 0
/-- SCAN_CLEAR (R230, R234). -/
def Dev.cmdScanClear (s : Dev) (req : Requester) : Dev := s.putF req F.SCAN_CTRL_CLEAR 1

/-! ## Engines, digitisers and the image -/

/-- The first CLU page of a region that is ON, else its first page: a register of the region is on all eight (R307). -/
def Dev.regionPage (s : Dev) (q : Fin 4) : Nat :=
  match (List.range 8).find? (fun i => s.isOn (.clu (8 * q.val + i))) with
  | some i => 8 * q.val + i
  | none => 8 * q.val
/-- KUNBLOCK (R301). -/
def Dev.cmdKunblock (s : Dev) (q : Fin 4) (req : Requester) (id : BitVec 8) : Dev :=
  s.putF req (F.CLU_KUNBLOCK_ID (s.regionPage q)) id.toNat
/-- ENG_RELEASE (R303). -/
def Dev.cmdEngRelease (s : Dev) (k : Fin 32) (req : Requester) (mask : BitVec 16) : Dev :=
  s.putF req (F.CLU_ENG_RELEASE_RELEASE k.val) mask.toNat
/-- STATS_CLEAR (R321). -/
def Dev.cmdStatsClear (s : Dev) (k : Fin 32) (req : Requester) : Dev := s.putF req (F.CLU_CTRL_STATS_CLEAR k.val) 1
/-- WAVE_HOST_GO (R340). -/
def Dev.cmdWaveHostGo (s : Dev) (bay : Fin 48) (req : Requester) (data : Word) : Dev :=
  s.regWrite req (.bay bay.val) 0x314 (setBits data 31 1 1)
/-- WAVE_DISABLE (R344). -/
def Dev.cmdWaveDisable (s : Dev) (bay : Fin 48) (req : Requester) : Dev := s.putF req (F.BAY_WAVE_CTRL_EN bay.val) 0
/-- WAVE_ENABLE (R344). -/
def Dev.cmdWaveEnable (s : Dev) (bay : Fin 48) (req : Requester) : Dev := s.putF req (F.BAY_WAVE_CTRL_EN bay.val) 1
/-- EXPO_COMMIT (R364). -/
def Dev.cmdExpoCommit (s : Dev) (req : Requester) : Dev := s.putF req F.SKY_EXPO_COMMIT_GO 1

/-! ## Streams, lanes and links -/

/-- STREAM_FENCE (R392). -/
def Dev.cmdStreamFence (s : Dev) (req : Requester) (token : BitVec 16) : Dev := s.putF req F.STREAM_FENCE_TOKEN token.toNat
/-- STREAM_ENABLE (R398). -/
def Dev.cmdStreamEnable (s : Dev) (req : Requester) : Dev := s.putF req F.STREAM_CTRL_EN 1
/-- STREAM_DISABLE (R398). -/
def Dev.cmdStreamDisable (s : Dev) (req : Requester) : Dev := s.putF req F.STREAM_CTRL_EN 0
/-- RING_RPTR_WRITE (R399). -/
def Dev.cmdRingRptrWrite (s : Dev) (req : Requester) (val : Word) : Dev := s.putF req F.STREAM_RING_RPTR_PTR val.toNat
/-- TX_SLEEP (R426). -/
def Dev.cmdTxSleep (s : Dev) (lane : Fin 12) (req : Requester) (on : Bool) : Dev :=
  s.putF req (F.LANE_LANE_CTRL_TX_SLEEP lane.val) (b2n on)
/-- RX_SLEEP (R426). -/
def Dev.cmdRxSleep (s : Dev) (lane : Fin 12) (req : Requester) (on : Bool) : Dev :=
  s.putF req (F.LANE_LANE_CTRL_RX_SLEEP lane.val) (b2n on)
/-- RETRAIN (R433). -/
def Dev.cmdRetrain (s : Dev) (lane : Fin 12) (req : Requester) : Dev := s.putF req (F.LANE_LANE_CTRL_RETRAIN lane.val) 1
/-- SLIP (R420). -/
def Dev.cmdSlip (s : Dev) (lane : Fin 12) (req : Requester) : Dev := s.putF req (F.LANE_LANE_CTRL_SLIP lane.val) 1
/-- TEST (R430). -/
def Dev.cmdTest (s : Dev) (lane : Fin 12) (req : Requester) (on : Bool) : Dev :=
  s.putF req (F.LANE_LANE_CTRL_TEST lane.val) (b2n on)
/-- INJECT (R431). -/
def Dev.cmdInject (s : Dev) (lane : Fin 12) (req : Requester) : Dev := s.putF req (F.LANE_PRBS_CTRL_INJECT lane.val) 1
/-- LINK_RETRAIN (R434). -/
def Dev.cmdLinkRetrain (s : Dev) (req : Requester) : Dev := s.putF req F.HOST_LINK_CTRL_RETRAIN 1

/-! ## The chain and time -/

/-- ENUM_GO (R446). -/
def Dev.cmdEnumGo (s : Dev) (req : Requester) : Dev := s.putF req F.CHAIN_CTRL_ENUM_GO 1
/-- CONFIG_PUSH (R468). -/
def Dev.cmdConfigPush (s : Dev) (req : Requester) : Dev := s.putF req F.CHAIN_CTRL_CONFIG_PUSH 1
/-- RA_GO (R471). -/
def Dev.cmdRaGo (s : Dev) (req : Requester) (data : Word) : Dev := s.regWrite req .chain 0x8C data
/-- NOW_LO (R452). -/
def Dev.cmdNowLo (s : Dev) (req : Requester) : Dev := s.readF req .time 0x80
/-- SET_CTRL_GO (R463). -/
def Dev.cmdSetCtrlGo (s : Dev) (req : Requester) : Dev := s.putF req F.TIME_SET_CTRL_GO 1
/-- ACT_ARM (R458). -/
def Dev.cmdActArm (s : Dev) (slot : Fin 16) (req : Requester) : Dev := s.putF req (F.TIME_ACT_CTRL_ARM slot.val) 1
/-- ACT_CANCEL (R474, R458). -/
def Dev.cmdActCancel (s : Dev) (slot : Fin 16) (req : Requester) : Dev := s.putF req (F.TIME_ACT_CTRL_CANCEL slot.val) 1
/-- ACT_RELEASE (R474, R458). -/
def Dev.cmdActRelease (s : Dev) (slot : Fin 16) (req : Requester) : Dev := s.putF req (F.TIME_ACT_CTRL_RELEASE slot.val) 1

/-! ## Nightwatch -/

/-- SW_RESET (R485, R506). -/
def Dev.cmdSwReset (s : Dev) (req : Requester) : Dev := s.putF req F.NW_CMD_SW_RESET 1
/-- HOST_TRIP (R482, R509). -/
def Dev.cmdHostTrip (s : Dev) (req : Requester) : Dev := s.putF req F.NW_CMD_TRIP 1
/-- WATCHDOG (R484). -/
def Dev.cmdWatchdog (s : Dev) (req : Requester) (val : Word) : Dev := s.regWrite req .nw 0x64 val
/-- UNLOCK (R506). -/
def Dev.cmdUnlock (s : Dev) (req : Requester) (val : Word) : Dev := s.regWrite req .nw 0x50 val
/-- PROTECTED_WRITE (R506, R507). -/
def Dev.cmdProtectedWrite (s : Dev) (req : Requester) (off : BitVec 12) (data : Word) : Dev :=
  s.regWrite req .nw off.toNat data
/-- WIN_CFG_WRITE (R502). -/
def Dev.cmdWinCfgWrite (s : Dev) (req : Requester) (w : Fin 3) (data : Word) : Dev :=
  s.regWrite req .nw (0xC0 + 4 * w.val) data
/-- SEAL (R508). -/
def Dev.cmdSeal (s : Dev) (req : Requester) (crc : Word) : Dev := s.regWrite req .nw 0x58 crc

/-! ## Monitor, security, Almanac, flash and reset -/

/-- SEQ_RUN (R519, R515). -/
def Dev.cmdSeqRun (s : Dev) (req : Requester) (on : Bool) : Dev := s.putF req F.MON_CTRL_SEQ_RUN (b2n on)
/-- PAIR_RUN (R529, R515). -/
def Dev.cmdPairRun (s : Dev) (req : Requester) (on : Bool) : Dev := s.putF req F.MON_CTRL_PAIR_RUN (b2n on)
/-- DEC_SYNC (R531). -/
def Dev.cmdDecSync (s : Dev) (req : Requester) : Dev := s.putF req F.MON_CTRL_DEC_SYNC 1
/-- CH_EXC_WRITE (R522, R520). -/
def Dev.cmdChExcWrite (s : Dev) (ch : Fin 24) (req : Requester) (data : Word) : Dev :=
  s.regWrite req .mon (0x104 + 0x10 * ch.val) data
/-- CH_RAW (R533). -/
def Dev.cmdChRaw (s : Dev) (ch : Fin 24) (req : Requester) : Dev := s.readF req .mon (0x300 + 0x10 * ch.val)
/-- QUOTE_GO (R570). -/
def Dev.cmdQuoteGo (s : Dev) (req : Requester) : Dev := s.putF req F.SEC_CTRL_QUOTE_GO 1
/-- FK_ROTATE (R571). -/
def Dev.cmdFkRotate (s : Dev) (req : Requester) : Dev := s.putF req F.SEC_CTRL_FK_ROTATE 1
/-- BAR2_CLOSE (R574). -/
def Dev.cmdBar2Close (s : Dev) (req : Requester) : Dev := s.putF req F.SEC_CTRL_BAR2_CLOSE 1
/-- ROLLBACK_ADV (R567). -/
def Dev.cmdRollbackAdv (s : Dev) (req : Requester) (type : BitVec 2) (val : BitVec 7) : Dev :=
  s.regWrite req .sec 0x4C (BitVec.ofNat 32 (type.toNat * 2^8 + val.toNat))
/-- WIN_DATA (R585). -/
def Dev.cmdWinData (s : Dev) (req : Requester) : Dev := s.readF req .sec 0x5C
/-- ALM_FLUSH (R579). -/
def Dev.cmdAlmFlush (s : Dev) (req : Requester) : Dev := s.putF req F.ALM_CTRL_FLUSH 1
/-- A FLASH.CMD write with GO (R587). -/
def Dev.flashCmd (s : Dev) (req : Requester) (op : Nat) : Dev := s.regWrite req .flash 0x48 (BitVec.ofNat 32 (2^31 + op))
/-- ERASE_4K (R587). -/
def Dev.cmdErase4k (s : Dev) (req : Requester) : Dev := s.flashCmd req 0
/-- ERASE_64K (R587). -/
def Dev.cmdErase64k (s : Dev) (req : Requester) : Dev := s.flashCmd req 1
/-- PROGRAM (R587). -/
def Dev.cmdProgram (s : Dev) (req : Requester) : Dev := s.flashCmd req 2
/-- READ (R587). -/
def Dev.cmdRead (s : Dev) (req : Requester) : Dev := s.flashCmd req 3
/-- WARM_RESET (R601). -/
def Dev.cmdWarmReset (s : Dev) (req : Requester) (key : BitVec 8) : Dev :=
  s.regWrite req .chip 0x50 (BitVec.ofNat 32 (key.toNat * 2^24 + 1))

end Sys2Proof.Machine
end

