-- ==== Sys2Proof/Machine/Meanings.lean ====
section
/-! DEFINITION. The meaning of every command: its effect on the block, written in the family files, followed by
what Nightwatch, CHIP.READY and the interrupt lines make of it (Machine/Settle.lean). No meaning touches the queue. -/
namespace Sys2Proof.Machine

/-- PAGE_ENABLE (R54): a PAGE_CTRL write that sets EN. -/
def execPageEnable (g : Page) (req : Requester) (s : State) : Res :=
  State.done s (s.dev.cmdPageEnable g req)

/-- PAGE_DISABLE (R54): a PAGE_CTRL write that clears EN. -/
def execPageDisable (g : Page) (req : Requester) (s : State) : Res :=
  State.done s (s.dev.cmdPageDisable g req)

/-- PAGE_QUIESCE (R632): a PAGE_CTRL write that sets QUIESCE. -/
def execPageQuiesce (g : Page) (req : Requester) (s : State) : Res :=
  State.done s (s.dev.cmdPageQuiesce g req)

/-- DRAIN_REQ (R47): a PAGE_CTRL write that sets DRAIN_REQ. -/
def execDrainReq (g : Page) (req : Requester) (s : State) : Res :=
  State.done s (s.dev.cmdDrainReq g req)

/-- PAGE_RESUME (R59): a PAGE_CTRL write that sets RESUME. -/
def execPageResume (g : Page) (req : Requester) (s : State) : Res :=
  State.done s (s.dev.cmdPageResume g req)

/-- PAGE_RESET (R58): a PAGE_CTRL write that sets PAGE_RESET, with its RESET_KEY and EN. -/
def execPageReset (g : Page) (req : Requester) (key : BitVec 8) (en : Bool) (s : State) : Res :=
  State.done s (s.dev.cmdPageReset g req key en)

/-- DRAIN_COMPLETE (R54): the page's drain ends. -/
def execDrainComplete (g : Page) (s : State) : Res :=
  State.done s (s.dev.drainComplete g)

/-- WAKE_COMPLETE (R55): the page's wake ends. -/
def execWakeComplete (g : Page) (s : State) : Res :=
  State.done s (s.dev.wakeComplete g)

/-- QUIESCE_DONE (R632): the page's work in flight has ended. -/
def execQuiesceDone (g : Page) (s : State) : Res :=
  State.done s (s.dev.quiesceDone g)

/-- WAKE_FAIL (R559): a domain that does not wake. -/
def execWakeFail (g : Page) (s : State) : Res :=
  State.done s (s.dev.wakeFail g)

/-- ERR_STATUS_CLEAR (R48): a W1C write of ERR_STATUS. -/
def execErrStatusClear (g : Page) (req : Requester) (mask : Word) (s : State) : Res :=
  State.done s (s.dev.cmdErrStatusClear g req mask)

/-- ERR_FIRST_CLEAR (R49): a write of 1 to ERR_FIRST.VALID. -/
def execErrFirstClear (g : Page) (req : Requester) (s : State) : Res :=
  State.done s (s.dev.cmdErrFirstClear g req)

/-- IRQ_STATUS_ACK (R83): a W1C write of IRQ_STATUS. -/
def execIrqStatusAck (g : Page) (req : Requester) (mask : Word) (s : State) : Res :=
  State.done s (s.dev.cmdIrqStatusAck g req mask)

/-- SEQ_APPLIED_TAG (R67): a write of SEQ_APPLIED.TAG. -/
def execSeqAppliedTag (g : Page) (req : Requester) (tag : BitVec 28) (s : State) : Res :=
  State.done s (s.dev.cmdSeqAppliedTag g req tag)

/-- SHADOW_ARM (R60): a SHADOW_CTRL write that sets ARM, with its MODE. -/
def execShadowArm (g : Page) (req : Requester) (mode : BitVec 2) (s : State) : Res :=
  State.done s (s.dev.cmdShadowArm g req mode)

/-- SHADOW_COMMIT (R61): a SHADOW_CTRL write that sets COMMIT, with its MODE. -/
def execShadowCommit (g : Page) (req : Requester) (mode : BitVec 2) (s : State) : Res :=
  State.done s (s.dev.cmdShadowCommit g req mode)

/-- SHADOW_DISCARD (R63): a SHADOW_CTRL write that sets DISCARD, with its MODE. -/
def execShadowDiscard (g : Page) (req : Requester) (mode : BitVec 2) (s : State) : Res :=
  State.done s (s.dev.cmdShadowDiscard g req mode)

/-- REGISTER_WRITE (R64): a write of one register. -/
def execRegisterWrite (req : Requester) (addr : Word) (data : Word) (s : State) : Res :=
  State.done s (s.dev.cmdRegisterWrite req addr data)

/-- FENCE (R66): a write of CHIP.FENCE. -/
def execFence (req : Requester) (token : BitVec 16) (s : State) : Res :=
  State.done s (s.dev.cmdFence req token)

/-- FENCE_COMPLETE (R66): the requester's oldest fence completes. -/
def execFenceComplete (req : Requester) (s : State) : Res :=
  State.done s (s.dev.fenceComplete req)

/-- TASK_CANCEL (R73): a write of CTRL.CANCEL. -/
def execTaskCancel (slot : Fin 16) (req : Requester) (s : State) : Res :=
  State.done s (s.dev.cmdTaskCancel slot req)

/-- TASK_RELEASE (R68): a write of CTRL.RELEASE. -/
def execTaskRelease (slot : Fin 16) (req : Requester) (s : State) : Res :=
  State.done s (s.dev.cmdTaskRelease slot req)

/-- TASK_START (R70): the oldest queued task starts. -/
def execTaskStart (s : State) : Res :=
  State.done s (s.dev.taskStart)

/-- TASK_STEP (R71): the next step of a running task, with what the step finds outside the block. -/
def execTaskStep (slot : Fin 16) (env : StepEnv) (s : State) : Res :=
  State.done s (s.dev.taskStep slot env)

/-- FAULT_REPORT (R78): the oldest report reaches the level above, or a fault with no row of its own is detected and contained. -/
def execFaultReport (found : Option FoundFault) (s : State) : Res :=
  State.done s (s.dev.faultReport found)

/-- RA_READ (R86): a READ register-access packet. -/
def execRaRead (port : Fin 2) (h : RaHeader) (addrs : List Word) (s : State) : Res :=
  State.done s (s.dev.raRead port h addrs)

/-- RA_WRITE (R87): a WRITE register-access packet. -/
def execRaWrite (port : Fin 2) (h : RaHeader) (entries : List (Word × Word)) (s : State) : Res :=
  State.done s (s.dev.raWrite port h entries)

/-- RA_FENCE (R87): a FENCE register-access packet. -/
def execRaFence (port : Fin 2) (h : RaHeader) (s : State) : Res :=
  State.done s (s.dev.raFence port h)

/-- REMOTE_ACCESS_TIMEOUT (R85): the requester's remote access meets its time limit. -/
def execRemoteAccessTimeout (req : Requester) (s : State) : Res :=
  State.done s (s.dev.remoteAccessTimeout req)

/-- CAL_TDC (R140): GO on a slot whose OP.CODE is 0x01. -/
def execCalTdc (slot : Fin 16) (req : Requester) (s : State) : Res :=
  State.done s (s.dev.cmdCalTdc slot req)

/-- CAL_WAVE (R342): GO on a slot whose OP.CODE is 0x02. -/
def execCalWave (slot : Fin 16) (req : Requester) (s : State) : Res :=
  State.done s (s.dev.cmdCalWave slot req)

/-- BIST (R595): GO on a slot whose OP.CODE is 0x10. -/
def execBist (slot : Fin 16) (req : Requester) (s : State) : Res :=
  State.done s (s.dev.cmdBist slot req)

/-- MRAM_WRITE (R576): GO on a slot whose OP.CODE is 0x20. -/
def execMramWrite (slot : Fin 16) (req : Requester) (s : State) : Res :=
  State.done s (s.dev.cmdMramWrite slot req)

/-- IMAGE_VERIFY (R565): GO on a slot whose OP.CODE is 0x21. -/
def execImageVerify (slot : Fin 16) (req : Requester) (s : State) : Res :=
  State.done s (s.dev.cmdImageVerify slot req)

/-- RESERVE_SWAP (R591): GO on a slot whose OP.CODE is 0x30. -/
def execReserveSwap (slot : Fin 16) (req : Requester) (s : State) : Res :=
  State.done s (s.dev.cmdReserveSwap slot req)

/-- SNAPSHOT_EXPORT (R394): GO on a slot whose OP.CODE is 0x40. -/
def execSnapshotExport (slot : Fin 16) (req : Requester) (s : State) : Res :=
  State.done s (s.dev.cmdSnapshotExport slot req)

/-- TASK_BAD_CODE (R69): GO on a slot whose OP.CODE is none of R69. -/
def execTaskBadCode (slot : Fin 16) (req : Requester) (s : State) : Res :=
  State.done s (s.dev.cmdTaskBadCode slot req)

/-- LEADING_EDGE (R92): an arming edge at time t, in ticks. -/
def execLeadingEdge (bay : Fin 48) (c : Fin 8) (t : Nat) (s : State) : Res :=
  State.done s (s.dev.leadingEdge bay c t)

/-- VALIDATING_ASSERT (R92): the validating comparator asserts at time t, in ticks. -/
def execValidatingAssert (bay : Fin 48) (c : Fin 8) (t : Nat) (s : State) : Res :=
  State.done s (s.dev.validatingAssert bay c t)

/-- TRAILING_EDGE (R92): the arming comparator deasserts at time t, in ticks. -/
def execTrailingEdge (bay : Fin 48) (c : Fin 8) (t : Nat) (s : State) : Res :=
  State.done s (s.dev.trailingEdge bay c t)

/-- EVENT_EMIT (R92): the channel's closed event leaves for the builder. -/
def execEventEmit (bay : Fin 48) (c : Fin 8) (s : State) : Res :=
  State.done s (s.dev.eventEmit bay c)

/-- TOT_MAX_EXPIRY (R95): TOT_MAX has passed since the leading edge. -/
def execTotMaxExpiry (bay : Fin 48) (c : Fin 8) (s : State) : Res :=
  State.done s (s.dev.totMaxExpiry bay c)

/-- TIMEOUT_MARKER (R102): CH cell timeout after a start without an event. -/
def execTimeoutMarker (bay : Fin 48) (c : Fin 8) (s : State) : Res :=
  State.done s (s.dev.timeoutMarker bay c)

/-- MISSED_WORD (R104): the channel emits its missed-edge word. -/
def execMissedWord (bay : Fin 48) (c : Fin 8) (s : State) : Res :=
  State.done s (s.dev.missedWord bay c)

/-- COMP_STUCK_HIGH (R105): a comparator has stayed asserted for the stuck time. -/
def execCompStuckHigh (bay : Fin 48) (c : Fin 8) (validating : Bool) (s : State) : Res :=
  State.done s (s.dev.compStuckHigh bay c validating)

/-- CH_RELEASE (R108): a write of BAY.CH_RELEASE. -/
def execChRelease (bay : Fin 48) (req : Requester) (mask : BitVec 8) (s : State) : Res :=
  State.done s (s.dev.cmdChRelease bay req mask)

/-- REF_LOST (R127): no reference edge within the loss time. -/
def execRefLost (s : State) : Res :=
  State.done s (s.dev.refLost)

/-- REF_PRESENT (R126): the reference has had edges for the presence time. -/
def execRefPresent (s : State) : Res :=
  State.done s (s.dev.refPresent)

/-- PLL_LOCKED (R127): the PLL locks; phase error left to slew, in ticks. -/
def execPllLocked (phaseErr : Int) (s : State) : Res :=
  State.done s (s.dev.pllLocked phaseErr)

/-- PLL_UNLOCK (R127): the PLL loses lock. -/
def execPllUnlock (s : State) : Res :=
  State.done s (s.dev.pllUnlock)

/-- SLEW_END (R127): the slew after a holdover ends. -/
def execSlewEnd (s : State) : Res :=
  State.done s (s.dev.slewEnd)

/-- QUAL_GATE (R128): one qualifier gate ends, with its count. -/
def execQualGate (cycles : Nat) (s : State) : Res :=
  State.done s (s.dev.qualGate cycles)

/-- VERNIER_MEASURE (R133): a vernier visit, with the counts of the two rings. -/
def execVernierMeasure (bay : Fin 48) (conv : Fin 17) (fast slow : Nat) (s : State) : Res :=
  State.done s (s.dev.vernierMeasure bay conv fast slow)

/-- CAL_RUN_DONE (R135): one code-density run ends with its 256 counts. -/
def execCalRunDone (bay : Fin 48) (conv : Fin 17) (counts : List Nat) (s : State) : Res :=
  State.done s (s.dev.calRunDone bay conv counts)

/-- AUTO_CAL_SUBMIT (R145): automatic calibration submits a CAL_TDC. -/
def execAutoCalSubmit (bay : Fin 48) (convMask : BitVec 17) (s : State) : Res :=
  State.done s (s.dev.autoCalSubmit bay convMask)

/-- RZ_RESEED (R155): a write of CAL.CTRL.RZ_RESEED. -/
def execRzReseed (req : Requester) (s : State) : Res :=
  State.done s (s.dev.cmdRzReseed req)

/-- WAVE_ESTIMATE (R326): a new correction estimate of one slice. -/
def execWaveEstimate (bay : Fin 48) (slice : Fin 5) (offset gain skew : Int) (s : State) : Res :=
  State.done s (s.dev.waveEstimate bay slice offset gain skew)

/-- BURST_LAUNCH (R166): the port's next planned burst reaches its launch instant. -/
def execBurstLaunch (port : Fin 48) (s : State) : Res :=
  State.done s (s.dev.burstLaunch port)

/-- LEDGER_CHARGE (R497): Nightwatch charges the port's last launched burst. -/
def execLedgerCharge (port : Fin 48) (s : State) : Res :=
  State.done s (s.dev.ledgerCharge port)

/-- HALO_WINDOW_CLOSE (R186): the port's Halo window closes. -/
def execHaloWindowClose (port : Fin 48) (s : State) : Res :=
  State.done s (s.dev.haloWindowClose port)

/-- PROOF_BURST (R187): a proof burst of an UNVERIFIED port is due. -/
def execProofBurst (port : Fin 48) (s : State) : Res :=
  State.done s (s.dev.proofBurst port)

/-- RESUME_PROOF (R189): a proof burst of a resume check is due. -/
def execResumeProof (port : Fin 48) (s : State) : Res :=
  State.done s (s.dev.resumeProof port)

/-- PORT_CLEAR (R186): a write of EMIT.PORT_CLEAR. -/
def execPortClear (req : Requester) (mask : BitVec 48) (s : State) : Res :=
  State.done s (s.dev.cmdPortClear req mask)

/-- DWELL_REQUEST (R181): the engine's oldest posted dwell request reaches the shot scheduler. -/
def execDwellRequest (e : Fin 512) (s : State) : Res :=
  State.done s (s.dev.dwellRequest e)

/-- STARLINE_TRANSFER_DONE (R197): a Starline transfer ends. -/
def execStarlineTransferDone (wire : Fin 4) (s : State) : Res :=
  State.done s (s.dev.starlineTransferDone wire)

/-- APPLY_PULSE (R199): the apply pulse goes out on every wire. -/
def execApplyPulse (s : State) : Res :=
  State.done s (s.dev.applyPulse)

/-- TEMP_SOURCE_TIMEOUT (R193): a group's temperature source has given no valid sample for 1 s. -/
def execTempSourceTimeout (group : Fin 4) (s : State) : Res :=
  State.done s (s.dev.tempSourceTimeout group)

/-- CODE_BANK_FILLED (R173): the generator has filled the inactive code bank. -/
def execCodeBankFilled (s : State) : Res :=
  State.done s (s.dev.codeBankFilled)

/-- CONTROL_CYCLE (R209): one cycle of the scan control loop. -/
def execControlCycle (env : ScanEnv) (s : State) : Res :=
  State.done s (s.dev.controlCycle env)

/-- HALF_PERIOD (R211): a fast-axis half period ends with its measurement. -/
def execHalfPeriod (amp phase freq : Int) (s : State) : Res :=
  State.done s (s.dev.halfPeriod amp phase freq)

/-- ENCODER_INDEX (R213): the encoder index, with the counts since the last. -/
def execEncoderIndex (count : Nat) (s : State) : Res :=
  State.done s (s.dev.encoderIndex count)

/-- FACET_END (R213): a polygon facet ends, with its rate. -/
def execFacetEnd (rate : Nat) (s : State) : Res :=
  State.done s (s.dev.facetEnd rate)

/-- START_TIMEOUT (R230): START_CFG's time has passed in STARTING. -/
def execStartTimeout (s : State) : Res :=
  State.done s (s.dev.startTimeout)

/-- FAST_EN_SET (R230): a write that sets SCAN.CTRL.FAST_EN. -/
def execFastEnSet (req : Requester) (s : State) : Res :=
  State.done s (s.dev.cmdFastEnSet req)

/-- FAST_EN_CLEAR (R230): a write that clears SCAN.CTRL.FAST_EN. -/
def execFastEnClear (req : Requester) (s : State) : Res :=
  State.done s (s.dev.cmdFastEnClear req)

/-- FRAME_EN_SET (R220): a write that sets SCAN.CTRL.FRAME_EN. -/
def execFrameEnSet (req : Requester) (s : State) : Res :=
  State.done s (s.dev.cmdFrameEnSet req)

/-- FRAME_EN_CLEAR (R230): a write that clears SCAN.CTRL.FRAME_EN. -/
def execFrameEnClear (req : Requester) (s : State) : Res :=
  State.done s (s.dev.cmdFrameEnClear req)

/-- SCAN_CLEAR (R230): a write of SCAN.CTRL.CLEAR. -/
def execScanClear (req : Requester) (s : State) : Res :=
  State.done s (s.dev.cmdScanClear req)

/-- MOTION_DONE (R233): the slow-axis motion or drive ramp ends. -/
def execMotionDone (s : State) : Res :=
  State.done s (s.dev.motionDone)

/-- FRAME_START (R222): the frame start instant. -/
def execFrameStart (s : State) : Res :=
  State.done s (s.dev.frameStart)

/-- SYNC0_EDGE (R221): a SYNC0 edge at Meridian time t, ns. -/
def execSync0Edge (t : Nat) (s : State) : Res :=
  State.done s (s.dev.sync0Edge t)

/-- SYNC_WINDOW_EXPIRY (R221): the SYNC0 window closes without an edge. -/
def execSyncWindowExpiry (s : State) : Res :=
  State.done s (s.dev.syncWindowExpiry)

/-- FLYBACK (R217): F + FRAME_ACTIVE, with what the self-checks of each channel measured. -/
def execFlyback (checks : List CheckResult) (s : State) : Res :=
  State.done s (s.dev.flyback checks)

/-- COLUMN_PLAN (R215): 1 us before the crossing of boundary k in direction dir. -/
def execColumnPlan (k : Nat) (dir : Bool) (_ _ : Own) (s : State) : Res :=
  State.done s (s.dev.columnPlan k dir)

/-- BOUNDARY_CROSSING (R223): the crossing fixed ahead takes place. -/
def execBoundaryCrossing (_ : Own) (s : State) : Res :=
  State.done s s.dev.boundaryCrossing

/-- COLUMN_OVERRUN (R223): the open column ends at its start plus twice its predicted duration. -/
def execColumnOverrun (s : State) : Res :=
  State.done s (s.dev.columnOverrun)

/-- EVENT_ARRIVAL (R242): the oldest event of the bay reaches the builder. -/
def execEventArrival (bay : Fin 48) (s : State) : Res :=
  State.done s (s.dev.eventArrival bay)

/-- THINNING_INTERVAL_END (R260): one thinning interval ends. -/
def execThinningIntervalEnd (bay : Fin 48) (s : State) : Res :=
  State.done s (s.dev.thinningIntervalEnd bay)

/-- POOL_GRANT (R266): the first request in priority order is granted. -/
def execPoolGrant (q : Fin 4) (s : State) : Res :=
  State.done s (s.dev.poolGrant q)

/-- POOL_REFUSAL (R267): the oldest request past WAIT_LIMIT is refused. -/
def execPoolRefusal (q : Fin 4) (s : State) : Res :=
  State.done s (s.dev.poolRefusal q)

/-- HISTOGRAM_CLOSE (R250): the bay's next histogram closes. -/
def execHistogramClose (bay : Fin 48) (s : State) : Res :=
  State.done s (s.dev.histogramClose bay)

/-- DESCRIPTOR_ENQUEUE (R251): a held descriptor enters the bay's dispatch queue. -/
def execDescriptorEnqueue (bay : Fin 48) (s : State) : Res :=
  State.done s (s.dev.descriptorEnqueue bay)

/-- DISPATCH (R271): the region dispatches the next descriptor to an idle engine. -/
def execDispatch (q : Fin 4) (s : State) : Res :=
  State.done s (s.dev.dispatch q)

/-- ENGINE_LATE (R272): the oldest queued descriptor passes DISPATCH_LIMIT. -/
def execEngineLate (q : Fin 4) (s : State) : Res :=
  State.done s (s.dev.engineLate q)

/-- SCRUB_PERIOD_END (R277): a scrub period ends, with the corrections found by bank. -/
def execScrubPeriodEnd (q : Fin 4) (corrections : List Nat) (s : State) : Res :=
  State.done s (s.dev.scrubPeriodEnd q corrections)

/-- POOL_ECC_ERROR (R278): an uncorrectable error in one bank, at a word of one chunk. -/
def execPoolEccError (q : Fin 4) (bank : Fin 33) (chunk : Fin 4096) (s : State) : Res :=
  State.done s (s.dev.poolEccError q bank chunk)

/-- POST_RECORD (R293): a kernel posts a return record. -/
def execPostRecord (e : Fin 512) (stage : Fin 8) (w : List Word) (s : State) : Res :=
  State.done s (s.dev.postRecord e stage w)

/-- POST_DWELL (R294): a kernel posts a dwell request. -/
def execPostDwell (e : EngStage) (w0 w1 : Word) (s : State) : Res :=
  State.done s (s.dev.postDwell e.e e.stage w0 w1)

/-- POST_CAPTURE (R339): a kernel posts a capture request. -/
def execPostCapture (e : EngStage) (w : List Word) (s : State) : Res :=
  State.done s (s.dev.postCapture e.e e.stage w)

/-- POST_CONSUMED (R295): a kernel posts CONSUMED. -/
def execPostConsumed (e : EngStage) (s : State) : Res :=
  State.done s (s.dev.postConsumed e.e e.stage)

/-- POST_ASSERT (R292): a kernel posts ASSERT. -/
def execPostAssert (e : Fin 512) (stage : Fin 8) (val : Word) (s : State) : Res :=
  State.done s (s.dev.postAssert e stage val)

/-- CHAIN_END (R293): a kernel chain ends after so many cycles. -/
def execChainEnd (e : Fin 512) (cycles : Nat) (s : State) : Res :=
  State.done s (s.dev.chainEnd e cycles)

/-- KERNEL_TRAP (R299): a trap of R298. -/
def execKernelTrap (e : Fin 512) (stage : Fin 8) (cause : Fin 7) (s : State) : Res :=
  State.done s (s.dev.kernelTrap e stage cause)

/-- CYCLE_LIMIT (R296): the chain has used its cycle budget. -/
def execCycleLimit (e : Fin 512) (stage : Fin 8) (s : State) : Res :=
  State.done s (s.dev.cycleLimit e stage)

/-- KUNBLOCK (R301): a write of KUNBLOCK. -/
def execKunblock (q : Fin 4) (req : Requester) (id : BitVec 8) (s : State) : Res :=
  State.done s (s.dev.cmdKunblock q req id)

/-- ENG_RELEASE (R303): a write of ENG_RELEASE. -/
def execEngRelease (k : Fin 32) (req : Requester) (mask : BitVec 16) (s : State) : Res :=
  State.done s (s.dev.cmdEngRelease k req mask)

/-- ENGINE_SELF_TEST_DONE (R303): an engine's self-test ends. -/
def execEngineSelfTestDone (e : Fin 512) (pass : Bool) (s : State) : Res :=
  State.done s (s.dev.engineSelfTestDone e pass)

/-- STATS_CLEAR (R321): a write of CLU.CTRL.STATS_CLEAR. -/
def execStatsClear (k : Fin 32) (req : Requester) (s : State) : Res :=
  State.done s (s.dev.cmdStatsClear k req)

/-- BAR2_ACCESS (R286): a read or write of the engine memory window. -/
def execBar2Access (off : BitVec 26) (write : Option Word) (s : State) : Res :=
  State.done s (s.dev.bar2Access off write)

/-- CAPTURE_WRITTEN (R336): a capture's samples have reached its chunk. -/
def execCaptureWritten (bay : Fin 48) (samples : List Int) (s : State) : Res :=
  State.done s (s.dev.captureWritten bay samples)

/-- CAL_IDLE_CAPTURE (R331): the digitiser is idle and takes a calibration capture. -/
def execCalIdleCapture (bay : Fin 48) (s : State) : Res :=
  State.done s (s.dev.calIdleCapture bay)

/-- WAVE_HOST_GO (R340): a write of WAVE_HOST_REQ1 with GO. -/
def execWaveHostGo (bay : Fin 48) (req : Requester) (data : Word) (s : State) : Res :=
  State.done s (s.dev.cmdWaveHostGo bay req data)

/-- HOST_CAPTURE_DELIVERED (R340): a host-requested capture has been delivered. -/
def execHostCaptureDelivered (bay : Fin 48) (s : State) : Res :=
  State.done s (s.dev.hostCaptureDelivered bay)

/-- WAVE_DISABLE (R344): a write that clears WAVE_CTRL.EN. -/
def execWaveDisable (bay : Fin 48) (req : Requester) (s : State) : Res :=
  State.done s (s.dev.cmdWaveDisable bay req)

/-- WAVE_ENABLE (R344): a write that sets WAVE_CTRL.EN. -/
def execWaveEnable (bay : Fin 48) (req : Requester) (s : State) : Res :=
  State.done s (s.dev.cmdWaveEnable bay req)

/-- WAVE_DRAIN_COMPLETE (R344): the digitiser's drain ends. -/
def execWaveDrainComplete (bay : Fin 48) (s : State) : Res :=
  State.done s (s.dev.waveDrainComplete bay)

/-- WAVE_WAKE_COMPLETE (R344): the digitiser's wake ends. -/
def execWaveWakeComplete (bay : Fin 48) (s : State) : Res :=
  State.done s (s.dev.waveWakeComplete bay)

/-- STATS_PUBLISH (R359): every SKYGLOW descriptor of the oldest frame has ended. -/
def execStatsPublish (s : State) : Res :=
  State.done s (s.dev.statsPublish)

/-- EXPO_COMMIT (R364): a write of SKY.EXPO_COMMIT.GO. -/
def execExpoCommit (req : Requester) (s : State) : Res :=
  State.done s (s.dev.cmdExpoCommit req)

/-- BLOCK_FLUSH_TIMEOUT (R383): an open block meets its flush time. -/
def execBlockFlushTimeout (source : Fin 5) (frame : Nat) (s : State) : Res :=
  State.done s (s.dev.blockFlushTimeout source frame)

/-- FRAME_CLOSE (R374): everything of the oldest open frame has ended. -/
def execFrameClose (s : State) : Res :=
  State.done s (s.dev.frameClose)

/-- FRAME_CLOSE_DEADLINE (R374): the oldest open frame meets its close deadline. -/
def execFrameCloseDeadline (s : State) : Res :=
  State.done s (s.dev.frameCloseDeadline)

/-- SIGNATURE_EMIT (R396): the signature record of a closed frame is ready. -/
def execSignatureEmit (s : State) : Res :=
  State.done s (s.dev.signatureEmit)

/-- STREAM_FENCE (R392): a write of STREAM.FENCE. -/
def execStreamFence (req : Requester) (token : BitVec 16) (s : State) : Res :=
  State.done s (s.dev.cmdStreamFence req token)

/-- FENCE_PACKET_EMIT (R392): the oldest stream fence of the requester is emitted. -/
def execFencePacketEmit (req : Requester) (s : State) : Res :=
  State.done s (s.dev.fencePacketEmit req)

/-- STREAM_ENABLE (R398): a write that sets STREAM.CTRL.EN. -/
def execStreamEnable (req : Requester) (s : State) : Res :=
  State.done s (s.dev.cmdStreamEnable req)

/-- STREAM_DISABLE (R398): a write that clears STREAM.CTRL.EN. -/
def execStreamDisable (req : Requester) (s : State) : Res :=
  State.done s (s.dev.cmdStreamDisable req)

/-- STREAM_STOPPED (R398): everything accepted has left. -/
def execStreamStopped (s : State) : Res :=
  State.done s (s.dev.streamStopped)

/-- RING_WRITE (R399): the oldest packet is written to the host ring. -/
def execRingWrite (s : State) : Res :=
  State.done s (s.dev.ringWrite)

/-- RING_RPTR_WRITE (R399): a write of RING_RPTR. -/
def execRingRptrWrite (req : Requester) (val : Word) (s : State) : Res :=
  State.done s (s.dev.cmdRingRptrWrite req val)

/-- RING_COALESCE_TIMEOUT (R399): the coalescing time has passed. -/
def execRingCoalesceTimeout (s : State) : Res :=
  State.done s (s.dev.ringCoalesceTimeout)

/-- UDP_AGG_TIMEOUT (R400): the aggregation time of a UDP datagram has passed. -/
def execUdpAggTimeout (port : Fin 2) (s : State) : Res :=
  State.done s (s.dev.udpAggTimeout port)

/-- LOS_DETECT (R423): loss of signal. -/
def execLosDetect (lane : Fin 12) (s : State) : Res :=
  State.done s (s.dev.losDetect lane)

/-- SIGNAL_DETECT (R425): signal present. -/
def execSignalDetect (lane : Fin 12) (s : State) : Res :=
  State.done s (s.dev.signalDetect lane)

/-- SLIP_POSITION (R420): one alignment position has been tried, with its invalid sync headers of 64. -/
def execSlipPosition (lane : Fin 12) (bad : Nat) (s : State) : Res :=
  State.done s (s.dev.slipPosition lane bad)

/-- ALIGN_FAIL (R420): every position has failed. -/
def execAlignFail (lane : Fin 12) (s : State) : Res :=
  State.done s (s.dev.alignFail lane)

/-- BLOCK_LOCK_LOST (R420): block lock is lost. -/
def execBlockLockLost (lane : Fin 12) (s : State) : Res :=
  State.done s (s.dev.blockLockLost lane)

/-- TRAIN (R421): a TRAIN block arrives. -/
def execTrain (lane : Fin 12) (msg : TrainMsg) (s : State) : Res :=
  State.done s (s.dev.train lane msg)

/-- LANE_MARK (R418): a LANE_MARK block with its count arrives at t, ns. -/
def execLaneMark (lane : Fin 12) (count : BitVec 16) (t : Nat) (s : State) : Res :=
  State.done s (s.dev.laneMark lane count t)

/-- ATTEMPT_TIMEOUT (R422): the attempt has met its time limit. -/
def execAttemptTimeout (lane : Fin 12) (s : State) : Res :=
  State.done s (s.dev.attemptTimeout lane)

/-- BACKOFF_EXPIRY (R424): the backoff wait has passed. -/
def execBackoffExpiry (lane : Fin 12) (s : State) : Res :=
  State.done s (s.dev.backoffExpiry lane)

/-- SLEEP_NOTICE (R426): the partner announces that its transmitter sleeps or wakes. -/
def execSleepNotice (lane : Fin 12) (sleep : Bool) (s : State) : Res :=
  State.done s (s.dev.sleepNotice lane sleep)

/-- TX_SLEEP (R426): a write of LANE_CTRL.TX_SLEEP. -/
def execTxSleep (lane : Fin 12) (req : Requester) (on : Bool) (s : State) : Res :=
  State.done s (s.dev.cmdTxSleep lane req on)

/-- RX_SLEEP (R426): a write of LANE_CTRL.RX_SLEEP. -/
def execRxSleep (lane : Fin 12) (req : Requester) (on : Bool) (s : State) : Res :=
  State.done s (s.dev.cmdRxSleep lane req on)

/-- LANE_WAKE_DONE (R427): a lane half has woken. -/
def execLaneWakeDone (lane : Fin 12) (tx : Bool) (s : State) : Res :=
  State.done s (s.dev.laneWakeDone lane tx)

/-- RETRAIN (R433): a write of LANE_CTRL.RETRAIN. -/
def execRetrain (lane : Fin 12) (req : Requester) (s : State) : Res :=
  State.done s (s.dev.cmdRetrain lane req)

/-- SLIP (R420): a write of LANE_CTRL.SLIP. -/
def execSlip (lane : Fin 12) (req : Requester) (s : State) : Res :=
  State.done s (s.dev.cmdSlip lane req)

/-- TEST (R430): a write of LANE_CTRL.TEST. -/
def execTest (lane : Fin 12) (req : Requester) (on : Bool) (s : State) : Res :=
  State.done s (s.dev.cmdTest lane req on)

/-- INJECT (R431): a write of PRBS_CTRL.INJECT. -/
def execInject (lane : Fin 12) (req : Requester) (s : State) : Res :=
  State.done s (s.dev.cmdInject lane req)

/-- EYE_MEASURE (R433): an eye measurement. -/
def execEyeMeasure (lane : Fin 12) (width height : Nat) (s : State) : Res :=
  State.done s (s.dev.eyeMeasure lane width height)

/-- SPARE_LANE_TRAIN (R428): the spare lane's test training ends. -/
def execSpareLaneTrain (port : Fin 2) (ok : Bool) (s : State) : Res :=
  State.done s (s.dev.spareLaneTrain port ok)

/-- PCIE_LINK_DOWN (R409): the PCIe link goes down. -/
def execPcieLinkDown (s : State) : Res :=
  State.done s (s.dev.pcieLinkDown)

/-- PCIE_LINK_UP (R409): the PCIe link comes up. -/
def execPcieLinkUp (speed : Fin 4) (width : Fin 5) (s : State) : Res :=
  State.done s (s.dev.pcieLinkUp speed width)

/-- FLR (R410): a function-level reset. -/
def execFlr (s : State) : Res :=
  State.done s (s.dev.flr)

/-- LINK_RETRAIN (R434): a write of HOST.LINK_CTRL.RETRAIN. -/
def execLinkRetrain (req : Requester) (s : State) : Res :=
  State.done s (s.dev.cmdLinkRetrain req)

/-- NET_LINK_DOWN (R415): the Ethernet link goes down. -/
def execNetLinkDown (port : Fin 2) (s : State) : Res :=
  State.done s (s.dev.netLinkDown port)

/-- NET_LINK_UP (R415): the Ethernet link comes up. -/
def execNetLinkUp (port : Fin 2) (s : State) : Res :=
  State.done s (s.dev.netLinkUp port)

/-- ARP_REQUEST (R411): an ARP request or neighbour solicitation for an address. -/
def execArpRequest (port : Fin 2) (addr : List Word) (s : State) : Res :=
  State.done s (s.dev.arpRequest port addr)

/-- PAUSE (R411): an 802.3x PAUSE frame. -/
def execPause (port : Fin 2) (quanta : BitVec 16) (s : State) : Res :=
  State.done s (s.dev.pause port quanta)

/-- ENUM_GO (R446): a write of CHAIN.CTRL.ENUM_GO. -/
def execEnumGo (req : Requester) (s : State) : Res :=
  State.done s (s.dev.cmdEnumGo req)

/-- ENUM (R446): an ENUM message. -/
def execEnum (port : Fin 2) (m : ChainMsg) (s : State) : Res :=
  State.done s (s.dev.enum port m)

/-- ENUM_END (R446): an ENUM_END message. -/
def execEnumEnd (port : Fin 2) (m : ChainMsg) (s : State) : Res :=
  State.done s (s.dev.enumEnd port m)

/-- ENUM_TIMEOUT (R447): the enumeration time has passed. -/
def execEnumTimeout (s : State) : Res :=
  State.done s (s.dev.enumTimeout)

/-- TOPOLOGY (R446): a TOPOLOGY message. -/
def execTopology (port : Fin 2) (m : ChainMsg) (s : State) : Res :=
  State.done s (s.dev.topology port m)

/-- JOIN (R449): a JOIN message. -/
def execJoin (port : Fin 2) (m : ChainMsg) (s : State) : Res :=
  State.done s (s.dev.join port m)

/-- LINK_EVENT (R450): a LINK_EVENT message. -/
def execLinkEvent (port : Fin 2) (m : ChainMsg) (s : State) : Res :=
  State.done s (s.dev.linkEvent port m)

/-- CONFIG_PUSH (R468): a write of CHAIN.CTRL.CONFIG_PUSH. -/
def execConfigPush (req : Requester) (s : State) : Res :=
  State.done s (s.dev.cmdConfigPush req)

/-- CONFIG (R468): a CONFIG message. -/
def execConfig (port : Fin 2) (m : ChainMsg) (s : State) : Res :=
  State.done s (s.dev.config port m)

/-- SYNC_INTERVAL (R453): a synchronisation interval ends. -/
def execSyncInterval (s : State) : Res :=
  State.done s (s.dev.syncInterval)

/-- DELAY_REQ (R453): a DELAY_REQ message received at t2. -/
def execDelayReq (port : Fin 2) (m : ChainMsg) (t2 : Nat) (s : State) : Res :=
  State.done s (s.dev.delayReq port m t2)

/-- DELAY_RESP (R454): a DELAY_RESP message received at t4. -/
def execDelayResp (port : Fin 2) (m : ChainMsg) (t4 : Nat) (s : State) : Res :=
  State.done s (s.dev.delayResp port m t4)

/-- CAL_TIME_BROADCAST (R466): the Pole unit's CAL_TIME broadcast is due. -/
def execCalTimeBroadcast (s : State) : Res :=
  State.done s (s.dev.calTimeBroadcast)

/-- CAL_TIME (R466): a CAL_TIME message. -/
def execCalTime (port : Fin 2) (m : ChainMsg) (s : State) : Res :=
  State.done s (s.dev.calTime port m)

/-- CAL_TIME_ABSENT (R466): no CAL_TIME for its limit. -/
def execCalTimeAbsent (s : State) : Res :=
  State.done s (s.dev.calTimeAbsent)

/-- REG_REQ (R472): a REG_REQ message. -/
def execRegReq (port : Fin 2) (m : ChainMsg) (s : State) : Res :=
  State.done s (s.dev.regReq port m)

/-- REG_RESP (R471): a REG_RESP message. -/
def execRegResp (port : Fin 2) (m : ChainMsg) (s : State) : Res :=
  State.done s (s.dev.regResp port m)

/-- PORT_INFO (R470): a PORT_INFO message. -/
def execPortInfo (port : Fin 2) (m : ChainMsg) (s : State) : Res :=
  State.done s (s.dev.portInfo port m)

/-- STREAM_FWD (R401): a STREAM_FWD message. -/
def execStreamFwd (port : Fin 2) (m : ChainMsg) (s : State) : Res :=
  State.done s (s.dev.streamFwd port m)

/-- CREDIT (R445): a CREDIT message. -/
def execCredit (port : Fin 2) (m : ChainMsg) (s : State) : Res :=
  State.done s (s.dev.credit port m)

/-- RA_GO (R471): a write of CHAIN.RA_CTRL. -/
def execRaGo (req : Requester) (data : Word) (s : State) : Res :=
  State.done s (s.dev.cmdRaGo req data)

/-- NOW_LO (R452): a read of TIME.NOW_LO. -/
def execNowLo (req : Requester) (s : State) : Res :=
  State.done s (s.dev.cmdNowLo req)

/-- SET_CTRL_GO (R463): a write of TIME.SET_CTRL.GO. -/
def execSetCtrlGo (req : Requester) (s : State) : Res :=
  State.done s (s.dev.cmdSetCtrlGo req)

/-- ACT_ARM (R458): a write of ACT_CTRL.ARM. -/
def execActArm (slot : Fin 16) (req : Requester) (s : State) : Res :=
  State.done s (s.dev.cmdActArm slot req)

/-- ACT_CANCEL (R474): a write of ACT_CTRL.CANCEL. -/
def execActCancel (slot : Fin 16) (req : Requester) (s : State) : Res :=
  State.done s (s.dev.cmdActCancel slot req)

/-- ACT_RELEASE (R474): a write of ACT_CTRL.RELEASE. -/
def execActRelease (slot : Fin 16) (req : Requester) (s : State) : Res :=
  State.done s (s.dev.cmdActRelease slot req)

/-- ACTION_COMMIT (R461): a commit action meets its time. -/
def execActionCommit (slot : Fin 16) (s : State) : Res :=
  State.done s (s.dev.actionCommit slot)

/-- ACTION_WRITE (R459): a write action meets its time. -/
def execActionWrite (slot : Fin 16) (s : State) : Res :=
  State.done s (s.dev.actionWrite slot)

/-- ACTION_DEC_SYNC (R531): a decimator-sync action meets its time. -/
def execActionDecSync (slot : Fin 16) (s : State) : Res :=
  State.done s (s.dev.actionDecSync slot)

/-- PTP_SYNC (R464): a PTP Sync with its times. -/
def execPtpSync (m : PtpMsg) (s : State) : Res :=
  State.done s (s.dev.ptpSync m)

/-- PDELAY_REQ (R464): a Pdelay_Req. -/
def execPdelayReq (m : PtpMsg) (s : State) : Res :=
  State.done s (s.dev.pdelayReq m)

/-- PTP_SYNC_TIMEOUT (R465): no Sync for its limit. -/
def execPtpSyncTimeout (s : State) : Res :=
  State.done s (s.dev.ptpSyncTimeout)

/-- TAI_HOLD_EXPIRE (R465): the TAI hold time has passed. -/
def execTaiHoldExpire (s : State) : Res :=
  State.done s (s.dev.taiHoldExpire)

/-- INPUT_FILTER_CHANGE (R489): a safety input channel's filtered state changes. -/
def execInputFilterChange (pair : Fin 8) (ch : Bool) (level : Bool) (s : State) : Res :=
  State.done s (s.dev.inputFilterChange pair ch level)

/-- DISCREPANCY (R490): the pair's channels have differed for DISC. -/
def execDiscrepancy (pair : Fin 8) (s : State) : Res :=
  State.done s (s.dev.discrepancy pair)

/-- RESET_EDGE (R486): NW_RST falls after lenMs ms high, which lowMs ms low preceded. -/
def execResetEdge (lenMs lowMs : Nat) (s : State) : Res :=
  State.done s (s.dev.resetEdge lenMs lowMs)

/-- RESET_STUCK (R485): NW_RST has been high too long. -/
def execResetStuck (s : State) : Res :=
  State.done s (s.dev.resetStuck)

/-- SW_RESET (R485): a protected write of CMD.SW_RESET. -/
def execSwReset (req : Requester) (s : State) : Res :=
  State.done s (s.dev.cmdSwReset req)

/-- HOST_TRIP (R482): a write of CMD.TRIP. -/
def execHostTrip (req : Requester) (s : State) : Res :=
  State.done s (s.dev.cmdHostTrip req)

/-- RESET_EDGE_FB_TIMEOUT (R486): a reset edge whose feedback did not follow. -/
def execResetEdgeFbTimeout (s : State) : Res :=
  State.done s (s.dev.resetEdgeFbTimeout)

/-- RELEASE_FEEDBACK_ON (R487): every feedback shows on in RELEASING. -/
def execReleaseFeedbackOn (s : State) : Res :=
  State.done s (s.dev.releaseFeedbackOn)

/-- FEEDBACK_FAULT (R494): a feedback input disagrees. -/
def execFeedbackFault (ch : Fin 4) (s : State) : Res :=
  State.done s (s.dev.feedbackFault ch)

/-- WATCHDOG (R484): a write of NW.WATCHDOG. -/
def execWatchdog (req : Requester) (val : Word) (s : State) : Res :=
  State.done s (s.dev.cmdWatchdog req val)

/-- WATCHDOG_TIMEOUT (R484): WD_TIME has passed. -/
def execWatchdogTimeout (s : State) : Res :=
  State.done s (s.dev.watchdogTimeout)

/-- TEST_PULSE (R492): a permit test pulse starts. -/
def execTestPulse (ch : Fin 4) (s : State) : Res :=
  State.done s (s.dev.testPulse ch)

/-- TEST_PULSE_END (R492): a permit test pulse ends. -/
def execTestPulseEnd (ch : Fin 4) (sawOff : Bool) (s : State) : Res :=
  State.done s (s.dev.testPulseEnd ch sawOff)

/-- READBACK_FAULT (R492): the readback of a permit channel commanded off has shown on for 1 ms, or shows off again. -/
def execReadbackFault (ch : Fin 4) (on : Bool) (s : State) : Res :=
  State.done s (s.dev.readbackFault ch on)

/-- LEDGER_BUCKET (R498): the oldest bucket of window w leaves. -/
def execLedgerBucket (w : Fin 3) (s : State) : Res :=
  State.done s (s.dev.ledgerBucket w)

/-- NW_SELF_TEST_DONE (R505): Nightwatch's self-test ends. -/
def execNwSelfTestDone (pass : Bool) (s : State) : Res :=
  State.done s (s.dev.nwSelfTestDone pass)

/-- NW_FAULT (R505): a fault of R505 is detected. -/
def execNwFault (cause : Fin 8) (s : State) : Res :=
  State.done s (s.dev.nwFault cause)

/-- OSC_MISMATCH (R505): an oscillator comparison gate ends with this deviation in 0.01 %, or finds no TBCLK edge. -/
def execOscMismatch (dev : Option Int) (s : State) : Res :=
  State.done s (s.dev.oscMismatch dev)

/-- UNLOCK (R506): a write of NW.UNLOCK. -/
def execUnlock (req : Requester) (val : Word) (s : State) : Res :=
  State.done s (s.dev.cmdUnlock req val)

/-- PROTECT_TIMEOUT (R506): the unlock time has passed. -/
def execProtectTimeout (req : Requester) (s : State) : Res :=
  State.done s (s.dev.protectTimeout req)

/-- PROTECTED_WRITE (R507): a write of a protected NW register. -/
def execProtectedWrite (req : Requester) (off : BitVec 12) (data : Word) (s : State) : Res :=
  State.done s (s.dev.cmdProtectedWrite req off data)

/-- WIN_CFG_WRITE (R502): a write of WIN_CFG. -/
def execWinCfgWrite (req : Requester) (w : Fin 3) (data : Word) (s : State) : Res :=
  State.done s (s.dev.cmdWinCfgWrite req w data)

/-- SEAL (R508): a write of NW.SEAL. -/
def execSeal (req : Requester) (crc : Word) (s : State) : Res :=
  State.done s (s.dev.cmdSeal req crc)

/-- MON_SAMPLE (R513): a decimated sample of a monitor channel. -/
def execMonSample (ch : Fin 24) (m : MonIn) (s : State) : Res :=
  State.done s (s.dev.monSample ch m)

/-- SEQ_DWELL_END (R519): a sequencer dwell ends. -/
def execSeqDwellEnd (s : State) : Res :=
  State.done s (s.dev.seqDwellEnd)

/-- SEQ_RUN (R519): a write of MON.CTRL.SEQ_RUN. -/
def execSeqRun (req : Requester) (on : Bool) (s : State) : Res :=
  State.done s (s.dev.cmdSeqRun req on)

/-- PAIR_RUN (R529): a write of MON.CTRL.PAIR_RUN. -/
def execPairRun (req : Requester) (on : Bool) (s : State) : Res :=
  State.done s (s.dev.cmdPairRun req on)

/-- DEC_SYNC (R531): a write of MON.CTRL.DEC_SYNC. -/
def execDecSync (req : Requester) (s : State) : Res :=
  State.done s (s.dev.cmdDecSync req)

/-- SYNC1_EDGE (R531): an edge of SYNC1. -/
def execSync1Edge (s : State) : Res :=
  State.done s (s.dev.sync1Edge)

/-- IMP_CHECK_DONE (R527): an impedance check ends. -/
def execImpCheckDone (ch : Fin 24) (nanovolts : Nat) (s : State) : Res :=
  State.done s (s.dev.impCheckDone ch nanovolts)

/-- CH_EXC_WRITE (R522): a write of CH_EXC. -/
def execChExcWrite (ch : Fin 24) (req : Requester) (data : Word) (s : State) : Res :=
  State.done s (s.dev.cmdChExcWrite ch req data)

/-- CH_RAW (R533): a read of CH_RAW. -/
def execChRaw (ch : Fin 24) (req : Requester) (s : State) : Res :=
  State.done s (s.dev.cmdChRaw ch req)

/-- MODEL_SAMPLE (R544): one sample of the thermal model. -/
def execModelSample (env : ThermEnv) (s : State) : Res :=
  State.done s (s.dev.modelSample env)

/-- GRACE_EXPIRE (R555): the grace time has passed. -/
def execGraceExpire (s : State) : Res :=
  State.done s (s.dev.graceExpire)

/-- QUOTE_GO (R570): a write of SEC.CTRL.QUOTE_GO. -/
def execQuoteGo (req : Requester) (s : State) : Res :=
  State.done s (s.dev.cmdQuoteGo req)

/-- QUOTE_READY (R570): the quote has been signed. -/
def execQuoteReady (s : State) : Res :=
  State.done s (s.dev.quoteReady)

/-- FK_ROTATE (R571): a write of SEC.CTRL.FK_ROTATE. -/
def execFkRotate (req : Requester) (s : State) : Res :=
  State.done s (s.dev.cmdFkRotate req)

/-- FRAME_KEY (R571): a new frame key is ready. -/
def execFrameKey (s : State) : Res :=
  State.done s (s.dev.frameKey)

/-- BAR2_CLOSE (R574): a write of SEC.CTRL.BAR2_CLOSE. -/
def execBar2Close (req : Requester) (s : State) : Res :=
  State.done s (s.dev.cmdBar2Close req)

/-- ROLLBACK_ADV (R567): a write of SEC.ROLLBACK_ADV. -/
def execRollbackAdv (req : Requester) (type : BitVec 2) (val : BitVec 7) (s : State) : Res :=
  State.done s (s.dev.cmdRollbackAdv req type val)

/-- WIN_DATA (R585): a read of SEC.WIN_DATA. -/
def execWinData (req : Requester) (s : State) : Res :=
  State.done s (s.dev.cmdWinData req)

/-- ALM_FLUSH (R579): a write of ALM.CTRL.FLUSH. -/
def execAlmFlush (req : Requester) (s : State) : Res :=
  State.done s (s.dev.cmdAlmFlush req)

/-- ALM_FLUSH_TIMER (R579): the Almanac flush timer. -/
def execAlmFlushTimer (s : State) : Res :=
  State.done s (s.dev.almFlushTimer)

/-- FLUSH_DONE (R579): a flush of the staging buffer ends. -/
def execFlushDone (s : State) : Res :=
  State.done s (s.dev.flushDone)

/-- POWER_FAIL_WARNING (R580): PFAIL_N falls. -/
def execPowerFailWarning (s : State) : Res :=
  State.done s (s.dev.powerFailWarning)

/-- ERASE_4K (R587): a FLASH.CMD write, ERASE_4K. -/
def execErase4k (req : Requester) (s : State) : Res :=
  State.done s (s.dev.cmdErase4k req)

/-- ERASE_64K (R587): a FLASH.CMD write, ERASE_64K. -/
def execErase64k (req : Requester) (s : State) : Res :=
  State.done s (s.dev.cmdErase64k req)

/-- PROGRAM (R587): a FLASH.CMD write, PROGRAM. -/
def execProgram (req : Requester) (s : State) : Res :=
  State.done s (s.dev.cmdProgram req)

/-- READ (R587): a FLASH.CMD write, READ. -/
def execRead (req : Requester) (s : State) : Res :=
  State.done s (s.dev.cmdRead req)

/-- OP_DONE (R587): the flash operation ends. -/
def execOpDone (err : BitVec 2) (s : State) : Res :=
  State.done s (s.dev.opDone err)

/-- AUTO_SWAP_SUBMIT (R590): the reserve manager submits a RESERVE_SWAP. -/
def execAutoSwapSubmit (kind : BitVec 3) (unit : Nat) (s : State) : Res :=
  State.done s (s.dev.autoSwapSubmit kind unit)

/-- AGE_SAMPLE (R590): one ageing sample. -/
def execAgeSample (losses : List Nat) (s : State) : Res :=
  State.done s (s.dev.ageSample losses)

/-- BIST_AUTO_SUBMIT (R595): the reserve manager submits a BIST. -/
def execBistAutoSubmit (s : State) : Res :=
  State.done s (s.dev.bistAutoSubmit)

/-- COLD_RESET (R599): POR_N or a supply monitor. -/
def execColdReset (s : State) : Res :=
  State.done s (s.dev.coldReset)

/-- POR_RELEASE (R603): POR_N rises and the boot ROM starts. -/
def execPorRelease (env : BootEnv) (s : State) : Res :=
  State.done s (s.dev.porRelease env)

/-- REF_MEASURE_DONE (R603): the ROM's reference measurement ends. -/
def execRefMeasureDone (freqKHz : Nat) (s : State) : Res :=
  State.done s (s.dev.refMeasureDone freqKHz)

/-- BOOT_HANDOVER (R604): the ROM hands over to the firmware. -/
def execBootHandover (slot : Bool) (_ : Own) (s : State) : Res :=
  State.done s (s.dev.bootHandover slot)

/-- RECOVERY (R610): both slots have failed. -/
def execRecovery (_ _ : Own) (s : State) : Res :=
  State.done s s.dev.recovery

/-- FIRMWARE_INIT_DONE (R605): firmware initialisation ends. -/
def execFirmwareInitDone (env : InitEnv) (s : State) : Res :=
  State.done s (s.dev.firmwareInitDone env)

/-- WARM_RESET (R601): a write of RESET_CTRL.WARM. -/
def execWarmReset (req : Requester) (key : BitVec 8) (s : State) : Res :=
  State.done s (s.dev.cmdWarmReset req key)

/-- CTRL_LOCKSTEP (R601): a lockstep mismatch of the control cores. -/
def execCtrlLockstep (s : State) : Res :=
  State.done s (s.dev.ctrlLockstep)

/-- FIRMWARE_FATAL (R601): a fatal error the firmware finds. -/
def execFirmwareFatal (s : State) : Res :=
  State.done s (s.dev.firmwareFatal)

/-- EMITTER_UNVERIFIED (R186): a port latches OPEN or cannot verify. -/
def execEmitterUnverified (port : Fin 48) (s : State) : Res :=
  State.done s (s.dev.emitterUnverified port)

/-- RELEASE_FEEDBACK_TIMEOUT (R487): FB_TIME passes in RELEASING. -/
def execReleaseFeedbackTimeout (s : State) : Res :=
  State.done s (s.dev.releaseFeedbackTimeout)

/-- FEEDBACK_OFF (R486): a feedback input changes. -/
def execFeedbackOff (ch : Fin 4) (off : Bool) (s : State) : Res :=
  State.done s (s.dev.feedbackOff ch off)

/-- PDELAY_INTERVAL (R464): the peer-delay interval ends. -/
def execPdelayInterval (s : State) : Res :=
  State.done s (s.dev.pdelayInterval)

/-- PDELAY_RESP (R464): a Pdelay_Resp with its times. -/
def execPdelayResp (m : PtpMsg) (s : State) : Res :=
  State.done s (s.dev.pdelayResp m)

/-- ANNOUNCE (R464): an Announce. -/
def execAnnounce (m : PtpMsg) (s : State) : Res :=
  State.done s (s.dev.announce m)

/-- MSG_CRC (R444): a chain message with a bad CRC. -/
def execMsgCrc (port : Fin 2) (s : State) : Res :=
  State.done s (s.dev.msgCrc port)

/-- RX_DROPPED (R411): a received frame is dropped, for a bad FCS or another reason. -/
def execRxDropped (port : Fin 2) (fcs : Bool) (s : State) : Res :=
  State.done s (s.dev.rxDropped port fcs)

/-- PRBS_BIT_ERROR (R431): a PRBS bit error. -/
def execPrbsBitError (lane : Fin 12) (s : State) : Res :=
  State.done s (s.dev.prbsBitError lane)

/-- ELASTIC_FAULT (R419): the elastic buffer over- or underflows. -/
def execElasticFault (lane : Fin 12) (s : State) : Res :=
  State.done s (s.dev.elasticFault lane)

/-- AER_ERROR (R408): a PCIe AER error. -/
def execAerError (uncorrectable : Bool) (s : State) : Res :=
  State.done s (s.dev.aerError uncorrectable)

end Sys2Proof.Machine
end

