-- ==== Sys2Proof/Machine/Dispatch.lean ====
section
/-! DEFINITION. One arm per command. -/
namespace Sys2Proof.Machine

/-- The effect of a command on everything but the queue. -/
def exec (i : Instr) (s : State) : Host.Outcome State Fault Refusal :=
  match i with
  | .pageEnable g req => Sys2Proof.Machine.execPageEnable g req s
  | .pageDisable g req => Sys2Proof.Machine.execPageDisable g req s
  | .pageQuiesce g req => Sys2Proof.Machine.execPageQuiesce g req s
  | .drainReq g req => Sys2Proof.Machine.execDrainReq g req s
  | .pageResume g req => Sys2Proof.Machine.execPageResume g req s
  | .pageReset g req key en => Sys2Proof.Machine.execPageReset g req key en s
  | .drainComplete g => Sys2Proof.Machine.execDrainComplete g s
  | .wakeComplete g => Sys2Proof.Machine.execWakeComplete g s
  | .quiesceDone g => Sys2Proof.Machine.execQuiesceDone g s
  | .wakeFail g => Sys2Proof.Machine.execWakeFail g s
  | .errStatusClear g req mask => Sys2Proof.Machine.execErrStatusClear g req mask s
  | .errFirstClear g req => Sys2Proof.Machine.execErrFirstClear g req s
  | .irqStatusAck g req mask => Sys2Proof.Machine.execIrqStatusAck g req mask s
  | .seqAppliedTag g req tag => Sys2Proof.Machine.execSeqAppliedTag g req tag s
  | .shadowArm g req mode => Sys2Proof.Machine.execShadowArm g req mode s
  | .shadowCommit g req mode => Sys2Proof.Machine.execShadowCommit g req mode s
  | .shadowDiscard g req mode => Sys2Proof.Machine.execShadowDiscard g req mode s
  | .registerWrite req addr data => Sys2Proof.Machine.execRegisterWrite req addr data s
  | .fence req token => Sys2Proof.Machine.execFence req token s
  | .fenceComplete req => Sys2Proof.Machine.execFenceComplete req s
  | .taskCancel slot req => Sys2Proof.Machine.execTaskCancel slot req s
  | .taskRelease slot req => Sys2Proof.Machine.execTaskRelease slot req s
  | .taskStart => Sys2Proof.Machine.execTaskStart s
  | .taskStep slot env => Sys2Proof.Machine.execTaskStep slot env s
  | .faultReport found => Sys2Proof.Machine.execFaultReport found s
  | .raRead port h addrs => Sys2Proof.Machine.execRaRead port h addrs s
  | .raWrite port h entries => Sys2Proof.Machine.execRaWrite port h entries s
  | .raFence port h => Sys2Proof.Machine.execRaFence port h s
  | .remoteAccessTimeout req => Sys2Proof.Machine.execRemoteAccessTimeout req s
  | .calTdc slot req => Sys2Proof.Machine.execCalTdc slot req s
  | .calWave slot req => Sys2Proof.Machine.execCalWave slot req s
  | .bist slot req => Sys2Proof.Machine.execBist slot req s
  | .mramWrite slot req => Sys2Proof.Machine.execMramWrite slot req s
  | .imageVerify slot req => Sys2Proof.Machine.execImageVerify slot req s
  | .reserveSwap slot req => Sys2Proof.Machine.execReserveSwap slot req s
  | .snapshotExport slot req => Sys2Proof.Machine.execSnapshotExport slot req s
  | .taskBadCode slot req => Sys2Proof.Machine.execTaskBadCode slot req s
  | .leadingEdge bay c t => Sys2Proof.Machine.execLeadingEdge bay c t s
  | .validatingAssert bay c t => Sys2Proof.Machine.execValidatingAssert bay c t s
  | .trailingEdge bay c t => Sys2Proof.Machine.execTrailingEdge bay c t s
  | .eventEmit bay c => Sys2Proof.Machine.execEventEmit bay c s
  | .totMaxExpiry bay c => Sys2Proof.Machine.execTotMaxExpiry bay c s
  | .timeoutMarker bay c => Sys2Proof.Machine.execTimeoutMarker bay c s
  | .missedWord bay c => Sys2Proof.Machine.execMissedWord bay c s
  | .compStuckHigh bay c validating => Sys2Proof.Machine.execCompStuckHigh bay c validating s
  | .chRelease bay req mask => Sys2Proof.Machine.execChRelease bay req mask s
  | .refLost => Sys2Proof.Machine.execRefLost s
  | .refPresent => Sys2Proof.Machine.execRefPresent s
  | .pllLocked phaseErr => Sys2Proof.Machine.execPllLocked phaseErr s
  | .pllUnlock => Sys2Proof.Machine.execPllUnlock s
  | .slewEnd => Sys2Proof.Machine.execSlewEnd s
  | .qualGate cycles => Sys2Proof.Machine.execQualGate cycles s
  | .vernierMeasure bay conv fast slow => Sys2Proof.Machine.execVernierMeasure bay conv fast slow s
  | .calRunDone bay conv counts => Sys2Proof.Machine.execCalRunDone bay conv counts s
  | .autoCalSubmit bay convMask => Sys2Proof.Machine.execAutoCalSubmit bay convMask s
  | .rzReseed req => Sys2Proof.Machine.execRzReseed req s
  | .waveEstimate bay slice offset gain skew => Sys2Proof.Machine.execWaveEstimate bay slice offset gain skew s
  | .burstLaunch port => Sys2Proof.Machine.execBurstLaunch port s
  | .ledgerCharge port => Sys2Proof.Machine.execLedgerCharge port s
  | .haloWindowClose port => Sys2Proof.Machine.execHaloWindowClose port s
  | .proofBurst port => Sys2Proof.Machine.execProofBurst port s
  | .resumeProof port => Sys2Proof.Machine.execResumeProof port s
  | .portClear req mask => Sys2Proof.Machine.execPortClear req mask s
  | .dwellRequest e => Sys2Proof.Machine.execDwellRequest e s
  | .starlineTransferDone wire => Sys2Proof.Machine.execStarlineTransferDone wire s
  | .applyPulse => Sys2Proof.Machine.execApplyPulse s
  | .tempSourceTimeout group => Sys2Proof.Machine.execTempSourceTimeout group s
  | .codeBankFilled => Sys2Proof.Machine.execCodeBankFilled s
  | .controlCycle env => Sys2Proof.Machine.execControlCycle env s
  | .halfPeriod amp phase freq => Sys2Proof.Machine.execHalfPeriod amp phase freq s
  | .encoderIndex count => Sys2Proof.Machine.execEncoderIndex count s
  | .facetEnd rate => Sys2Proof.Machine.execFacetEnd rate s
  | .startTimeout => Sys2Proof.Machine.execStartTimeout s
  | .fastEnSet req => Sys2Proof.Machine.execFastEnSet req s
  | .fastEnClear req => Sys2Proof.Machine.execFastEnClear req s
  | .frameEnSet req => Sys2Proof.Machine.execFrameEnSet req s
  | .frameEnClear req => Sys2Proof.Machine.execFrameEnClear req s
  | .scanClear req => Sys2Proof.Machine.execScanClear req s
  | .motionDone => Sys2Proof.Machine.execMotionDone s
  | .frameStart => Sys2Proof.Machine.execFrameStart s
  | .sync0Edge t => Sys2Proof.Machine.execSync0Edge t s
  | .syncWindowExpiry => Sys2Proof.Machine.execSyncWindowExpiry s
  | .flyback checks => Sys2Proof.Machine.execFlyback checks s
  | .columnPlan k dir predicted dur => Sys2Proof.Machine.execColumnPlan k dir predicted dur s
  | .boundaryCrossing t => Sys2Proof.Machine.execBoundaryCrossing t s
  | .columnOverrun => Sys2Proof.Machine.execColumnOverrun s
  | .eventArrival bay => Sys2Proof.Machine.execEventArrival bay s
  | .thinningIntervalEnd bay => Sys2Proof.Machine.execThinningIntervalEnd bay s
  | .poolGrant q => Sys2Proof.Machine.execPoolGrant q s
  | .poolRefusal q => Sys2Proof.Machine.execPoolRefusal q s
  | .histogramClose bay => Sys2Proof.Machine.execHistogramClose bay s
  | .descriptorEnqueue bay => Sys2Proof.Machine.execDescriptorEnqueue bay s
  | .dispatch q => Sys2Proof.Machine.execDispatch q s
  | .engineLate q => Sys2Proof.Machine.execEngineLate q s
  | .scrubPeriodEnd q corrections => Sys2Proof.Machine.execScrubPeriodEnd q corrections s
  | .poolEccError q bank chunk => Sys2Proof.Machine.execPoolEccError q bank chunk s
  | .postRecord e stage w => Sys2Proof.Machine.execPostRecord e stage w s
  | .postDwell e w0 w1 => Sys2Proof.Machine.execPostDwell e w0 w1 s
  | .postCapture e w => Sys2Proof.Machine.execPostCapture e w s
  | .postConsumed e => Sys2Proof.Machine.execPostConsumed e s
  | .postAssert e stage val => Sys2Proof.Machine.execPostAssert e stage val s
  | .chainEnd e cycles => Sys2Proof.Machine.execChainEnd e cycles s
  | .kernelTrap e stage cause => Sys2Proof.Machine.execKernelTrap e stage cause s
  | .cycleLimit e stage => Sys2Proof.Machine.execCycleLimit e stage s
  | .kunblock q req id => Sys2Proof.Machine.execKunblock q req id s
  | .engRelease k req mask => Sys2Proof.Machine.execEngRelease k req mask s
  | .engineSelfTestDone e pass => Sys2Proof.Machine.execEngineSelfTestDone e pass s
  | .statsClear k req => Sys2Proof.Machine.execStatsClear k req s
  | .bar2Access off write => Sys2Proof.Machine.execBar2Access off write s
  | .captureWritten bay samples => Sys2Proof.Machine.execCaptureWritten bay samples s
  | .calIdleCapture bay => Sys2Proof.Machine.execCalIdleCapture bay s
  | .waveHostGo bay req data => Sys2Proof.Machine.execWaveHostGo bay req data s
  | .hostCaptureDelivered bay => Sys2Proof.Machine.execHostCaptureDelivered bay s
  | .waveDisable bay req => Sys2Proof.Machine.execWaveDisable bay req s
  | .waveEnable bay req => Sys2Proof.Machine.execWaveEnable bay req s
  | .waveDrainComplete bay => Sys2Proof.Machine.execWaveDrainComplete bay s
  | .waveWakeComplete bay => Sys2Proof.Machine.execWaveWakeComplete bay s
  | .statsPublish => Sys2Proof.Machine.execStatsPublish s
  | .expoCommit req => Sys2Proof.Machine.execExpoCommit req s
  | .blockFlushTimeout source frame => Sys2Proof.Machine.execBlockFlushTimeout source frame s
  | .frameClose => Sys2Proof.Machine.execFrameClose s
  | .frameCloseDeadline => Sys2Proof.Machine.execFrameCloseDeadline s
  | .signatureEmit => Sys2Proof.Machine.execSignatureEmit s
  | .streamFence req token => Sys2Proof.Machine.execStreamFence req token s
  | .fencePacketEmit req => Sys2Proof.Machine.execFencePacketEmit req s
  | .streamEnable req => Sys2Proof.Machine.execStreamEnable req s
  | .streamDisable req => Sys2Proof.Machine.execStreamDisable req s
  | .streamStopped => Sys2Proof.Machine.execStreamStopped s
  | .ringWrite => Sys2Proof.Machine.execRingWrite s
  | .ringRptrWrite req val => Sys2Proof.Machine.execRingRptrWrite req val s
  | .ringCoalesceTimeout => Sys2Proof.Machine.execRingCoalesceTimeout s
  | .udpAggTimeout port => Sys2Proof.Machine.execUdpAggTimeout port s
  | .losDetect lane => Sys2Proof.Machine.execLosDetect lane s
  | .signalDetect lane => Sys2Proof.Machine.execSignalDetect lane s
  | .slipPosition lane bad => Sys2Proof.Machine.execSlipPosition lane bad s
  | .alignFail lane => Sys2Proof.Machine.execAlignFail lane s
  | .blockLockLost lane => Sys2Proof.Machine.execBlockLockLost lane s
  | .train lane msg => Sys2Proof.Machine.execTrain lane msg s
  | .laneMark lane count t => Sys2Proof.Machine.execLaneMark lane count t s
  | .attemptTimeout lane => Sys2Proof.Machine.execAttemptTimeout lane s
  | .backoffExpiry lane => Sys2Proof.Machine.execBackoffExpiry lane s
  | .sleepNotice lane sleep => Sys2Proof.Machine.execSleepNotice lane sleep s
  | .txSleep lane req on => Sys2Proof.Machine.execTxSleep lane req on s
  | .rxSleep lane req on => Sys2Proof.Machine.execRxSleep lane req on s
  | .laneWakeDone lane tx => Sys2Proof.Machine.execLaneWakeDone lane tx s
  | .retrain lane req => Sys2Proof.Machine.execRetrain lane req s
  | .slip lane req => Sys2Proof.Machine.execSlip lane req s
  | .test lane req on => Sys2Proof.Machine.execTest lane req on s
  | .inject lane req => Sys2Proof.Machine.execInject lane req s
  | .eyeMeasure lane width height => Sys2Proof.Machine.execEyeMeasure lane width height s
  | .spareLaneTrain port ok => Sys2Proof.Machine.execSpareLaneTrain port ok s
  | .pcieLinkDown => Sys2Proof.Machine.execPcieLinkDown s
  | .pcieLinkUp speed width => Sys2Proof.Machine.execPcieLinkUp speed width s
  | .flr => Sys2Proof.Machine.execFlr s
  | .linkRetrain req => Sys2Proof.Machine.execLinkRetrain req s
  | .netLinkDown port => Sys2Proof.Machine.execNetLinkDown port s
  | .netLinkUp port => Sys2Proof.Machine.execNetLinkUp port s
  | .arpRequest port addr => Sys2Proof.Machine.execArpRequest port addr s
  | .pause port quanta => Sys2Proof.Machine.execPause port quanta s
  | .enumGo req => Sys2Proof.Machine.execEnumGo req s
  | .enum port m => Sys2Proof.Machine.execEnum port m s
  | .enumEnd port m => Sys2Proof.Machine.execEnumEnd port m s
  | .enumTimeout => Sys2Proof.Machine.execEnumTimeout s
  | .topology port m => Sys2Proof.Machine.execTopology port m s
  | .join port m => Sys2Proof.Machine.execJoin port m s
  | .linkEvent port m => Sys2Proof.Machine.execLinkEvent port m s
  | .configPush req => Sys2Proof.Machine.execConfigPush req s
  | .config port m => Sys2Proof.Machine.execConfig port m s
  | .syncInterval => Sys2Proof.Machine.execSyncInterval s
  | .delayReq port m t2 => Sys2Proof.Machine.execDelayReq port m t2 s
  | .delayResp port m t4 => Sys2Proof.Machine.execDelayResp port m t4 s
  | .calTimeBroadcast => Sys2Proof.Machine.execCalTimeBroadcast s
  | .calTime port m => Sys2Proof.Machine.execCalTime port m s
  | .calTimeAbsent => Sys2Proof.Machine.execCalTimeAbsent s
  | .regReq port m => Sys2Proof.Machine.execRegReq port m s
  | .regResp port m => Sys2Proof.Machine.execRegResp port m s
  | .portInfo port m => Sys2Proof.Machine.execPortInfo port m s
  | .streamFwd port m => Sys2Proof.Machine.execStreamFwd port m s
  | .credit port m => Sys2Proof.Machine.execCredit port m s
  | .raGo req data => Sys2Proof.Machine.execRaGo req data s
  | .nowLo req => Sys2Proof.Machine.execNowLo req s
  | .setCtrlGo req => Sys2Proof.Machine.execSetCtrlGo req s
  | .actArm slot req => Sys2Proof.Machine.execActArm slot req s
  | .actCancel slot req => Sys2Proof.Machine.execActCancel slot req s
  | .actRelease slot req => Sys2Proof.Machine.execActRelease slot req s
  | .actionCommit slot => Sys2Proof.Machine.execActionCommit slot s
  | .actionWrite slot => Sys2Proof.Machine.execActionWrite slot s
  | .actionDecSync slot => Sys2Proof.Machine.execActionDecSync slot s
  | .ptpSync m => Sys2Proof.Machine.execPtpSync m s
  | .pdelayReq m => Sys2Proof.Machine.execPdelayReq m s
  | .ptpSyncTimeout => Sys2Proof.Machine.execPtpSyncTimeout s
  | .taiHoldExpire => Sys2Proof.Machine.execTaiHoldExpire s
  | .inputFilterChange pair ch level => Sys2Proof.Machine.execInputFilterChange pair ch level s
  | .discrepancy pair => Sys2Proof.Machine.execDiscrepancy pair s
  | .resetEdge lenMs lowMs => Sys2Proof.Machine.execResetEdge lenMs lowMs s
  | .resetStuck => Sys2Proof.Machine.execResetStuck s
  | .swReset req => Sys2Proof.Machine.execSwReset req s
  | .hostTrip req => Sys2Proof.Machine.execHostTrip req s
  | .resetEdgeFbTimeout => Sys2Proof.Machine.execResetEdgeFbTimeout s
  | .releaseFeedbackOn => Sys2Proof.Machine.execReleaseFeedbackOn s
  | .feedbackFault ch => Sys2Proof.Machine.execFeedbackFault ch s
  | .watchdog req val => Sys2Proof.Machine.execWatchdog req val s
  | .watchdogTimeout => Sys2Proof.Machine.execWatchdogTimeout s
  | .testPulse ch => Sys2Proof.Machine.execTestPulse ch s
  | .testPulseEnd ch sawOff => Sys2Proof.Machine.execTestPulseEnd ch sawOff s
  | .readbackFault ch on => Sys2Proof.Machine.execReadbackFault ch on s
  | .ledgerBucket w => Sys2Proof.Machine.execLedgerBucket w s
  | .nwSelfTestDone pass => Sys2Proof.Machine.execNwSelfTestDone pass s
  | .nwFault cause => Sys2Proof.Machine.execNwFault cause s
  | .oscMismatch dev => Sys2Proof.Machine.execOscMismatch dev s
  | .unlock req val => Sys2Proof.Machine.execUnlock req val s
  | .protectTimeout req => Sys2Proof.Machine.execProtectTimeout req s
  | .protectedWrite req off data => Sys2Proof.Machine.execProtectedWrite req off data s
  | .winCfgWrite req w data => Sys2Proof.Machine.execWinCfgWrite req w data s
  | .seal req crc => Sys2Proof.Machine.execSeal req crc s
  | .monSample ch m => Sys2Proof.Machine.execMonSample ch m s
  | .seqDwellEnd => Sys2Proof.Machine.execSeqDwellEnd s
  | .seqRun req on => Sys2Proof.Machine.execSeqRun req on s
  | .pairRun req on => Sys2Proof.Machine.execPairRun req on s
  | .decSync req => Sys2Proof.Machine.execDecSync req s
  | .sync1Edge => Sys2Proof.Machine.execSync1Edge s
  | .impCheckDone ch nanovolts => Sys2Proof.Machine.execImpCheckDone ch nanovolts s
  | .chExcWrite ch req data => Sys2Proof.Machine.execChExcWrite ch req data s
  | .chRaw ch req => Sys2Proof.Machine.execChRaw ch req s
  | .modelSample env => Sys2Proof.Machine.execModelSample env s
  | .graceExpire => Sys2Proof.Machine.execGraceExpire s
  | .quoteGo req => Sys2Proof.Machine.execQuoteGo req s
  | .quoteReady => Sys2Proof.Machine.execQuoteReady s
  | .fkRotate req => Sys2Proof.Machine.execFkRotate req s
  | .frameKey => Sys2Proof.Machine.execFrameKey s
  | .bar2Close req => Sys2Proof.Machine.execBar2Close req s
  | .rollbackAdv req type val => Sys2Proof.Machine.execRollbackAdv req type val s
  | .winData req => Sys2Proof.Machine.execWinData req s
  | .almFlush req => Sys2Proof.Machine.execAlmFlush req s
  | .almFlushTimer => Sys2Proof.Machine.execAlmFlushTimer s
  | .flushDone => Sys2Proof.Machine.execFlushDone s
  | .powerFailWarning => Sys2Proof.Machine.execPowerFailWarning s
  | .erase4k req => Sys2Proof.Machine.execErase4k req s
  | .erase64k req => Sys2Proof.Machine.execErase64k req s
  | .program req => Sys2Proof.Machine.execProgram req s
  | .read req => Sys2Proof.Machine.execRead req s
  | .opDone err => Sys2Proof.Machine.execOpDone err s
  | .autoSwapSubmit kind unit => Sys2Proof.Machine.execAutoSwapSubmit kind unit s
  | .ageSample losses => Sys2Proof.Machine.execAgeSample losses s
  | .bistAutoSubmit => Sys2Proof.Machine.execBistAutoSubmit s
  | .coldReset => Sys2Proof.Machine.execColdReset s
  | .porRelease env => Sys2Proof.Machine.execPorRelease env s
  | .refMeasureDone freqKHz => Sys2Proof.Machine.execRefMeasureDone freqKHz s
  | .bootHandover slot version => Sys2Proof.Machine.execBootHandover slot version s
  | .recovery checkA checkB => Sys2Proof.Machine.execRecovery checkA checkB s
  | .firmwareInitDone env => Sys2Proof.Machine.execFirmwareInitDone env s
  | .warmReset req key => Sys2Proof.Machine.execWarmReset req key s
  | .ctrlLockstep => Sys2Proof.Machine.execCtrlLockstep s
  | .firmwareFatal => Sys2Proof.Machine.execFirmwareFatal s
  | .emitterUnverified port => Sys2Proof.Machine.execEmitterUnverified port s
  | .releaseFeedbackTimeout => Sys2Proof.Machine.execReleaseFeedbackTimeout s
  | .feedbackOff ch off => Sys2Proof.Machine.execFeedbackOff ch off s
  | .pdelayInterval => Sys2Proof.Machine.execPdelayInterval s
  | .pdelayResp m => Sys2Proof.Machine.execPdelayResp m s
  | .announce m => Sys2Proof.Machine.execAnnounce m s
  | .msgCrc port => Sys2Proof.Machine.execMsgCrc port s
  | .rxDropped port fcs => Sys2Proof.Machine.execRxDropped port fcs s
  | .prbsBitError lane => Sys2Proof.Machine.execPrbsBitError lane s
  | .elasticFault lane => Sys2Proof.Machine.execElasticFault lane s
  | .aerError uncorrectable => Sys2Proof.Machine.execAerError uncorrectable s

end Sys2Proof.Machine
end

