-- ==== Sys2Proof/Machine/Step.lean ====
section
/-! DEFINITION. One step: the command at the front of the queue, or one nanosecond of an idle block. -/
namespace Sys2Proof.Machine

/-- One nanosecond without a command (log 5): the Meridian counter, or Nightwatch time alone while it stands still. -/
def Dev.elapse (s : Dev) : Dev :=
  if s.running then { s with now := s.now + 1 } else { s with nw := { s.nw with skew := s.nw.skew + 1 } }

/-- What step does with no command waiting (log 5). -/
def execIdle (s : State) : Res := State.done s s.dev.elapse

/-- The state with the first command taken off its queue. -/
def State.tail (s : State) : State := { s with pending := s.pending.tail }

/-- One step: exec on the command at the front of the queue, with the queue's rest. -/
def step (s : State) : Host.Outcome State Fault Refusal :=
  match s.pending with
  | [] => execIdle s
  | c :: _ => exec c s.tail

/-- Put a command at the front of the queue. -/
def State.push (s : State) (c : Instr) : State := { s with pending := c :: s.pending }

/-- The state with the command a word spells at the front of its queue; unchanged where it spells none. -/
def State.withFetchWord (s : State) (nbits w : Nat) : State :=
  match Sys2Proof.decodeTableWord nbits w with
  | some c => s.push c
  | none => s

end Sys2Proof.Machine
end

