-- ==== Sys2Proof/Safety.lean ====
section
/-! DEFINITION. What counts as a safe run: a step that answers a next state, and the promises of the spec's prose that hold
of the block between any two commands. -/
namespace Sys2Proof

/-- The requester whose register access a command is: a write, a read, or an action of one of its bits (R43). -/
def Instr.accessOf : Instr → Option Requester
  | .pageEnable _ q | .pageDisable _ q | .pageQuiesce _ q | .drainReq _ q | .pageResume _ q | .pageReset _ q _ _
  | .errStatusClear _ q _ | .errFirstClear _ q | .irqStatusAck _ q _ | .seqAppliedTag _ q _ | .shadowArm _ q _
  | .shadowCommit _ q _ | .shadowDiscard _ q _ | .registerWrite q _ _ | .fence q _ | .taskCancel _ q
  | .taskRelease _ q | .calTdc _ q | .calWave _ q | .bist _ q | .mramWrite _ q | .imageVerify _ q | .reserveSwap _ q
  | .snapshotExport _ q | .taskBadCode _ q | .chRelease _ q _ | .rzReseed q | .portClear q _ | .fastEnSet q
  | .fastEnClear q | .frameEnSet q | .frameEnClear q | .scanClear q | .kunblock _ q _ | .engRelease _ q _
  | .statsClear _ q | .waveHostGo _ q _ | .waveDisable _ q | .waveEnable _ q | .expoCommit q | .streamFence q _
  | .streamEnable q | .streamDisable q | .ringRptrWrite q _ | .txSleep _ q _ | .rxSleep _ q _ | .retrain _ q
  | .slip _ q | .test _ q _ | .inject _ q | .linkRetrain q | .enumGo q | .configPush q | .raGo q _ | .nowLo q
  | .setCtrlGo q | .actArm _ q | .actCancel _ q | .actRelease _ q | .swReset q | .hostTrip q | .watchdog q _
  | .unlock q _ | .protectedWrite q _ _ | .winCfgWrite q _ _ | .seal q _ | .seqRun q _ | .pairRun q _ | .decSync q
  | .chExcWrite _ q _ | .chRaw _ q | .quoteGo q | .fkRotate q | .bar2Close q | .rollbackAdv q _ _ | .winData q
  | .almFlush q | .erase4k q | .erase64k q | .program q | .read q | .warmReset q _ => some q
  | _ => none

/-- The page exists (R618): its instance lies in the range of its kind. -/
abbrev Page.present (g : Page) : Prop := Machine.pageOfNum g.num = some g

end Sys2Proof

namespace Sys2Proof.Machine

/-- A step answered a next state. -/
def Runs (r : Res) : Prop := ∃ t, r = .next t

/-- The state that a command leaves whose own effect on the block is `d`: the block settles (R612, R614, R482, R83) and the
queue stays. -/
def State.after (s : State) (d : Dev) : State := { s with dev := d.settle }

/-- A requester's writes reach a page: the debug path is open and may write it (R573), the page answers in the present
stage (R604), and no ARM of the requester holds back its EMIT accesses (R197). -/
abbrev Dev.admits (s : Dev) (q : Requester) (g : Page) : Prop :=
  s.debugLocked q = false ∧ s.responds q g = true ∧ ¬(q = .debug ∧ (g = .sec ∨ g = .nw)) ∧ ¬(g = .emit ∧ s.armBlocked q = true)

/-- A requester's writes reach a page that is ON. -/
abbrev Dev.takes (s : Dev) (q : Requester) (g : Page) : Prop := s.admits q g ∧ s.isOn g = true

/-- Every register reads as before but those listed. -/
def Dev.regsBut (s d : Dev) (l : List Reg) : Prop := ∀ r : Reg, (∀ x ∈ l, r.key ≠ x.key) → d.rd r = s.rd r

/-- Nothing but registers changed. -/
def Dev.onlyRegs (s d : Dev) : Prop := ∃ m, d = { s with regs := m }

/-- Nightwatch permits emission only with no trip source active or latched (R482), its triggers enabled in PERMIT alone. -/
def Dev.nwSafe (s : Dev) : Prop :=
  (s.nwState = 1 ∨ s.nwState = 2 ∨ s.nwState = 3 →
    s.gf F.NW_TRIP_ACTIVE_SOURCES = 0 ∧ s.gf F.NW_TRIP_LATCHED_SOURCES = 0)

/-- The interrupt vectors and pins show the routed lines (R83). -/
def Dev.linesRight (s : Dev) : Prop :=
  s.vectors = s.vectorMask ∧ s.int0 = s.pinLevel 0 ∧ s.int1 = s.pinLevel 1

/-- CHIP.READY shows its sources (R614). -/
def Dev.readyRight (s : Dev) : Prop := s.rd R.CHIP_READY = BitVec.ofNat 32 s.readyBits

end Sys2Proof.Machine
end

