-- ==== Sys2Proof/WellFormed.lean ====
section
/-! DEFINITION. Well-formed commands: those a sender can spell. Operands of a fixed range carry it in their type; the checks
here are the ranges that no type carries. -/
namespace Sys2Proof

/-- The page exists: its instance number is one the register space has (R618). -/
def Page.ok : Page → Bool
  | .net i => decide (i < 2)
  | .lane n => decide (n < 12)
  | .qtr q => decide (q < 4)
  | .pool p => decide (p < 4)
  | .clu k => decide (k < 32)
  | .bay b => decide (b < 48)
  | _ => true

/-- A register's offset within its page is a multiple of 4 (R617). -/
def wordAligned (n : Nat) : Bool := n % 4 == 0

/-- The fields of a gPTP message are those of its kind (R464). -/
def PtpMsg.hasArgs (m : PtpMsg) (n : Nat) : Bool := m.args.length == n

/-- Well-formed commands. -/
def Instr.wf : Instr → Bool
  | .pageEnable g _ | .pageDisable g _ | .pageQuiesce g _ | .drainReq g _ | .pageResume g _ | .pageReset g _ _ _ => g.ok
  | .drainComplete g | .wakeComplete g | .quiesceDone g | .wakeFail g => g.ok
  | .errStatusClear g _ _ | .errFirstClear g _ | .irqStatusAck g _ _ | .seqAppliedTag g _ _ => g.ok
  | .shadowArm g _ _ | .shadowCommit g _ _ | .shadowDiscard g _ _ => g.ok
  | .faultReport (some f) => f.page.ok && decide (f.bit < 30)
  | .protectedWrite _ off _ => wordAligned off.toNat
  | .calRunDone _ _ counts => counts.length == 256
  | .scrubPeriodEnd _ corrections => corrections.length == 33
  | .postRecord _ _ w => w.length == 4
  | .ageSample losses => losses.length == 6
  | .ptpSync m => m.hasArgs 4
  | .announce m => m.hasArgs 9
  | .pdelayResp m => m.hasArgs 5
  | .pdelayReq m => m.hasArgs 2
  | .firmwareInitDone env => env.fails.all (fun n => decide (n < 176))
  | _ => true

end Sys2Proof
end

