-- ==== Sys2Proof/Certificates/Slice0/Obligations.lean ====
section
/-! DEFINITION. The statements for the provers, each over every state and operand. -/

open Sys2Proof Sys2Proof.Machine

/-- A step takes the command at the front of the queue; the idle step is the model's own choice (log 5). -/
def Obligations.StepRunsFront : Prop :=
  (∀ (s : State) (c : Instr) (l : List Instr), s.pending = c :: l → step s = exec c { s with pending := l })
  ∧ (∀ s : State, s.pending = [] → step s = .next (s.after (if s.dev.running then { s.dev with now := s.dev.now + 1 }
      else { s.dev with nw := { s.dev.nw with skew := s.dev.nw.skew + 1 } })))

/-- No command stops the block, and none but the step takes commands off the queue. -/
def Obligations.CommandsAnswer : Prop :=
  ∀ (c : Instr) (s : State), ∃ d, exec c s = .next { s with dev := d }

/-- The state after reset (R23, R45, R46, R480, R498, R502, R614). -/
def Obligations.ResetFacts : Prop :=
  (∀ r : Reg, State.reset.dev.rd r = regDefault r.key) ∧ State.reset.pending = []
  ∧ State.reset.dev.stageNow = 0 ∧ State.reset.dev.nwState = 0 ∧ State.reset.dev.on F.NW_STATUS_TRIG_EN = false
  ∧ State.reset.dev.gf F.SCAN_STATUS_STATE = 0 ∧ State.reset.dev.gf F.NW_LEDGER_STATUS_CLOSED = 48 * 128
  ∧ (∀ c, State.reset.dev.cellOpen c = false) ∧ State.reset.dev.rd R.CHIP_READY = 0#32
  ∧ (∀ g : Page, g.present → State.reset.dev.isOn g = !g.switchable ∧ State.reset.dev.on (F.PAGE_CTRL_EN g) = !g.switchable)
  ∧ State.reset.dev.nwSafe ∧ State.reset.dev.linesRight

/-- The register file (R16, R43, R307). -/
def Obligations.RegisterFile : Prop :=
  (∀ (s : Dev) (r : Reg) (w : Word), (s.wr r w).rd r = w)
  ∧ (∀ (s : Dev) (g h : Page) (o p : Nat) (w : Word), g.present → h.present → o < 4096 → p < 4096 → (g, o) ≠ (h, p) →
    (∀ k j, g = .clu k → h = .clu j → o = p → inStore o = false ∧ o ≠ 0x6C) → (s.wr ⟨g, o⟩ w).rd ⟨h, p⟩ = s.rd ⟨h, p⟩)
  ∧ (∀ (s : Dev) (k j o : Nat) (w : Word), k / 8 = j / 8 → inStore o = true → o ≠ 0x6C →
    (s.wr ⟨.clu k, o⟩ w).rd ⟨.clu j, o⟩ = w)
  ∧ (∀ (s : Dev) (q : Requester) (r : Reg) (w : Word), r.pg.present → r.off < 4096 →
    (s.wrQ q r w).rdQ q r = w
    ∧ (∀ r' : Reg, r'.pg.present → r'.off < 4096 → (s.wrQ q r w).rd r' = s.rd r'
      ∧ ∀ q', q' ≠ q → (s.wrQ q r w).rdQ q' r' = s.rdQ q' r'))
  ∧ (∀ (s : Dev) (f f' : Fld) (v : Nat), f.lo + f.len ≤ 32 → f'.lo + f'.len ≤ 32 →
    (s.sf f v).gf f = v % 2^f.len
    ∧ (f.reg.key ≠ f'.reg.key ∨ f.lo + f.len ≤ f'.lo ∨ f'.lo + f'.len ≤ f.lo → (s.sf f v).gf f' = s.gf f'))
  ∧ (∀ (s : Dev) (r : Reg) (w : Word), fwf regDefault s.regs = true → fwf regDefault (s.wr r w).regs = true)

/-- The address map (R15, R16, R616). -/
def Obligations.AddressMap : Prop :=
  (∀ (g : Page) (o : Nat), g.present → o < 4096 → decodeAddr (g.base * 4096 + o) = some (g, o))
  ∧ (∀ (a o : Nat) (g : Page), decodeAddr a = some (g, o) → g.present ∧ o < 4096 ∧ a = g.base * 4096 + o)

/-- R617: an access at which no page lies completes; it only sets CHIP.ERR_STATUS.ACCESS, and a reserved offset sets no error. -/
def Obligations.NoPage : Prop :=
  ∀ (s : State) (q : Requester) (a w : Word), s.dev.debugLocked q = false →
    (decodeAddr a.toNat = none ∨ a.toNat % 4 ≠ 0 → ¬(q = .pcie ∧ a.toNat % 4 = 0 ∧ 0x1F0000 ≤ a.toNat ∧ a.toNat < 0x200000) →
      exec (.registerWrite q a w) s = .next (s.after (s.dev.refuse .chip)) ∧ s.dev.busRead q a = (0#32, s.dev.refuse .chip)
        ∧ (s.dev.refuse .chip).on (F.ERR_STATUS_ACCESS .chip) = true)
    ∧ (∀ (g : Page) (o : Nat), decodeAddr a.toNat = some (g, o) → a.toNat % 4 = 0 → 0x40 ≤ o → regRow g o = none →
        s.dev.responds q g = true → ¬(q = .debug ∧ (g = .sec ∨ g = .nw)) → ¬(g = .emit ∧ s.dev.armBlocked q = true) →
        (g ≠ .nw ∨ s.dev.unlockStep q = 0 → exec (.registerWrite q a w) s = .next (s.after s.dev)) ∧ s.dev.busRead q a = (0#32, s.dev))
    ∧ (0x1F0000 ≤ a.toNat → a.toNat < 0x200000 → decodeAddr a.toNat = none)

/-- EN, wakes and drains (R47, R54, R55, R538 to R540, R559). That the drain of a page whose EN was cleared while it woke starts 3 ns
later stands for the control-domain cycle of R540 (DEDUCED, log 101). -/
def Obligations.PagePower : Prop :=
  (∀ (s : State) (g : Page) (q : Requester) (n : Nat), g.ok = true → domainOf g = some n → s.dev.admits q g →
    s.dev.on (F.PAGE_CTRL_EN g) = false → s.dev.power g = pOff → (∀ r, qfOf g = some r → s.dev.isOn (.qtr r) = true) →
    ∃ d, exec (.pageEnable g q) s = .next (s.after d) ∧ d.on (F.PAGE_CTRL_EN g) = true ∧ d.power g = pWaking
      ∧ s.dev.onlyRegs d
      ∧ s.dev.regsBut d [R.PAGE_CTRL g, R.PAGE_STATE g, R.IRQ_STATUS g, R.IRQ_STATUS .pwr, R.PWR_SUPPLY_ON (n / 32)])
  ∧ (∀ (s : State) (g : Page) (q : Requester) (n : Nat), g.ok = true → domainOf g = some n → s.dev.admits q g →
    s.dev.on (F.PAGE_CTRL_EN g) = false →
    (s.dev.power g = pDraining ∨ s.dev.power g = pOff ∧ ∃ r, qfOf g = some r ∧ s.dev.isOn (.qtr r) = false) →
    exec (.pageEnable g q) s = .next (s.after ((s.dev.sf (F.PAGE_CTRL_EN g) 1).sf (F.PAGE_STATE_REENABLE_PENDING g) 1)))
  ∧ (∀ (s : State) (g : Page) (q : Requester), g.switchable = true → s.dev.admits q g →
    s.dev.on (F.PAGE_CTRL_EN g) = true → s.dev.power g = pOn →
    ((∀ r, g ≠ .qtr r) → exec (.pageDisable g q) s = .next (s.after ((s.dev.sf (F.PAGE_CTRL_EN g) 0).startDrain g)))
    ∧ (∀ r, g = .qtr r →
      exec (.pageDisable g q) s = .next (s.after (((s.dev.sf (F.PAGE_CTRL_EN g) 0).startDrain g).drainRegion r))))
  ∧ (∀ (s : State) (g : Page) (q : Requester), g.switchable = true → s.dev.admits q g →
    s.dev.on (F.PAGE_CTRL_EN g) = true → s.dev.power g = pOff →
    exec (.pageDisable g q) s = .next (s.after ((s.dev.sf (F.PAGE_CTRL_EN g) 0).sf (F.PAGE_STATE_REENABLE_PENDING g) 0)))
  ∧ (∀ (s : State) (g : Page) (q : Requester) (b : Dev), g.switchable = false → s.dev.admits q g →
    s.dev.on (F.PAGE_CTRL_EN g) = true → b = (if g = .nw then s.dev.nwOtherWrite q else s.dev) →
    exec (.pageDisable g q) s = .next (s.after (b.refuse g)))
  ∧ (∀ (s : State) (g : Page), s.dev.power g = pWaking → (s.dev.px g).resetPend = none →
    (s.dev.wakeOn g).on (F.PAGE_CTRL_EN g) = true → (∀ b, g = .bay b → (s.dev.wakeOn g).isOn (.qtr (b / 12)) = true) →
    exec (.wakeComplete g) s = .next (s.after (s.dev.wakeOn g)))
  ∧ (∀ (s : State) (g : Page), s.dev.power g = pWaking → (s.dev.px g).resetPend = none →
    (s.dev.wakeOn g).on (F.PAGE_CTRL_EN g) = false →
    exec (.wakeComplete g) s = .next (s.after ((s.dev.wakeOn g).setPx g
      { (s.dev.wakeOn g).px g with drainAt := some ((s.dev.wakeOn g).now + 3) })))
  ∧ (∀ (s : State) (g : Page), s.dev.power g = pDraining → s.dev.drained g = true → (s.dev.px g).resetPend = none →
    (s.dev.px g).drainHold = false → (s.dev.px g).drainAt = none →
    exec (.drainComplete g) s = .next (s.after (
      let d := (s.dev.setPx g { s.dev.px g with drainHold := false, regionDrain := false }).sf (F.PAGE_STATE_REENABLE_PENDING g) 0
      let d := (((d.latchStatus g).domainPower g pOff).domainOff g).freeze g
      let d := (if s.dev.mayOpen g then d.openSupply g else d).regionSync g
      if s.dev.on (F.PAGE_CTRL_EN g) then d.tryWake g else d)))
  ∧ (∀ (s : State) (g : Page), s.dev.power g = pDraining → s.dev.drained g = true → (s.dev.px g).resetPend = none →
    (s.dev.px g).drainHold = true → s.dev.on (F.PAGE_CTRL_EN g) = true → s.dev.on (F.PAGE_STATE_REENABLE_PENDING g) = false →
    s.dev.run g ≠ rPaused → (s.dev.px g).drainAt = none →
    exec (.drainComplete g) s = .next (s.after (
      let d := (s.dev.setPx g { s.dev.px g with drainHold := false }).domainPower g pOn
      (if d.run g = rPaused then d else d.setRun g rHeld).regionSync g)))
  ∧ (∀ (s : State) (g : Page), s.dev.power g = pWaking →
    exec (.wakeFail g) s = .next (s.after
      (((s.dev.domainPower g pOff).sf (F.PAGE_STATE_REENABLE_PENDING g) 1).raise C.PWR_WAKE_FAIL ((domainOf g).getD 0))))

/-- QUIESCE, DRAIN_REQ, RESUME, PAGE_RESET and the end of a quiesce complete with these effects (R47, R57 to R59, R632). A write of a
page that is not NW leaves NW's unlock sequences alone; one of NW ends its requester's (R506). -/
def Obligations.PageRun : Prop :=
  (∀ (s : State) (g : Page) (q : Requester), s.dev.admits q g → g.quiesces = true → s.dev.on (F.PAGE_CTRL_QUIESCE g) = false →
    exec (.pageQuiesce g q) s = .next (s.after ((s.dev.sf (F.PAGE_CTRL_QUIESCE g) 1).setPx g { s.dev.px g with quiesceReq := true })))
  ∧ (∀ (s : State) (g : Page) (q : Requester), s.dev.admits q g → g.quiesces = false → g ≠ .nw →
    s.dev.on (F.PAGE_CTRL_QUIESCE g) = false → exec (.pageQuiesce g q) s = .next (s.after (s.dev.refuse g)))
  ∧ (∀ (s : State) (g : Page) (q : Requester), s.dev.admits q g → g.quiesces = true → s.dev.isOn g = true →
    exec (.drainReq g q) s = .next (s.after ((s.dev.setPx g { s.dev.px g with drainHold := true }).startDrain g)))
  ∧ (∀ (s : State) (g : Page) (q : Requester), s.dev.admits q g → g.quiesces = false → g ≠ .nw →
    exec (.drainReq g q) s = .next (s.after (s.dev.refuse g)))
  ∧ (∀ (s : State) (g : Page) (q : Requester), s.dev.admits q g → g ≠ .nw →
    s.dev.run g = rHeld ∨ (s.dev.run g = rPaused ∧ s.dev.severeErrors g = false) →
    exec (.pageResume g q) s = .next (s.after (s.dev.setPx g { s.dev.px g with resumeReq := true })))
  ∧ (∀ (s : State) (g : Page) (q : Requester), s.dev.admits q g → g ≠ .nw → s.dev.run g = rPaused → s.dev.severeErrors g = true →
    exec (.pageResume g q) s = .next (s.after (s.dev.refuse g)))
  ∧ (∀ (s : State) (g : Page) (q : Requester) (en : Bool), s.dev.admits q g → g ≠ .nw →
    exec (.pageReset g q 0xC3#8 en) s = .next (s.after ((s.dev.sf (F.PAGE_CTRL_EN g) (b2n en)).resetPage g)))
  ∧ (∀ (s : State) (g : Page) (q : Requester) (key : BitVec 8) (en : Bool), s.dev.admits q g → g ≠ .nw → key ≠ 0xC3#8 →
    exec (.pageReset g q key en) s = .next (s.after (s.dev.refuse g)))
  ∧ (∀ (s : State) (q : Requester) (key : BitVec 8) (en : Bool), s.dev.admits q .nw →
    exec (.pageReset .nw q key en) s = .next (s.after ((s.dev.nwOtherWrite q).refuse .nw)))
  ∧ (∀ (s : State) (g : Page), s.dev.run g = rQuiescing → s.dev.quietNow g = true →
    exec (.quiesceDone g) s = .next (s.after ((s.dev.setRun g rHeld).regionSync g)))

/-- The fields of a reset (R23, R24, R58). -/
def Obligations.PageResetFields : Prop :=
  (∀ (s : Dev) (p : Page → Nat → Bool) (r : Reg) (g : Page), keyPage r.key = some g →
    (s.resetRegs p).rd r = if p g (r.key % 4096) then resetWordOf g (r.key % 4096) r.key (s.rd r) else s.rd r)
  ∧ (∀ (g : Page) (o k i : Nat) (w : Word), i < 32 → (resetWordOf g o k w).getLsbD i =
      if (keepBits g o).testBit i then w.getLsbD i else (regDefault k).getLsbD i)

/-- W1C writes of the header, ERR_FIRST and SEQ_APPLIED (R48, R49, R51, R52, R83); on the NW page such a write first ends the
requester's unlock sequence (R506). -/
def Obligations.HeaderClears : Prop :=
  (∀ (s : State) (g : Page) (q : Requester) (b : Dev) (mask : Word), s.dev.admits q g →
    b = (if g = .nw then s.dev.nwOtherWrite q else s.dev) →
    ∃ d, exec (.errStatusClear g q mask) s = .next (s.after d)
      ∧ d.rd (R.ERR_STATUS g) = b.rd (R.ERR_STATUS g) &&& ~~~mask ∧ b.regsBut d [R.ERR_STATUS g]
      ∧ ∃ m p, d = { b with regs := m, pages := p })
  ∧ (∀ (s : State) (g : Page) (q : Requester) (b : Dev), s.dev.admits q g →
    b = (if g = .nw then s.dev.nwOtherWrite q else s.dev) →
    ∃ d, exec (.errFirstClear g q) s = .next (s.after d) ∧ d.rd (R.ERR_FIRST g) = 0#32 ∧ b.regsBut d [R.ERR_FIRST g]
      ∧ b.onlyRegs d)
  ∧ (∀ (s : State) (g : Page) (q : Requester) (b : Dev) (mask : Word), s.dev.admits q g →
    b = (if g = .nw then s.dev.nwOtherWrite q else s.dev) →
    ∃ d, exec (.irqStatusAck g q mask) s
        = .next (s.after (if bits (d.rd (R.IRQ_ROUTE g.num)) 31 1 = 1 ∧ bit d.vectorMask (bits (d.rd (R.IRQ_ROUTE g.num)) 0 6)
            ∧ bit d.vectors (bits (d.rd (R.IRQ_ROUTE g.num)) 0 6) then d.sendVector (bits (d.rd (R.IRQ_ROUTE g.num)) 0 6) else d))
      ∧ d.rd (R.IRQ_STATUS g) = b.rd (R.IRQ_STATUS g) &&& ~~~(mask &&& 0x7FFFFFFF#32) ∧ b.regsBut d [R.IRQ_STATUS g]
      ∧ b.onlyRegs d)
  ∧ (∀ (s : State) (g : Page) (q : Requester) (b : Dev) (tag : BitVec 28), s.dev.admits q g →
    b = (if g = .nw then s.dev.nwOtherWrite q else s.dev) →
    ∃ d, exec (.seqAppliedTag g q tag) s = .next (s.after d)
      ∧ d.gf (F.SEQ_APPLIED_TAG g) = tag.toNat ∧ d.gf (F.SEQ_APPLIED_REQ g) = q.code ∧ b.regsBut d [R.SEQ_APPLIED g]
      ∧ b.onlyRegs d)

/-- Recording and reporting an error (R48, R50, R78 to R80). That errors of one nanosecond are errors of one cycle, while the
counter runs, is read from the spec by inference (DEDUCED, log 102). -/
def Obligations.ErrorRecorded : Prop :=
  ∀ (s d : Dev) (g : Page) (n src : Nat) (sev : Severity), g.present → n < 32 → d = s.raiseBit g n sev src →
    d.on ⟨g, 0x10, n, 1⟩ = true
    ∧ (∀ m, m < 32 → m ≠ n → d.on ⟨g, 0x10, m, 1⟩ = s.on ⟨g, 0x10, m, 1⟩)
    ∧ d.gf (F.ERR_COUNT_ALL g) = min (s.gf (F.ERR_COUNT_ALL g) + 1) (2^(F.ERR_COUNT_ALL g).len - 1)
    ∧ d.gf (F.ERR_COUNT_SEVERE g) = (if 2 ≤ sev.val then min (s.gf (F.ERR_COUNT_SEVERE g) + 1) (2^(F.ERR_COUNT_SEVERE g).len - 1)
        else s.gf (F.ERR_COUNT_SEVERE g))
    ∧ d.rd (R.ERR_FIRST g) = (if s.on (F.ERR_FIRST_VALID g) = false ∨ (s.running = true ∧ fget (fun _ => 0) s.firstAt g.num = s.now
          ∧ (s.gf (F.ERR_FIRST_SEVERITY g) < sev.val ∨ s.gf (F.ERR_FIRST_SEVERITY g) = sev.val ∧ n < s.gf (F.ERR_FIRST_CODE g)))
        then BitVec.ofNat 32 (errWord sev n src s.captureTime) else s.rd (R.ERR_FIRST g))
    ∧ (g ≠ .chip → d.reports = if 2 ≤ sev.val ∨ s.on ⟨g, 0x14, n, 1⟩ = true then
        s.reports ++ [⟨g, n, errWord sev n src s.captureTime, sev, g, s.escalationDue g n, none⟩] else s.reports)
    ∧ (g = .chip → d.reports = s.reports)

/-- SHADOW_CTRL's actions (R53, R60, R61, R63, R197, R198). That a COMMIT with no open set is refused, and that a DISCARD with neither an
open nor a pending set has no effect, are the model's choices (log 86): the last two clauses. -/
def Obligations.ShadowSets : Prop :=
  ∀ (s : State) (g : Page) (q : Requester) (mode : BitVec 2) (b : Dev), g.shadowed = true → s.dev.admits q g → mode ≠ 3#2 →
    b = s.dev.sf (F.SHADOW_CTRL_MODE g) mode.toNat →
    (¬ (g = .emit ∧ s.dev.transferring = true) → b.on (F.SHADOW_CTRL_PENDING g) = false →
      b.on (F.SHADOW_CTRL_ARMED g) = false ∨ b.gf (F.SHADOW_CTRL_OWNER g) = q.code →
      exec (.shadowArm g q mode) s = .next (s.after (
        let d := (b.sf (F.SHADOW_CTRL_ARMED g) 1).sf (F.SHADOW_CTRL_OWNER g) q.code
        let d := if g = .emit ∧ d.emit.stagedKind = 1 then { d with emit := { d.emit with stagedKind := 0 } } else d
        d.setPx (setHome g) { d.px (setHome g) with setOpen := [], setExpo := false })))
    ∧ (¬ (g = .emit ∧ s.dev.transferring = true) →
      b.on (F.SHADOW_CTRL_PENDING g) = true ∨ b.on (F.SHADOW_CTRL_ARMED g) = true ∧ b.gf (F.SHADOW_CTRL_OWNER g) ≠ q.code →
      exec (.shadowArm g q mode) s = .next (s.after (b.refuse g)))
    ∧ (b.holdsSet g q = true → b.gf (F.SHADOW_CTRL_MODE g) ≠ 2 → ¬ (g = .emit ∧ b.on F.EMIT_STARLINE_STATUS_PRELOAD_BUSY = true) →
      exec (.shadowCommit g q mode) s = .next (s.after (
        let d := b.newGroup
        let d := d.latchSet (setHome g) (d.gf (F.SHADOW_CTRL_OWNER g)) (d.px (setHome g)).setOpen d.now
        if g = .emit then d.emitLatched else d)))
    ∧ (b.on (F.SHADOW_CTRL_ARMED g) = true → b.gf (F.SHADOW_CTRL_OWNER g) ≠ q.code ∨ b.gf (F.SHADOW_CTRL_MODE g) = 2
        ∨ g = .emit ∧ b.on F.EMIT_STARLINE_STATUS_PRELOAD_BUSY = true →
      exec (.shadowCommit g q mode) s = .next (s.after (b.refuse g)))
    ∧ (b.on (F.SHADOW_CTRL_PENDING g) = false → b.holdsSet g q = true →
      exec (.shadowDiscard g q mode) s = .next (s.after (
        let d := b.sf (F.SHADOW_CTRL_ARMED g) 0
        let d := d.setPx (setHome g) { d.px (setHome g) with setOpen := [], setExpo := false }
        if g = .emit then d.restage else d)))
    ∧ (b.on (F.SHADOW_CTRL_PENDING g) = true ∨ b.on (F.SHADOW_CTRL_ARMED g) = true ∧ b.gf (F.SHADOW_CTRL_OWNER g) ≠ q.code →
      exec (.shadowDiscard g q mode) s = .next (s.after (b.refuse g)))
    ∧ (b.on (F.SHADOW_CTRL_ARMED g) = false → exec (.shadowCommit g q mode) s = .next (s.after (b.refuse g)))
    ∧ (b.on (F.SHADOW_CTRL_PENDING g) = false → b.on (F.SHADOW_CTRL_ARMED g) = false →
      exec (.shadowDiscard g q mode) s = .next (s.after b))

/-- Plain registers and fences (R21, R22, R55, R64 to R66, R617). -/
def Obligations.Fences : Prop :=
  (∀ (s : State) (q : Requester) (a w : Word) (off : Nat) (r : RegRow), s.dev.takes q .res → decodeAddr a.toNat = some (.res, off) →
    a.toNat % 4 = 0 → a.toNat < 0x1F0000 → ¬ off < 0x40 → regRow .res off = some r →
    ∃ d, exec (.registerWrite q a w) s = .next (s.after d)
      ∧ d.rd ⟨.res, off⟩ = (s.dev.rd ⟨.res, off⟩ &&& ~~~(BitVec.ofNat 32 r.rw)) ||| (w &&& BitVec.ofNat 32 r.rw)
      ∧ s.dev.regsBut d [⟨.res, off⟩] ∧ s.dev.onlyRegs d)
  ∧ (∀ (s : State) (q : Requester) (a w : Word) (g : Page) (off : Nat) (r : RegRow), s.dev.admits q g → s.dev.isOn g = false →
    decodeAddr a.toNat = some (g, off) → a.toNat % 4 = 0 → a.toNat < 0x1F0000 → ¬ off < 0x40 →
    regRow g off = some r → r.rw ≠ 0 → w &&& BitVec.ofNat 32 r.wo = 0#32 →
    exec (.registerWrite q a w) s = .next (s.after (s.dev.setPx g { s.dev.px g with
      held := (s.dev.px g).held.filter (fun e => e.1 != off) ++ [(off, w &&& ~~~(BitVec.ofNat 32 r.wo), q)] })))
  ∧ (∀ (s : State) (q : Requester) (token : BitVec 16), s.dev.takes q .chip → (s.dev.req q).fences.length < 8 →
    exec (.fence q token) s = .next (s.after (
      (s.dev.setReq q { s.dev.req q with fences := (s.dev.req q).fences
        ++ [{ token := some token.toNat, pages := s.dev.holders q, waits := s.dev.armBlocked q, reply := none }] }).sfQ q
        F.CHIP_FENCE_DONE_BUSY 1)))
  ∧ (∀ (s : State) (q : Requester) (token : BitVec 16), s.dev.takes q .chip → 8 ≤ (s.dev.req q).fences.length →
    exec (.fence q token) s = .next (s.after (s.dev.refuse .chip)))
  ∧ (∀ (s : State) (q : Requester) (f : FenceX) (rest : List FenceX) (t : Nat), (s.dev.req q).fences = f :: rest →
    (f.waits = false ∨ s.dev.armBlocked q = false) → f.token = some t → f.reply = none → t < 2^16 →
    ∃ d, exec (.fenceComplete q) s = .next (s.after d) ∧ d.gfQ q F.CHIP_FENCE_DONE_TOKEN = t
      ∧ d.gfQ q F.CHIP_FENCE_DONE_BUSY = b2n (!rest.isEmpty)
      ∧ d.gfQ q F.CHIP_FENCE_DONE_HELD = b2n (f.pages.any (fun n => s.dev.heldBy q n))
      ∧ (d.req q).fences = rest ∧ ∃ m rs, d = { s.dev with regs := m, reqs := rs })

/-- The locked debug path (R573, R574). -/
def Obligations.DebugLocked : Prop :=
  ∀ (s : State) (c : Instr), s.dev.gf F.SEC_STATUS_DEBUG_LEVEL = 0 → c.accessOf = some .debug → exec c s = .next (s.after s.dev)

/-- GO of each task code (R68 to R70): a task whose code, target and arguments are accepted and that conflicts with no other is
QUEUED, with the requester noted and PROGRESS and RESULT cleared; one with bad arguments, an unknown code among them, is
FAILED with BAD_ARG (3), and a conflicting one FAILED with BUSY_TARGET (2). -/
def Obligations.TaskSubmit : Prop :=
  (∀ (s : State) (i : Fin 16) (q : Requester), s.dev.takes q .task → s.dev.slotState i = 0 → s.dev.gf (F.TASK_OP_CODE i) = 0x01 →
    s.dev.slotArgsOk i = true → s.dev.slotConflict i = false →
    ∃ b : Dev, b.gf (F.TASK_STATUS_REQ i) = q.code ∧ b.gf (F.TASK_PROGRESS_STEPS_DONE i) = 0
      ∧ s.dev.regsBut b [R.TASK_STATUS i, R.TASK_PROGRESS i, R.TASK_RESULT i] ∧ (∃ m ts, b = { s.dev with regs := m, tasks := ts })
      ∧ exec (.calTdc i q) s = .next (s.after ({ b with taskQueue := s.dev.taskQueue ++ [i.val] }.sf (F.TASK_STATUS_STATE i) 1)))
  ∧ (∀ (s : State) (i : Fin 16) (q : Requester), s.dev.takes q .task → s.dev.slotState i = 0 → s.dev.gf (F.TASK_OP_CODE i) = 0x02 →
    s.dev.slotArgsOk i = true → s.dev.slotConflict i = false →
    ∃ b : Dev, b.gf (F.TASK_STATUS_REQ i) = q.code ∧ b.gf (F.TASK_PROGRESS_STEPS_DONE i) = 0
      ∧ s.dev.regsBut b [R.TASK_STATUS i, R.TASK_PROGRESS i, R.TASK_RESULT i] ∧ (∃ m ts, b = { s.dev with regs := m, tasks := ts })
      ∧ exec (.calWave i q) s = .next (s.after ({ b with taskQueue := s.dev.taskQueue ++ [i.val] }.sf (F.TASK_STATUS_STATE i) 1)))
  ∧ (∀ (s : State) (i : Fin 16) (q : Requester), s.dev.takes q .task → s.dev.slotState i = 0 → s.dev.gf (F.TASK_OP_CODE i) = 0x10 →
    s.dev.slotArgsOk i = true → s.dev.slotConflict i = false →
    ∃ b : Dev, b.gf (F.TASK_STATUS_REQ i) = q.code ∧ b.gf (F.TASK_PROGRESS_STEPS_DONE i) = 0
      ∧ s.dev.regsBut b [R.TASK_STATUS i, R.TASK_PROGRESS i, R.TASK_RESULT i] ∧ (∃ m ts, b = { s.dev with regs := m, tasks := ts })
      ∧ exec (.bist i q) s = .next (s.after ({ b with taskQueue := s.dev.taskQueue ++ [i.val] }.sf (F.TASK_STATUS_STATE i) 1)))
  ∧ (∀ (s : State) (i : Fin 16) (q : Requester), s.dev.takes q .task → s.dev.slotState i = 0 → s.dev.gf (F.TASK_OP_CODE i) = 0x20 →
    s.dev.slotArgsOk i = true → s.dev.slotConflict i = false →
    ∃ b : Dev, b.gf (F.TASK_STATUS_REQ i) = q.code ∧ b.gf (F.TASK_PROGRESS_STEPS_DONE i) = 0
      ∧ s.dev.regsBut b [R.TASK_STATUS i, R.TASK_PROGRESS i, R.TASK_RESULT i] ∧ (∃ m ts, b = { s.dev with regs := m, tasks := ts })
      ∧ exec (.mramWrite i q) s = .next (s.after ({ b with taskQueue := s.dev.taskQueue ++ [i.val] }.sf (F.TASK_STATUS_STATE i) 1)))
  ∧ (∀ (s : State) (i : Fin 16) (q : Requester), s.dev.takes q .task → s.dev.slotState i = 0 → s.dev.gf (F.TASK_OP_CODE i) = 0x21 →
    s.dev.slotArgsOk i = true → s.dev.slotConflict i = false →
    ∃ b : Dev, b.gf (F.TASK_STATUS_REQ i) = q.code ∧ b.gf (F.TASK_PROGRESS_STEPS_DONE i) = 0
      ∧ s.dev.regsBut b [R.TASK_STATUS i, R.TASK_PROGRESS i, R.TASK_RESULT i] ∧ (∃ m ts, b = { s.dev with regs := m, tasks := ts })
      ∧ exec (.imageVerify i q) s = .next (s.after ({ b with taskQueue := s.dev.taskQueue ++ [i.val] }.sf (F.TASK_STATUS_STATE i) 1)))
  ∧ (∀ (s : State) (i : Fin 16) (q : Requester), s.dev.takes q .task → s.dev.slotState i = 0 → s.dev.gf (F.TASK_OP_CODE i) = 0x30 →
    s.dev.slotArgsOk i = true → s.dev.slotConflict i = false →
    ∃ b : Dev, b.gf (F.TASK_STATUS_REQ i) = q.code ∧ b.gf (F.TASK_PROGRESS_STEPS_DONE i) = 0
      ∧ s.dev.regsBut b [R.TASK_STATUS i, R.TASK_PROGRESS i, R.TASK_RESULT i] ∧ (∃ m ts, b = { s.dev with regs := m, tasks := ts })
      ∧ exec (.reserveSwap i q) s = .next (s.after ({ b with taskQueue := s.dev.taskQueue ++ [i.val] }.sf (F.TASK_STATUS_STATE i) 1)))
  ∧ (∀ (s : State) (i : Fin 16) (q : Requester), s.dev.takes q .task → s.dev.slotState i = 0 → s.dev.gf (F.TASK_OP_CODE i) = 0x40 →
    s.dev.slotArgsOk i = true → s.dev.slotConflict i = false →
    ∃ b : Dev, b.gf (F.TASK_STATUS_REQ i) = q.code ∧ b.gf (F.TASK_PROGRESS_STEPS_DONE i) = 0
      ∧ s.dev.regsBut b [R.TASK_STATUS i, R.TASK_PROGRESS i, R.TASK_RESULT i] ∧ (∃ m ts, b = { s.dev with regs := m, tasks := ts })
      ∧ exec (.snapshotExport i q) s = .next (s.after ({ b with taskQueue := s.dev.taskQueue ++ [i.val] }.sf (F.TASK_STATUS_STATE i) 1)))
  ∧ (∀ (s : State) (i : Fin 16) (q : Requester) (c : Instr), s.dev.takes q .task → s.dev.slotState i = 0 →
    (c = .calTdc i q ∧ s.dev.gf (F.TASK_OP_CODE i) = 0x01) ∨ (c = .calWave i q ∧ s.dev.gf (F.TASK_OP_CODE i) = 0x02)
      ∨ (c = .bist i q ∧ s.dev.gf (F.TASK_OP_CODE i) = 0x10) ∨ (c = .mramWrite i q ∧ s.dev.gf (F.TASK_OP_CODE i) = 0x20)
      ∨ (c = .imageVerify i q ∧ s.dev.gf (F.TASK_OP_CODE i) = 0x21) ∨ (c = .reserveSwap i q ∧ s.dev.gf (F.TASK_OP_CODE i) = 0x30)
      ∨ (c = .snapshotExport i q ∧ s.dev.gf (F.TASK_OP_CODE i) = 0x40) →
    s.dev.slotArgsOk i = false →
    ∃ b : Dev, b.gf (F.TASK_STATUS_REQ i) = q.code ∧ b.gf (F.TASK_PROGRESS_STEPS_DONE i) = 0
      ∧ s.dev.regsBut b [R.TASK_STATUS i, R.TASK_PROGRESS i, R.TASK_RESULT i] ∧ (∃ m ts, b = { s.dev with regs := m, tasks := ts })
      ∧ exec c s = .next (s.after (b.endTask i 4 3 0)))
  ∧ (∀ (s : State) (i : Fin 16) (q : Requester) (c : Instr), s.dev.takes q .task → s.dev.slotState i = 0 →
    (c = .calTdc i q ∧ s.dev.gf (F.TASK_OP_CODE i) = 0x01) ∨ (c = .calWave i q ∧ s.dev.gf (F.TASK_OP_CODE i) = 0x02)
      ∨ (c = .bist i q ∧ s.dev.gf (F.TASK_OP_CODE i) = 0x10) ∨ (c = .mramWrite i q ∧ s.dev.gf (F.TASK_OP_CODE i) = 0x20)
      ∨ (c = .imageVerify i q ∧ s.dev.gf (F.TASK_OP_CODE i) = 0x21) ∨ (c = .reserveSwap i q ∧ s.dev.gf (F.TASK_OP_CODE i) = 0x30)
      ∨ (c = .snapshotExport i q ∧ s.dev.gf (F.TASK_OP_CODE i) = 0x40) →
    s.dev.slotArgsOk i = true → s.dev.slotConflict i = true →
    ∃ b : Dev, b.gf (F.TASK_STATUS_REQ i) = q.code ∧ b.gf (F.TASK_PROGRESS_STEPS_DONE i) = 0
      ∧ s.dev.regsBut b [R.TASK_STATUS i, R.TASK_PROGRESS i, R.TASK_RESULT i] ∧ (∃ m ts, b = { s.dev with regs := m, tasks := ts })
      ∧ exec c s = .next (s.after (b.endTask i 4 2 0)))
  ∧ (∀ (s : State) (i : Fin 16) (q : Requester), s.dev.takes q .task → s.dev.slotState i = 0 → taskCodes.contains (s.dev.gf (F.TASK_OP_CODE i)) = false →
    ∃ b : Dev, b.gf (F.TASK_STATUS_REQ i) = q.code ∧ b.gf (F.TASK_PROGRESS_STEPS_DONE i) = 0
      ∧ s.dev.regsBut b [R.TASK_STATUS i, R.TASK_PROGRESS i, R.TASK_RESULT i] ∧ (∃ m ts, b = { s.dev with regs := m, tasks := ts })
      ∧ exec (.taskBadCode i q) s = .next (s.after (b.endTask i 4 3 0)))

/-- CANCEL, RELEASE, start and step of tasks (R68, R70, R71, R73, R74, R576, R595). That CANCEL of a FREE, FAILED, CANCELLED or ABORTED
slot and RELEASE of a FREE, QUEUED or RUNNING one have no effect is the model's choice (log 88). -/
def Obligations.TaskEnds : Prop :=
  (∀ (s : State) (i : Fin 16) (q : Requester), s.dev.takes q .task →
    (s.dev.slotState i = 1 ∨ s.dev.slotState i = 2 ∧ s.dev.nextStep ≠ some i.val →
      exec (.taskCancel i q) s = .next (s.after (s.dev.endTask i 5 1 0)))
    ∧ (s.dev.slotState i = 2 → s.dev.nextStep = some i.val →
      exec (.taskCancel i q) s = .next (s.after (s.dev.setTask i { s.dev.task i with cancel := true })))
    ∧ (s.dev.slotState i = 3 → exec (.taskCancel i q) s = .next (s.after (s.dev.sf (F.TASK_STATUS_CANCEL_LATE i) 1)))
    ∧ (s.dev.slotState i ≠ 1 → s.dev.slotState i ≠ 2 → s.dev.slotState i ≠ 3 → exec (.taskCancel i q) s = .next (s.after s.dev)))
  ∧ (∀ (s : State) (i : Fin 16) (q : Requester), s.dev.takes q .task →
    (3 ≤ s.dev.slotState i → exec (.taskRelease i q) s = .next (s.after (s.dev.sf (F.TASK_STATUS_STATE i) 0)))
    ∧ (s.dev.slotState i < 3 → exec (.taskRelease i q) s = .next (s.after s.dev)))
  ∧ (∀ (s : State) (i : Nat), s.dev.nextStart = some i → s.dev.taskRun.length < 4 → s.dev.targetUp (s.dev.task i) = false →
    exec .taskStart s = .next (s.after (s.dev.endTask i 4 4 0)))
  ∧ (∀ (s : State) (i : Nat), s.dev.nextStart = some i → s.dev.taskRun.length < 4 →
    s.dev.targetUp (s.dev.task i) = true → ((s.dev.startX i).code = 0x21 → s.dev.imageBad (s.dev.startX i) = none) →
    s.dev.stepsOf (s.dev.startX i) ≠ 0 → i < 16 →
    ∃ d, exec .taskStart s = .next (s.after d) ∧ d.slotState i = 2 ∧ d.taskRun = s.dev.taskRun ++ [i]
      ∧ d.taskQueue = s.dev.taskQueue.filter (· != i)
      ∧ d.gf (F.TASK_PROGRESS_STEPS_TOTAL i) = s.dev.stepsOf (s.dev.startX i) % 2^16
      ∧ s.dev.regsBut d [R.TASK_STATUS i, R.TASK_PROGRESS i, R.STREAM_EXPORT_CONSUMED, R.STREAM_EXPORT_PRODUCED]
      ∧ ∃ m ts, d = { s.dev with regs := m, tasks := ts, taskQueue := d.taskQueue, taskRun := d.taskRun })
  ∧ (∀ (s : State) (i : Fin 16) (env : StepEnv) (g : Page), s.dev.nextStep = some i.val →
    targetPage (s.dev.task i).target = some g → (s.dev.task i).code = 0x10 → env.ok = true → s.dev.targetUp (s.dev.task i) = true →
    exec (.taskStep i env) s = .next (s.after ({ s.dev with taskLast := i.val }.commitStep i)))
  ∧ (∀ (s : State) (i : Fin 16) (env : StepEnv) (g : Page), s.dev.nextStep = some i.val →
    targetPage (s.dev.task i).target = some g → (s.dev.task i).code = 0x20 → env.ok = true → s.dev.targetUp (s.dev.task i) = true →
    exec (.taskStep i env) s = .next (s.after ({ s.dev with taskLast := i.val }.stepMram i (s.dev.task i))))
  ∧ (∀ (s : State) (i : Fin 16) (env : StepEnv) (g : Page), s.dev.nextStep = some i.val →
    targetPage (s.dev.task i).target = some g → s.dev.targetUp (s.dev.task i) = false →
    exec (.taskStep i env) s = .next (s.after ({ s.dev with taskLast := i.val }.endTask i 4 4 (s.dev.gf (F.TASK_RESULT_VALUE i)))))

/-- The reference, the PLL, holdover and the warm-up qualifier (R126 to R131). -/
def Obligations.TimeReference : Prop :=
  (∀ s : State, s.dev.on F.TIME_STATUS_REF_PRESENT = true →
    exec .refLost s = .next (s.after (((((((s.dev.sf F.TIME_STATUS_REF_PRESENT 0).sf F.TIME_STATUS_PLL_LOCKED 0).sf
      F.TIME_STATUS_SLEWING 0).setHoldover true).qualRestart 1).raise C.TIME_REF_LOST).chipFault)))
  ∧ (∀ s : State, ∃ d, exec .refPresent s = .next (s.after d) ∧ d.on F.TIME_STATUS_REF_PRESENT = true
      ∧ d.gf F.TIME_STATUS_QUAL_STATE = (if s.dev.gf F.TIME_STATUS_QUAL_STATE = 0 then 1 else s.dev.gf F.TIME_STATUS_QUAL_STATE)
      ∧ s.dev.regsBut d [R.TIME_STATUS] ∧ s.dev.onlyRegs d)
  ∧ (∀ (s : State) (err : Int), s.dev.on F.TIME_STATUS_REF_PRESENT = true → s.dev.on F.TIME_STATUS_PLL_LOCKED = false →
    s.dev.on F.TIME_STATUS_HOLDOVER = true →
    exec (.pllLocked err) s = .next (s.after (
      let d := ({ s.dev with running := true }.sf F.TIME_STATUS_PLL_LOCKED 1).setHoldover false
      ({ d.sf F.TIME_STATUS_SLEWING 1 with
          time := { d.time with slewEnd := d.now + slewTicks err s.dev.refPeriod * 1000000 / 256 } }).qualRestart 2)))
  ∧ (∀ (s : State) (err : Int), s.dev.on F.TIME_STATUS_REF_PRESENT = true → s.dev.on F.TIME_STATUS_PLL_LOCKED = false →
    s.dev.on F.TIME_STATUS_HOLDOVER = false →
    exec (.pllLocked err) s = .next (s.after
      ((({ s.dev with running := true }.sf F.TIME_STATUS_PLL_LOCKED 1).setHoldover false).qualRestart 2)))
  ∧ (∀ s : State, s.dev.on F.TIME_STATUS_PLL_LOCKED = true →
    exec .pllUnlock s = .next (s.after ((((((s.dev.sf F.TIME_STATUS_PLL_LOCKED 0).sf F.TIME_STATUS_SLEWING 0).setHoldover true).qualRestart
      1).raise C.TIME_PLL_UNLOCK).chipFault)))
  ∧ (∀ s : State, s.dev.on F.TIME_STATUS_SLEWING = true →
    exec .slewEnd s = .next (s.after ((s.dev.advanceTo s.dev.time.slewEnd).sf F.TIME_STATUS_SLEWING 0)))
  ∧ (∀ (s : State) (cycles nom : Nat) (f : Int), nom = max 10 (s.dev.gf F.TIME_QUAL_CFG_GATE) * 256000000 →
    f = roundDiv (((cycles : Int) - nom) * 1000000000) nom → f.natAbs ≤ 2000000 → s.dev.on F.TIME_STATUS_PLL_LOCKED = true →
    s.dev.time.first = true →
    exec (.qualGate cycles) s = .next (s.after (
      let d := ((s.dev.advanceTo (s.dev.time.gateAt + cycles / 256)).si F.TIME_QUAL_OFFSET_OFFSET f).sf F.TIME_STATUS_OUT_OF_RANGE 0
      { d with time := { s.dev.time with first := false, gateAt := d.now, bad := 0 } })))

/-- Timed actions and NOW (R452, R458, R459, R461, R474). -/
def Obligations.TimeActions : Prop :=
  (∀ (s : State) (q : Requester), s.dev.debugLocked q = false → s.dev.responds q .time = true → s.dev.isOn .time = true →
    exec (.nowLo q) s = .next (s.after (((s.dev.sf F.TIME_NOW_LO_NS (s.dev.now % 2^32)).sfQ q F.TIME_NOW_HI_NS (s.dev.now / 2^32)).send
      (.value q (BitVec.ofNat 32 s.dev.now)))))
  ∧ (∀ (s : State) (i : Fin 16) (q : Requester), s.dev.takes q .time → s.dev.actState i = 0 → s.dev.tick ≤ s.dev.actT i →
    exec (.actArm i q) s = .next (s.after
      (((s.dev.sf (F.TIME_ACT_STATUS_REQ i) q.code).sf (F.TIME_ACT_STATUS_STATE i) 1).sf (F.TIME_ACT_RESULT_SKIPPED i) 0)))
  ∧ (∀ (s : State) (i : Fin 16) (q : Requester), s.dev.takes q .time → s.dev.actState i ≠ 0 →
    exec (.actArm i q) s = .next (s.after (s.dev.refuse .time)))
  ∧ (∀ (s : State) (i : Fin 16) (q : Requester), s.dev.takes q .time → s.dev.actState i = 1 →
    exec (.actCancel i q) s = .next (s.after (s.dev.sf (F.TIME_ACT_STATUS_STATE i) 6)))
  ∧ (∀ (s : State) (i : Fin 16) (q : Requester), s.dev.takes q .time → 2 ≤ s.dev.actState i →
    exec (.actRelease i q) s = .next (s.after (s.dev.sf (F.TIME_ACT_STATUS_STATE i) 0)))
  ∧ (∀ (s : State) (i : Fin 16) (q : Requester) (b : Dev), s.dev.nextAct = some i.val → s.dev.running = true →
    b = s.dev.advanceTo (s.dev.actAt i) → q = reqOf (b.gf (F.TIME_ACT_STATUS_REQ i)) → s.dev.gf (F.TIME_ACT_CFG_KIND i) = 0 →
    ((b.actCommits q (b.gf (F.TIME_ACT_ARG0_ARG i))).contains .emit = true → b.on F.EMIT_STARLINE_STATUS_PRELOAD_BUSY = false) →
    exec (.actionCommit i) s = .next (s.after (
      let m := b.gf (F.TIME_ACT_ARG0_ARG i)
      let d := (b.sf (F.TIME_ACT_RESULT_SKIPPED i) (b.actSkipped q m)).sf (F.TIME_ACT_STATUS_STATE i) 2
      ((b.actCommits q m).foldl (fun (e : Dev) g => e.latchAt g (s.dev.actAt i)) d.newGroup).event E.TIME_ACTION_DONE)))
  ∧ (∀ (s : State) (i : Fin 16) (q : Requester) (b : Dev), s.dev.nextAct = some i.val → s.dev.running = true →
    b = s.dev.advanceTo (s.dev.actAt i) → q = reqOf (b.gf (F.TIME_ACT_STATUS_REQ i)) → s.dev.gf (F.TIME_ACT_CFG_KIND i) = 1 →
    exec (.actionWrite i) s = .next (s.after (
      let d := (b.sf (F.TIME_ACT_STATUS_STATE i) 2).event E.TIME_ACTION_DONE
      issueN 16 d q (d.rd (R.TIME_ACT_ARG0 i)) (d.rd (R.TIME_ACT_ARG1 i)))))
  ∧ (∀ (s : State) (i : Fin 16) (b : Dev), s.dev.nextAct = some i.val → s.dev.running = true →
    b = s.dev.advanceTo (s.dev.actAt i) → s.dev.gf (F.TIME_ACT_CFG_KIND i) = 2 →
    exec (.actionDecSync i) s = .next (s.after
      (((b.sf (F.TIME_ACT_STATUS_STATE i) 2).event E.TIME_ACTION_DONE).decSyncCore (cycleFrom b.now))))

/-- gPTP (R464, R465, R476, R477): Sync on the slave port of a unit that does not serve its mapping from PTP, peer delay, Announce and
the loss of Sync. -/
def Obligations.PtpPorts : Prop :=
  (∀ (s : State) (m : PtpMsg) (b e : Dev) (o : Int) (lock good : Nat), s.dev.on (F.NET_STATUS_LINK_UP m.port) = true →
    b = s.dev.rxFrame m.port → b.ptpPort m.port = true → m.domain = b.gf F.PTP_CFG_DOMAIN → b.gf F.PTP_STATUS_SLAVE_PORT = m.port →
    b.ptpSource = false → lock = max 1 (b.gf F.PTP_THRESH_LOCK_NS) →
    o = (b.tai (m.args.getD 2 0).toNat : Int) - (m.args.getD 0 0 + m.args.getD 1 0 + b.gf F.PTP_PATH_DELAY_NS) →
    good = (if o.natAbs ≤ lock then min 8 (b.ptp.good + 1) else 0) →
    e = (({ b with ptp := { b.ptp with
      good := good, lastSync := b.now, interval := 7812500 * 2^(max 0 (min 16 (m.args.getD 3 0 + 7))).toNat } }).inc
        F.PTP_SYNC_RX_COUNT).si F.PTP_OFFSET_NS (sat32 o) →
    b.ptpState = 2 → good < 8 → exec (.ptpSync m) s = .next (s.after e))
  ∧ (∀ (s : State) (m : PtpMsg) (b e : Dev) (o : Int) (lock good : Nat), s.dev.on (F.NET_STATUS_LINK_UP m.port) = true →
    b = s.dev.rxFrame m.port → b.ptpPort m.port = true → m.domain = b.gf F.PTP_CFG_DOMAIN → b.gf F.PTP_STATUS_SLAVE_PORT = m.port →
    b.ptpSource = false → lock = max 1 (b.gf F.PTP_THRESH_LOCK_NS) →
    o = (b.tai (m.args.getD 2 0).toNat : Int) - (m.args.getD 0 0 + m.args.getD 1 0 + b.gf F.PTP_PATH_DELAY_NS) →
    good = (if o.natAbs ≤ lock then min 8 (b.ptp.good + 1) else 0) →
    e = (({ b with ptp := { b.ptp with
      good := good, lastSync := b.now, interval := 7812500 * 2^(max 0 (min 16 (m.args.getD 3 0 + 7))).toNat } }).inc
        F.PTP_SYNC_RX_COUNT).si F.PTP_OFFSET_NS (sat32 o) →
    b.ptpState = 3 → o.natAbs ≤ 4 * lock → exec (.ptpSync m) s = .next (s.after e))
  ∧ (∀ (s : State) (m : PtpMsg) (b e : Dev) (o : Int) (lock good : Nat), s.dev.on (F.NET_STATUS_LINK_UP m.port) = true →
    b = s.dev.rxFrame m.port → b.ptpPort m.port = true → m.domain = b.gf F.PTP_CFG_DOMAIN → b.gf F.PTP_STATUS_SLAVE_PORT = m.port →
    b.ptpSource = false → lock = max 1 (b.gf F.PTP_THRESH_LOCK_NS) →
    o = (b.tai (m.args.getD 2 0).toNat : Int) - (m.args.getD 0 0 + m.args.getD 1 0 + b.gf F.PTP_PATH_DELAY_NS) →
    good = (if o.natAbs ≤ lock then min 8 (b.ptp.good + 1) else 0) →
    e = (({ b with ptp := { b.ptp with
      good := good, lastSync := b.now, interval := 7812500 * 2^(max 0 (min 16 (m.args.getD 3 0 + 7))).toNat } }).inc
        F.PTP_SYNC_RX_COUNT).si F.PTP_OFFSET_NS (sat32 o) →
    b.ptpState = 3 → 4 * lock < o.natAbs → exec (.ptpSync m) s = .next (s.after e.ptpHoldover))
  ∧ (∀ (s : State) (m : PtpMsg) (b e : Dev) (o : Int) (lock good : Nat), s.dev.on (F.NET_STATUS_LINK_UP m.port) = true →
    b = s.dev.rxFrame m.port → b.ptpPort m.port = true → m.domain = b.gf F.PTP_CFG_DOMAIN → b.gf F.PTP_STATUS_SLAVE_PORT = m.port →
    b.ptpSource = false → lock = max 1 (b.gf F.PTP_THRESH_LOCK_NS) →
    o = (b.tai (m.args.getD 2 0).toNat : Int) - (m.args.getD 0 0 + m.args.getD 1 0 + b.gf F.PTP_PATH_DELAY_NS) →
    good = (if o.natAbs ≤ lock then min 8 (b.ptp.good + 1) else 0) →
    e = (({ b with ptp := { b.ptp with
      good := good, lastSync := b.now, interval := 7812500 * 2^(max 0 (min 16 (m.args.getD 3 0 + 7))).toNat } }).inc
        F.PTP_SYNC_RX_COUNT).si F.PTP_OFFSET_NS (sat32 o) →
    b.ptpState = 2 ∨ b.ptpState = 4 → good = 8 →
    exec (.ptpSync m) s = .next (s.after ({ e with ptp := { e.ptp with holdAt := none } }.setPtpState 3)))
  ∧ (∀ (s : State) (m : PtpMsg) (b : Dev), s.dev.on (F.NET_STATUS_LINK_UP m.port) = true → b = s.dev.rxFrame m.port →
    b.ptpPort m.port = true → m.domain = b.gf F.PTP_CFG_DOMAIN →
    exec (.pdelayReq m) s = .next (s.after (
      ((b.inc (F.NET_TX_FRAMES_COUNT m.port) 2).send (.ptp m.port 1 (m.args.getD 0 0).toNat (m.args.getD 1 0).toNat)).send
        (.ptp m.port 2 (m.args.getD 0 0).toNat b.now))))
  ∧ (∀ (s : State) (m : PtpMsg) (b : Dev) (d : Int), s.dev.on (F.NET_STATUS_LINK_UP m.port) = true → b = s.dev.rxFrame m.port →
    b.ptpPort m.port = true → m.domain = b.gf F.PTP_CFG_DOMAIN →
    d = ((m.args.getD 4 0 - m.args.getD 1 0) - (m.args.getD 3 0 - m.args.getD 2 0)) / 2 →
    exec (.pdelayResp m) s = .next (s.after
      (({ b with ptp := { b.ptp with delay := fset (fun _ => 0) b.ptp.delay m.port (1 + d.toNat) } }.setAsCapable m.port
        (decide (d ≤ b.gf F.PTP_THRESH_PDELAY_THRESH))).ptpSelect)))
  ∧ (∀ (s : State) (m : PtpMsg) (b : Dev), s.dev.on (F.NET_STATUS_LINK_UP m.port) = true → b = s.dev.rxFrame m.port →
    b.ptpPort m.port = true → m.domain = b.gf F.PTP_CFG_DOMAIN →
    exec (.announce m) s = .next (s.after
      ({ b with ptp := { b.ptp with announce := fset (fun _ => []) b.ptp.announce m.port m.args } }.ptpSelect)))
  ∧ (∀ (s : State) (b : Dev), s.dev.on F.PTP_CFG_EN = true → b = s.dev.advanceTo (s.dev.ptp.pdelayAt + s.dev.pdelayNs) →
    exec .pdelayInterval s = .next (s.after (forN 2 (fun p (d : Dev) =>
      if d.ptpPort p ∧ d.on (F.NET_STATUS_LINK_UP p) then
        let n := fget (fun _ => 0) d.ptp.pdelaySeq p
        let l := fset (fun _ => 0) d.ptp.pdelaySeq p ((n + 1) % 65536)
        ({ d with ptp := { d.ptp with pdelaySeq := l } }.inc (F.NET_TX_FRAMES_COUNT p)).send (.ptp p 0 n d.now)
      else d) { b with ptp := { b.ptp with pdelayAt := b.now } })))
  ∧ (∀ s : State, s.dev.ptpState = 3 →
    exec .ptpSyncTimeout s = .next (s.after ((s.dev.advanceTo (s.dev.ptp.lastSync + 3 * s.dev.ptp.interval)).ptpHoldover)))
  ∧ (∀ (s : State) (t : Nat) (b : Dev), s.dev.ptp.holdAt = some t →
    b = s.dev.advanceTo (t + s.dev.gf F.TIME_HOLD_CFG_HOLD_S * 1000000000) → b.ptpSource = true →
    exec .taiHoldExpire s = .next (s.after
      ((({ b with ptp := { b.ptp with holdAt := none } }.sf F.TIME_CAL_CTRL_ACTIVE_SRC 0).setTaiValid false).raise C.TIME_TAI_LOST)))
  ∧ (∀ (s : State) (t : Nat) (b : Dev), s.dev.ptp.holdAt = some t →
    b = s.dev.advanceTo (t + s.dev.gf F.TIME_HOLD_CFG_HOLD_S * 1000000000) → b.ptpSource = false →
    exec .taiHoldExpire s = .next (s.after { b with ptp := { b.ptp with holdAt := none } }))

/-- LEADING_EDGE, VALIDATING_ASSERT, TRAILING_EDGE and TOT_MAX_EXPIRY (R89, R92 to R95, R98): the event a channel forms, and what
each edge leaves as it was. -/
def Obligations.ChannelEdges : Prop :=
  (∀ (s : State) (bay : Fin 48) (c : Fin 8) (t : Nat) (b : Dev) (x : ChanX), b = s.dev.advanceTo (t / 256) → x = s.dev.chan bay c →
    beyondScale (b.gf (F.BAY_CH_THRESH_ARM bay c)) = false →
    x.armHigh = none → x.valHigh = none → b.forms bay c = true → dead x.lastLead t = false →
    ∃ d, exec (.leadingEdge bay c t) s = .next (s.after d) ∧ (d.chan bay c).open_ = some { lead := t, validated := false }
      ∧ (d.chan bay c).armHigh = some t ∧ (d.chan bay c).lastLead = some t ∧ (d.chan bay c).closed = x.closed
      ∧ (∀ n, n ≠ 8 * bay.val + c.val → fget chan0 d.chans n = fget chan0 b.chans n) ∧ ∃ m, d = { b with chans := m })
  ∧ (∀ (s : State) (bay : Fin 48) (c : Fin 8) (t : Nat) (b : Dev) (x : ChanX), b = s.dev.advanceTo (t / 256) → x = s.dev.chan bay c →
    beyondScale (b.gf (F.BAY_CH_THRESH_ARM bay c)) = false →
    x.armHigh = none → b.forms bay c = true → dead x.lastLead t = true → x.missed < 65535 →
    ∃ d, exec (.leadingEdge bay c t) s = .next (s.after d) ∧ (d.chan bay c).missed = x.missed + 1 ∧ (d.chan bay c).lastLost = t
      ∧ (d.chan bay c).open_ = x.open_ ∧ (d.chan bay c).lastLead = x.lastLead ∧ b.regsBut d [R.BAY_CH_MISSED bay c])
  ∧ (∀ (s : State) (bay : Fin 48) (c : Fin 8) (t : Nat) (b : Dev), b = s.dev.advanceTo (t / 256) →
    beyondScale (b.gf (F.BAY_CH_THRESH_ARM bay c)) = true → exec (.leadingEdge bay c t) s = .next (s.after b))
  ∧ (∀ (s : State) (bay : Fin 48) (c : Fin 8) (t : Nat) (b : Dev) (x : ChanX) (e : ChEvent), b = s.dev.advanceTo (t / 256) →
    x = s.dev.chan bay c → beyondScale (b.gf (F.BAY_CH_THRESH_VAL bay c)) = false →
    x.open_ = some e → e.validated = false → e.lead + 16 < t → t + 16 < e.lead + b.valWin bay → (b.port bay).bursts = [] →
    ∃ d, exec (.validatingAssert bay c t) s = .next (s.after d) ∧ (d.chan bay c).open_ = some { e with validated := true }
      ∧ (d.chan bay c).valHigh = some t ∧ (d.chan bay c).closed = x.closed ∧ ∃ m, d = { b with chans := m })
  ∧ (∀ (s : State) (bay : Fin 48) (c : Fin 8) (t : Nat) (b : Dev) (x : ChanX) (e : ChEvent), b = s.dev.advanceTo (t / 256) →
    x = s.dev.chan bay c →
    x.open_ = some e → x.armHigh.isSome → t < e.lead + b.totMax bay → dead x.lastTrail t = false →
    b.gf (F.BAY_TDC_TIMING_VAL_MODE bay) ≠ 0 ∨ e.validated = true →
    ∃ d, exec (.trailingEdge bay c t) s = .next (s.after d) ∧ (d.chan bay c).closed = x.closed ++ [{ e with trail := some t }]
      ∧ (d.chan bay c).open_ = none ∧ (d.chan bay c).armHigh = none ∧ (d.chan bay c).lastTrail = some t ∧ ∃ m, d = { b with chans := m })
  ∧ (∀ (s : State) (bay : Fin 48) (c : Fin 8) (t : Nat) (b : Dev) (x : ChanX) (e : ChEvent), b = s.dev.advanceTo (t / 256) →
    x = s.dev.chan bay c →
    x.open_ = some e → x.armHigh.isSome → t < e.lead + b.totMax bay → dead x.lastTrail t = false →
    b.gf (F.BAY_TDC_TIMING_VAL_MODE bay) = 0 → e.validated = false →
    ∃ d, exec (.trailingEdge bay c t) s = .next (s.after d) ∧ (d.chan bay c).closed = x.closed
      ∧ (d.chan bay c).open_ = none ∧ (d.chan bay c).armHigh = none ∧ b.regsBut d [R.BAY_CH_ARMONLY bay c]
      ∧ d.gf (F.BAY_CH_ARMONLY_COUNT bay c) = (b.gf (F.BAY_CH_ARMONLY_COUNT bay c) + 1) % 2^32)
  ∧ (∀ (s : State) (bay : Fin 48) (c : Fin 8) (b : Dev) (x : ChanX) (e : ChEvent), x = s.dev.chan bay c → x.open_ = some e →
    b = s.dev.advanceTo ((e.lead + s.dev.totMax bay + 255) / 256) →
    s.dev.gf (F.BAY_TDC_TIMING_VAL_MODE bay) ≠ 0 ∨ e.validated = true →
    ∃ d, exec (.totMaxExpiry bay c) s = .next (s.after d) ∧ (d.chan bay c).closed = x.closed ++ [e]
      ∧ (d.chan bay c).open_ = none ∧ (d.chan bay c).armHigh = x.armHigh ∧ ∃ m, d = { b with chans := m })

/-- The words a channel sends and its quarantine and release (R99, R102 to R105, R108). A STORM_COUNT of 0 acts as 1 (DESIGN CHOICE,
log 89). -/
def Obligations.ChannelWords : Prop :=
  (∀ (s : State) (bay : Fin 48) (c : Fin 8) (e : ChEvent) (rest : List ChEvent) (r : Nat) (v : Nat × Nat × Bool),
    (s.dev.chan bay c).closed = e :: rest → e.trail = some r → v = s.dev.eventTimes bay c e →
    ∃ y : ChanX, y.closed = rest ∧ exec (.eventEmit bay c) s = .next (s.after (
      (((s.dev.setChan bay c y).inc (F.BAY_CH_EVENTS_COUNT bay c)).pushEvent bay
        { type := .edge, ch := c.val, uncal := v.2.2, val := e.validated, noTrail := false, tot := min 65535 v.2.1, time := v.1 }).haloEvent
          bay { type := .edge, ch := c.val, uncal := v.2.2, val := e.validated, noTrail := false, tot := min 65535 v.2.1, time := v.1 })))
  ∧ (∀ (s : State) (bay : Fin 48) (c : Fin 8) (e : ChEvent) (rest : List ChEvent) (v : Nat × Nat × Bool) (b : Dev),
    (s.dev.chan bay c).closed = e :: rest → e.trail = none → b = s.dev.advanceTo ((e.lead + s.dev.totMax bay) / 256) →
    v = b.eventTimes bay c e →
    ∃ y : ChanX, y.closed = rest ∧ exec (.eventEmit bay c) s = .next (s.after (
      (((b.setChan bay c y).inc (F.BAY_CH_EVENTS_COUNT bay c)).pushEvent bay
        { type := .edge, ch := c.val, uncal := v.2.2, val := e.validated, noTrail := true, tot := min 65535 v.2.1, time := v.1 }).haloEvent
          bay { type := .edge, ch := c.val, uncal := v.2.2, val := e.validated, noTrail := true, tot := min 65535 v.2.1, time := v.1 })))
  ∧ (∀ (s : State) (bay : Fin 48) (c : Fin 8) (u : StartX) (rest : List StartX),
    (s.dev.chan bay c).starts = u :: rest → u.hadEvent = false → u.asserted = false →
    exec (.timeoutMarker bay c) s = .next (s.after (
      (((s.dev.advanceTo ((u.ref + s.dev.timeoutTicks bay + 255) / 256)).setChan bay c
          { s.dev.chan bay c with starts := rest, storm := 0 }).inc (F.BAY_CH_TIMEOUTS_COUNT bay c)).pushEvent bay
        { type := .timeout, ch := c.val, time := u.ref })))
  ∧ (∀ (s : State) (bay : Fin 48) (c : Fin 8) (u : StartX) (rest : List StartX) (b : Dev),
    (s.dev.chan bay c).starts = u :: rest → u.hadEvent = false → u.asserted = true → u.lost = false →
    max 1 (s.dev.gf (F.BAY_FAULT_CTRL_STORM_COUNT bay)) ≤ (s.dev.chan bay c).storm + 1 →
    b = (((s.dev.advanceTo ((u.ref + s.dev.timeoutTicks bay + 255) / 256)).setChan bay c
          { s.dev.chan bay c with starts := rest, storm := (s.dev.chan bay c).storm + 1 }).inc (F.BAY_CH_TIMEOUTS_COUNT bay c)).pushEvent bay
        { type := .timeout, ch := c.val, time := u.ref } →
    exec (.timeoutMarker bay c) s = .next (s.after (
      (b.setChan bay c { b.chan bay c with storm := 0 }).quarantineChannel bay c 1 2 (C.BAY_TIMEOUT_STORM bay))))
  ∧ (∀ (s : State) (bay : Fin 48) (c : Fin 8), (s.dev.chan bay c).missed ≠ 0 → (s.dev.chan bay c).lastMissedAt = none →
    exec (.missedWord bay c) s = .next (s.after (
      (s.dev.setChan bay c { s.dev.chan bay c with missed := 0, lastMissedAt := some s.dev.now }).pushEvent bay
        { type := .missed, ch := c.val, tot := (s.dev.chan bay c).missed, time := (s.dev.chan bay c).lastLost })))
  ∧ (∀ (s : State) (bay : Fin 48) (c : Fin 8) (m : Nat) (b : Dev), (s.dev.chan bay c).missed ≠ 0 →
    (s.dev.chan bay c).lastMissedAt = some m → b = s.dev.advanceTo (m + 1000) →
    exec (.missedWord bay c) s = .next (s.after (
      (b.setChan bay c { s.dev.chan bay c with missed := 0, lastMissedAt := some b.now }).pushEvent bay
        { type := .missed, ch := c.val, tot := (s.dev.chan bay c).missed, time := (s.dev.chan bay c).lastLost })))
  ∧ (∀ (s : State) (bay : Fin 48) (c : Fin 8) (t : Nat), (s.dev.chan bay c).armHigh = some t → s.dev.chActive bay c = true →
    exec (.compStuckHigh bay c false) s = .next (s.after (
      (s.dev.advanceTo (t / 256 + max 1 (s.dev.gf (F.BAY_FAULT_CTRL_STUCK_TIME bay)) * 1000)).quarantineChannel bay c 2 1
        (C.BAY_COMP_STUCK bay))))
  ∧ (∀ (s : State) (bay : Fin 48) (c : Fin 8) (t : Nat), (s.dev.chan bay c).valHigh = some t → s.dev.chActive bay c = true →
    exec (.compStuckHigh bay c true) s = .next (s.after (
      (s.dev.advanceTo (t / 256 + max 1 (s.dev.gf (F.BAY_FAULT_CTRL_STUCK_TIME bay)) * 1000)).quarantineChannel bay c 2 1
        (C.BAY_COMP_STUCK bay))))
  ∧ (∀ (s : State) (bay : Fin 48) (q : Requester) (mask : BitVec 8), s.dev.takes q (.bay bay) →
    exec (.chRelease bay q mask) s = .next (s.after (
      forN 8 (fun c (d : Dev) => if bit mask.toNat c ∧ d.gf (F.BAY_CH_STATUS_STATE bay c) = 2 then d.setChState bay c 3 else d) s.dev)))

/-- Rings, code-density runs, automatic calibration, reseeding and slice estimates (R133, R135, R145, R155, R326, R328). -/
def Obligations.CalTables : Prop :=
  (∀ (s : State) (bay : Fin 48) (i : Fin 17) (fast slow : Nat) (x : ConvX), x = s.dev.conv bay i →
    ringInLock 63 fast = true → ringInLock 64 slow = true →
    exec (.vernierMeasure bay i fast slow) s = .next (s.after
      (((s.dev.setConv bay i { x with fastUnlock := false, slowUnlock := false }).vernSync bay).calSync bay)))
  ∧ (∀ (s : State) (bay : Fin 48) (i : Fin 17) (fast slow : Nat) (x : ConvX) (d : Dev), x = s.dev.conv bay i →
    ringInLock 63 fast = false ∨ ringInLock 64 slow = false → x.slowUnlock = false → x.fastUnlock = false → i.val ≠ 16 →
    d = ((s.dev.setConv bay i { x with fastUnlock := !(ringInLock 63 fast), slowUnlock := !(ringInLock 64 slow), suspended := true, aborted := x.aborted || x.running }).vernSync bay).calSync bay →
    exec (.vernierMeasure bay i fast slow) s = .next (s.after ((d.raise (C.BAY_CAL_INVALID bay) (i.val / 2)).raise C.TIME_VERN_UNLOCK bay)))
  ∧ (∀ (s : State) (bay : Fin 48) (i : Fin 17) (counts : List Nat) (x : ConvX), x = s.dev.conv bay i → x.running = true →
    x.runs = [] → counts.length = 256 → counts.foldl (· + ·) 0 = 2^x.hits →
    exec (.calRunDone bay i counts) s = .next (s.after (s.dev.setConv bay i { x with runs := [counts] })))
  ∧ (∀ (s : State) (bay : Fin 48) (i : Fin 17) (counts first : List Nat) (x : ConvX), x = s.dev.conv bay i → x.running = true →
    x.runs = [first] → counts.length = 256 → counts.foldl (· + ·) 0 = 2^x.hits →
    exec (.calRunDone bay i counts) s = .next (s.after (s.dev.setConv bay i { x with runs := [first, counts], running := false })))
  ∧ (∀ (s : State) (bay : Fin 48) (mask : BitVec 17) (m : List Nat) (i : Nat), m = (maskBits 17 mask.toNat).filter (s.dev.calDue bay) →
    m ≠ [] → s.dev.on F.CAL_CTRL_AUTO_EN = true → s.dev.isOn (.bay bay) = true → s.dev.on (F.BAY_SPARE_STATUS_IN_USE bay) = false →
    s.dev.inConflict 0x01 (Page.bay bay).base = false → s.dev.ownSlot (fun _ => true) = some i →
    ((List.range 16).filter (fun i => s.dev.slotState i != 0 && s.dev.gf (F.TASK_STATUS_REQ i) == 0 && (s.dev.task i).code == 0x01)).length = 0 →
    exec (.autoCalSubmit bay mask) s = .next (s.after (
      s.dev.submitIn i 0x01 (Page.bay bay).base (m.foldl (fun v k => v + 2^k) 0) 0 0)))
  ∧ (∀ (s : State) (bay : Fin 48) (mask : BitVec 17), (maskBits 17 mask.toNat).filter (s.dev.calDue bay) ≠ [] →
    s.dev.on F.CAL_CTRL_AUTO_EN = true → s.dev.isOn (.bay bay) = true → s.dev.on (F.BAY_SPARE_STATUS_IN_USE bay) = true →
    exec (.autoCalSubmit bay mask) s = .next (s.after (s.dev.raise C.CAL_AUTO_SKIPPED bay)))
  ∧ (∀ (s : State) (q : Requester), s.dev.takes q .cal →
    ∃ d, exec (.rzReseed q) s = .next (s.after d) ∧ (∀ p, p < 48 → d.rzOf p = { s.dev.rzOf p with reseed := true })
      ∧ s.dev.regsBut d [R.CAL_CTRL] ∧ (∃ m r, d = { s.dev with regs := m, rz := r }))
  ∧ (∀ (s : State) (bay : Fin 48) (i : Fin 5) (o g k : Int) (x : SliceX) (e : SliceCorr), i.val < 4 → x = s.dev.slice bay i →
    e = { offset := o, gain := g, skew := k } → inRange e = true → x.lastEst = none →
    s.dev.on (F.BAY_WAVE_EST_EN bay) = true → s.dev.waveState bay = 2 →
    ∃ d, exec (.waveEstimate bay i o g k) s = .next (s.after d)
      ∧ d.slice bay i = { x with lastEst := some e, outRun := 0, ests := x.ests + 1, estOk := true }
      ∧ d.now = (s.dev.advanceTo (fget count0 (s.dev.wave bay).estAt i + s.dev.wavePeriod bay)).now ∧ d.mram = s.dev.mram)
  ∧ (∀ (s : State) (bay : Fin 48) (i : Fin 5) (o g k : Int) (x : SliceX) (e p : SliceCorr), i.val < 4 → x = s.dev.slice bay i →
    e = { offset := o, gain := g, skew := k } → inRange e = true → x.lastEst = some p → s.dev.sliceAgree p e = true →
    s.dev.on F.CAL_CTRL_WAVE_AUTO = true → s.dev.on (F.BAY_WAVE_EST_EN bay) = true → s.dev.waveState bay = 2 →
    ∃ d, exec (.waveEstimate bay i o g k) s = .next (s.after d)
      ∧ d.now = (s.dev.advanceTo (fget count0 (s.dev.wave bay).estAt i + s.dev.wavePeriod bay)).now
      ∧ d.slice bay i = { x with lastEst := some e, outRun := 0, ests := x.ests + 1, estOk := true, pending := some (sliceMean p e), pendingAt := d.now }
      ∧ fget (fun _ => ({} : SliceCorr)) d.mram.slices (8 * bay + i) = sliceMean p e)
  ∧ (∀ (s : State) (bay : Fin 48) (i : Fin 5) (o g k : Int) (x : SliceX), i.val < 4 → x = s.dev.slice bay i → x.outRun < 2 →
    inRange { offset := o, gain := g, skew := k } = false → s.dev.on (F.BAY_WAVE_EST_EN bay) = true → s.dev.waveState bay = 2 →
    ∃ d, exec (.waveEstimate bay i o g k) s = .next (s.after d)
      ∧ d.slice bay i = { x with lastEst := none, outRun := x.outRun + 1, ests := x.ests + 1, estOk := false } ∧ d.mram = s.dev.mram)

/-- Bursts of a port: launch or inhibition, the Halo window, the ledger's charge, proof bursts and dwell requests (R166, R177,
R181, R185 to R189, R294, R497). -/
def Obligations.EmitBursts : Prop :=
  (∀ (s : State) (p : Fin 48) (u : PlanX) (rest : List PlanX) (c : ColumnX) (b : Dev), (s.dev.port p).plan = u :: rest →
    s.dev.column = some c → c.frame = u.frame → c.col = u.col →
    b = (((s.dev.setPort p { s.dev.port p with plan := rest }).advanceTo u.t).portSync p).syncInh p (some u.col) →
    b.mayFire p (some u.col) = true → (b.port p).resumeOn = false → (b.port p).resumeEnd = false → b.resumeDue p = false →
    exec (.burstLaunch p) s = .next (s.after (b.launchColumn p u (u.t * 256 / 32 * 32))))
  ∧ (∀ (s : State) (p : Fin 48) (u : PlanX) (rest : List PlanX) (c : ColumnX) (b : Dev), (s.dev.port p).plan = u :: rest →
    s.dev.column = some c → c.frame = u.frame → c.col = u.col →
    b = (((s.dev.setPort p { s.dev.port p with plan := rest }).advanceTo u.t).portSync p).syncInh p (some u.col) →
    b.mayFire p (some u.col) = false →
    exec (.burstLaunch p) s = .next (s.after ((b.setPort p { b.port p with
      needResume := (b.port p).needResume || !(b.on (F.EMIT_PORT_CFG_EN p)) || !(b.bayUp p) }).inc (F.EMIT_INHIBITED_COUNT p))))
  ∧ (∀ (s : State) (p : Fin 48) (u : PlanX) (rest : List PlanX) (c : ColumnX) (b : Dev), (s.dev.port p).plan = u :: rest →
    s.dev.column = some c → c.frame = u.frame → c.col = u.col →
    b = (((s.dev.setPort p { s.dev.port p with plan := rest }).advanceTo u.t).portSync p).syncInh p (some u.col) →
    b.mayFire p (some u.col) = true → (b.port p).resumeOn = false → (b.port p).resumeEnd = false → b.resumeDue p = true →
    exec (.burstLaunch p) s = .next (s.after ((b.startResume p).inc (F.EMIT_INHIBITED_COUNT p))))
  ∧ (∀ (s : State) (p : Fin 48) (u : BurstX) (b : Dev),
    ((s.dev.port p).bursts.filter (fun u => !u.windowClosed)).getLast? = some u → (s.dev.port p).resumeOn = false →
    b = (s.dev.advanceTo ((u.ref + s.dev.gf (F.CAL_HALO_WIN_CLOSE p) + 255) / 256)).setPort p { s.dev.port p with
      bursts := (s.dev.port p).bursts.map (fun v => if v.ref = u.ref then { v with windowClosed := true } else v),
      lastCounted := some (u.ref / 256, u.seen) } → u.seen = true →
    exec (.haloWindowClose p) s = .next (s.after ((b.sf (F.EMIT_PORT_STATUS_MISSES p) 0).portSync p)))
  ∧ (∀ (s : State) (p : Fin 48) (u : BurstX) (b : Dev),
    ((s.dev.port p).bursts.filter (fun u => !u.windowClosed)).getLast? = some u → (s.dev.port p).resumeOn = false →
    b = (s.dev.advanceTo ((u.ref + s.dev.gf (F.CAL_HALO_WIN_CLOSE p) + 255) / 256)).setPort p { s.dev.port p with
      bursts := (s.dev.port p).bursts.map (fun v => if v.ref = u.ref then { v with windowClosed := true } else v),
      lastCounted := some (u.ref / 256, u.seen) } → u.seen = false → b.gf (F.EMIT_PORT_STATUS_MISSES p) < 7 →
    exec (.haloWindowClose p) s = .next (s.after
      ((b.sf (F.EMIT_PORT_STATUS_MISSES p) (b.gf (F.EMIT_PORT_STATUS_MISSES p) + 1)).portSync p)))
  ∧ (∀ (s : State) (p : Fin 48) (u : BurstX) (b : Dev),
    ((s.dev.port p).bursts.filter (fun u => !u.windowClosed)).getLast? = some u → (s.dev.port p).resumeOn = false →
    b = (s.dev.advanceTo ((u.ref + s.dev.gf (F.CAL_HALO_WIN_CLOSE p) + 255) / 256)).setPort p { s.dev.port p with
      bursts := (s.dev.port p).bursts.map (fun v => if v.ref = u.ref then { v with windowClosed := true } else v),
      lastCounted := some (u.ref / 256, u.seen) } → u.seen = false → b.gf (F.EMIT_PORT_STATUS_MISSES p) = 7 →
    exec (.haloWindowClose p) s = .next (s.after (((b.sf (F.EMIT_PORT_STATUS_MISSES p) 8).latchOpen p).portSync p)))
  ∧ (∀ (s : State) (p : Fin 48) (u : BurstX), ((s.dev.port p).bursts.filter (fun u => !u.charged)).getLast? = some u →
    exec (.ledgerCharge p) s = .next (s.after (
      (s.dev.setPort p { s.dev.port p with
          bursts := (s.dev.port p).bursts.map (fun v => if v.ref = u.ref then { v with charged := true } else v) }).charge p u.pos
        (popcount 8 u.launched * eSub u.current u.width (s.dev.gf (F.NW_ECOEF_COEF p))))))
  ∧ (∀ (s : State) (p : Fin 48) (a d : Dev), s.dev.on F.EMIT_CTRL_PROOF_EN = true → s.dev.on (F.EMIT_PORT_CFG_EN p) = true →
    s.dev.emit.schedEn = true → s.dev.gf F.SCAN_STATUS_STATE = 3 → (s.dev.port p).resumeOn = false →
    a = s.dev.advanceTo (max ((s.dev.port p).lastCountedAt.getD 0) (s.dev.port p).lastProofTry + s.dev.diagInterval / 8) →
    a.proofWaits p = false → d = (a.setPort p { a.port p with lastProofTry := a.now }).syncInh p none →
    d.proofHeadroom p = true → d.mayFire p none = true → d.resumeDue p = false →
    exec (.proofBurst p) s = .next (s.after (d.launchProof p false)))
  ∧ (∀ (s : State) (p : Fin 48) (a d : Dev), s.dev.on F.EMIT_CTRL_PROOF_EN = true → s.dev.on (F.EMIT_PORT_CFG_EN p) = true →
    s.dev.emit.schedEn = true → s.dev.gf F.SCAN_STATUS_STATE = 3 → (s.dev.port p).resumeOn = false →
    a = s.dev.advanceTo (max ((s.dev.port p).lastCountedAt.getD 0) (s.dev.port p).lastProofTry + s.dev.diagInterval / 8) →
    a.proofWaits p = false → d = (a.setPort p { a.port p with lastProofTry := a.now }).syncInh p none →
    d.proofHeadroom p = true → d.mayFire p none = true → d.resumeDue p = true →
    exec (.proofBurst p) s = .next (s.after ((d.startResume p).launchProof p true)))
  ∧ (∀ (s : State) (p : Fin 48) (a d : Dev), s.dev.on F.EMIT_CTRL_PROOF_EN = true → s.dev.on (F.EMIT_PORT_CFG_EN p) = true →
    s.dev.emit.schedEn = true → s.dev.gf F.SCAN_STATUS_STATE = 3 → (s.dev.port p).resumeOn = false →
    a = s.dev.advanceTo (max ((s.dev.port p).lastCountedAt.getD 0) (s.dev.port p).lastProofTry + s.dev.diagInterval / 8) →
    a.proofWaits p = false → d = (a.setPort p { a.port p with lastProofTry := a.now }).syncInh p none →
    d.proofHeadroom p = false → exec (.proofBurst p) s = .next (s.after (d.raise C.EMIT_PROOF_REFUSED p)))
  ∧ (∀ (s : State) (p : Fin 48) (a d : Dev), s.dev.on F.EMIT_CTRL_PROOF_EN = true → s.dev.on (F.EMIT_PORT_CFG_EN p) = true →
    s.dev.emit.schedEn = true → s.dev.gf F.SCAN_STATUS_STATE = 3 → (s.dev.port p).resumeOn = false →
    a = s.dev.advanceTo (max ((s.dev.port p).lastCountedAt.getD 0) (s.dev.port p).lastProofTry + s.dev.diagInterval / 8) →
    a.proofWaits p = false → d = (a.setPort p { a.port p with lastProofTry := a.now }).syncInh p none →
    d.proofHeadroom p = true → d.mayFire p none = false →
    exec (.proofBurst p) s = .next (s.after (d.inc (F.EMIT_INHIBITED_COUNT p))))
  ∧ (∀ (s : State) (p : Fin 48) (a d : Dev), (s.dev.port p).resumeOn = true → s.dev.gf F.SCAN_STATUS_STATE = 3 →
    a = s.dev.advanceTo ((s.dev.port p).lastProofTry + 100000) → a.proofWaits p = false →
    d = (a.setPort p { a.port p with lastProofTry := a.now }).syncInh p none →
    d.proofHeadroom p = true → d.mayFire p none = true →
    exec (.resumeProof p) s = .next (s.after (d.launchProof p true)))
  ∧ (∀ (s : State) (e : Fin 512) (r : Nat × DwellX) (b : Dev), s.dev.emit.dwellFlight.find? (fun d => d.1 == e.val) = some r →
    b = { s.dev with emit := { s.dev.emit with dwellFlight := removeFirst (fun q => q == r) s.dev.emit.dwellFlight } } →
    s.dev.emit.dwellQueue.length < 32 →
    exec (.dwellRequest e) s = .next (s.after { b with emit := { b.emit with dwellQueue := b.emit.dwellQueue ++ [r.2] } }))
  ∧ (∀ (s : State) (e : Fin 512) (r : Nat × DwellX) (b : Dev), s.dev.emit.dwellFlight.find? (fun d => d.1 == e.val) = some r →
    b = { s.dev with emit := { s.dev.emit with dwellFlight := removeFirst (fun q => q == r) s.dev.emit.dwellFlight } } →
    32 ≤ s.dev.emit.dwellQueue.length →
    exec (.dwellRequest e) s = .next (s.after (b.dropDwell e)))

/-- Ports, Starline, the apply pulse, temperatures and the code generator (R173, R186, R190, R193, R194, R196, R197, R199). -/
def Obligations.EmitPorts : Prop :=
  (∀ (s : State) (q : Requester) (mask : BitVec 48), s.dev.takes q .emit →
    exec (.portClear q mask) s = .next (s.after (forN 48 (fun p (d : Dev) =>
      if bit mask.toNat p ∧ (d.port p).latchedOpen = true then
        ((d.setPort p { d.port p with latchedOpen := false, lastCounted := none }).sf (F.EMIT_PORT_STATUS_MISSES p) 0).portSync p
      else d) s.dev)))
  ∧ (∀ (s : State) (p : Fin 48) (t : Nat), (s.dev.port p).lastCounted = some (t, true) → s.dev.gf (F.EMIT_PORT_STATUS_STATE p) = 1 →
    exec (.emitterUnverified p) s = .next (s.after ((s.dev.advanceTo (t + s.dev.diagInterval + 1)).portSync p)))
  ∧ (∀ (s : State) (w : Fin 4) (b : Dev), (s.dev.wire w).busy = true → s.dev.emit.armWait = [] →
    b = (s.dev.advanceTo (s.dev.wire w).doneAt).setWire w { s.dev.wire w with busy := false, staged := (s.dev.wire w).words } → (List.range 4).any (fun w => (b.wire w).busy) = true →
    exec (.starlineTransferDone w) s = .next (s.after b))
  ∧ (∀ (s : State) (w : Fin 4) (b : Dev), (s.dev.wire w).busy = true → s.dev.emit.armWait = [] →
    b = (s.dev.advanceTo (s.dev.wire w).doneAt).setWire w { s.dev.wire w with busy := false, staged := (s.dev.wire w).words } → (List.range 4).any (fun w => (b.wire w).busy) = false → b.emit.again ≠ 0 →
    exec (.starlineTransferDone w) s = .next (s.after (b.startTransfer b.emit.again)))
  ∧ (∀ (s : State) (w : Fin 4) (b : Dev), (s.dev.wire w).busy = true → s.dev.emit.armWait = [] →
    b = (s.dev.advanceTo (s.dev.wire w).doneAt).setWire w { s.dev.wire w with busy := false, staged := (s.dev.wire w).words } → (List.range 4).any (fun w => (b.wire w).busy) = false → b.emit.again = 0 →
    exec (.starlineTransferDone w) s = .next (s.after b.transferEnd))
  ∧ (∀ (s : State) (b : Dev), s.dev.on F.EMIT_STARLINE_STATUS_APPLY_PENDING = true → s.dev.transferring = false → s.dev.frameOver = true →
    s.dev.pulseFits (max s.dev.now s.dev.emit.lastSubEnd) = true → b = s.dev.advanceTo (max s.dev.now s.dev.emit.lastSubEnd) →
    ∃ d, exec .applyPulse s = .next (s.after d) ∧ d.on F.EMIT_STARLINE_STATUS_APPLY_PENDING = false
      ∧ (∀ p, p < 48 → d.gf (F.EMIT_PORT_STATUS_SENT_CODE p) = fget code0 b.emit.stagedCodes p % 65536)
      ∧ d.gf F.EMIT_STARLINE_STATUS_APPLIES = (b.gf F.EMIT_STARLINE_STATUS_APPLIES + 1) % 2^(F.EMIT_STARLINE_STATUS_APPLIES).len
      ∧ d.emit.stagedKind = 0 ∧ d.emit.pulseAt = some b.now ∧ d.now = b.now
      ∧ Out.applyPulse (max s.dev.now s.dev.emit.lastSubEnd) ∈ d.out)
  ∧ (∀ (s : State) (g : Fin 4) (last : Nat) (b : Dev), s.dev.tempSrc g ≠ 255 → bit s.dev.emit.tempDead g = false →
    last = (if fget count0 s.dev.emit.tempAt g = 0 then fget count0 s.dev.emit.tempNamed g else fget count0 s.dev.emit.tempAt g - 1) →
    b = s.dev.advanceTo (last + 1000000000) →
    exec (.tempSourceTimeout g) s = .next (s.after (
      (({ b with emit := { b.emit with tempDead := setBit b.emit.tempDead g true } }.sf (F.EMIT_GROUP_TEMP_VALID g) 0).raise
        C.EMIT_TEMP_INVALID g).derateAll)))
  ∧ (∀ s : State, s.dev.on F.CODE_CODE_STATUS_GEN_BUSY = true →
    ∃ d, exec .codeBankFilled s = .next (s.after d) ∧ d.on F.CODE_CODE_STATUS_GEN_BUSY = false ∧ d.emit.regenAt = none
      ∧ s.dev.regsBut d [R.CODE_CODE_STATUS] ∧ ∃ m e, d = { s.dev with regs := m, emit := e })

/-- The axes: control cycles, half-periods, facets, the encoder's index and the start timeout (R207 to R213, R215, R218, R228, R230,
R231). -/
def Obligations.ScanAxes : Prop :=
  (∀ (s : State) (env : ScanEnv), s.dev.isOn .scan = false → exec (.controlCycle env) s = .next (s.after s.dev))
  ∧ (∀ (s : State) (env : ScanEnv) (a b c : Dev) (fast slow : Int), s.dev.isOn .scan = true → s.dev.on F.SCAN_CTRL_FAST_MODE = false →
    s.dev.on F.SCAN_CTRL_FAST_EN = true → s.dev.senseOk 0 = true → s.dev.senseOk 1 = true →
    fast = sensePos (s.dev.sense 0) (s.dev.gi F.SCAN_SENSE_FAST_OFFSET) (s.dev.gf F.SCAN_SENSE_FAST_GAIN) →
    slow = sensePos (s.dev.sense 1) (s.dev.gi F.SCAN_SENSE_SLOW_OFFSET) (s.dev.gf F.SCAN_SENSE_SLOW_GAIN) →
    a = s.dev.advanceTo ((s.dev.now / 5000 + 1) * 5000) →
    b = { a with scan := { a.scan with fastPos := fast, slowPos := slow } }.slowHeader slow →
    c = ((b.slowLoop slow).2.holdSync slow).driveDacs (b.slowLoop slow).1 →
    exec (.controlCycle env) s = .next (s.after (
      c.supervise fast slow (c.fastModel (c.now - c.gf F.SCAN_SENSE_DELAY_FAST * 100)) (c.slowCmd (c.now - c.gf F.SCAN_SENSE_DELAY_SLOW * 100)).1
        (decide (env.edgeAt + 5000 ≤ c.now) && decide (c.gf F.SCAN_POLY_TARGET_RATE ≠ 0)) false false)))
  ∧ (∀ (s : State) (env : ScanEnv) (a b c : Dev) (slow : Int), s.dev.isOn .scan = true → s.dev.on F.SCAN_CTRL_FAST_MODE = true →
    s.dev.on F.SCAN_CTRL_FAST_EN = true → s.dev.senseOk 1 = true → env.encFault = false →
    slow = sensePos (s.dev.sense 1) (s.dev.gi F.SCAN_SENSE_SLOW_OFFSET) (s.dev.gf F.SCAN_SENSE_SLOW_GAIN) →
    a = (s.dev.advanceTo ((s.dev.now / 5000 + 1) * 5000)).sf F.SCAN_ENC_STATUS_COUNT env.count →
    b = { a with scan := { a.scan with
      fastPos := env.count, slowPos := slow, encCount := env.count, encAt := env.edgeAt, encStep := env.edgeStep } }.slowHeader slow →
    c = ((b.slowLoop slow).2.holdSync slow).driveDacs (b.slowLoop slow).1 →
    exec (.controlCycle env) s = .next (s.after (
      c.supervise env.count slow (c.fastModel (c.now - c.gf F.SCAN_SENSE_DELAY_FAST * 100)) (c.slowCmd (c.now - c.gf F.SCAN_SENSE_DELAY_SLOW * 100)).1
        (decide (env.edgeAt + 5000 ≤ c.now) && decide (c.gf F.SCAN_POLY_TARGET_RATE ≠ 0)) false false)))
  ∧ (∀ (s : State) (amp phase freq err : Int) (b e : Dev), s.dev.fastRuns = true → s.dev.on F.SCAN_CTRL_FAST_MODE = false →
    err = toSigned 16 (ofSigned 16 (phase - (s.dev.gf F.SCAN_FAST_TARGET_PHASE : Nat))) →
    e = (((s.dev.si F.SCAN_FAST_MEAS_FREQ freq).si F.SCAN_FAST_AMP_PHASE_ERR err).sf F.SCAN_FAST_AMP_AMP (min 65535 amp.toNat)).thetaSync →
    b = { e with scan := { e.scan with measAmp := amp, measPhase := ofSigned 16 phase } } → b.scan.sweeping = false → b.scan.rampAt = none →
    exec (.halfPeriod amp phase freq) s = .next (s.after (
      let lo : Int := b.gf F.SCAN_FAST_FREQ_LIM_MIN * 1000
      let hi : Int := b.gf F.SCAN_FAST_FREQ_LIM_MAX * 1000
      let goal : Int := s.dev.gf F.SCAN_FAST_TARGET_AMPLITUDE
      let f := b.scan.freq + b.gi F.SCAN_FAST_GAIN_KF * err / 256
      let v := b.scan.amp + b.gi F.SCAN_FAST_GAIN_KA * (goal - amp) / 256
      let d := { b with scan := { b.scan with freq := max lo (min hi f), amp := max 0 (min 32767 v) } }
      d.lockVerdict (decide ((goal - amp).natAbs ≤ d.gf F.SCAN_FAST_TOL_AMP_TOL) && decide (err.natAbs ≤ d.gf F.SCAN_FAST_TOL_PHASE_TOL)) 64)))
  ∧ (∀ (s : State) (amp phase freq err : Int) (b e : Dev), s.dev.fastRuns = true → s.dev.on F.SCAN_CTRL_FAST_MODE = false →
    err = toSigned 16 (ofSigned 16 (phase - (s.dev.gf F.SCAN_FAST_TARGET_PHASE : Nat))) →
    e = (((s.dev.si F.SCAN_FAST_MEAS_FREQ freq).si F.SCAN_FAST_AMP_PHASE_ERR err).sf F.SCAN_FAST_AMP_AMP (min 65535 amp.toNat)).thetaSync →
    b = { e with scan := { e.scan with measAmp := amp, measPhase := ofSigned 16 phase } } → b.scan.sweeping = true → 4 * amp ≤ (s.dev.gf F.SCAN_FAST_TARGET_AMPLITUDE : Nat) →
    exec (.halfPeriod amp phase freq) s = .next (s.after { b with scan := { b.scan with freq := b.sweepFreq } }))
  ∧ (∀ (s : State) (amp phase freq err : Int) (b e : Dev), s.dev.fastRuns = true → s.dev.on F.SCAN_CTRL_FAST_MODE = false →
    err = toSigned 16 (ofSigned 16 (phase - (s.dev.gf F.SCAN_FAST_TARGET_PHASE : Nat))) →
    e = (((s.dev.si F.SCAN_FAST_MEAS_FREQ freq).si F.SCAN_FAST_AMP_PHASE_ERR err).sf F.SCAN_FAST_AMP_AMP (min 65535 amp.toNat)).thetaSync →
    b = { e with scan := { e.scan with measAmp := amp, measPhase := ofSigned 16 phase } } → b.scan.sweeping = true → ((s.dev.gf F.SCAN_FAST_TARGET_AMPLITUDE : Nat) : Int) < 4 * amp →
    exec (.halfPeriod amp phase freq) s = .next (s.after
      { b with scan := { b.scan with freq := b.sweepFreq, sweeping := false, good := 0, bad := 0 } }))
  ∧ (∀ (s : State) (rate : Nat) (err : Int) (b : Dev), s.dev.fastRuns = true → s.dev.on F.SCAN_CTRL_FAST_MODE = true →
    err = (s.dev.gf F.SCAN_POLY_TARGET_RATE : Int) - rate → b = s.dev.sf F.SCAN_FAST_MEAS_FREQ rate → b.scan.rampAt = none →
    exec (.facetEnd rate) s = .next (s.after (
      let i := s.dev.scan.polyInt + err
      let v := sat16 ((b.gi F.SCAN_FAST_GAIN_KF * err + b.gi F.SCAN_FAST_GAIN_KA * i) / 256)
      let d := { b with scan := { b.scan with polyInt := i, sweeping := false, amp := v } }
      d.lockVerdict (decide (err.natAbs * 1000000 ≤ d.gf F.SCAN_FAST_TOL_AMP_TOL * s.dev.gf F.SCAN_POLY_TARGET_RATE)) 16)))
  ∧ (∀ (s : State) (count : Nat), s.dev.isOn .scan = true → s.dev.on F.SCAN_CTRL_FAST_MODE = true →
    count = s.dev.gf F.SCAN_POLY_CFG_COUNTS * s.dev.gf F.SCAN_POLY_CFG_FACETS →
    exec (.encoderIndex count) s = .next (s.after s.dev))
  ∧ (∀ (s : State) (count : Nat) (d : Dev), s.dev.isOn .scan = true → s.dev.on F.SCAN_CTRL_FAST_MODE = true →
    count ≠ s.dev.gf F.SCAN_POLY_CFG_COUNTS * s.dev.gf F.SCAN_POLY_CFG_FACETS → d = s.dev.inc F.SCAN_ENC_STATUS_ERRORS →
    d.senseChecked = true → exec (.encoderIndex count) s = .next (s.after ((d.raise C.SCAN_SENSE_LOST 0).enterFault 3 false)))
  ∧ (∀ (s : State) (count : Nat) (d : Dev), s.dev.isOn .scan = true → s.dev.on F.SCAN_CTRL_FAST_MODE = true →
    count ≠ s.dev.gf F.SCAN_POLY_CFG_COUNTS * s.dev.gf F.SCAN_POLY_CFG_FACETS → d = s.dev.inc F.SCAN_ENC_STATUS_ERRORS →
    d.senseChecked = false → exec (.encoderIndex count) s = .next (s.after d))
  ∧ (∀ s : State, s.dev.gf F.SCAN_STATUS_STATE = 1 →
    exec .startTimeout s = .next (s.after (((s.dev.advanceTo (s.dev.scan.startAt + s.dev.gf F.SCAN_START_CFG_START_TIMEOUT * 1000000)).raise
      C.SCAN_LOCK_TIMEOUT 0).enterFault 5 false)))

/-- The enables of SCAN.CTRL, CLEAR and the end of a motion (R220, R223, R230, R233, R234). `b` is the block as it stands, read
through its registers. The oscillator starts at its present phase, with a free drive amplitude (logs 2 and 92). -/
def Obligations.ScanEnables : Prop :=
  (∀ (s : State) (q : Requester), s.dev.takes q .scan → s.dev.on F.SCAN_CTRL_FAST_EN = false → s.dev.gf F.SCAN_STATUS_STATE = 0 → ∃ b, s.dev.onlyRegs b ∧ s.dev.regsBut b [] ∧
      exec (.fastEnSet q) s = .next (s.after ((b.sf F.SCAN_CTRL_FAST_EN 1).enterStarting)))
  ∧ (∀ (s : State) (q : Requester), s.dev.takes q .scan → s.dev.on F.SCAN_CTRL_FAST_EN = false → s.dev.gf F.SCAN_STATUS_STATE ≠ 0 → ∃ b, s.dev.onlyRegs b ∧ s.dev.regsBut b [] ∧
      exec (.fastEnSet q) s = .next (s.after (b.sf F.SCAN_CTRL_FAST_EN 1)))
  ∧ (∀ (s : State) (q : Requester), s.dev.takes q .scan → s.dev.on F.SCAN_CTRL_FAST_EN = true →
    s.dev.gf F.SCAN_STATUS_STATE = 1 ∨ s.dev.gf F.SCAN_STATUS_STATE = 2 → ∃ b, s.dev.onlyRegs b ∧ s.dev.regsBut b [] ∧
      exec (.fastEnClear q) s = .next (s.after (((b.sf F.SCAN_CTRL_FAST_EN 0).cancelCross).endColumn s.dev.now).enterStopping))
  ∧ (∀ (s : State) (q : Requester), s.dev.takes q .scan → s.dev.on F.SCAN_CTRL_FAST_EN = true → s.dev.gf F.SCAN_STATUS_STATE = 3 →
    s.dev.openFrame.isNone = true → ∃ b, s.dev.onlyRegs b ∧ s.dev.regsBut b [] ∧
      exec (.fastEnClear q) s = .next (s.after (((b.sf F.SCAN_CTRL_FAST_EN 0).cancelCross).endColumn s.dev.now).enterStopping))
  ∧ (∀ (s : State) (q : Requester), s.dev.takes q .scan → s.dev.on F.SCAN_CTRL_FAST_EN = true → s.dev.gf F.SCAN_STATUS_STATE = 3 →
    s.dev.openFrame.isSome = true → ∃ b, s.dev.onlyRegs b ∧ s.dev.regsBut b [] ∧
      exec (.fastEnClear q) s = .next (s.after (
        let d := ((b.sf F.SCAN_CTRL_FAST_EN 0).cancelCross).endColumn s.dev.now
        { d with scan := { d.scan with noMore := true } })))
  ∧ (∀ (s : State) (q : Requester), s.dev.takes q .scan → s.dev.on F.SCAN_CTRL_FAST_EN = false ∨ s.dev.gf F.SCAN_STATUS_STATE ≠ 0 →
    s.dev.on F.SCAN_CTRL_FRAME_EN = false → s.dev.gf F.SCAN_STATUS_STATE ≠ 3 →
    ∃ d, exec (.frameEnSet q) s = .next (s.after d) ∧ d.on F.SCAN_CTRL_FRAME_EN = true
      ∧ d.scan = { s.dev.scan with enAt := s.dev.now, lastSched := none, syncAt := none }
      ∧ d.on F.SCAN_CTRL_FAST_EN = s.dev.on F.SCAN_CTRL_FAST_EN
      ∧ s.dev.regsBut d [R.SCAN_CTRL] ∧ ∃ m x, d = { s.dev with regs := m, scan := x })
  ∧ (∀ (s : State) (q : Requester), s.dev.takes q .scan → s.dev.on F.SCAN_CTRL_FRAME_EN = false → s.dev.gf F.SCAN_STATUS_STATE = 3 →
    ∃ d, exec (.frameEnSet q) s = .next (s.after d) ∧ d.on F.SCAN_CTRL_FRAME_EN = true
      ∧ d.scan = { s.dev.scan with enAt := s.dev.now } ∧ s.dev.regsBut d [R.SCAN_CTRL] ∧ ∃ m x, d = { s.dev with regs := m, scan := x })
  ∧ (∀ (s : State) (q : Requester), s.dev.takes q .scan → s.dev.on F.SCAN_CTRL_FRAME_EN = true → s.dev.gf F.SCAN_STATUS_STATE = 3 →
    s.dev.openFrame.isNone = true →
    ∃ d, exec (.frameEnClear q) s = .next (s.after d) ∧ d.on F.SCAN_CTRL_FRAME_EN = false ∧ d.gf F.SCAN_STATUS_STATE = 2
      ∧ d.scan = { s.dev.scan with readyAt := s.dev.now, lastSched := none, syncAt := none }
      ∧ s.dev.regsBut d [R.SCAN_CTRL, R.SCAN_STATUS, R.IRQ_STATUS .scan] ∧ ∃ m x, d = { s.dev with regs := m, scan := x })
  ∧ (∀ (s : State) (q : Requester), s.dev.takes q .scan → s.dev.on F.SCAN_CTRL_FRAME_EN = true → s.dev.gf F.SCAN_STATUS_STATE = 3 →
    s.dev.openFrame.isSome = true → ∃ b, s.dev.onlyRegs b ∧ s.dev.regsBut b [] ∧
      exec (.frameEnClear q) s = .next (s.after (b.sf F.SCAN_CTRL_FRAME_EN 0)))
  ∧ (∀ (s : State) (q : Requester), s.dev.takes q .scan → s.dev.gf F.SCAN_STATUS_STATE = 5 → s.dev.on F.SCAN_STATUS_MOTION_BUSY = true → ∃ b, s.dev.onlyRegs b ∧ s.dev.regsBut b [] ∧
      exec (.scanClear q) s = .next (s.after (b.refuse .scan)))
  ∧ (∀ (s : State) (q : Requester), s.dev.takes q .scan → s.dev.gf F.SCAN_STATUS_STATE = 5 → s.dev.on F.SCAN_STATUS_MOTION_BUSY = false →
    s.dev.on F.SCAN_CTRL_FAST_EN = true → ∃ b, s.dev.onlyRegs b ∧ s.dev.regsBut b [] ∧
      exec (.scanClear q) s = .next (s.after b.enterStarting))
  ∧ (∀ (s : State) (q : Requester), s.dev.takes q .scan → s.dev.gf F.SCAN_STATUS_STATE = 5 → s.dev.on F.SCAN_STATUS_MOTION_BUSY = false →
    s.dev.on F.SCAN_CTRL_FAST_EN = false → ∃ b, s.dev.onlyRegs b ∧ s.dev.regsBut b [] ∧
      exec (.scanClear q) s = .next (s.after (
        let d := b.setLocked false
        { d with scan := { d.scan with safe := false, amp := 0, rampAt := none, sweeping := false } }.setScanState 0)))
  ∧ (∀ (s : State) (b : Dev), s.dev.on F.SCAN_STATUS_MOTION_BUSY = true →
    b = (let d := s.dev.advanceTo s.dev.motionEnd
      { d with scan := { d.scan with amp := 0, rampAt := none, parked := true } }.sf F.SCAN_STATUS_MOTION_BUSY 0) →
    s.dev.gf F.SCAN_STATUS_STATE = 4 → s.dev.on F.SCAN_CTRL_FAST_EN = false →
    exec .motionDone s = .next (s.after ((b.setLocked false).setScanState 0)))
  ∧ (∀ (s : State) (b : Dev), s.dev.on F.SCAN_STATUS_MOTION_BUSY = true →
    b = (let d := s.dev.advanceTo s.dev.motionEnd
      { d with scan := { d.scan with amp := 0, rampAt := none, parked := true } }.sf F.SCAN_STATUS_MOTION_BUSY 0) →
    s.dev.gf F.SCAN_STATUS_STATE = 4 → s.dev.on F.SCAN_CTRL_FAST_EN = true →
    exec .motionDone s = .next (s.after ((b.setLocked false).setScanState 0).enterStarting))
  ∧ (∀ (s : State) (b : Dev), s.dev.on F.SCAN_STATUS_MOTION_BUSY = true →
    b = (let d := s.dev.advanceTo s.dev.motionEnd
      { d with scan := { d.scan with amp := 0, rampAt := none, parked := true } }.sf F.SCAN_STATUS_MOTION_BUSY 0) →
    s.dev.gf F.SCAN_STATUS_STATE ≠ 4 → exec .motionDone s = .next (s.after b))

/-- Frame starts and flyback (R217, R220 to R225, R230, R235). -/
def Obligations.ScanFrames : Prop :=
  (∀ (s : State) (f : Nat) (b d : Dev), s.dev.on F.SCAN_CTRL_FRAME_EN = true → s.dev.isOn .scan = true →
    (s.dev.gf F.SCAN_STATUS_STATE = 2 ∨ s.dev.gf F.SCAN_STATUS_STATE = 3) → s.dev.openFrame = none → s.dev.running = true →
    (s.dev.frameSync = true ∧ s.dev.scan.syncAt = some f ∨ s.dev.frameSync = false ∧ f = s.dev.freeStart) → b = s.dev.advanceTo f →
    b.axesReady = true → d = b.startFrame f → exec .frameStart s = .next (s.after { d with scan := { d.scan with
      lastSched := some f, syncAt := none, syncLost := false, src := d.on F.SCAN_CTRL_FRAME_SRC } }))
  ∧ (∀ (s : State) (f : Nat) (b d : Dev), s.dev.on F.SCAN_CTRL_FRAME_EN = true → s.dev.isOn .scan = true →
    (s.dev.gf F.SCAN_STATUS_STATE = 2 ∨ s.dev.gf F.SCAN_STATUS_STATE = 3) → s.dev.openFrame = none → s.dev.running = true →
    (s.dev.frameSync = true ∧ s.dev.scan.syncAt = some f ∨ s.dev.frameSync = false ∧ f = s.dev.freeStart) → b = s.dev.advanceTo f →
    b.axesReady = false → d = (b.inc F.SCAN_SYNC_COUNTS_FRAMES_MISSED).raise C.SCAN_FRAME_DEFERRED → exec .frameStart s = .next (s.after { d with scan := { d.scan with
      lastSched := some f, syncAt := none, syncLost := false, src := d.on F.SCAN_CTRL_FRAME_SRC } }))
  ∧ (∀ (s : State) (t : Nat) (b : Dev), b = s.dev.advanceTo t → b.frameSync = true → b.isOn .scan = true →
    (b.gf F.SCAN_STATUS_STATE = 2 ∨ b.gf F.SCAN_STATUS_STATE = 3) → b.edgeSets t = true →
    exec (.sync0Edge t) s = .next (s.after { b with scan := { b.scan with
      syncAt := some (t + b.gf F.SCAN_SYNC_CFG_DELAY), syncLost := false } }))
  ∧ (∀ (s : State) (t : Nat) (b : Dev), b = s.dev.advanceTo t → b.frameSync = true → b.isOn .scan = true →
    (b.gf F.SCAN_STATUS_STATE = 2 ∨ b.gf F.SCAN_STATUS_STATE = 3) → b.edgeSets t = false →
    exec (.sync0Edge t) s = .next (s.after (b.inc F.SCAN_SYNC_COUNTS_SYNC_EARLY)))
  ∧ (∀ (s : State) (x f : Nat) (b : Dev), s.dev.frameSync = true → s.dev.isOn .scan = true → s.dev.on F.SCAN_CTRL_FRAME_EN = true →
    (s.dev.gf F.SCAN_STATUS_STATE = 2 ∨ s.dev.gf F.SCAN_STATUS_STATE = 3) → s.dev.scan.syncAt = none → s.dev.expected = some x →
    f = x + s.dev.syncWin * 1000 → b = (s.dev.advanceTo f).raise C.SCAN_SYNC_LOST →
    exec .syncWindowExpiry s = .next (s.after { b with scan := { b.scan with syncAt := some f, syncLost := true } }))
  ∧ (∀ (s : State) (checks : List CheckResult) (f : FrameX) (b : Dev), s.dev.openFrame = some f → f.long = false →
    b = (((s.dev.advanceTo (f.start + f.active * 1000)).modFrame f.num (fun x => { x with flyback := true })).sf
      F.SCAN_LAST_FRAME_BEGUN f.nb).sf F.SCAN_LAST_FRAME_SUPPRESSED (min 65535 f.suppressed) → f.columns ≤ f.nb →
    exec (.flyback checks) s = .next (s.after
      (((forN 48 (fun b (d : Dev) => d.waveFlyback b) ((b.event E.SCAN_FLYBACK).flybackChecks checks)).slowReturn.flybackState).scanCloseSync)))
  ∧ (∀ (s : State) (checks : List CheckResult) (f : FrameX) (b : Dev), s.dev.openFrame = some f → f.long = false →
    b = (((s.dev.advanceTo (f.start + f.active * 1000)).modFrame f.num (fun x => { x with flyback := true })).sf
      F.SCAN_LAST_FRAME_BEGUN f.nb).sf F.SCAN_LAST_FRAME_SUPPRESSED (min 65535 f.suppressed) → f.nb < f.columns →
    exec (.flyback checks) s = .next (s.after
      (((forN 48 (fun b (d : Dev) => d.waveFlyback b) (((b.closeShort f).event E.SCAN_FLYBACK).flybackChecks checks)).slowReturn.flybackState).scanCloseSync)))

/-- Columns: their plan, their crossing and their overrun (R177, R178, R214, R215, R223, R225). Crossing times are the fast-axis
model's, rounded up to 1 ns (DESIGN CHOICE, log 92). -/
def Obligations.Columns : Prop :=
  (∀ (s : State) (k : Nat) (dir : Bool) (t dur : Nat) (b : Dev) (f : FrameX), s.dev.scan.cross = none →
    s.dev.nextCrossing k dir s.dev.now = some (t, dur) →
    s.dev.isOn .scan = true → (dir = true → s.dev.bidir = true) → k < s.dev.colsPerLine → b = s.dev.advanceTo (t - 1000) →
    b.openFrame = some f → f.start + 2000 ≤ t → t < f.start + f.active * 1000 → b.scan.noMore = false → b.scan.begun < f.columns →
    exec (.columnPlan k dir () ()) s = .next (s.after { b.planColumn f b.scan.begun t dur with
      scan := { b.scan with cross := some { k := k, rev := dir, t := t, dur := dur, begins := true, frame := f.num, col := b.scan.begun } } }))
  ∧ (∀ (s : State) (k : Nat) (dir : Bool) (t dur : Nat) (b : Dev), s.dev.scan.cross = none →
    s.dev.nextCrossing k dir s.dev.now = some (t, dur) →
    s.dev.isOn .scan = true → (dir = true → s.dev.bidir = true) → k < s.dev.colsPerLine → b = s.dev.advanceTo (t - 1000) →
    b.openFrame = none →
    exec (.columnPlan k dir () ()) s = .next (s.after { b with
      scan := { b.scan with cross := some { k := k, rev := dir, t := t, dur := dur, begins := false, frame := 0, col := 0 } } }))
  ∧ (∀ (s : State) (x : CrossX) (a b : Dev), s.dev.scan.cross = some x → x.begins = true → a = s.dev.advanceTo x.t →
    b = { a with scan := { a.scan with cross := none } } →
    exec (.boundaryCrossing ()) s = .next (s.after ((b.endColumn x.t).beginColumn x)))
  ∧ (∀ (s : State) (x : CrossX) (a b : Dev), s.dev.scan.cross = some x → x.begins = false → a = s.dev.advanceTo x.t →
    b = { a with scan := { a.scan with cross := none } } → (b.endColumn x.t).openFrame = none →
    exec (.boundaryCrossing ()) s = .next (s.after (b.endColumn x.t)))
  ∧ (∀ (s : State) (x : CrossX) (a b : Dev) (f : FrameX), s.dev.scan.cross = some x → x.begins = false → a = s.dev.advanceTo x.t →
    b = { a with scan := { a.scan with cross := none } } → (b.endColumn x.t).openFrame = some f →
    f.columns ≤ (b.endColumn x.t).scan.begun → f.start + 2000 ≤ x.t → x.t < f.start + f.active * 1000 →
    exec (.boundaryCrossing ()) s = .next (s.after ((b.endColumn x.t).suppressCrossing f)))
  ∧ (∀ (s : State) (c : ColumnX), s.dev.column = some c → (∀ x, s.dev.scan.cross = some x → c.start + 2 * c.dur < x.t) →
    exec .columnOverrun s = .next (s.after ((s.dev.advanceTo (c.start + 2 * c.dur)).endColumn (c.start + 2 * c.dur))))

/-- Votes, their thinning, dispatch and the dispatch limit (R27, R188, R242, R246, R260 to R263, R271, R272, R288, R301, R352). -/
def Obligations.Votes : Prop :=
  (∀ (s : State) (bay : Fin 48) (t : Nat) (ev : EvWord) (b : Dev), (s.dev.bay bay).nextEvent = some (t, ev) → ev.type = .edge →
    b = s.dev.setBay bay { s.dev.bay bay with events := removeFirst (· == (t, ev)) (s.dev.bay bay).events, lastCh := ev.ch } → b.votesOf bay ev = [] → b.proofExcluded bay ev.time = false →
    exec (.eventArrival bay) s = .next (s.after ((b.inc (F.BAY_AMBIENT_COUNT bay)).ambient bay ev.ch ev.time)))
  ∧ (∀ (s : State) (bay : Fin 48) (t : Nat) (ev : EvWord) (b : Dev), (s.dev.bay bay).nextEvent = some (t, ev) → ev.type = .edge →
    b = s.dev.setBay bay { s.dev.bay bay with events := removeFirst (· == (t, ev)) (s.dev.bay bay).events, lastCh := ev.ch } → b.votesOf bay ev = [] → b.proofExcluded bay ev.time = true →
    exec (.eventArrival bay) s = .next (s.after b))
  ∧ (∀ (s : State) (bay : Fin 48) (t : Nat) (ev : EvWord) (b d e : Dev) (vs : List VoteX) (cls : Nat), (s.dev.bay bay).nextEvent = some (t, ev) → ev.type = .edge →
    b = s.dev.setBay bay { s.dev.bay bay with events := removeFirst (· == (t, ev)) (s.dev.bay bay).events, lastCh := ev.ch } →
    vs = b.votesOf bay ev → vs ≠ [] → d = b.drainVotes bay → cls = d.eventClass vs →
    e = d.setBay bay { d.bay bay with
      demand := (d.bay bay).demand + vs.length,
      demandAB := if cls = 2 then (d.bay bay).demandAB else (d.bay bay).demandAB + vs.length } →
    e.gf (F.BAY_VOTE_STATUS_LEVEL bay) ≠ 0 → cls = 2 → exec (.eventArrival bay) s = .next (s.after (e.dropEvent bay cls vs)))
  ∧ (∀ (s : State) (bay : Fin 48) (t : Nat) (ev : EvWord) (b d e : Dev) (vs : List VoteX) (cls : Nat), (s.dev.bay bay).nextEvent = some (t, ev) → ev.type = .edge →
    b = s.dev.setBay bay { s.dev.bay bay with events := removeFirst (· == (t, ev)) (s.dev.bay bay).events, lastCh := ev.ch } →
    vs = b.votesOf bay ev → vs ≠ [] → d = b.drainVotes bay → cls = d.eventClass vs →
    e = d.setBay bay { d.bay bay with
      demand := (d.bay bay).demand + vs.length,
      demandAB := if cls = 2 then (d.bay bay).demandAB else (d.bay bay).demandAB + vs.length } →
    e.gf (F.BAY_VOTE_STATUS_LEVEL bay) ≠ 2 → (e.gf (F.BAY_VOTE_STATUS_LEVEL bay) = 0 ∨ cls ≠ 2) →
    e.gf (F.BAY_VOTE_STATUS_QUEUE bay) + vs.length ≤ 4096 →
    exec (.eventArrival bay) s = .next (s.after (e.castVotes bay ev vs)))
  ∧ (∀ (s : State) (bay : Fin 48) (t : Nat) (ev : EvWord) (b d e : Dev) (vs : List VoteX) (cls : Nat), (s.dev.bay bay).nextEvent = some (t, ev) → ev.type = .edge →
    b = s.dev.setBay bay { s.dev.bay bay with events := removeFirst (· == (t, ev)) (s.dev.bay bay).events, lastCh := ev.ch } →
    vs = b.votesOf bay ev → vs ≠ [] → d = b.drainVotes bay → cls = d.eventClass vs →
    e = d.setBay bay { d.bay bay with
      demand := (d.bay bay).demand + vs.length,
      demandAB := if cls = 2 then (d.bay bay).demandAB else (d.bay bay).demandAB + vs.length } →
    e.gf (F.BAY_VOTE_STATUS_LEVEL bay) ≠ 2 → (e.gf (F.BAY_VOTE_STATUS_LEVEL bay) = 0 ∨ cls ≠ 2) →
    4096 < e.gf (F.BAY_VOTE_STATUS_QUEUE bay) + vs.length →
    exec (.eventArrival bay) s = .next (s.after (e.dropEvent bay cls vs)))
  ∧ (∀ (s : State) (bay : Fin 48) (t : Nat) (ev : EvWord) (b d e : Dev) (vs : List VoteX) (cls : Nat), (s.dev.bay bay).nextEvent = some (t, ev) → ev.type = .edge →
    b = s.dev.setBay bay { s.dev.bay bay with events := removeFirst (· == (t, ev)) (s.dev.bay bay).events, lastCh := ev.ch } →
    vs = b.votesOf bay ev → vs ≠ [] → d = b.drainVotes bay → cls = d.eventClass vs →
    e = d.setBay bay { d.bay bay with
      demand := (d.bay bay).demand + vs.length,
      demandAB := if cls = 2 then (d.bay bay).demandAB else (d.bay bay).demandAB + vs.length } →
    e.gf (F.BAY_VOTE_STATUS_LEVEL bay) = 2 → cls ≠ 2 → (e.bay bay).thinAcc + e.gf (F.BAY_VOTE_STATUS_KEEP bay) < 16 →
    exec (.eventArrival bay) s = .next (s.after ((e.setBay bay { e.bay bay with
      thinAcc := (e.bay bay).thinAcc + e.gf (F.BAY_VOTE_STATUS_KEEP bay) }).dropEvent bay cls vs)))
  ∧ (∀ (s : State) (bay : Fin 48) (t : Nat) (ev : EvWord) (b d e : Dev) (vs : List VoteX) (cls : Nat), (s.dev.bay bay).nextEvent = some (t, ev) → ev.type = .edge →
    b = s.dev.setBay bay { s.dev.bay bay with events := removeFirst (· == (t, ev)) (s.dev.bay bay).events, lastCh := ev.ch } →
    vs = b.votesOf bay ev → vs ≠ [] → d = b.drainVotes bay → cls = d.eventClass vs →
    e = d.setBay bay { d.bay bay with
      demand := (d.bay bay).demand + vs.length,
      demandAB := if cls = 2 then (d.bay bay).demandAB else (d.bay bay).demandAB + vs.length } →
    e.gf (F.BAY_VOTE_STATUS_LEVEL bay) = 2 → cls ≠ 2 → 16 ≤ (e.bay bay).thinAcc + e.gf (F.BAY_VOTE_STATUS_KEEP bay) →
    e.gf (F.BAY_VOTE_STATUS_QUEUE bay) + vs.length ≤ 4096 →
    exec (.eventArrival bay) s = .next (s.after ((e.setBay bay { e.bay bay with
      thinAcc := (e.bay bay).thinAcc + e.gf (F.BAY_VOTE_STATUS_KEEP bay) - 16 }).castVotes bay ev vs)))
  ∧ (∀ (s : State) (bay : Fin 48) (t : Nat) (ev : EvWord) (b : Dev), (s.dev.bay bay).nextEvent = some (t, ev) → ev.type = .missed →
    b = s.dev.setBay bay { s.dev.bay bay with events := removeFirst (· == (t, ev)) (s.dev.bay bay).events, lastCh := ev.ch } →
    exec (.eventArrival bay) s = .next (s.after { b with hists := b.hists.map (fun h =>
      if h.2.bay = bay.val ∧ h.2.ch = ev.ch ∧ h.2.st = .granted then (h.1, { h.2 with edgesLost := h.2.edgesLost + ev.tot }) else h) }))
  ∧ (∀ (s : State) (bay : Fin 48) (t : Nat) (ev : EvWord) (b : Dev), (s.dev.bay bay).nextEvent = some (t, ev) → ev.type = .timeout ∨ ev.type = .test →
    b = s.dev.setBay bay { s.dev.bay bay with events := removeFirst (· == (t, ev)) (s.dev.bay bay).events, lastCh := ev.ch } →
    exec (.eventArrival bay) s = .next (s.after b))
  ∧ (∀ (s : State) (bay : Fin 48) (n : Nat) (d : Dev) (l k : Nat) (x : BayX), x = s.dev.bay bay →
    n = (if s.dev.now % 1000 = 0 ∧ x.thinEnd < s.dev.now then s.dev.now else (s.dev.now / 1000 + 1) * 1000) →
    d = (s.dev.advanceTo n).drainVotes bay → d.gf (F.BAY_VOTE_STATUS_LEVEL bay) = 0 → l = 0 → k = 16 →
    voteLevel (d.bay bay).demand (d.bay bay).demandAB = 0 →
    exec (.thinningIntervalEnd bay) s = .next (s.after (((((d.sf (F.BAY_VOTE_DEMAND_DEMAND bay) (min 65535 (d.bay bay).demand)).sf (F.BAY_VOTE_DEMAND_DEMAND_AB bay)
        (min 65535 (d.bay bay).demandAB)).sf (F.BAY_VOTE_STATUS_LEVEL bay) l).sf (F.BAY_VOTE_STATUS_KEEP bay) k).setBay bay
      { d.bay bay with thinEnd := d.now, demand := 0, demandAB := 0 })))
  ∧ (∀ (s : State) (bay : Fin 48) (n : Nat) (d : Dev) (l k : Nat) (x : BayX), x = s.dev.bay bay →
    n = (if s.dev.now % 1000 = 0 ∧ x.thinEnd < s.dev.now then s.dev.now else (s.dev.now / 1000 + 1) * 1000) →
    d = (s.dev.advanceTo n).drainVotes bay → d.gf (F.BAY_VOTE_STATUS_LEVEL bay) = 0 →
    l = voteLevel (d.bay bay).demand (d.bay bay).demandAB → l ≠ 0 →
    k = (if l = 2 then max 1 (16 * 4000 / (d.bay bay).demandAB) else 16) → (d.bay bay).thinFrame ≠ d.gf F.SCAN_FRAME_NUM_FRAME + 1 →
    exec (.thinningIntervalEnd bay) s = .next (s.after (((((((d.sf (F.BAY_VOTE_DEMAND_DEMAND bay) (min 65535 (d.bay bay).demand)).sf (F.BAY_VOTE_DEMAND_DEMAND_AB bay)
        (min 65535 (d.bay bay).demandAB)).sf (F.BAY_VOTE_STATUS_LEVEL bay) l).sf (F.BAY_VOTE_STATUS_KEEP bay) k).setBay bay
      { d.bay bay with
        thinEnd := d.now, demand := 0, demandAB := 0, thinAcc := if l = 2 then 0 else (d.bay bay).thinAcc,
        thinFrame := d.gf F.SCAN_FRAME_NUM_FRAME + 1 }).raise (C.BAY_VOTE_THIN bay)).event (E.BAY_OVERLOAD bay))))
  ∧ (∀ (s : State) (q : Fin 4) (e b : Nat) (d : DescX) (i : Nat), s.dev.nextEngine q = some e → s.dev.nextDesc q = some (b, d) →
    (s.dev.dequeue b d).blockedKernel q d = some i → d.sky = false →
    exec (.dispatch q) s = .next (s.after
      (((s.dev.dequeue b d).raise (C.CLU_KERNEL_BLOCKED (8 * q.val))).histGap d.id 12 i)))
  ∧ (∀ (s : State) (q : Fin 4) (e b : Nat) (d : DescX) (i : Nat), s.dev.nextEngine q = some e → s.dev.nextDesc q = some (b, d) →
    (s.dev.dequeue b d).blockedKernel q d = some i → d.sky = true →
    exec (.dispatch q) s = .next (s.after
      (((s.dev.dequeue b d).raise (C.CLU_KERNEL_BLOCKED (8 * q.val))).endBatch d.id false)))
  ∧ (∀ (s : State) (q : Fin 4) (e b : Nat) (d : DescX) (h : HistX) (c d0 : Dev), s.dev.nextEngine q = some e → s.dev.nextDesc q = some (b, d) →
    (s.dev.dequeue b d).blockedKernel q d = none → d.sky = false →
    c = ((((s.dev.dequeue b d).inc (F.QTR_DISPATCHED_COUNT q)).inc (F.CLU_DISPATCHES_COUNT (cluOf e))).inc
      (F.BAY_HIST_DISPATCHED_COUNT b)).setEngState e 2 → c.hist? d.id = some h →
    d0 = (if (c.chainOf h).all stdKernel then c else c.loseKernelArea (cluOf e)) →
    exec (.dispatch q) s = .next (s.after (
      let r := (d0.modHist d.id (fun h => { h with st := .taken })).startRun d.id h
      r.2.setEng e { r.2.eng e with run := some r.1, mem := memWrite [] 0 (h.descriptor ++ List.replicate 76 0#32) })))
  ∧ (∀ (s : State) (q : Fin 4) (e b : Nat) (d : DescX) (a : AmbBlock) (c : Dev), s.dev.nextEngine q = some e → s.dev.nextDesc q = some (b, d) →
    (s.dev.dequeue b d).blockedKernel q d = none → d.sky = true →
    c = ((((s.dev.dequeue b d).inc (F.QTR_DISPATCHED_COUNT q)).inc (F.CLU_DISPATCHES_COUNT (cluOf e))).inc
      (F.BAY_HIST_DISPATCHED_COUNT b)).setEngState e 2 → c.amb? d.id = some a →
    exec (.dispatch q) s = .next (s.after ((c.modAmb d.id (fun a => { a with st := .taken })).setEng e
      { c.eng e with
                     run := some { sky := true, id := d.id, frame := a.frame, chain := [8], takenAt := c.now },
                     mem := memWrite [] 0 (a.descriptor d.closedAt ++ List.replicate 76 0#32) })))
  ∧ (∀ (s : State) (q : Fin 4) (b : Nat) (d : DescX) (h : HistX) (c : Dev),
    minBy (fun d => d.2.lateAt) ((List.range 12).flatMap (fun l =>
      ((s.dev.bay (12 * q.val + l)).dq ++ (s.dev.bay (12 * q.val + l)).heldDesc).map (fun d => (12 * q.val + l, d)))) = some (b, d) →
    c = s.dev.advanceTo d.lateAt → d.lateAt ≤ c.now → d.sky = false → c.hist? d.id = some h →
    exec (.engineLate q) s = .next (s.after (
      ((((c.inc (F.BAY_ENGINE_LATE_COUNT b)).inc (F.QTR_LATE_COUNT q)).raise (C.BAY_ENGINE_LATE b) h.ch).event (E.QTR_LATE q)).histGap d.id 11
        (min 65535 ((c.tick - d.closedAt) / 256000)))))
  ∧ (∀ (s : State) (q : Fin 4) (b : Nat) (d : DescX) (c : Dev),
    minBy (fun d => d.2.lateAt) ((List.range 12).flatMap (fun l =>
      ((s.dev.bay (12 * q.val + l)).dq ++ (s.dev.bay (12 * q.val + l)).heldDesc).map (fun d => (12 * q.val + l, d)))) = some (b, d) →
    c = s.dev.advanceTo d.lateAt → d.lateAt ≤ c.now → d.sky = true →
    exec (.engineLate q) s = .next (s.after (((c.inc F.SKY_SKY_LATE_COUNT).raise C.SKY_SKY_LATE b).endBatch d.id false)))

/-- The buffer pool and a histogram's life (R249 to R251, R266 to R268, R277, R278). -/
def Obligations.HistPool : Prop :=
  (∀ (s : State) (q : Fin 4) (id : Nat) (h : HistX) (rest : List (Nat × HistX)),
    (∀ e ∈ s.dev.waiting q, s.dev.cycleBefore (s.dev.waitUntil e.2) = true) →
    sortBy (fun (e : Nat × HistX) => e.2.order) (s.dev.waiting q) = (id, h) :: rest →
    s.dev.canShare q h.cls h.need = true → s.dev.burstToCome h = true →
    exec (.poolGrant q) s = .next (s.after (s.dev.grantHist id false true)))
  ∧ (∀ (s : State) (q : Fin 4) (id : Nat) (h : HistX) (rest : List (Nat × HistX)),
    (∀ e ∈ s.dev.waiting q, s.dev.cycleBefore (s.dev.waitUntil e.2) = true) →
    sortBy (fun (e : Nat × HistX) => e.2.order) (s.dev.waiting q) = (id, h) :: rest →
    s.dev.canShare q h.cls h.need = true → s.dev.burstToCome h = false →
    (∀ e ∈ rest.head?, (s.dev.canShare q e.2.cls e.2.need && !(s.dev.burstToCome e.2)) = false) →
    exec (.poolGrant q) s = .next (s.after (s.dev.refuseHists [id])))
  ∧ (∀ (s : State) (q : Fin 4) (id : Nat) (h : HistX) (b : Dev), minBy (fun e => s.dev.waitUntil e.2) (s.dev.waiting q) = some (id, h) →
    b = s.dev.advanceTo (s.dev.waitUntil h) →
    exec (.poolRefusal q) s = .next (s.after (
      b.refuseHists (((b.waiting q).filter (fun e => decide (b.waitUntil e.2 ≤ max (s.dev.waitUntil h) b.now))).map (·.1)))))
  ∧ (∀ (s : State) (bay : Fin 48) (id : Nat) (h g : HistX) (b : Dev),
    minBy (fun e => e.2.closeKey) (s.dev.hists.filter (fun e => e.2.bay == bay.val && e.2.st == .granted)) = some (id, h) →
    b = (s.dev.advanceTo ((h.closeTick + 255) / 256)).lateCaptures id h → b.hist? id = some g →
    (∀ x, g.cross = some x → (b.foreignCount g x).1 = 0) → (g.cross = none → g.launched = 0) →
    exec (.histogramClose bay) s = .next (s.after
      (if g.cross.isSome then b.endHist id else b.histGap id 7 (bits (b.rd (R.EMIT_PORT_STATUS g.bay)) 24 4))))
  ∧ (∀ (s : State) (bay : Fin 48) (id : Nat) (h g : HistX) (b : Dev) (n : Nat × Nat),
    minBy (fun e => e.2.closeKey) (s.dev.hists.filter (fun e => e.2.bay == bay.val && e.2.st == .granted)) = some (id, h) →
    b = (s.dev.advanceTo ((h.closeTick + 255) / 256)).lateCaptures id h → b.hist? id = some g →
    n = (match g.cross with | some x => b.foreignCount g x | none => (g.launched, g.voted)) → n.1 ≠ 0 →
    ∃ d : Dev, exec (.histogramClose bay) s = .next (s.after (d.enqueue g.bay
        { sky := false, id := id, cls := g.cls, closedAt := g.closeTick, enq := b.now,
          lateAt := g.closeTick / 256 + max 1 (b.gf (F.QTR_DISPATCH_LIMIT_LIMIT g.region)) * 1000 }))
      ∧ ∃ f, d = b.modHist id f ∧ ∀ x, (f x).st = .queued ∧ (f x).closedAt = x.closeTick ∧ (f x).launched = n.1
        ∧ (f x).voted = n.2 ∧ (f x).lateGrant = decide (n.2 < n.1))
  ∧ (∀ (s : State) (b : Fin 48) (d : DescX) (rest : List DescX), (s.dev.bay b).heldDesc = d :: rest →
    (s.dev.bay b).dq.length < min 32 (max 1 (s.dev.gf (F.QTR_QUEUE_DEPTH_DEPTH (b.val / 12)))) →
    exec (.descriptorEnqueue b) s = .next (s.after ((s.dev.setBay b { s.dev.bay b with
      dq := (s.dev.bay b).dq ++ [{ d with enq := s.dev.now }], heldDesc := rest }).queueSync b)))
  ∧ (∀ (s : State) (q : Fin 4) (corrections : List Nat) (b : Dev),
    b = s.dev.advanceTo ((s.dev.pool q).scrubAt + s.dev.scrubPeriod q) →
    exec (.scrubPeriodEnd q corrections) s = .next (s.after (forN 33 (fun k (d : Dev) =>
      let n := corrections.getD k 0
      let all := n + fget count0 (b.pool q).found k
      let d := (d.sf (F.POOL_BANK_CE_LAST q k) (min all 65535)).incSat (F.POOL_BANK_CE_TOTAL q k) n
      let d := if n > 0 then d.raise (C.POOL_ECC_CORRECTED q) k else d
      if all > b.gf (F.POOL_ECC_CFG_CE_LIMIT q) then
        ((d.raise (C.POOL_SPARE_NEEDED q) k).event (E.POOL_SPARE_NEEDED q)).wear 3 (33 * q.val + k)
      else d) (b.setPool q { b.pool q with scrubAt := b.now, found := [] }))))
  ∧ (∀ (s : State) (q : Fin 4) (bank : Fin 33) (chunk : Fin 4096), s.dev.on (F.POOL_ECC_STATUS_SPARE_IN_USE q) = true →
    exec (.poolEccError q bank chunk) s = .next (s.after
      ((((s.dev.incSat (F.POOL_ECC_STATUS_UNCORRECTED q)).raise (C.POOL_ECC_UNCORRECTED q) bank).raise
        (C.POOL_POOL_FAULT q) bank).quarantineRegion q)))
  ∧ (∀ (s : State) (q : Fin 4) (bank : Fin 33) (chunk : Fin 4096) (id : Nat) (h : HistX) (b : Dev),
    s.dev.on (F.POOL_ECC_STATUS_SPARE_IN_USE q) = false →
    b = ((((s.dev.raise (C.POOL_ECC_UNCORRECTED q) bank).raise (C.POOL_SPARE_NEEDED q) bank).wear 3 (33 * q.val + bank.val)).event
        (E.POOL_SPARE_NEEDED q)).incSat (F.POOL_ECC_STATUS_UNCORRECTED q) →
    b.hists.find? (fun e => e.2.region == q.val && e.2.chunks.contains chunk.val) = some (id, h) →
    exec (.poolEccError q bank chunk) s = .next (s.after ((b.histGap id 10 bank).dropRuns q)))
  ∧ (∀ (s : State) (q : Fin 4) (bank : Fin 33) (chunk : Fin 4096) (b : Dev),
    s.dev.on (F.POOL_ECC_STATUS_SPARE_IN_USE q) = false →
    b = ((((s.dev.raise (C.POOL_ECC_UNCORRECTED q) bank).raise (C.POOL_SPARE_NEEDED q) bank).wear 3 (33 * q.val + bank.val)).event
        (E.POOL_SPARE_NEEDED q)).incSat (F.POOL_ECC_STATUS_UNCORRECTED q) →
    (∀ e ∈ b.hists, e.2.region = q.val → chunk.val ∉ e.2.chunks) →
    exec (.poolEccError q bank chunk) s = .next (s.after b))

/-- What a chain posts and how it ends (R289, R292 to R296, R320, R339). A post finds the chain at its stage: the stages before it have
run, and of a standard kernel its own work is done. -/
def Obligations.EnginePosts : Prop :=
  (∀ (s : State) (e : Fin 512) (st : Fin 8) (r : RunX) (b : Dev) (w : List Word) (k x : Nat) (xs : List (Nat × Nat)), b = s.dev.atStage e st → b.running? e = some r →
    r.kern.recs = (k, x) :: xs → r.records.length < 4 →
    exec (.postRecord e st w) s = .next (s.after (b.setRunX e { r with records := r.records ++ [x], kern := { r.kern with recs := xs } })))
  ∧ (∀ (s : State) (e : Fin 512) (st : Fin 8) (r : RunX) (b : Dev) (w0 w1 w2 w3 : Word), b = s.dev.atStage e st → b.running? e = some r → r.sky = false → r.kern.recs = [] → r.kern.dwells = [] → r.kern.caps = [] → r.stage = st.val → st.val < r.chain.length → r.records.length < 4 →
    exec (.postRecord e st [w0, w1, w2, w3]) s = .next (s.after (b.setRunX e { r with
      records := r.records ++ [w0.toNat + w1.toNat * 2^32 + w2.toNat * 2^64 + w3.toNat * 2^96] })))
  ∧ (∀ (s : State) (e : Fin 512) (st : Fin 8) (r : RunX) (b : Dev) (w : List Word), b = s.dev.atStage e st → b.running? e = some r → r.sky = false → r.kern.recs = [] → r.kern.dwells = [] → r.kern.caps = [] → r.stage = st.val → st.val < r.chain.length → 4 ≤ r.records.length →
    exec (.postRecord e st w) s = .next (s.after (b.trap e 4 st)))
  ∧ (∀ (s : State) (e : Fin 512) (st : Fin 8) (r : RunX) (b : Dev) (w : List Word) (k x : Nat) (xs : List (Nat × Nat)), b = s.dev.atStage e st → b.running? e = some r →
    r.kern.recs = (k, x) :: xs → 4 ≤ r.records.length →
    exec (.postRecord e st w) s = .next (s.after (b.trap e 4 k)))
  ∧ (∀ (s : State) (e : Fin 512) (st : Fin 8) (r : RunX) (b : Dev) (w0 w1 : Word) (x y : Nat) (xs : List (Nat × Nat)), b = s.dev.atStage e st → b.running? e = some r → r.kern.dwells = (x, y) :: xs →
    exec (.postDwell ⟨e, st⟩ w0 w1) s = .next (s.after (b.dwellPost e { r with kern := { r.kern with dwells := xs } } x y)))
  ∧ (∀ (s : State) (e : Fin 512) (st : Fin 8) (r : RunX) (b : Dev) (w0 w1 : Word), b = s.dev.atStage e st → b.running? e = some r → r.sky = false → r.kern.recs = [] → r.kern.dwells = [] → r.kern.caps = [] → r.stage = st.val → st.val < r.chain.length →
    exec (.postDwell ⟨e, st⟩ w0 w1) s = .next (s.after (b.dwellPost e r w0.toNat w1.toNat)))
  ∧ (∀ (s : State) (e : Fin 512) (st : Fin 8) (r : RunX) (b : Dev) (w : List Word) (c : List Nat) (cs : List (List Nat)), b = s.dev.atStage e st → b.running? e = some r → r.kern.caps = c :: cs →
    exec (.postCapture ⟨e, st⟩ w) s = .next (s.after (b.capPost e { r with kern := { r.kern with caps := cs } } c)))
  ∧ (∀ (s : State) (e : Fin 512) (st : Fin 8) (r : RunX) (b : Dev) (w : List Word), b = s.dev.atStage e st → b.running? e = some r → r.sky = false → r.kern.recs = [] → r.kern.dwells = [] → r.kern.caps = [] → r.stage = st.val → st.val < r.chain.length →
    exec (.postCapture ⟨e, st⟩ w) s = .next (s.after (b.capPost e r (w.map (·.toNat)))))
  ∧ (∀ (s : State) (e : Fin 512) (st : Fin 8) (r : RunX) (b : Dev), b = s.dev.atStage e st → b.running? e = some r → r.consumed = false → r.sky = false →
    exec (.postConsumed ⟨e, st⟩) s = .next (s.after ((b.setRunX e { r with consumed := true }).consume r.id)))
  ∧ (∀ (s : State) (e : Fin 512) (st : Fin 8) (r : RunX) (b : Dev), b = s.dev.atStage e st → b.running? e = some r → r.consumed = true → exec (.postConsumed ⟨e, st⟩) s = .next (s.after b))
  ∧ (∀ (s : State) (e : Fin 512) (st : Fin 8) (r : RunX) (b : Dev) (val : Word), s.dev.running? e = some r → b = (s.dev.runTo e st).postRest e →
    exec (.postAssert e st val) s = .next (s.after
      ((b.trap e 3 st).sf (F.CLU_ENG_STATUS_ASSERT (e.val / 16) (e.val % 16)) (val.toNat % 65536))))
  ∧ (∀ (s : State) (e : Fin 512) (r : RunX) (cycles : Nat), s.dev.running? e = some r →
    cycles < max 1000 (s.dev.gf (F.CLU_CYCLE_LIMIT_LIMIT (e.val / 16))) →
    exec (.chainEnd e cycles) s = .next (s.after (((s.dev.runTo e 8).postRest e).finishRun e cycles)))

/-- Traps, blocked kernels, engines' release and self-test, statistics and BAR2 (R286, R289, R290, R296 to R303, R321). -/
def Obligations.EngineTraps : Prop :=
  (∀ (s : State) (e : Fin 512) (st : Fin 8) (cause : Fin 7) (r : RunX) (kid : Nat) (b c d : Dev), b = (s.dev.runTo e st).postRest e →
    b.running? e = some r → r.sky = false → kid = r.chain.getD st 0 →
    c = (b.countCycles (cluOf e) (if cause.val = 2 then b.cycleLim (cluOf e) else b.elapsedCycles r)).trapLog e cause st kid →
    d = (((c.endRun e ((c.eng e).trapMem st)).setEngState e 3).histGap r.id 2 e) → 5 ≤ cause.val →
    exec (.kernelTrap e st cause) s = .next (s.after ((d.setEng e { d.eng e with hw := true }).wear 2 e)))
  ∧ (∀ (s : State) (e : Fin 512) (st : Fin 8) (cause : Fin 7) (r : RunX) (kid : Nat) (b c d : Dev), b = (s.dev.runTo e st).postRest e →
    b.running? e = some r → r.sky = false → kid = r.chain.getD st 0 →
    c = (b.countCycles (cluOf e) (if cause.val = 2 then b.cycleLim (cluOf e) else b.elapsedCycles r)).trapLog e cause st kid →
    d = (((c.endRun e ((c.eng e).trapMem st)).setEngState e 3).histGap r.id 2 e) → cause.val < 5 → (d.countTrap e kid).on (F.CLU_CTRL_AUTO_RELEASE (e.val / 16)) = false →
    exec (.kernelTrap e st cause) s = .next (s.after (d.countTrap e kid)))
  ∧ (∀ (s : State) (e : Fin 512) (st : Fin 8) (cause : Fin 7) (r : RunX) (kid : Nat) (b c d : Dev), b = (s.dev.runTo e st).postRest e →
    b.running? e = some r → r.sky = false → kid = r.chain.getD st 0 →
    c = (b.countCycles (cluOf e) (if cause.val = 2 then b.cycleLim (cluOf e) else b.elapsedCycles r)).trapLog e cause st kid →
    d = (((c.endRun e ((c.eng e).trapMem st)).setEngState e 3).histGap r.id 2 e) → cause.val < 5 → (d.countTrap e kid).on (F.CLU_CTRL_AUTO_RELEASE (e.val / 16)) = true →
    exec (.kernelTrap e st cause) s = .next (s.after ((d.countTrap e kid).setEngState e 4)))
  ∧ (∀ (s : State) (e : Fin 512) (st : Fin 8) (r : RunX) (b : Dev), s.dev.running? e = some r →
    b = s.dev.advanceTo (r.takenAt + s.dev.cyclesNs (max 1000 (s.dev.gf (F.CLU_CYCLE_LIMIT_LIMIT (e.val / 16))))) →
    exec (.cycleLimit e st) s = .next (s.after (((b.runTo e st).postRest e).trap e 2 st)))
  ∧ (∀ (s : State) (q : Fin 4) (req : Requester) (id : BitVec 8), s.dev.takes req (.clu (s.dev.regionPage q)) → id ≠ 0#8 →
    exec (.kunblock q req id) s = .next (s.after ((s.dev.setRegion q { s.dev.region q with
      blocked := (s.dev.region q).blocked.filter (· != id.toNat) }).blockSync q)))
  ∧ (∀ (s : State) (q : Fin 4) (req : Requester), s.dev.takes req (.clu (s.dev.regionPage q)) →
    exec (.kunblock q req 0#8) s = .next (s.after ((s.dev.setRegion q { s.dev.region q with blocked := [] }).blockSync q)))
  ∧ (∀ (s : State) (k : Fin 32) (req : Requester) (mask : BitVec 16), s.dev.takes req (.clu k) →
    exec (.engRelease k req mask) s = .next (s.after (forN 16 (fun l (d : Dev) =>
      if bit mask.toNat l ∧ d.engState (16 * k.val + l) = 3 then d.setEngState (16 * k.val + l) 4 else d) s.dev)))
  ∧ (∀ (s : State) (e : Fin 512), s.dev.engState e = 5 →
    exec (.engineSelfTestDone e true) s = .next (s.after
      (((s.dev.setEng e { s.dev.eng e with hw := false }).setEngState e 1).event (E.CLU_RELEASE_DONE (e.val / 16)))))
  ∧ (∀ (s : State) (e : Fin 512), s.dev.engState e = 5 →
    exec (.engineSelfTestDone e false) s = .next (s.after
      ((((s.dev.setEngState e 3).sf (F.CLU_ENG_STATUS_CAUSE (e.val / 16) (e.val % 16)) 7).raise (C.CLU_SELF_TEST_FAIL (e.val / 16)) (e.val % 16)).wear
        2 e)))
  ∧ (∀ (s : State) (k : Fin 32) (req : Requester), s.dev.takes req (.clu k) →
    ∃ b d, s.dev.onlyRegs b ∧ s.dev.regsBut b []
    ∧ exec (.statsClear k req) s = .next (s.after ((d.engineSync (k.val / 8)).autoRelease k))
    ∧ (∀ r ∈ [R.CLU_CYCLES_MAX k, R.CLU_DISPATCHES k, R.CLU_TRAPS k, R.CLU_DWELL_POSTED k, R.CLU_DWELL_DROPPED k, R.CLU_CAPTURE_POSTED k,
        R.CLU_SHARED_ECC k], d.rd r = 0#32)
    ∧ b.regsBut d [R.CLU_CYCLES_MAX k, R.CLU_DISPATCHES k, R.CLU_TRAPS k, R.CLU_DWELL_POSTED k, R.CLU_DWELL_DROPPED k,
        R.CLU_CAPTURE_POSTED k, R.CLU_SHARED_ECC k] ∧ b.onlyRegs d)
  ∧ (∀ (s : State) (k : Fin 32) (off : BitVec 26) (i : Nat) (w : Word), off.toNat = k.val * 0x200000 + 4 * i → i < 0x10000 →
    s.dev.run (.clu k) = rHeld → s.dev.on F.SEC_STATUS_BAR2_CLOSED = false →
    exec (.bar2Access off (some w)) s = .next (s.after (s.dev.setClu k { s.dev.clu k with mem := fset mem0 (s.dev.clu k).mem i (some w) })))
  ∧ (∀ (s : State) (k : Fin 32) (off : BitVec 26) (i : Nat) (w : Word), off.toNat = k.val * 0x200000 + 4 * i → i < 0x10000 →
    s.dev.run (.clu k) = rHeld → s.dev.on F.SEC_STATUS_BAR2_CLOSED = false → fget mem0 (s.dev.clu k).mem i = some w →
    exec (.bar2Access off none) s = .next (s.after ((s.dev.send (.value .pcie w)).setClu k (s.dev.clu k))))
  ∧ (∀ (s : State) (off : BitVec 26), s.dev.on F.SEC_STATUS_BAR2_CLOSED = true →
    exec (.bar2Access off none) s = .next (s.after ((s.dev.refuse (.clu (off.toNat / 0x200000))).send (.value .pcie 0xFFFFFFFF#32))))
  ∧ (∀ (s : State) (off : BitVec 26) (w : Word), s.dev.on F.SEC_STATUS_BAR2_CLOSED = true →
    exec (.bar2Access off (some w)) s = .next (s.after (s.dev.refuse (.clu (off.toNat / 0x200000)))))

/-- A capture from its request to its delivery (R325, R331, R332, R336 to R341, R393). A capture stands in its histogram from its shot
on, and idle captures come 2 us apart (log 96). -/
def Obligations.WaveCaptures : Prop :=
  (∀ (s : State) (bay : Fin 48) (samples : List Int) (c : CaptureX) (rest : List CaptureX) (code : Nat → Int) (vs : List Int) (n : Nat) (a b : Dev),
    (s.dev.wave bay).inFlight = c :: rest → c.lost = false →
    code = (fun i => max (-512) (min 511 (samples.getD i 0))) → a = s.dev.advanceTo ((c.gEnd + 4) / 5) →
    vs = (List.range c.len).map (fun i =>
      let x := a.slice bay (a.phaseSlice bay ((c.g0 + i) % 4))
      stored (if x.valid then x.force else {}) (code i)) →
    n = ((List.range c.len).filter (fun i => code i == -512 || code i == 511)).length →
    b = ((a.setWave bay { s.dev.wave bay with inFlight := rest }).inc (F.BAY_OVERRANGE_COUNT bay) n).inc (F.BAY_CAPTURES_COUNT bay) →
    c.source = srcHalo → exec (.captureWritten bay samples) s = .next (s.after
      ((b.wr (R.BAY_WAVE_HALO bay) (BitVec.ofNat 32 (ofSigned 16 (peakOf vs).2 * 65536 + (peakOf vs).1))).freeChunks bay c.cls
        c.floorServed c.chunks)))
  ∧ (∀ (s : State) (bay : Fin 48) (samples : List Int) (c : CaptureX) (rest : List CaptureX) (code : Nat → Int) (vs : List Int) (n : Nat) (a b : Dev),
    (s.dev.wave bay).inFlight = c :: rest → c.lost = false →
    code = (fun i => max (-512) (min 511 (samples.getD i 0))) → a = s.dev.advanceTo ((c.gEnd + 4) / 5) →
    vs = (List.range c.len).map (fun i =>
      let x := a.slice bay (a.phaseSlice bay ((c.g0 + i) % 4))
      stored (if x.valid then x.force else {}) (code i)) →
    n = ((List.range c.len).filter (fun i => code i == -512 || code i == 511)).length →
    b = ((a.setWave bay { s.dev.wave bay with inFlight := rest }).inc (F.BAY_OVERRANGE_COUNT bay) n).inc (F.BAY_CAPTURES_COUNT bay) →
    c.source = srcHost → exec (.captureWritten bay samples) s = .next (s.after
      (b.setWave bay { b.wave bay with hostCap := some { c with samples := vs, overrange := min 65535 n, written := true } })))
  ∧ (∀ (s : State) (bay : Fin 48) (samples : List Int) (c : CaptureX) (rest : List CaptureX) (code : Nat → Int) (vs : List Int) (n : Nat) (a b : Dev),
    (s.dev.wave bay).inFlight = c :: rest → c.lost = false →
    code = (fun i => max (-512) (min 511 (samples.getD i 0))) → a = s.dev.advanceTo ((c.gEnd + 4) / 5) →
    vs = (List.range c.len).map (fun i =>
      let x := a.slice bay (a.phaseSlice bay ((c.g0 + i) % 4))
      stored (if x.valid then x.force else {}) (code i)) →
    n = ((List.range c.len).filter (fun i => code i == -512 || code i == 511)).length →
    b = ((a.setWave bay { s.dev.wave bay with inFlight := rest }).inc (F.BAY_OVERRANGE_COUNT bay) n).inc (F.BAY_CAPTURES_COUNT bay) →
    c.source = srcCal → exec (.captureWritten bay samples) s = .next (s.after
      ((b.setWave bay { b.wave bay with calCaps := (b.wave bay).calCaps + 1 }).freeChunks bay c.cls c.floorServed c.chunks)))
  ∧ (∀ (s : State) (bay : Fin 48) (samples : List Int) (c : CaptureX) (rest : List CaptureX) (code : Nat → Int) (vs : List Int) (n : Nat) (a b : Dev),
    (s.dev.wave bay).inFlight = c :: rest → c.lost = false →
    code = (fun i => max (-512) (min 511 (samples.getD i 0))) → a = s.dev.advanceTo ((c.gEnd + 4) / 5) →
    vs = (List.range c.len).map (fun i =>
      let x := a.slice bay (a.phaseSlice bay ((c.g0 + i) % 4))
      stored (if x.valid then x.force else {}) (code i)) →
    n = ((List.range c.len).filter (fun i => code i == -512 || code i == 511)).length →
    b = ((a.setWave bay { s.dev.wave bay with inFlight := rest }).inc (F.BAY_OVERRANGE_COUNT bay) n).inc (F.BAY_CAPTURES_COUNT bay) →
    c.source = srcRotation ∨ c.source = srcEngine → exec (.captureWritten bay samples) s = .next (s.after
      (b.fillCapture bay { c with samples := vs, overrange := min 65535 n, written := true })))
  ∧ (∀ (s : State) (bay : Fin 48) (b : Dev), s.dev.waveState bay = 2 → s.dev.on (F.BAY_WAVE_STATUS_CAL_BUSY bay) = true →
    (s.dev.wave bay).inFlight = [] → b = s.dev.advanceTo ((s.dev.wave bay).calAt + 2000) →
    exec (.calIdleCapture bay) s = .next (s.after (b.takeCapture bay { source := srcCal, ch := 0, start := 0, len := 2048 } b.tick
      (b.gf F.SCAN_FRAME_NUM_FRAME) 0 0 2).2))
  ∧ (∀ (s : State) (bay : Fin 48) (q : Requester) (data : Word), s.dev.takes q (.bay bay) → s.dev.waveState bay = 2 →
    (s.dev.wave bay).hostBusy = true → exec (.waveHostGo bay q data) s = .next (s.after (s.dev.refuse (.bay bay))))
  ∧ (∀ (s : State) (bay : Fin 48) (q : Requester) (data : Word), s.dev.takes q (.bay bay) → s.dev.waveState bay = 2 →
    s.dev.streamState ≠ 1 → exec (.waveHostGo bay q data) s = .next (s.after (s.dev.refuse (.bay bay))))
  ∧ (∀ (s : State) (bay : Fin 48) (q : Requester) (data : Word) (c : CaptureX) (b : Dev), s.dev.takes q (.bay bay) →
    s.dev.waveState bay = 2 → (s.dev.wave bay).hostBusy = false → s.dev.streamState = 1 → (s.dev.wave bay).urgent.length < 4 →
    s.dev.chActive bay (bits data 27 3) = true → bits data 30 1 = 0 →
    b = (s.dev.sf (F.BAY_WAVE_HOST_REQ1_CH bay) (bits data 27 3)).sf (F.BAY_WAVE_HOST_REQ1_LEN bay) (bits data 0 11) →
    c = { source := srcHost, ch := bits data 27 3, start := s.dev.gf (F.BAY_WAVE_HOST_REQ0_START bay), len := bits data 0 11 + 1, arrived := s.dev.now } →
    exec (.waveHostGo bay q data) s = .next (s.after
      (b.setWave bay { s.dev.wave bay with urgent := (s.dev.wave bay).urgent ++ [c] })))
  ∧ (∀ (s : State) (bay : Fin 48) (c : CaptureX) (ps : List (Nat × List Nat)) (total : Nat), (s.dev.wave bay).hostCap = some c →
    ps = s.dev.hostSlices bay c → total = ps.foldl (fun n p => n + p.2.length) 0 →
    s.dev.stream.hasRoom kSnapshot (ps.foldl (fun n p => n + 32 + (p.2.length + 15) / 16 * 16) 0) = true →
    exec (.hostCaptureDelivered bay) s = .next (s.after (
      let d := ps.foldl (fun (d : Dev) p =>
        d.emit_ kSnapshot srcChip false (d.gf F.SCAN_FRAME_NUM_FRAME) (snapPayload 2 15 p.1 total p.2)) s.dev
      let d := (d.freeChunks bay c.cls c.floorServed c.chunks).setWave bay { d.wave bay with hostCap := none }
      (d.sf (F.BAY_WAVE_HOST_REQ1_HOST_DONE bay) 1).event (E.BAY_HOST_DONE bay))))
  ∧ (∀ (s : State) (bay : Fin 48) (c : CaptureX) (ps : List (Nat × List Nat)), (s.dev.wave bay).hostCap = some c →
    ps = s.dev.hostSlices bay c →
    s.dev.stream.hasRoom kSnapshot (ps.foldl (fun n p => n + 32 + (p.2.length + 15) / 16 * 16) 0) = false →
    exec (.hostCaptureDelivered bay) s = .next (s.after s.dev))

/-- The digitiser's own power (R344 to R346). -/
def Obligations.WavePower : Prop :=
  (∀ (s : State) (bay : Fin 48) (q : Requester), s.dev.takes q (.bay bay) → s.dev.waveState bay = 2 →
    s.dev.on (F.BAY_WAVE_CTRL_EN bay) = true → (s.dev.wave bay).held = [] → ∃ b, s.dev.onlyRegs b ∧ s.dev.regsBut b [] ∧
    exec (.waveDisable bay q) s = .next (s.after (
      let d := b.sf (F.BAY_WAVE_CTRL_EN bay) 0
      (((d.setWave bay { d.wave bay with urgent := [], offPend := false }).inc (F.BAY_URGENT_DROPPED_COUNT bay)
        (s.dev.wave bay).urgent.length).setWaveState bay 3).pointerSync bay)))
  ∧ (∀ (s : State) (bay : Fin 48) (q : Requester), s.dev.takes q (.bay bay) → s.dev.waveState bay = 0 →
    s.dev.run (.bay bay) ≠ rPaused → s.dev.on (F.BAY_WAVE_CTRL_EN bay) = false → ∃ w, bits w 0 1 = 1 ∧
    exec (.waveEnable bay q) s = .next (s.after
      (((s.dev.sf (F.BAY_WAVE_CTRL_EN bay) 1).setWaveState bay 1).holdWave bay 0x300 w q)))
  ∧ (∀ (s : State) (bay : Fin 48), s.dev.waveState bay = 3 → (s.dev.wave bay).inFlight = [] →
    s.dev.on (F.BAY_WAVE_STATUS_REENABLE_PENDING bay) = false →
    exec (.waveDrainComplete bay) s = .next (s.after ((s.dev.sf (F.BAY_WAVE_STATUS_REENABLE_PENDING bay) 0).setWaveState bay 0)))
  ∧ (∀ (s : State) (bay : Fin 48), s.dev.waveState bay = 3 → (s.dev.wave bay).inFlight = [] →
    s.dev.on (F.BAY_WAVE_STATUS_REENABLE_PENDING bay) = true →
    exec (.waveDrainComplete bay) s = .next (s.after ((s.dev.sf (F.BAY_WAVE_STATUS_REENABLE_PENDING bay) 0).setWaveState bay 1)))
  ∧ (∀ (s : State) (bay : Fin 48) (w : WaveX), s.dev.waveState bay = 1 → w = s.dev.wave bay → w.offPend = false →
    exec (.waveWakeComplete bay) s = .next (s.after (
      let d := ((s.dev.setWave bay { w with held := [] }).setWaveState bay 2).sf (F.BAY_WAVE_STATUS_HELD_WRITES bay) 0
      let d := (w.held.foldl (fun (d : Dev) e => d.applyWaveHeld bay e) d).restartEst bay
      (d.pointerSync bay).uncorrected bay [0, 1, 2, 3])))

/-- Publication, exposure commits, blocks and the close of frames (R359, R364, R365, R374, R383, R395, R396). -/
def Obligations.SkyFrames : Prop :=
  (∀ (s : State) (f : FrameX), s.dev.frames.find? (fun f => Dev.unpublished f && s.dev.skyDone f) = some f →
    exec .statsPublish s = .next (s.after ((s.dev.publishStats f).autoExpo)))
  ∧ (∀ (s : State) (q : Requester) (mine : List Page), s.dev.takes q .sky → mine = expoPages.filter (fun g => s.dev.holdsSet g q) →
    (∀ g ∈ mine, s.dev.gf (F.SHADOW_CTRL_MODE g) ≠ 2) → mine ≠ [] →
    (Page.emit ∈ mine → s.dev.on F.EMIT_STARLINE_STATUS_PRELOAD_BUSY = false) →
    exec (.expoCommit q) s = .next (s.after (mine.foldl (fun (d : Dev) g => d.latchOpen_ g) { s.dev with commitNo := s.dev.commitNo + 1 })))
  ∧ (∀ (s : State) (source : Fin 5) (frame : Nat) (b : BlockX),
    s.dev.stream.blocks.find? (fun b => b.source == source.val && b.frame == frame) = some b →
    exec (.blockFlushTimeout source frame) s = .next (s.after
      ((s.dev.advanceTo (b.firstAt + max 1 (s.dev.gf F.STREAM_FLUSH_US) * 1000)).closeBlock source.val frame)))
  ∧ (∀ (s : State) (f : FrameX), s.dev.frames.find? (fun f => !f.closed) = some f → s.dev.frameDone f = true →
    exec .frameClose s = .next (s.after (s.dev.closeFrame f.num false)))
  ∧ (∀ (s : State) (f g : FrameX) (b c : Dev), s.dev.frames.find? (fun f => !f.closed) = some f → f.scanClosed = true →
    b = s.dev.advanceTo (s.dev.closeDeadline f) →
    c = (b.ambs.filter (fun a => a.2.frame == f.num)).foldl (fun (d : Dev) a => d.endBatch a.1 false) b → c.frame? f.num = some g →
    Dev.unpublished g = false → (∀ h ∈ c.hists, h.2.frame ≠ f.num) →
    exec .frameCloseDeadline s = .next (s.after
      ((c.closeFrame f.num (!(c.frameDone { f with skyPublished := true }))).quietDeadline)))
  ∧ (∀ (s : State) (f g : FrameX) (b c : Dev), s.dev.frames.find? (fun f => !f.closed) = some f → f.scanClosed = true →
    b = s.dev.advanceTo (s.dev.closeDeadline f) →
    c = (b.ambs.filter (fun a => a.2.frame == f.num)).foldl (fun (d : Dev) a => d.endBatch a.1 false) b → c.frame? f.num = some g →
    Dev.unpublished g = false → (∃ h ∈ c.hists, h.2.frame = f.num) →
    exec .frameCloseDeadline s = .next (s.after (
      let d := c.raise C.STREAM_DEADLINE_CLOSE srcChip
      (d.closeFrame f.num (!(d.frameDone { f with skyPublished := true }))).quietDeadline)))
  ∧ (∀ (s : State) (f g : FrameX) (b c d : Dev), s.dev.frames.find? (fun f => !f.closed) = some f → f.scanClosed = true →
    b = s.dev.advanceTo (s.dev.closeDeadline f) →
    c = (b.ambs.filter (fun a => a.2.frame == f.num)).foldl (fun (d : Dev) a => d.endBatch a.1 false) b → c.frame? f.num = some g →
    Dev.unpublished g = true → d = (c.publishStats g).autoExpo → (∀ h ∈ d.hists, h.2.frame ≠ f.num) →
    exec .frameCloseDeadline s = .next (s.after
      ((d.closeFrame f.num (!(d.frameDone { f with skyPublished := true }))).quietDeadline)))
  ∧ (∀ (s : State) (x : SignX) (p d sig : Nat) (rest : List SignX) (text : List Nat), s.dev.stream.signPend = x :: rest →
    p = (if x.start then 0 else s.dev.stream.chainP) →
    text = bytesBE 2 s.dev.unit ++ bytesBE 4 x.frame ++ bytesBE 32 p ++ bytesBE 32 x.hash → d = Config.sha256 text % 2^256 →
    sig = Config.sign (Config.frameKey x.key) d % 2^512 →
    exec .signatureEmit s = .next (s.after
      (((s.dev.setStream { s.dev.stream with signPend := rest, chainP := d }).emit_ kSignature srcChip false x.frame
        ([BitVec.ofNat 32 x.frame, BitVec.ofNat 32 (b2n x.start * 65536 + s.dev.unit), BitVec.ofNat 32 x.key, 0#32]
          ++ [p, x.hash, sig / 2^256, sig].flatMap (fun v =>
            (toWords 8 (v % 2^256)).reverse.flatMap (fun w => packBytes (wordBytes w).reverse)))).inc F.STREAM_FRAMES_SIGNED_COUNT)))

/-- Stream fences, enabling and stopping, the host ring and datagrams (R340, R392, R398 to R400). A fence or a read pointer is taken
as logs 20 and 21 say. -/
def Obligations.StreamFlow : Prop :=
  (∀ (s : State) (q : Requester) (token : BitVec 16) (fe : SFence), s.dev.takes q .stream → s.dev.streamState ≠ 0 →
    (s.dev.req q).sFences.length < 4 → fe.token = token.toNat → fe.frame = s.dev.gf F.SCAN_FRAME_NUM_FRAME →
    fe.col = s.dev.column.map (·.col) → fe.begun = ((s.dev.frame? fe.frame).map (·.nb)).getD 0 →
    exec (.streamFence q token) s = .next (s.after
      ((s.dev.setReq q { s.dev.req q with sFences := (s.dev.req q).sFences ++ [fe] }).sfQ q F.STREAM_FENCE_DONE_BUSY 1)))
  ∧ (∀ (s : State) (q : Requester) (token : BitVec 16), s.dev.takes q .stream → 4 ≤ (s.dev.req q).sFences.length →
    exec (.streamFence q token) s = .next (s.after (s.dev.refuse .stream)))
  ∧ (∀ (s : State) (q : Requester) (token : BitVec 16), s.dev.takes q .stream → s.dev.streamState = 0 →
    exec (.streamFence q token) s = .next (s.after (s.dev.refuse .stream)))
  ∧ (∀ (s : State) (q : Requester) (fe : SFence) (rest : List SFence), (s.dev.req q).sFences = fe :: rest → s.dev.fenceReady fe = true →
    s.dev.streamState ≠ 0 →
    exec (.fencePacketEmit q) s = .next (s.after (
      let d := s.dev.emit_ kFence srcChip false (s.dev.gf F.SCAN_FRAME_NUM_FRAME)
        [BitVec.ofNat 32 (q.code * 65536 + fe.token), BitVec.ofNat 32 fe.frame, BitVec.ofNat 32 (fe.col.getD 0x1FFF), 0#32]
      let d := d.setReq q { s.dev.req q with sFences := rest }
      ((d.sfQ q F.STREAM_FENCE_DONE_TOKEN fe.token).sfQ q F.STREAM_FENCE_DONE_BUSY (b2n (!rest.isEmpty))).event E.STREAM_FENCE_DONE)))
  ∧ (∀ (s : State) (q : Requester), s.dev.takes q .stream → s.dev.on F.STREAM_CTRL_EN = false →
    ∃ b, s.dev.onlyRegs b ∧ s.dev.regsBut b [] ∧ exec (.streamEnable q) s = .next (s.after (b.sf F.STREAM_CTRL_EN 1)))
  ∧ (∀ (s : State) (q : Requester), s.dev.takes q .stream → s.dev.on F.STREAM_CTRL_EN = true → s.dev.streamState = 1 →
    ∃ b, s.dev.onlyRegs b ∧ s.dev.regsBut b [] ∧
      exec (.streamDisable q) s = .next (s.after ((b.sf F.STREAM_CTRL_EN 0).setStreamState 2)))
  ∧ (∀ (s : State) (q : Requester), s.dev.takes q .stream → s.dev.on F.STREAM_CTRL_EN = true → s.dev.streamState ≠ 1 →
    ∃ b, s.dev.onlyRegs b ∧ s.dev.regsBut b [] ∧ exec (.streamDisable q) s = .next (s.after (b.sf F.STREAM_CTRL_EN 0)))
  ∧ (∀ s : State, s.dev.streamState = 2 → (∀ f ∈ s.dev.frames, f.streamed = false ∨ f.closed = true) → s.dev.stream.buf = [] →
    s.dev.stream.wait = [] → s.dev.stream.signPend = [] → s.dev.stream.dgram = [] →
    exec .streamStopped s = .next (s.after (forN 48 (fun b (d : Dev) => d.dropHost b)
      ({ s.dev with stream := { s.dev.stream with dead := false } }.setStreamState 0))))
  ∧ (∀ (s : State) (p : Packet) (rest : List Packet) (w n : Nat), s.dev.stream.buf = p :: rest → s.dev.stream.dead = false →
    s.dev.gf F.STREAM_CTRL_TRANSPORT ≠ 1 → s.dev.gf F.STREAM_CTRL_TRANSPORT ≠ 2 → s.dev.on F.HOST_LINK_STATUS_DL_UP = true →
    s.dev.ringUsed + p.bytes + 16 ≤ s.dev.ringSize → s.dev.gf F.STREAM_RING_WPTR_PTR + p.bytes ≤ s.dev.ringSize →
    w = (s.dev.gf F.STREAM_RING_WPTR_PTR + p.bytes) % s.dev.ringSize →
    n = s.dev.stream.unsignalled + 1 → n < max 1 (s.dev.gf F.STREAM_COALESCE_COUNT) →
    exec .ringWrite s = .next (s.after (
      let d := (s.dev.send (.dma (s.dev.ringBase + s.dev.gf F.STREAM_RING_WPTR_PTR) p.words)).setStream { s.dev.stream with buf := rest }
      let d := d.sf F.STREAM_RING_WPTR_PTR w
      let d := (d.send (.dma (d.gf F.STREAM_WB_ADDR_LO_ADDR * 4 + d.gf F.STREAM_WB_ADDR_HI_ADDR * 2^32) [BitVec.ofNat 32 w])).countSent p
      (d.setStream { d.stream with unsignalled := n, unsignalledAt := if n = 1 then d.now else d.stream.unsignalledAt }).refill)))
  ∧ (∀ (s : State) (p : Packet) (rest : List Packet) (w n : Nat), s.dev.stream.buf = p :: rest → s.dev.stream.dead = false →
    s.dev.gf F.STREAM_CTRL_TRANSPORT ≠ 1 → s.dev.gf F.STREAM_CTRL_TRANSPORT ≠ 2 → s.dev.on F.HOST_LINK_STATUS_DL_UP = true →
    s.dev.ringUsed + p.bytes + 16 ≤ s.dev.ringSize → s.dev.gf F.STREAM_RING_WPTR_PTR + p.bytes ≤ s.dev.ringSize →
    w = (s.dev.gf F.STREAM_RING_WPTR_PTR + p.bytes) % s.dev.ringSize →
    n = s.dev.stream.unsignalled + 1 → max 1 (s.dev.gf F.STREAM_COALESCE_COUNT) ≤ n →
    exec .ringWrite s = .next (s.after (
      let d := (s.dev.send (.dma (s.dev.ringBase + s.dev.gf F.STREAM_RING_WPTR_PTR) p.words)).setStream { s.dev.stream with buf := rest }
      let d := d.sf F.STREAM_RING_WPTR_PTR w
      let d := (d.send (.dma (d.gf F.STREAM_WB_ADDR_LO_ADDR * 4 + d.gf F.STREAM_WB_ADDR_HI_ADDR * 2^32) [BitVec.ofNat 32 w])).countSent p
      ((d.setStream { d.stream with unsignalled := 0 }).event E.STREAM_RING).refill)))
  ∧ (∀ (s : State) (p : Packet) (rest : List Packet) (w n : Nat) (pad : Packet) (b : Dev), s.dev.stream.buf = p :: rest → s.dev.stream.dead = false →
    s.dev.gf F.STREAM_CTRL_TRANSPORT ≠ 1 → s.dev.gf F.STREAM_CTRL_TRANSPORT ≠ 2 → s.dev.on F.HOST_LINK_STATUS_DL_UP = true →
    s.dev.ringUsed + p.bytes + 16 ≤ s.dev.ringSize → s.dev.ringSize < s.dev.gf F.STREAM_RING_WPTR_PTR + p.bytes →
    pad = { kind := kPad, source := srcChip, seq := 0, frame := 0, unit := s.dev.unit, payload := [] } →
    b = (s.dev.send (.dma (s.dev.ringBase + s.dev.gf F.STREAM_RING_WPTR_PTR) pad.header)).sf F.STREAM_RING_WPTR_PTR 0 →
    b.ringUsed + p.bytes + 16 ≤ s.dev.ringSize → w = p.bytes % s.dev.ringSize →
    n = s.dev.stream.unsignalled + 1 → n < max 1 (b.gf F.STREAM_COALESCE_COUNT) →
    exec .ringWrite s = .next (s.after (
      let d := (b.send (.dma (b.ringBase + b.gf F.STREAM_RING_WPTR_PTR) p.words)).setStream { s.dev.stream with buf := rest }
      let d := d.sf F.STREAM_RING_WPTR_PTR w
      let d := (d.send (.dma (d.gf F.STREAM_WB_ADDR_LO_ADDR * 4 + d.gf F.STREAM_WB_ADDR_HI_ADDR * 2^32) [BitVec.ofNat 32 w])).countSent p
      (d.setStream { d.stream with unsignalled := n, unsignalledAt := if n = 1 then d.now else d.stream.unsignalledAt }).refill)))
  ∧ (∀ (s : State) (p : Packet) (rest : List Packet), s.dev.stream.buf = p :: rest → s.dev.stream.dead = false →
    s.dev.ringSize < s.dev.ringUsed + p.bytes + 16 → exec .ringWrite s = .next (s.after s.dev))
  ∧ (∀ (s : State) (q : Requester) (val : Word), s.dev.takes q .stream → s.dev.ringSize ≤ val.toNat →
    exec (.ringRptrWrite q val) s = .next (s.after (s.dev.refuse .stream).pump))
  ∧ (∀ (s : State) (q : Requester) (val : Word), s.dev.takes q .stream → val.toNat < s.dev.ringSize →
    exec (.ringRptrWrite q val) s = .next (s.after ((s.dev.sf F.STREAM_RING_RPTR_PTR val.toNat).pump)))
  ∧ (∀ (s : State) (b : Dev), s.dev.stream.unsignalled ≠ 0 →
    b = s.dev.advanceTo (s.dev.stream.unsignalledAt + max 1 (s.dev.gf F.STREAM_COALESCE_TIME) * 1000) →
    exec .ringCoalesceTimeout s = .next (s.after ((b.setStream { b.stream with unsignalled := 0 }).event E.STREAM_RING)))
  ∧ (∀ (s : State) (port : Fin 2), (fget dgram0 s.dev.stream.dgram port.val).isEmpty = false →
    exec (.udpAggTimeout port) s = .next (s.after ((s.dev.advanceTo (fget dgramAt0 s.dev.stream.dgramAt port.val
      + min 1000 (s.dev.gf F.STREAM_UDP_CFG_AGG_US) * 1000)).sendDatagram port.val)))

/-- The PCIe endpoint and the Ethernet ports (R408 to R411, R415, R430, R434, R436). -/
def Obligations.HostLinks : Prop :=
  (∀ s : State, s.dev.on F.HOST_LINK_STATUS_DL_UP = true →
    exec .pcieLinkDown s = .next (s.after (
      let d := ((s.dev.sf F.HOST_LINK_STATUS_DL_UP 0).sf F.HOST_LINK_STATUS_SPEED 0).sf F.HOST_LINK_STATUS_WIDTH 0
      let d := forN 4 (fun n (d : Dev) => if d.laneState n = 4 then d.setLaneState n 1 else d) d
      ((d.inc F.HOST_LINK_DOWNS_COUNT).raise C.HOST_LINK_DOWN).event E.HOST_LINK_CHANGE)))
  ∧ (∀ (s : State) (sp : Fin 4) (w : Fin 5), s.dev.on F.HOST_LINK_CTRL_TEST = false → w.val = 1 ∨ w.val = 2 ∨ w.val = 4 →
    exec (.pcieLinkUp sp w) s = .next (s.after (
      let d := ((s.dev.sf F.HOST_LINK_STATUS_DL_UP 1).sf F.HOST_LINK_STATUS_SPEED (sp.val + 1)).sf F.HOST_LINK_STATUS_WIDTH w.val
      (forN 4 (fun n (d : Dev) => if n < w.val ∧ d.isOn (.lane n) ∧ d.laneState n ≠ 7 then
        (d.sf (F.LANE_LINK_STATUS_LOS n) 0).setLaneState n 4 else d) d).event E.HOST_LINK_CHANGE)))
  ∧ (∀ (s : State) (b : Dev), b = { s.dev with host := {} }.raise C.HOST_FLR →
    b.gf F.STREAM_CTRL_TRANSPORT = 1 ∨ b.gf F.STREAM_CTRL_TRANSPORT = 2 → exec .flr s = .next (s.after b))
  ∧ (∀ (s : State) (b : Dev), b = { s.dev with host := {} }.raise C.HOST_FLR →
    b.gf F.STREAM_CTRL_TRANSPORT ≠ 1 → b.gf F.STREAM_CTRL_TRANSPORT ≠ 2 → b.streamState = 0 →
    exec .flr s = .next (s.after (b.sf F.STREAM_CTRL_EN 0)))
  ∧ (∀ (s : State) (b : Dev), b = { s.dev with host := {} }.raise C.HOST_FLR →
    b.gf F.STREAM_CTRL_TRANSPORT ≠ 1 → b.gf F.STREAM_CTRL_TRANSPORT ≠ 2 → b.streamState = 1 →
    exec .flr s = .next (s.after (
      let d := (b.sf F.STREAM_CTRL_EN 0).setStreamState 2
      { d with stream := { d.stream with dead := true } })))
  ∧ (∀ (s : State) (q : Requester), s.dev.takes q .host → ∃ b, s.dev.onlyRegs b ∧ s.dev.regsBut b [] ∧
    exec (.linkRetrain q) s = .next (s.after (b.send (.linkRetrain (min 4 (max 1 (s.dev.gf F.HOST_LINK_CTRL_TARGET_SPEED)))))))
  ∧ (∀ s : State, exec (.aerError true) s = .next (s.after ((s.dev.inc F.HOST_AER_UCE_COUNT).raise C.HOST_AER_UNCORRECTABLE)))
  ∧ (∀ s : State, exec (.aerError false) s = .next (s.after ((s.dev.inc F.HOST_AER_CE_COUNT).raise C.HOST_AER_CORRECTABLE)))
  ∧ (∀ (s : State) (p : Fin 2) (b : Dev), s.dev.on (F.NET_STATUS_LINK_UP p) = true →
    b = (s.dev.sf (F.NET_STATUS_LINK_UP p) 0).sf (F.NET_STATUS_BLOCK_LOCK p) 0 →
    exec (.netLinkDown p) s = .next (s.after
      ((((if b.laneState (4 + p.val) = 4 then b.setLaneState (4 + p.val) 1 else b).unsendDatagram p).raise (C.NET_LINK_DOWN p)).event (E.NET_LINK_CHANGE p))))
  ∧ (∀ (s : State) (p : Fin 2), s.dev.on (F.NET_STATUS_LINK_UP p) = false → s.dev.laneState (4 + p.val) ≠ 7 →
    s.dev.isOn (.lane (4 + p.val)) = true →
    exec (.netLinkUp p) s = .next (s.after (
      let d := (s.dev.sf (F.NET_STATUS_LINK_UP p) 1).sf (F.NET_STATUS_BLOCK_LOCK p) 1
      let d := ((d.sf (F.LANE_LINK_STATUS_LOS (4 + p.val)) 0).setLaneState (4 + p.val) 4).event (E.NET_LINK_CHANGE p)
      ((d.net p).held.foldl (fun (e : Dev) o => (e.inc (F.NET_TX_FRAMES_COUNT p)).send o) (d.setNet p { d.net p with held := [] })).pump)))
  ∧ (∀ (s : State) (p : Fin 2) (a : List Word) (d : Dev), s.dev.on (F.NET_STATUS_LINK_UP p) = true →
    s.dev.on (F.NET_CTRL_EN p) = true → d = s.dev.inc (F.NET_RX_FRAMES_COUNT p) → a = d.ownIp p →
    ∃ mac vlan, exec (.arpRequest p a) s = .next (s.after ((d.inc (F.NET_TX_FRAMES_COUNT p)).send (.arpReply p a mac vlan)))
      ∧ mac = d.netMac p ∧ vlan = d.netVlan p)
  ∧ (∀ (s : State) (p : Fin 2) (a : List Word) (d : Dev), s.dev.on (F.NET_STATUS_LINK_UP p) = true →
    s.dev.on (F.NET_CTRL_EN p) = true → d = s.dev.inc (F.NET_RX_FRAMES_COUNT p) → a ≠ d.ownIp p →
    exec (.arpRequest p a) s = .next (s.after d))
  ∧ (∀ (s : State) (p : Fin 2) (n : BitVec 16), s.dev.on (F.NET_STATUS_LINK_UP p) = true → s.dev.on (F.NET_CTRL_PAUSE_EN p) = true →
    exec (.pause p n) s = .next (s.after (
      let d := s.dev.inc (F.NET_RX_FRAMES_COUNT p)
      (d.setNet p { d.net p with pausedUntil := d.now + n.toNat * 512 / 10 }).pump)))
  ∧ (∀ (s : State) (p : Fin 2), exec (.rxDropped p true) s = .next (s.after
      (((s.dev.inc (F.NET_RX_FRAMES_COUNT p)).inc (F.NET_RX_FCS_ERR_COUNT p)).raise (C.NET_RX_FCS p))))
  ∧ (∀ (s : State) (p : Fin 2), exec (.rxDropped p false) s = .next (s.after
      ((s.dev.inc (F.NET_RX_FRAMES_COUNT p)).inc (F.NET_RX_DROPPED_COUNT p))))

/-- Register-access packets and error reports (R28, R48, R78, R86, R87, R413, R472). What an answer carries besides what R86 states,
and that a request that is refused whole is not noted, is the model's choice (log 87). -/
def Obligations.RaPackets : Prop :=
  (∀ (s : State) (p : Fin 2) (h : RaHeader) (b : Dev) (l : List Word), s.dev.on (F.NET_STATUS_LINK_UP p) = true → s.dev.on (F.NET_CTRL_EN p) = true →
    b = s.dev.rxFrame p → b.on (F.NET_CTRL_RA_EN p) = false ∨ h.dstPort ≠ b.gf (F.NET_RA_PORT_PORT p) ∨ b.raSource p h.srcIp = false →
    exec (.raRead p h l) s = .next (s.after ((b.inc (F.NET_RA_REJECTED_COUNT p)).raise (C.NET_RA_REJECTED p))))
  ∧ (∀ (s : State) (p : Fin 2) (h : RaHeader) (b : Dev) (l : List (Word × Word)), s.dev.on (F.NET_STATUS_LINK_UP p) = true → s.dev.on (F.NET_CTRL_EN p) = true →
    b = s.dev.rxFrame p → b.on (F.NET_CTRL_RA_EN p) = false ∨ h.dstPort ≠ b.gf (F.NET_RA_PORT_PORT p) ∨ b.raSource p h.srcIp = false →
    exec (.raWrite p h l) s = .next (s.after ((b.inc (F.NET_RA_REJECTED_COUNT p)).raise (C.NET_RA_REJECTED p))))
  ∧ (∀ (s : State) (p : Fin 2) (h : RaHeader) (b : Dev) , s.dev.on (F.NET_STATUS_LINK_UP p) = true → s.dev.on (F.NET_CTRL_EN p) = true →
    b = s.dev.rxFrame p → b.on (F.NET_CTRL_RA_EN p) = false ∨ h.dstPort ≠ b.gf (F.NET_RA_PORT_PORT p) ∨ b.raSource p h.srcIp = false →
    exec (.raFence p h) s = .next (s.after ((b.inc (F.NET_RA_REJECTED_COUNT p)).raise (C.NET_RA_REJECTED p))))
  ∧ (∀ (s : State) (p : Fin 2) (h : RaHeader) (b : Dev) (l : List Word) (r : ReplyX) (v : List (Word × Option Word) × Dev), s.dev.on (F.NET_STATUS_LINK_UP p) = true → s.dev.on (F.NET_CTRL_EN p) = true →
    b = s.dev.rxFrame p → b.on (F.NET_CTRL_RA_EN p) = true → h.dstPort = b.gf (F.NET_RA_PORT_PORT p) →
    b.raSource p h.srcIp = true → h.version = 1 → b.answered.find? (fun a => a.src == h.srcIp && a.seq == h.seq) = none →
    h.count = l.length → 1 ≤ l.length → l.length ≤ 64 → h.unit = 0 ∨ h.unit = b.unit ∨ (b.pole = true ∧ h.unit = 1) → r = { port := p.val, op := 1, unit := h.unit, seq := h.seq, src := h.srcIp, srcPort := h.srcPort } →
    v = (b.noteRequest r).readAll (netReq p) l → (∀ e ∈ v.1, e.2.isSome = true) →
    exec (.raRead p h l) s = .next (s.after (
      let w := v.2.readOpen (netReq p) v.1
      w.2.answer r 0 w.1)))
  ∧ (∀ (s : State) (p : Fin 2) (h : RaHeader) (b : Dev) (l : List (Word × Word)) (r : ReplyX), s.dev.on (F.NET_STATUS_LINK_UP p) = true → s.dev.on (F.NET_CTRL_EN p) = true →
    b = s.dev.rxFrame p → b.on (F.NET_CTRL_RA_EN p) = true → h.dstPort = b.gf (F.NET_RA_PORT_PORT p) →
    b.raSource p h.srcIp = true → h.version = 1 → b.answered.find? (fun a => a.src == h.srcIp && a.seq == h.seq) = none →
    h.count = l.length → 1 ≤ l.length → l.length ≤ 64 → h.unit = 0 ∨ h.unit = b.unit ∨ (b.pole = true ∧ h.unit = 1) → r = { port := p.val, op := 2, unit := h.unit, seq := h.seq, src := h.srcIp, srcPort := h.srcPort } →
    exec (.raWrite p h l) s = .next (s.after
      ((l.foldl (fun (d : Dev) e => (d.access (netReq p) e.1 e.2).settle) (b.noteRequest r)).answer r 0 l)))
  ∧ (∀ (s : State) (p : Fin 2) (h : RaHeader) (b : Dev) (r : ReplyX) (d : Dev), s.dev.on (F.NET_STATUS_LINK_UP p) = true → s.dev.on (F.NET_CTRL_EN p) = true →
    b = s.dev.rxFrame p → b.on (F.NET_CTRL_RA_EN p) = true → h.dstPort = b.gf (F.NET_RA_PORT_PORT p) →
    b.raSource p h.srcIp = true → h.version = 1 → b.answered.find? (fun a => a.src == h.srcIp && a.seq == h.seq) = none →
    h.count = 0 → h.unit = 0 ∨ h.unit = b.unit ∨ (b.pole = true ∧ h.unit = 1) → r = { port := p.val, op := 3, unit := h.unit, seq := h.seq, src := h.srcIp, srcPort := h.srcPort } → d = b.noteRequest r → (d.req (netReq p)).fences.length < 8 →
    exec (.raFence p h) s = .next (s.after ((d.setReq (netReq p) { d.req (netReq p) with
      fences := (d.req (netReq p)).fences ++ [{ token := none, pages := d.holders (netReq p), waits := d.armBlocked (netReq p), reply := some r }] }).sfQ
        (netReq p) F.CHIP_FENCE_DONE_BUSY 1)))
  ∧ (∀ (s : State) (p : Fin 2) (h : RaHeader) (b : Dev) (l : List Word) (r : ReplyX), s.dev.on (F.NET_STATUS_LINK_UP p) = true → s.dev.on (F.NET_CTRL_EN p) = true →
    b = s.dev.rxFrame p → b.on (F.NET_CTRL_RA_EN p) = true → h.dstPort = b.gf (F.NET_RA_PORT_PORT p) →
    b.raSource p h.srcIp = true → h.version = 1 → b.answered.find? (fun a => a.src == h.srcIp && a.seq == h.seq) = none →
    h.count = l.length → 1 ≤ l.length → l.length ≤ 64 → h.unit ≠ 0 → h.unit ≠ b.unit → h.unit ≠ 1 → b.pole = true → (b.hopOf h.unit).isSome = true → r = { port := p.val, op := 1, unit := h.unit, seq := h.seq, src := h.srcIp, srcPort := h.srcPort } →
    exec (.raRead p h l) s = .next (s.after ((b.noteRequest r).sendReq (netReq p) (some r) h.unit 1 h.seq (l.map (fun a => (a, 0#32))))))
  ∧ (∀ (s : State) (p : Fin 2) (h : RaHeader) (b : Dev) (l : List (Word × Word)) (r : ReplyX), s.dev.on (F.NET_STATUS_LINK_UP p) = true → s.dev.on (F.NET_CTRL_EN p) = true →
    b = s.dev.rxFrame p → b.on (F.NET_CTRL_RA_EN p) = true → h.dstPort = b.gf (F.NET_RA_PORT_PORT p) →
    b.raSource p h.srcIp = true → h.version = 1 → b.answered.find? (fun a => a.src == h.srcIp && a.seq == h.seq) = none →
    h.count = l.length → 1 ≤ l.length → l.length ≤ 64 → h.unit ≠ 0 → h.unit ≠ b.unit → h.unit ≠ 1 → b.pole = true → (b.hopOf h.unit).isSome = true → r = { port := p.val, op := 2, unit := h.unit, seq := h.seq, src := h.srcIp, srcPort := h.srcPort } →
    exec (.raWrite p h l) s = .next (s.after ((b.noteRequest r).sendReq (netReq p) (some r) h.unit 2 h.seq l)))
  ∧ (∀ (s : State) (p : Fin 2) (h : RaHeader) (b : Dev)  (r : ReplyX), s.dev.on (F.NET_STATUS_LINK_UP p) = true → s.dev.on (F.NET_CTRL_EN p) = true →
    b = s.dev.rxFrame p → b.on (F.NET_CTRL_RA_EN p) = true → h.dstPort = b.gf (F.NET_RA_PORT_PORT p) →
    b.raSource p h.srcIp = true → h.version = 1 → b.answered.find? (fun a => a.src == h.srcIp && a.seq == h.seq) = none →
    h.count = 0 → h.unit ≠ 0 → h.unit ≠ b.unit → h.unit ≠ 1 → b.pole = true → (b.hopOf h.unit).isSome = true → r = { port := p.val, op := 3, unit := h.unit, seq := h.seq, src := h.srcIp, srcPort := h.srcPort } →
    exec (.raFence p h) s = .next (s.after ((b.noteRequest r).sendReq (netReq p) (some r) h.unit 3 h.seq [])))
  ∧ (∀ (s : State) (p : Fin 2) (h : RaHeader) (b : Dev) (l : List Word), s.dev.on (F.NET_STATUS_LINK_UP p) = true → s.dev.on (F.NET_CTRL_EN p) = true →
    b = s.dev.rxFrame p → b.on (F.NET_CTRL_RA_EN p) = true → h.dstPort = b.gf (F.NET_RA_PORT_PORT p) →
    b.raSource p h.srcIp = true → h.version ≠ 1 →
    exec (.raRead p h l) s = .next (s.after (b.answer
      { port := p.val, op := 1, unit := h.unit, seq := h.seq, src := h.srcIp, srcPort := h.srcPort } 3 [])))
  ∧ (∀ (s : State) (p : Fin 2) (h : RaHeader) (b : Dev) (l : List (Word × Word)), s.dev.on (F.NET_STATUS_LINK_UP p) = true → s.dev.on (F.NET_CTRL_EN p) = true →
    b = s.dev.rxFrame p → b.on (F.NET_CTRL_RA_EN p) = true → h.dstPort = b.gf (F.NET_RA_PORT_PORT p) →
    b.raSource p h.srcIp = true → h.version ≠ 1 →
    exec (.raWrite p h l) s = .next (s.after (b.answer
      { port := p.val, op := 2, unit := h.unit, seq := h.seq, src := h.srcIp, srcPort := h.srcPort } 3 [])))
  ∧ (∀ (s : State) (p : Fin 2) (h : RaHeader) (b : Dev) , s.dev.on (F.NET_STATUS_LINK_UP p) = true → s.dev.on (F.NET_CTRL_EN p) = true →
    b = s.dev.rxFrame p → b.on (F.NET_CTRL_RA_EN p) = true → h.dstPort = b.gf (F.NET_RA_PORT_PORT p) →
    b.raSource p h.srcIp = true → h.version ≠ 1 →
    exec (.raFence p h) s = .next (s.after (b.answer
      { port := p.val, op := 3, unit := h.unit, seq := h.seq, src := h.srcIp, srcPort := h.srcPort } 3 [])))
  ∧ (∀ (s : State) (p : Fin 2) (h : RaHeader) (b : Dev) (l : List Word) (a : AnsX) (st : Nat) (es : List (Word × Word)), s.dev.on (F.NET_STATUS_LINK_UP p) = true → s.dev.on (F.NET_CTRL_EN p) = true →
    b = s.dev.rxFrame p → b.on (F.NET_CTRL_RA_EN p) = true → h.dstPort = b.gf (F.NET_RA_PORT_PORT p) →
    b.raSource p h.srcIp = true → h.version = 1 →
    b.answered.find? (fun a => a.src == h.srcIp && a.seq == h.seq) = some a → a.answer = some (st, es) → h.count = l.length → 1 ≤ l.length → l.length ≤ 64 →
    exec (.raRead p h l) s = .next (s.after (b.respond p (b.raOut p h.srcIp h.srcPort a.op h.unit h.seq st es))))
  ∧ (∀ (s : State) (p : Fin 2) (h : RaHeader) (b : Dev) (l : List (Word × Word)) (a : AnsX) (st : Nat) (es : List (Word × Word)), s.dev.on (F.NET_STATUS_LINK_UP p) = true → s.dev.on (F.NET_CTRL_EN p) = true →
    b = s.dev.rxFrame p → b.on (F.NET_CTRL_RA_EN p) = true → h.dstPort = b.gf (F.NET_RA_PORT_PORT p) →
    b.raSource p h.srcIp = true → h.version = 1 →
    b.answered.find? (fun a => a.src == h.srcIp && a.seq == h.seq) = some a → a.answer = some (st, es) → h.count = l.length → 1 ≤ l.length → l.length ≤ 64 →
    exec (.raWrite p h l) s = .next (s.after (b.respond p (b.raOut p h.srcIp h.srcPort a.op h.unit h.seq st es))))
  ∧ (∀ (s : State) (p : Fin 2) (h : RaHeader) (b : Dev)  (a : AnsX) (st : Nat) (es : List (Word × Word)), s.dev.on (F.NET_STATUS_LINK_UP p) = true → s.dev.on (F.NET_CTRL_EN p) = true →
    b = s.dev.rxFrame p → b.on (F.NET_CTRL_RA_EN p) = true → h.dstPort = b.gf (F.NET_RA_PORT_PORT p) →
    b.raSource p h.srcIp = true → h.version = 1 →
    b.answered.find? (fun a => a.src == h.srcIp && a.seq == h.seq) = some a → a.answer = some (st, es) → h.count = 0 →
    exec (.raFence p h) s = .next (s.after (b.respond p (b.raOut p h.srcIp h.srcPort a.op h.unit h.seq st es))))
  ∧ (∀ (s : State) (r : Report) (rest : List Report) (g : Page), s.dev.reports = r :: rest → r.next = some g →
    exec (.faultReport none) s = .next (s.after ({ s.dev with reports := rest }.receiveReport g r)))
  ∧ (∀ (s : State) (x : FoundFault), x.bit = 29 → exec (.faultReport (some x)) s = .next (s.after (s.dev.raiseBit x.page 29 (paritySev x.page) 0)))
  ∧ (∀ (s : State) (x : FoundFault) (b : Nat), x.page = .bay b → x.bit = (C.BAY_BUILDER_FAULT b).bit → exec (.faultReport (some x)) s = .next (s.after ((s.dev.raise (C.BAY_BUILDER_FAULT b) x.unit).pauseBay b)))
  ∧ (∀ (s : State) (x : FoundFault) (k : Nat), x.page = .clu k → x.bit = (C.CLU_PARAM_MISMATCH k).bit → exec (.faultReport (some x)) s = .next (s.after ((s.dev.raise (C.CLU_PARAM_MISMATCH k) x.unit).stopCluster k)))
  ∧ (∀ (s : State) (x : FoundFault) (k : Nat), x.page = .clu k → x.bit = (C.CLU_DISPATCH_PATH k).bit → exec (.faultReport (some x)) s = .next (s.after ((s.dev.raise (C.CLU_DISPATCH_PATH k) x.unit).stopCluster k)))
  ∧ (∀ (s : State) (x : FoundFault) (k : Nat), x.page = .clu k → x.bit = (C.CLU_SHARED_ECC_CORRECTED k).bit → exec (.faultReport (some x)) s = .next (s.after ((s.dev.incSat (F.CLU_SHARED_ECC_CORRECTED k)).raise (C.CLU_SHARED_ECC_CORRECTED k) x.unit)))
  ∧ (∀ (s : State) (x : FoundFault) (k : Nat), x.page = .clu k → x.bit = (C.CLU_SHARED_ECC_UNCORRECTED k).bit → exec (.faultReport (some x)) s = .next (s.after (((s.dev.incSat (F.CLU_SHARED_ECC_UNCORRECTED k)).raise (C.CLU_SHARED_ECC_UNCORRECTED k) x.unit).stopCluster k)))
  ∧ (∀ (s : State) (x : FoundFault) (q : Nat), x.page = .qtr q → x.bit = (C.QTR_FABRIC_FAULT q).bit → exec (.faultReport (some x)) s = .next (s.after ((s.dev.raise (C.QTR_FABRIC_FAULT q) x.unit).quarantineRegion q)))
  ∧ (∀ (s : State) (x : FoundFault) (q : Nat), x.page = .qtr q → x.bit = (C.QTR_DISPATCH_FAULT q).bit → exec (.faultReport (some x)) s = .next (s.after ((s.dev.raise (C.QTR_DISPATCH_FAULT q) x.unit).quarantineRegion q)))
  ∧ (∀ (s : State) (x : FoundFault) (q : Nat), x.page = .pool q → x.bit = (C.POOL_POOL_FAULT q).bit → exec (.faultReport (some x)) s = .next (s.after ((s.dev.raise (C.POOL_POOL_FAULT q) x.unit).quarantineRegion q)))
  ∧ (∀ (s : State) (x : FoundFault) (q : Nat), x.page = .pool q → x.bit = (C.POOL_ECC_CORRECTED q).bit → exec (.faultReport (some x)) s = .next (s.after (s.dev.bankCorrected q (x.unit % 33))))
  ∧ (∀ (s : State) (x : FoundFault), x.page = .sec → x.bit = C.SEC_KEY_FAULT.bit →
    exec (.faultReport (some x)) s = .next (s.after { s.dev.raise C.SEC_KEY_FAULT with sec := { s.dev.sec with keyFault := true } }))
  ∧ (∀ (s : State) (x : FoundFault), x.page = .alm → x.bit = C.ALM_MRAM_FAULT.bit → exec (.faultReport (some x)) s = .next (s.after (s.dev.raise C.ALM_MRAM_FAULT)))

/-- Signal, alignment, training and deskew of chain lanes (R418, R420 to R426). -/
def Obligations.LaneAlign : Prop :=
  (∀ (s : State) (n : Fin 12), 6 ≤ n.val → s.dev.isOn (.lane n) = true → s.dev.on (F.LANE_LINK_STATUS_LOS n) = false →
    s.dev.on (F.LANE_LINK_STATUS_RX_ASLEEP n) = false → (s.dev.laneX n).notice = false → s.dev.laneState n = 4 →
    exec (.losDetect n) s = .next (s.after (
      let d := ((s.dev.sf (F.LANE_LINK_STATUS_LOS n) 1).inc (F.LANE_LOS_COUNT_COUNT n)).sf (F.LANE_LINK_STATUS_BLOCK_LOCK n) 0
      ((((d.setLaneState n 1).raise (C.LANE_LOSS_OF_SIGNAL n)).sf (F.LANE_LINK_STATUS_ATTEMPTS n) 0).startWait n 1).widthSync (portOf n))))
  ∧ (∀ (s : State) (n : Fin 12), 6 ≤ n.val → s.dev.isOn (.lane n) = true → s.dev.on (F.LANE_LINK_STATUS_LOS n) = true →
    s.dev.on (F.LANE_LINK_STATUS_RX_ASLEEP n) = false → s.dev.on (F.LANE_LINK_STATUS_REMOTE_SLEEP n) = false →
    s.dev.laneState n = 1 ∨ s.dev.laneState n = 5 → (s.dev.laneX n).attempt = none →
    exec (.signalDetect n) s = .next (s.after ((s.dev.sf (F.LANE_LINK_STATUS_LOS n) 0).startAttempt n)))
  ∧ (∀ (s : State) (n : Fin 12) (bad : Nat), 6 ≤ n.val → s.dev.laneState n = 2 →
    bad ≠ 0 → s.dev.on (F.LANE_LANE_CTRL_MANUAL_ALIGN n) = false →
    exec (.slipPosition n bad) s = .next (s.after (
      let d := s.dev.inc (F.LANE_SYNC_HDR_ERR_COUNT n) (min 64 bad)
      d.sf (F.LANE_LINK_STATUS_SLIPS n) ((d.gf (F.LANE_LINK_STATUS_SLIPS n) + 1) % 66))))
  ∧ (∀ (s : State) (n : Fin 12) (bad : Nat), 6 ≤ n.val → s.dev.laneState n = 2 →
    bad ≠ 0 → s.dev.on (F.LANE_LANE_CTRL_MANUAL_ALIGN n) = true →
    exec (.slipPosition n bad) s = .next (s.after (s.dev.inc (F.LANE_SYNC_HDR_ERR_COUNT n) (min 64 bad))))
  ∧ (∀ (s : State) (n : Fin 12) (d : Dev), 6 ≤ n.val → s.dev.laneState n = 2 → d = s.dev.inc (F.LANE_SYNC_HDR_ERR_COUNT n) 0 →
    exec (.slipPosition n 0) s = .next (s.after
      (((d.setLaneX n { d.laneX n with trainRx := 0, ackRx := 0 }).sf (F.LANE_LINK_STATUS_BLOCK_LOCK n) 1).setLaneState n 3)))
  ∧ (∀ (s : State) (n : Fin 12), s.dev.laneState n = 2 → s.dev.on (F.LANE_LANE_CTRL_MANUAL_ALIGN n) = false →
    exec (.alignFail n) s = .next (s.after (s.dev.raise (C.LANE_ALIGN_FAIL n))))
  ∧ (∀ (s : State) (n : Fin 12) (b : Dev), s.dev.on (F.LANE_LINK_STATUS_BLOCK_LOCK n) = true →
    b = (s.dev.sf (F.LANE_LINK_STATUS_BLOCK_LOCK n) 0).inc (F.LANE_SYNC_HDR_ERR_COUNT n) 16 →
    b.laneState n = 3 ∨ b.laneState n = 4 → b.on (F.LANE_LINK_STATUS_LOS n) = false →
    exec (.blockLockLost n) s = .next (s.after ((b.setLaneState n 2).widthSync (portOf n))))
  ∧ (∀ (s : State) (n : Fin 12) (b : Dev), s.dev.on (F.LANE_LINK_STATUS_BLOCK_LOCK n) = true →
    b = (s.dev.sf (F.LANE_LINK_STATUS_BLOCK_LOCK n) 0).inc (F.LANE_SYNC_HDR_ERR_COUNT n) 16 →
    b.laneState n = 3 ∨ b.laneState n = 4 → b.on (F.LANE_LINK_STATUS_LOS n) = true →
    exec (.blockLockLost n) s = .next (s.after ((b.setLaneState n 1).widthSync (portOf n))))
  ∧ (∀ (s : State) (n : Fin 12) (m : TrainMsg) (l : LinkX) (x : LaneX) (rx ack : Nat), 6 ≤ n.val → s.dev.laneState n = 3 →
    l = s.dev.link (portOf n) → x = s.dev.laneX n → m.logical = s.dev.role n → m.spare = (s.dev.role n == 2) →
    (l.names = none ∨ l.names = some m.port) → rx = min 16 (x.trainRx + 1) → ack = (if m.ack then min 16 (x.ackRx + 1) else 0) →
    ack = 16 → exec (.train n m) s = .next (s.after
      (((s.dev.setLink (portOf n) { l with names := some m.port }).setLaneX n { x with trainRx := rx, ackRx := ack }).laneActive n)))
  ∧ (∀ (s : State) (n : Fin 12) (m : TrainMsg) (l : LinkX) (x : LaneX) (rx ack : Nat), 6 ≤ n.val → s.dev.laneState n = 3 →
    l = s.dev.link (portOf n) → x = s.dev.laneX n → m.logical = s.dev.role n → m.spare = (s.dev.role n == 2) →
    (l.names = none ∨ l.names = some m.port) → rx = min 16 (x.trainRx + 1) → ack = (if m.ack then min 16 (x.ackRx + 1) else 0) →
    ack ≠ 16 → exec (.train n m) s = .next (s.after
      (((s.dev.setLink (portOf n) { l with names := some m.port }).setLaneX n { x with trainRx := rx, ackRx := ack }).sendTrain n (rx == 16))))
  ∧ (∀ (s : State) (n : Fin 12) (m : TrainMsg), 6 ≤ n.val → s.dev.laneState n = 3 → m.logical ≠ s.dev.role n →
    exec (.train n m) s = .next (s.after
      ((s.dev.setLaneX n { s.dev.laneX n with trainRx := 0, ackRx := 0 }).raise (C.LANE_DESKEW_FAIL n))))
  ∧ (∀ (s : State) (n : Fin 12) (count : BitVec 16) (t u k : Nat) (b : Dev), 6 ≤ n.val → s.dev.laneUp n = true →
    b = s.dev.setLaneX n { s.dev.laneX n with mark := some (count.toNat, t) } →
    ((portLanes (portOf n)).filter (fun k => decide (k ≠ n.val) && b.laneUp k)).head? = some k →
    (b.laneX k).mark = some (count.toNat, u) → max t u - min t u ≤ 300 →
    exec (.laneMark n count t) s = .next (s.after
      ((b.setLink (portOf n) { b.link (portOf n) with deskewed := true, deskFail := false }).widthSync (portOf n))))

/-- Attempts, waits, sleep, the spare, margins and test errors of lanes (R419, R422, R424, R426 to R428, R431, R433, R590). -/
def Obligations.LaneAttempts : Prop :=
  (∀ (s : State) (n : Fin 12) (t k : Nat) (b : Dev), (s.dev.laneX n).attempt = some t →
    k = min 15 (s.dev.gf (F.LANE_LINK_STATUS_ATTEMPTS n) + 1) →
    b = (((s.dev.advanceTo (t + s.dev.attemptNs n)).sf (F.LANE_LINK_STATUS_ATTEMPTS n) k).startWait n (min 128 (2^k))).sf
      (F.LANE_LINK_STATUS_BLOCK_LOCK n) 0 →
    k < 3 → exec (.attemptTimeout n) s = .next (s.after (b.setLaneState n 1)))
  ∧ (∀ (s : State) (n : Fin 12) (t k : Nat) (b : Dev), (s.dev.laneX n).attempt = some t →
    k = min 15 (s.dev.gf (F.LANE_LINK_STATUS_ATTEMPTS n) + 1) →
    b = (((s.dev.advanceTo (t + s.dev.attemptNs n)).sf (F.LANE_LINK_STATUS_ATTEMPTS n) k).startWait n (min 128 (2^k))).sf
      (F.LANE_LINK_STATUS_BLOCK_LOCK n) 0 →
    3 < k → exec (.attemptTimeout n) s = .next (s.after
        (((b.sf (F.LANE_LINK_STATUS_TX_ASLEEP n) 1).setLaneState n 5).lossSync (portOf n))))
  ∧ (∀ (s : State) (n : Fin 12) (t : Nat) (b d : Dev), (s.dev.laneX n).attempt = some t →
    s.dev.gf (F.LANE_LINK_STATUS_ATTEMPTS n) = 2 →
    b = (((s.dev.advanceTo (t + s.dev.attemptNs n)).sf (F.LANE_LINK_STATUS_ATTEMPTS n) 3).startWait n 8).sf
      (F.LANE_LINK_STATUS_BLOCK_LOCK n) 0 →
    d = (b.sf (F.LANE_LINK_STATUS_TX_ASLEEP n) 1).setLaneState n 5 →
    ¬ (d.role n < 2 ∧ ∃ m ∈ portLanes (portOf n), m ≠ n.val ∧ d.laneUp m = true) →
    exec (.attemptTimeout n) s = .next (s.after ((d.raise (C.LANE_NO_PARTNER n)).lossSync (portOf n))))
  ∧ (∀ (s : State) (n : Fin 12) (w : Nat), (s.dev.laneX n).attempt = none → w = s.dev.gf (F.LANE_LINK_TIMING_WAIT_NOW n) → w ≠ 0 →
    s.dev.laneState n = 1 ∨ s.dev.laneState n = 5 →
    exec (.backoffExpiry n) s = .next (s.after ((s.dev.advanceTo ((s.dev.laneX n).waitAt + w * 1000000)).startAttempt n)))
  ∧ (∀ (s : State) (n : Fin 12) (v : Bool), 6 ≤ n.val →
    exec (.sleepNotice n v) s = .next (s.after (s.dev.setLaneX n { s.dev.laneX n with notice := v })))
  ∧ (∀ (s : State) (n : Fin 12) (b : Dev), (s.dev.laneX n).wakeTx = true →
    b = (s.dev.setLaneX n { s.dev.laneX n with wakeTx := false }).sf (F.LANE_LINK_STATUS_TX_ASLEEP n) 0 →
    b.on (F.LANE_LINK_STATUS_BLOCK_LOCK n) = true →
    exec (.laneWakeDone n true) s = .next (s.after ((b.setLaneState n 4).widthSync (portOf n))))
  ∧ (∀ (s : State) (n : Fin 12) (b : Dev), (s.dev.laneX n).wakeTx = true →
    b = (s.dev.setLaneX n { s.dev.laneX n with wakeTx := false }).sf (F.LANE_LINK_STATUS_TX_ASLEEP n) 0 →
    b.on (F.LANE_LINK_STATUS_BLOCK_LOCK n) = false → exec (.laneWakeDone n true) s = .next (s.after (b.startAttempt n)))
  ∧ (∀ (s : State) (n : Fin 12) (b : Dev), (s.dev.laneX n).wakeRx = true →
    b = (s.dev.setLaneX n { s.dev.laneX n with wakeRx := false }).sf (F.LANE_LINK_STATUS_RX_ASLEEP n) 0 →
    b.on (F.LANE_LINK_STATUS_TX_ASLEEP n) = true → exec (.laneWakeDone n false) s = .next (s.after b))
  ∧ (∀ (s : State) (n : Fin 12) (b : Dev), (s.dev.laneX n).wakeRx = true →
    b = (s.dev.setLaneX n { s.dev.laneX n with wakeRx := false }).sf (F.LANE_LINK_STATUS_RX_ASLEEP n) 0 →
    b.on (F.LANE_LINK_STATUS_TX_ASLEEP n) = false →
    exec (.laneWakeDone n false) s = .next (s.after ((b.setLaneState n 2).widthSync (portOf n))))
  ∧ (∀ (s : State) (n : Fin 12) (w h : Nat) (b : Dev), s.dev.laneState n = 4 → s.dev.gf (F.LANE_MARGIN_MIN_WIDTH n) ≤ w →
    b = s.dev.advanceTo ((s.dev.laneX n).eyeAt + 1000000000) →
    exec (.eyeMeasure n w h) s = .next (s.after
      (((b.setLaneX n { b.laneX n with eyeAt := b.now, lowRun := 0 }).sf (F.LANE_MARGIN_EYE_WIDTH n) (min 255 w)).sf
        (F.LANE_MARGIN_EYE_HEIGHT n) (min 65535 h))))
  ∧ (∀ (s : State) (n : Fin 12) (w h k : Nat) (b : Dev), s.dev.laneState n = 4 → w < s.dev.gf (F.LANE_MARGIN_MIN_WIDTH n) →
    k = (s.dev.laneX n).lowRun + 1 → k ≠ max 1 (s.dev.gf F.RES_WEAR_CFG_MARGIN_SECS) →
    b = s.dev.advanceTo ((s.dev.laneX n).eyeAt + 1000000000) →
    exec (.eyeMeasure n w h) s = .next (s.after
      ((((b.setLaneX n { b.laneX n with eyeAt := b.now, lowRun := k }).sf (F.LANE_MARGIN_EYE_WIDTH n) (min 255 w)).sf
        (F.LANE_MARGIN_EYE_HEIGHT n) (min 65535 h)).raise (C.LANE_MARGIN_LOW n))))
  ∧ (∀ (s : State) (p : Fin 2) (ok : Bool) (n : Nat), (portLanes p.val).find? (fun n => s.dev.role n == 2) = some n →
    s.dev.isOn (.lane n) = true →
    exec (.spareLaneTrain p ok) s = .next (s.after (
      let d := s.dev.sf (if p.val = 0 then F.RES_LANE_SPARE_SPARE_OK_A else F.RES_LANE_SPARE_SPARE_OK_B) (b2n ok)
      let d := if ok then d else d.raise (C.LANE_SPARE_FAIL n)
      let d := (d.sf (F.LANE_LINK_STATUS_TX_ASLEEP n) 1).sf (F.LANE_LINK_STATUS_RX_ASLEEP n) 1
      (d.setLaneX n { d.laneX n with attempt := none }).setLaneState n 6)))
  ∧ (∀ (s : State) (n : Fin 12), 6 ≤ n.val → s.dev.laneUp n = true →
    exec (.elasticFault n) s = .next (s.after (s.dev.raise (C.LANE_ELASTIC_FAULT n))))
  ∧ (∀ (s : State) (n : Fin 12) (b : Dev), s.dev.laneState n = 7 → s.dev.on (F.LANE_PRBS_CTRL_CHK_EN n) = true →
    s.dev.gf (F.LANE_LANE_CTRL_LOOPBACK n) % 3 = 0 →
    b = (s.dev.prbsSync n).setLaneX n { (s.dev.prbsSync n).laneX n with cleanAt := (s.dev.prbsSync n).now } →
    (s.dev.prbsSync n).on (F.LANE_PRBS_STATUS_LOCK n) = true → ∃ v : Bool, exec (.prbsBitError n) s = .next (s.after
      (((b.incSat (F.LANE_PRBS_ERRORS_COUNT n)).event (E.LANE_PRBS_ERROR n)).freeBool.2.sf (F.LANE_PRBS_STATUS_LOCK n) (b2n v))))
  ∧ (∀ (s : State) (n : Fin 12) (b : Dev), s.dev.laneState n = 7 → s.dev.on (F.LANE_PRBS_CTRL_CHK_EN n) = true →
    s.dev.gf (F.LANE_LANE_CTRL_LOOPBACK n) % 3 = 0 →
    b = (s.dev.prbsSync n).setLaneX n { (s.dev.prbsSync n).laneX n with cleanAt := (s.dev.prbsSync n).now } →
    (s.dev.prbsSync n).on (F.LANE_PRBS_STATUS_LOCK n) = false → exec (.prbsBitError n) s = .next (s.after b))
  ∧ (∀ (s : State) (n : Fin 12), s.dev.laneState n = 7 → s.dev.gf (F.LANE_LANE_CTRL_LOOPBACK n) = 2 →
    s.dev.on (F.LANE_PRBS_CTRL_CHK_EN n) = false →
    exec (.prbsBitError n) s = .next (s.after (s.dev.send (.invertBit n))))

/-- LANE_CTRL and PRBS_CTRL (R420, R426, R427, R430 to R433). `b` is the block as it stands, read through its registers, with the
checker of a lane in TEST locked where its time has come. -/
def Obligations.LaneControls : Prop :=
  (∀ (s : State) (n : Fin 12) (q : Requester), 6 ≤ n.val → s.dev.takes q (.lane n) →
    s.dev.on (F.LANE_LANE_CTRL_TX_SLEEP n) = false → s.dev.on (F.LANE_LINK_STATUS_TX_ASLEEP n) = false →
    ∃ b, (s.dev.prbsSync n).onlyRegs b ∧ (s.dev.prbsSync n).regsBut b [] ∧ exec (.txSleep n q true) s = .next (s.after (
      let d := b.sf (F.LANE_LANE_CTRL_TX_SLEEP n) 1
      (((d.setLaneX n { d.laneX n with wakeTx := false }).sendSleep n 4).sf (F.LANE_LINK_STATUS_TX_ASLEEP n) 1).sleepSync n)))
  ∧ (∀ (s : State) (n : Fin 12) (q : Requester), 6 ≤ n.val → s.dev.takes q (.lane n) →
    s.dev.on (F.LANE_LANE_CTRL_TX_SLEEP n) = true → s.dev.on (F.LANE_LINK_STATUS_TX_ASLEEP n) = true → s.dev.laneState n = 6 →
    ∃ b, (s.dev.prbsSync n).onlyRegs b ∧ (s.dev.prbsSync n).regsBut b [] ∧ exec (.txSleep n q false) s = .next (s.after (
      let d := b.sf (F.LANE_LANE_CTRL_TX_SLEEP n) 0
      d.setLaneX n { d.laneX n with wakeTx := true })))
  ∧ (∀ (s : State) (n : Fin 12) (q : Requester), 6 ≤ n.val → s.dev.takes q (.lane n) →
    s.dev.on (F.LANE_LANE_CTRL_RX_SLEEP n) = false →
    ∃ b, (s.dev.prbsSync n).onlyRegs b ∧ (s.dev.prbsSync n).regsBut b [] ∧ exec (.rxSleep n q true) s = .next (s.after (
      let d := b.sf (F.LANE_LANE_CTRL_RX_SLEEP n) 1
      (((d.setLaneX n { d.laneX n with wakeRx := false }).sf (F.LANE_LINK_STATUS_RX_ASLEEP n) 1).sf
        (F.LANE_LINK_STATUS_BLOCK_LOCK n) 0).sleepSync n)))
  ∧ (∀ (s : State) (n : Fin 12) (q : Requester), 6 ≤ n.val → s.dev.takes q (.lane n) →
    s.dev.on (F.LANE_LANE_CTRL_RX_SLEEP n) = true → s.dev.on (F.LANE_LINK_STATUS_RX_ASLEEP n) = true →
    ∃ b, (s.dev.prbsSync n).onlyRegs b ∧ (s.dev.prbsSync n).regsBut b [] ∧ exec (.rxSleep n q false) s = .next (s.after (
      let d := b.sf (F.LANE_LANE_CTRL_RX_SLEEP n) 0
      d.setLaneX n { d.laneX n with wakeRx := true })))
  ∧ (∀ (s : State) (n : Fin 12) (q : Requester), 6 ≤ n.val → s.dev.takes q (.lane n) → s.dev.laneState n ≠ 6 → s.dev.laneState n ≠ 7 →
    ∃ b, (s.dev.prbsSync n).onlyRegs b ∧ (s.dev.prbsSync n).regsBut b [] ∧ exec (.retrain n q) s = .next (s.after
      ((((b.sf (F.LANE_LINK_STATUS_BLOCK_LOCK n) 0).setLaneState n 1).startAttempt n).widthSync (portOf n))))
  ∧ (∀ (s : State) (n : Fin 12) (q : Requester), 6 ≤ n.val → s.dev.takes q (.lane n) → s.dev.on (F.LANE_LANE_CTRL_MANUAL_ALIGN n) = true →
    ∃ b, (s.dev.prbsSync n).onlyRegs b ∧ (s.dev.prbsSync n).regsBut b [] ∧ exec (.slip n q) s = .next (s.after
      (b.sf (F.LANE_LINK_STATUS_SLIPS n) ((s.dev.gf (F.LANE_LINK_STATUS_SLIPS n) + 1) % 66))))
  ∧ (∀ (s : State) (n : Fin 12) (q : Requester), 6 ≤ n.val → s.dev.takes q (.lane n) → s.dev.on (F.LANE_LANE_CTRL_TEST n) = false →
    ¬ (s.dev.laneUp n = true ∧ ((portLanes (portOf n)).filter s.dev.laneUp).length = 1) →
    ∃ b, (s.dev.prbsSync n).onlyRegs b ∧ (s.dev.prbsSync n).regsBut b [] ∧ exec (.test n q true) s = .next (s.after (
      let d := b.sf (F.LANE_LANE_CTRL_TEST n) 1
      ((d.setLaneX n { d.laneX n with attempt := none, cleanAt := d.now }).setLaneState n 7).widthSync (portOf n))))
  ∧ (∀ (s : State) (n : Fin 12) (q : Requester), 6 ≤ n.val → s.dev.takes q (.lane n) → s.dev.on (F.LANE_LANE_CTRL_TEST n) = false → s.dev.laneUp n = true →
    ((portLanes (portOf n)).filter s.dev.laneUp).length = 1 →
    ∃ b, (s.dev.prbsSync n).onlyRegs b ∧ (s.dev.prbsSync n).regsBut b [] ∧ exec (.test n q true) s = .next (s.after (b.refuse (.lane n))))
  ∧ (∀ (s : State) (n : Fin 12) (q : Requester), 6 ≤ n.val → s.dev.takes q (.lane n) → s.dev.on (F.LANE_LANE_CTRL_TEST n) = true →
    ∃ b, (s.dev.prbsSync n).onlyRegs b ∧ (s.dev.prbsSync n).regsBut b [] ∧ exec (.test n q false) s = .next (s.after
      (((((b.sf (F.LANE_LANE_CTRL_TEST n) 0).sf (F.LANE_PRBS_STATUS_LOCK n) 0).setLaneState n 1).startAttempt n).widthSync (portOf n))))
  ∧ (∀ (s : State) (n : Fin 12) (q : Requester), s.dev.takes q (.lane n) → s.dev.laneState n = 7 →
    s.dev.gf (F.LANE_LANE_CTRL_LOOPBACK n) % 3 = 0 → s.dev.on (F.LANE_PRBS_CTRL_GEN_EN n) = true →
    ∃ b, (s.dev.prbsSync n).onlyRegs b ∧ (s.dev.prbsSync n).regsBut b [] ∧ exec (.inject n q) s = .next (s.after (b.send (.invertBit n))))
  ∧ (∀ (s : State) (n : Fin 12) (q : Requester), s.dev.takes q (.lane n) → s.dev.laneState n = 7 →
    s.dev.gf (F.LANE_LANE_CTRL_LOOPBACK n) % 3 = 1 → s.dev.on (F.LANE_PRBS_CTRL_GEN_EN n) = true →
    ∃ b, (s.dev.prbsSync n).onlyRegs b ∧ (s.dev.prbsSync n).regsBut b [] ∧ exec (.inject n q) s = .next (s.after ((b.send (.invertBit n)).checkerError n)))

/-- Rounds of enumeration, joins and losses (R442 to R450). A message that its receiver has no use for changes nothing. -/
def Obligations.ChainRound : Prop :=
  (∀ (s : State) (q : Requester), s.dev.takes q .chain → s.dev.pole = true → s.dev.carries 0 = true →
    ∃ d, exec (.enumGo q) s = .next (s.after d) ∧ d.gf F.CHAIN_ROUND_ROUND = (s.dev.gf F.CHAIN_ROUND_ROUND + 1) % 2^16
      ∧ d.unit = 1 ∧ d.gf F.CHAIN_STATUS_HOP = 0 ∧ d.gf F.CHAIN_STATUS_ENUM_STATE = 1 ∧ d.chain.step = 1 ∧ d.chain.stepAt = s.dev.now
      ∧ Out.krylink 0 (msgBytes mEnum false 0 1 (payloadOf ([(2, (s.dev.gf F.CHAIN_ROUND_ROUND + 1) % 2^16), (2, 2), (2, 0)]
        ++ codeFields s.dev.codeVals))) ∈ d.out)
  ∧ (∀ (s : State) (q : Requester), s.dev.takes q .chain → s.dev.pole = true → s.dev.carries 0 = false → s.dev.carries 1 = true →
    ∃ d, exec (.enumGo q) s = .next (s.after d) ∧ d.gf F.CHAIN_ROUND_ROUND = (s.dev.gf F.CHAIN_ROUND_ROUND + 1) % 2^16
      ∧ d.unit = 1 ∧ d.aLast = 1 ∧ d.gf F.CHAIN_STATUS_ENUM_STATE = 1 ∧ d.chain.step = 2
      ∧ Out.krylink 1 (msgBytes mEnum false 0 1 (payloadOf ([(2, (s.dev.gf F.CHAIN_ROUND_ROUND + 1) % 2^16), (2, 2), (2, 0)]
        ++ codeFields s.dev.codeVals))) ∈ d.out)
  ∧ (∀ (s : State) (q : Requester), s.dev.takes q .chain → s.dev.pole = false →
    ∃ b, (s.dev.onlyRegs b ∧ s.dev.regsBut b []) ∧ exec (.enumGo q) s = .next (s.after (b.alignSync.calSource.refuse .chain)))
  ∧ (∀ (s : State) (p : Fin 2) (m : ChainMsg) (round next hops : Nat) (l : List Nat), s.dev.pole = false → s.dev.unit = 0 →
    m.args = round :: next :: hops :: l → next ≤ 2047 →
    exec (.enum p m) s = .next (s.after (
      let d := s.dev.takeAddr next
      let d := (d.sf F.CHAIN_ROUND_ROUND round).sf F.CHAIN_STATUS_HOP (hops + 1)
      let d := d.sf F.CHAIN_STATUS_UPSTREAM (p.val + 1)
      let d := { d with chain := { d.chain with enumPort := some p.val, alt := false } }
      let d := (d.setLink p { d.link p with partner := true }).setLink (1 - p.val) { d.link (1 - p.val) with partner := false }
      let d := d.latchCode false l d.now
      if d.carries (1 - p.val) then d.sendEnum (1 - p.val) (next + 1) (hops + 1) l else d.sendEnumEnd p round next false)))
  ∧ (∀ (s : State) (p : Fin 2) (m : ChainMsg) (round next hops : Nat) (l : List Nat), s.dev.pole = false → s.dev.unit = 0 →
    m.args = round :: next :: hops :: l → 2047 < next →
    exec (.enum p m) s = .next (s.after (s.dev.sendEnumEnd p round 2047 true)))
  ∧ (∀ (s : State) (m : ChainMsg) (b : Dev), m.args.getD 0 0 = s.dev.gf F.CHAIN_ROUND_ROUND → s.dev.pole = true →
    m.args.getD 2 0 % 2 = 0 → s.dev.chain.step = 1 → b = s.dev.setLink 0 { s.dev.link 0 with partner := true } →
    exec (.enumEnd 0 m) s = .next (s.after (b.enumB (m.args.getD 1 0))))
  ∧ (∀ (s : State) (m : ChainMsg) (b : Dev), m.args.getD 0 0 = s.dev.gf F.CHAIN_ROUND_ROUND → s.dev.pole = true →
    m.args.getD 2 0 % 2 = 0 → s.dev.chain.step = 2 → b = s.dev.setLink 1 { s.dev.link 1 with partner := true } →
    exec (.enumEnd 1 m) s = .next (s.after (b.endRound (m.args.getD 1 0) b.aLast false 2)))
  ∧ (∀ (s : State) (p : Fin 2) (m : ChainMsg) (round last u : Nat) (b : Dev), m.args = [round, last, 0] →
    round = s.dev.gf F.CHAIN_ROUND_ROUND → s.dev.pole = false → s.dev.chain.enumPort = some u → u ≠ p.val →
    b = s.dev.setLink p { s.dev.link p with partner := true } →
    exec (.enumEnd p m) s = .next (s.after ({ b with chain := { b.chain with downEnd := last } }.sendEnumEnd u round last false)))
  ∧ (∀ (s : State) (b : Dev), s.dev.chain.step = 1 →
    b = s.dev.advanceTo (s.dev.chain.stepAt + max 1 (s.dev.gf F.CHAIN_ENUM_CFG_TIMEOUT) * 1000000) →
    exec .enumTimeout s = .next (s.after (b.endRound 1 1 false 3)))
  ∧ (∀ (s : State) (b : Dev), s.dev.chain.step = 2 →
    b = s.dev.advanceTo (s.dev.chain.stepAt + max 1 (s.dev.gf F.CHAIN_ENUM_CFG_TIMEOUT) * 1000000) →
    exec .enumTimeout s = .next (s.after (b.endRound b.aLast b.aLast false 3)))
  ∧ (∀ (s : State) (p : Fin 2) (m : ChainMsg) (round n a r : Nat) (b : Dev), s.dev.pole = false → m.src ≠ s.dev.unit →
    m.args = [round, n, a, r] → round = s.dev.gf F.CHAIN_ROUND_ROUND →
    b = s.dev.relay p mTopology m.src (payloadOf [(2, round), (2, n), (2, a), (1, r)]) →
    exec (.topology p m) s = .next (s.after (
      let d := { b with chain := { b.chain with ring := r % 2 == 1, lostLinks := [], alt := false } }
      let d := (d.sf F.CHAIN_UNITS_N n).sf F.CHAIN_UNITS_A_LAST a
      let down := 1 - d.enumSide
      (d.setLink down { d.link down with partner := d.chain.ring || decide (d.unit ≠ d.aLast ∧ d.unit ≠ d.units) }).topoSync)))
  ∧ (∀ (s : State) (p : Fin 2) (m : ChainMsg), s.dev.unit ≠ 0 → m.dst = s.dev.unit →
    exec (.join p m) s = .next (s.after ((s.dev.inc F.CHAIN_JOINS_COUNT).raise C.CHAIN_UNIT_JOINED (m.args.getD 0 0))))
  ∧ (∀ (s : State) (p : Fin 2) (m : ChainMsg), m.dst ≠ s.dev.unit →
    exec (.join p m) s = .next (s.after (s.dev.sendTo mJoin m.dst m.src (payloadOf [(1, m.args.getD 0 0)]))))
  ∧ (∀ (s : State) (p : Fin 2) (m : ChainMsg) (b : Dev), m.src ≠ s.dev.unit → s.dev.unit ≠ 0 →
    b = s.dev.relay p mLinkEvent m.src (payloadOf [(1, m.args.getD 0 0), (1, b2n (m.args.getD 1 0 == 1))]) →
    exec (.linkEvent p m) s = .next (s.after (b.linkChange (b.linkOf m.src (m.args.getD 0 0)) (m.args.getD 1 0 == 1))))
  ∧ (∀ (s : State) (p : Fin 2), exec (.msgCrc p) s = .next (s.after ((s.dev.inc F.CHAIN_CRC_ERR_COUNT).raise C.CHAIN_MSG_CRC p)))

/-- Meridian and calendar time over the chain (R453 to R455, R462, R463, R466). -/
def Obligations.ChainTime : Prop :=
  (∀ (s : State) (p : Fin 2) (b : Dev), s.dev.carries p = true → b = s.dev.advanceTo (s.dev.chain.syncAt + s.dev.syncUs * 1000) →
    ∃ d, exec .syncInterval s = .next (s.after d) ∧ d.chain.syncAt = b.now ∧ (d.link p).seq = ((s.dev.link p).seq + 1) % 65536
      ∧ (d.link p).t1 = some b.tick
      ∧ Out.krylink p (msgBytes mDelayReq false 0 s.dev.unit (payloadOf [(2, ((s.dev.link p).seq + 1) % 65536)])) ∈ d.out)
  ∧ (∀ (s : State) (p : Fin 2) (m : ChainMsg) (t2 : Nat) (b : Dev), b = s.dev.alignSync →
    exec (.delayReq p m t2) s = .next (s.after (b.sendOn p mDelayResp false 0 b.unit
      (payloadOf ([(2, m.args.getD 0 0)] ++ timeField t2 ++ timeField b.tick ++ [(1, b2n b.qualified), (2, b.gf F.CHAIN_STATUS_HOP)])))))
  ∧ (∀ (s : State) (p : Fin 2) (m : ChainMsg) (q t1 t2 t3 t4 : Nat) (e : Int × Int) (b : Dev), (s.dev.link p).t1 = some t1 →
    m.args = [q, t2, t3, 1] → (s.dev.link p).seq = q → (s.dev.link p).lane = s.dev.timingLane p → s.dev.upstream = some p.val →
    s.dev.pole = false → s.dev.on F.CHAIN_CTRL_ALIGN_EN = true → s.dev.on F.TIME_STATUS_HOLDOVER = false →
    s.dev.gf F.CHAIN_ALIGN_STATUS_STATE = 3 → e = s.dev.exchange p t1 t2 t3 t4 →
    b = ((s.dev.setLink p { s.dev.link p with t1 := none, missed := 0 }).si F.CHAIN_OFFSET_O (sat32 e.1)).si F.CHAIN_DELAY_D e.2 →
    (b.discipline e.1).now = s.dev.now →
    exec (.delayResp p m t4) s = .next (s.after (b.discipline e.1)))
  ∧ (∀ (s : State) (p : Fin 2) (m : ChainMsg) (q t1 t2 t3 t4 : Nat) (e : Int × Int) (b : Dev), (s.dev.link p).t1 = some t1 →
    m.args = [q, t2, t3, 0] → (s.dev.link p).seq = q → (s.dev.link p).lane = s.dev.timingLane p → s.dev.upstream = some p.val →
    s.dev.pole = false → s.dev.on F.CHAIN_CTRL_ALIGN_EN = true → e = s.dev.exchange p t1 t2 t3 t4 →
    b = ((s.dev.setLink p { s.dev.link p with t1 := none, missed := 0 }).si F.CHAIN_OFFSET_O (sat32 e.1)).si F.CHAIN_DELAY_D e.2 →
    exec (.delayResp p m t4) s = .next (s.after (b.setAlign 4).alignSync))
  ∧ (∀ (s : State) (b : Dev), s.dev.pole = true → s.dev.unit ≠ 0 →
    b = { s.dev.advanceTo (s.dev.chain.calSent + 125000000) with chain :=
      { s.dev.chain with calSent := (s.dev.advanceTo (s.dev.chain.calSent + 125000000)).now } } →
    exec .calTimeBroadcast s = .next (s.after (b.broadcast mCalTime (payloadOf [(8, s.dev.g64 F.TIME_TAI_BASE_LO_NS F.TIME_TAI_BASE_HI_NS),
      (8, s.dev.g64 F.TIME_M_BASE_LO_NS F.TIME_M_BASE_HI_NS), (4, s.dev.gf F.TIME_RATE_RATE), (2, s.dev.utcOffset),
      (1, b2n (s.dev.on F.TIME_CAL_CTRL_TAI_VALID))]))))
  ∧ (∀ (s : State) (p : Fin 2) (m : ChainMsg) (b : Dev) (a0 a1 a2 a3 a4 : Nat), s.dev.pole = false → m.src ≠ s.dev.unit →
    m.args = [a0, a1, a2, a3, a4] → b = s.dev.relay p mCalTime m.src (payloadOf [(8, a0), (8, a1), (4, a2), (2, a3), (1, a4)]) →
    exec (.calTime p m) s = .next (s.after (
      let d := (b.setMapping a0 a1 (toSigned 32 (a2 % 2^32))).sf F.TIME_UTC_OFFSET_OFFSET a3
      let d := { d with chain := { d.chain with calAt := d.now } }
      (d.sf F.TIME_CAL_CTRL_ACTIVE_SRC (if a4 % 2 = 1 then 3 else 0)).setTaiValid (a4 % 2 == 1))))
  ∧ (∀ s : State, s.dev.pole = false → s.dev.on F.TIME_CAL_CTRL_TAI_VALID = true →
    exec .calTimeAbsent s = .next (s.after
      (((s.dev.advanceTo (s.dev.chain.calAt + 1000000000)).sf F.TIME_CAL_CTRL_ACTIVE_SRC 0).setTaiValid false)))
  ∧ (∀ (s : State) (q : Requester), s.dev.takes q .time → s.dev.pole = true → s.dev.on F.TIME_CAL_CTRL_SRC = false →
    exec (.setCtrlGo q) s = .next (s.after (
      (((s.dev.setMapping (s.dev.g64 F.TIME_SET_TAI_LO_NS F.TIME_SET_TAI_HI_NS) (s.dev.g64 F.TIME_SET_M_LO_NS F.TIME_SET_M_HI_NS) 0).sf
        F.TIME_CAL_CTRL_ACTIVE_SRC 1).setTaiValid true).mappingSync (s.dev.tai s.dev.now))))
  ∧ (∀ (s : State) (q : Requester), s.dev.takes q .time → s.dev.pole = false ∨ s.dev.on F.TIME_CAL_CTRL_SRC = true →
    exec (.setCtrlGo q) s = .next (s.after (s.dev.refuse .time)))

/-- Settings, accesses and packets over the chain (R85, R401, R443, R445, R468, R470 to R472). A unit's own REG_REQ is never sent
(log 87). -/
def Obligations.ChainAccess : Prop :=
  (∀ (s : State) (q : Requester), s.dev.takes q .chain → ∃ b c, s.dev.onlyRegs b ∧ s.dev.regsBut b [] ∧ c = b.alignSync.calSource ∧
    (c.pole = false → exec (.configPush q) s = .next (s.after (c.refuse .chain)))
    ∧ (c.g64 F.CHAIN_CONFIG_AT_LO_NS F.CHAIN_CONFIG_AT_HI_NS < c.now + 10000 + 2000 * c.maxHop →
      exec (.configPush q) s = .next (s.after (c.refuse .chain)))
    ∧ (∀ t, c.pole = true → t = c.g64 F.CHAIN_CONFIG_AT_LO_NS F.CHAIN_CONFIG_AT_HI_NS → c.now + 10000 + 2000 * c.maxHop ≤ t →
      exec (.configPush q) s = .next (s.after
        ((c.broadcast mConfig (configBytes c.codeShadow (256 * t))).takeConfig (256 * t) c.codeShadow))))
  ∧ (∀ (s : State) (p : Fin 2) (m : ChainMsg), m.src ≠ s.dev.unit → s.dev.pole = false →
    exec (.config p m) s = .next (s.after
      ((s.dev.relay p mConfig m.src (configBytes m.args (m.args.getD 4 0))).takeConfig (m.args.getD 4 0) m.args)))
  ∧ (∀ (s : State) (p : Fin 2) (m : ChainMsg), m.dst ≠ s.dev.unit →
    exec (.regReq p m) s = .next (s.after (s.dev.sendTo mRegReq m.dst m.src (wordsBE m.words))))
  ∧ (∀ (s : State) (p : Fin 2) (m : ChainMsg) (w0 w1 w2 : Word) (rest : List Word) (r : ReplyX),
    m.words = w0 :: w1 :: w2 :: rest →
    r = { port := 2, op := bits w0 16 8, unit := bits w0 0 16, seq := w1.toNat, src := m.src } →
    m.dst = s.dev.unit → raFormed (bits w0 24 8) r.op (bits w2 24 8) (raEntries rest) = true →
    exec (.regReq p m) s = .next (s.after (s.dev.execRequest .chain r (raEntries rest))))
  ∧ (∀ (s : State) (p : Fin 2) (m : ChainMsg) (w0 w1 w2 : Word) (rest : List Word) (r : ReplyX),
    m.words = w0 :: w1 :: w2 :: rest →
    r = { port := 2, op := bits w0 16 8, unit := bits w0 0 16, seq := w1.toNat, src := m.src } →
    m.dst = s.dev.unit → raFormed (bits w0 24 8) r.op (bits w2 24 8) (raEntries rest) = false →
    exec (.regReq p m) s = .next (s.after (s.dev.answer r 3 [])))
  ∧ (∀ (s : State) (p : Fin 2) (m : ChainMsg), m.dst ≠ s.dev.unit →
    exec (.regResp p m) s = .next (s.after (s.dev.sendTo mRegResp m.dst m.src (wordsBE m.words))))
  ∧ (∀ (s : State) (p : Fin 2) (m : ChainMsg) (hit : RemoteX → Bool) (x : RemoteX),
    hit = (fun x => x.unit == m.src && x.seq == (m.words.getD 1 0#32).toNat) →
    m.dst = s.dev.unit → s.dev.chain.remote.find? hit = some x →
    exec (.regResp p m) s = .next (s.after
      ({ s.dev with chain := { s.dev.chain with remote := dropFirst hit s.dev.chain.remote } }.remoteEnd x
        (bits (m.words.getD 2 0#32) 16 8) (raEntries (m.words.drop 3)))))
  ∧ (∀ (s : State) (p : Fin 2) (m : ChainMsg) (k : Nat), m.dst = s.dev.unit → m.args = [k] → k < 48 →
    exec (.portInfo p m) s = .next (s.after (s.dev.sendTo mPortInfo m.src s.dev.unit (payloadOf [(1, k), (1, s.dev.gf (F.EMIT_PORT_CFG_PHASE k)),
      (2, s.dev.gf (F.EMIT_PORT_CODE_BASE k)), (2, s.dev.gf (F.EMIT_PORT_CODE_STEP k)), (1, b2n (s.dev.coord k))]))))
  ∧ (∀ (s : State) (p : Fin 2) (m : ChainMsg), s.dev.pole = true →
    exec (.streamFwd p m) s = .next (s.after
      ((s.dev.enterBuffer (packetOf m.words)).giveCredit p (packetOf m.words).bytes).pump))
  ∧ (∀ (s : State) (p : Fin 2) (m : ChainMsg), s.dev.pole = false →
    exec (.streamFwd p m) s = .next (s.after
      (s.dev.setLink p { s.dev.link p with fwd := (s.dev.link p).fwd ++ [packetOf m.words] }).pump))
  ∧ (∀ (s : State) (p : Fin 2) (m : ChainMsg), exec (.credit p m) s = .next (s.after (s.dev.setLink p { s.dev.link p with
      granted := (s.dev.link p).granted + (m.args.getD 0 0 + 2^32 - (s.dev.link p).granted % 2^32) % 2^32 }).pump))
  ∧ (∀ (s : State) (q : Requester) (w : Word) (b : Dev), s.dev.takes q .chain → bits w 0 1 = 1 →
    b = s.dev.sfQ q F.CHAIN_RA_CTRL_OP (bits w 1 1) → s.dev.gfQ q F.CHAIN_RA_STATUS_BUSY = 1 →
    exec (.raGo q w) s = .next (s.after (s.dev.refuse .chain)))
  ∧ (∀ (s : State) (q : Requester) (w : Word) (b : Dev), s.dev.takes q .chain → bits w 0 1 = 1 →
    b = s.dev.sfQ q F.CHAIN_RA_CTRL_OP (bits w 1 1) → s.dev.gfQ q F.CHAIN_RA_STATUS_BUSY = 0 →
    b.hopOf (b.gfQ q F.CHAIN_RA_UNIT_UNIT) = none → exec (.raGo q w) s = .next (s.after (b.raDone q 4 none)))
  ∧ (∀ (s : State) (q : Requester) (w : Word) (b : Dev), s.dev.takes q .chain → bits w 0 1 = 1 →
    b = s.dev.sfQ q F.CHAIN_RA_CTRL_OP (bits w 1 1) → s.dev.gfQ q F.CHAIN_RA_STATUS_BUSY = 0 →
    (b.hopOf (b.gfQ q F.CHAIN_RA_UNIT_UNIT)).isSome = true → bits w 1 1 = 0 →
    exec (.raGo q w) s = .next (s.after (
      let d := { b with chain := { b.chain with nextSeq := (b.chain.nextSeq + 1) % 2^32 } }.sfQ q F.CHAIN_RA_STATUS_BUSY 1
      d.sendReq q none (b.gfQ q F.CHAIN_RA_UNIT_UNIT) 1 b.chain.nextSeq [(d.rdQ q R.CHAIN_RA_ADDR, 0#32)])))
  ∧ (∀ (s : State) (q : Requester) (w : Word) (b : Dev), s.dev.takes q .chain → bits w 0 1 = 1 →
    b = s.dev.sfQ q F.CHAIN_RA_CTRL_OP (bits w 1 1) → s.dev.gfQ q F.CHAIN_RA_STATUS_BUSY = 0 →
    (b.hopOf (b.gfQ q F.CHAIN_RA_UNIT_UNIT)).isSome = true → bits w 1 1 = 1 →
    exec (.raGo q w) s = .next (s.after (
      let d := { b with chain := { b.chain with nextSeq := (b.chain.nextSeq + 1) % 2^32 } }.sfQ q F.CHAIN_RA_STATUS_BUSY 1
      d.sendReq q none (b.gfQ q F.CHAIN_RA_UNIT_UNIT) 2 b.chain.nextSeq [(d.rdQ q R.CHAIN_RA_ADDR, d.rdQ q R.CHAIN_RA_DATA)])))
  ∧ (∀ (s : State) (q : Requester) (x : RemoteX), s.dev.chain.remote.find? (fun x => x.req == q) = some x →
    exec (.remoteAccessTimeout q) s = .next (s.after (
      ({ s.dev with chain := { s.dev.chain with remote := dropFirst (fun y => y.req == q) s.dev.chain.remote } }.advanceTo x.limit).remoteEnd
        x 1 [])))

/-- Safety inputs, the ledger's buckets and Nightwatch's own faults (R489, R490, R498, R499, R505, R509). -/
def Obligations.NwInputs : Prop :=
  (∀ (s : State) (i : Fin 8) (ch lv : Bool), ∃ d, exec (.inputFilterChange i ch lv) s = .next (s.after d)
    ∧ d.on (F.NW_IN_STATUS_PIN_A i) = (if ch then s.dev.on (F.NW_IN_STATUS_PIN_A i) else lv)
    ∧ d.on (F.NW_IN_STATUS_PIN_B i) = (if ch then lv else s.dev.on (F.NW_IN_STATUS_PIN_B i))
    ∧ d.on (F.NW_IN_STATUS_DEM_A i) = (d.on (F.NW_IN_CFG_EN i) && !(d.on (F.NW_IN_STATUS_PIN_A i)))
    ∧ d.on (F.NW_IN_STATUS_DEM_B i) = (d.on (F.NW_IN_CFG_EN i) && (d.on (F.NW_IN_STATUS_PIN_B i) == d.on (F.NW_IN_CFG_TYPE i)))
    ∧ d.gf (F.NW_IN_STATUS_STATE i) = d.pairState i)
  ∧ (∀ (s : State) (i : Fin 8) (t : Nat) (b : Dev), fget code0 s.dev.nw.discAt i = t + 1 → bit s.dev.nw.discDone i = false →
    b = s.dev.advanceNw (t + (s.dev.discMs i - 1) * 1000000 + 1) →
    exec (.discrepancy i) s = .next (s.after (
      let d := b.discLatch i ((b.nwNow - t) / 1000000)
      d.sf (F.NW_IN_STATUS_STATE i) (d.pairState i))))
  ∧ (∀ (s : State) (w : Fin 3) (n : Nat) (b : Dev), n = fget code0 s.dev.ledger.bucket w + 1 →
    b = s.dev.advanceNw (n * s.dev.bucketNs w) →
    exec (.ledgerBucket w) s = .next (s.after { b with ledger := { b.ledger with
      sums := ageBuckets w b.ledger.sums, bucket := fset code0 b.ledger.bucket w n } }.allCells))
  ∧ (∀ s : State, s.dev.nw.tested = none →
    exec (.nwSelfTestDone true) s = .next (s.after { s.dev with nw := { s.dev.nw with tested := some true } }))
  ∧ (∀ s : State, s.dev.nw.tested = none →
    exec (.nwSelfTestDone false) s = .next (s.after ({ s.dev with nw := { s.dev.nw with tested := some false } }.enterFault505 1)))
  ∧ (∀ (s : State) (c : Fin 8), c.val = 2 ∨ c.val = 4 ∨ c.val = 5 ∨ c.val = 6 →
    exec (.nwFault c) s = .next (s.after (s.dev.enterFault505 c)))
  ∧ (∀ s : State, s.dev.nw.oscRun = true → exec (.oscMismatch none) s = .next (s.after (s.dev.enterFault505 3)))
  ∧ (∀ (s : State) (d : Int), s.dev.nw.oscRun = true → d.natAbs ≤ 100 →
    exec (.oscMismatch (some d)) s = .next (s.after (s.dev.si F.NW_OSC_CHECK_DEV d)))
  ∧ (∀ (s : State) (d : Int), s.dev.nw.oscRun = true → 100 < d.natAbs →
    exec (.oscMismatch (some d)) s = .next (s.after
      ((s.dev.si F.NW_OSC_CHECK_DEV (max (-32768) (min 32767 d))).enterFault505 3)))
  ∧ (∀ (b : Dev) (c : Nat), b.nwState ≠ 5 → ∃ d, b.enterFault505 c = d.edgeSync
      ∧ d = ((((b.permitOff).sf F.NW_STATUS_FAULT c).setNwState 5).raise C.NW_NW_FAULT).record 0x0032 .unsafeSev Page.nw.base c)

/-- The reset edge and the release (R482, R485 to R487, R506). `b` is the block once the edge has cleared the latches. -/
def Obligations.NwEdges : Prop :=
  (∀ (s : State) (n lo : Nat) (b : Dev), 50 ≤ n → n ≤ 3000 → s.dev.nw.stuck = false ∨ 50 ≤ lo →
    b = { s.dev with nw := { s.dev.nw with stuck := false } }.clearLatches.nwSync → b.edgeOk = true → b.fbOff = true →
    exec (.resetEdge n lo) s = .next (s.after b.acceptEdge))
  ∧ (∀ (s : State) (n lo : Nat) (b : Dev), 50 ≤ n → n ≤ 3000 → s.dev.nw.stuck = false ∨ 50 ≤ lo →
    b = { s.dev with nw := { s.dev.nw with stuck := false } }.clearLatches.nwSync → b.edgeOk = true → b.fbOff = false →
    exec (.resetEdge n lo) s = .next (s.after { b with nw := { b.nw with edgeAt := some b.nwNow } }))
  ∧ (∀ (s : State) (n lo : Nat) (b : Dev), 50 ≤ n → n ≤ 3000 → s.dev.nw.stuck = false ∨ 50 ≤ lo →
    b = { s.dev with nw := { s.dev.nw with stuck := false } }.clearLatches.nwSync → b.edgeOk = false →
    exec (.resetEdge n lo) s = .next (s.after (b.rejectEdge (!b.fbOff))))
  ∧ (∀ (s : State) (n lo : Nat), n < 50 ∨ 3000 < n ∨ (s.dev.nw.stuck = true ∧ lo < 50) → exec (.resetEdge n lo) s = .next (s.after s.dev))
  ∧ (∀ s : State, ∃ b : Dev, b = { s.dev with nw := b.nw } ∧ b.nw.stuck = true ∧
    exec .resetStuck s = .next (s.after ((b.sf F.NW_RESET_STATUS_LAST 3).raise C.NW_RESET_STUCK)))
  ∧ (∀ (s : State) (q : Requester) (b c : Dev), s.dev.takes q .nw → s.dev.unlockStep q = 2 →
    s.dev.nwNow ≤ fget code0 s.dev.nw.unlockAt q.code + 100000 → s.dev.releasing = false → b = s.dev.setUnlock q 0 →
    c = b.record 0x0034 .info Page.nw.base 0x54 2 q.code → c.on F.NW_CFG_SW_RESET_EN = true →
    exec (.swReset q) s = .next (s.after c.resetEdgeCore))
  ∧ (∀ (s : State) (q : Requester) (b c : Dev), s.dev.takes q .nw → s.dev.unlockStep q = 2 →
    s.dev.nwNow ≤ fget code0 s.dev.nw.unlockAt q.code + 100000 → s.dev.releasing = false → b = s.dev.setUnlock q 0 →
    c = b.record 0x0034 .info Page.nw.base 0x54 2 q.code → c.on F.NW_CFG_SW_RESET_EN = false →
    exec (.swReset q) s = .next (s.after c))
  ∧ (∀ (s : State) (q : Requester), s.dev.takes q .nw →
    exec (.hostTrip q) s = .next (s.after (((s.dev.nwOtherWrite q).raise C.NW_HOST_TRIP).latchTrip 15)))
  ∧ (∀ (s : State) (t : Nat), s.dev.nw.edgeAt = some t →
    exec .resetEdgeFbTimeout s = .next (s.after ((s.dev.advanceNw (t + s.dev.fbTime)).rejectEdge true)))
  ∧ (∀ (s : State) (c : Fin 4) (off : Bool) (b : Dev),
    b = s.dev.sf F.NW_PERMIT_STATUS_FEEDBACK (setBit (s.dev.gf F.NW_PERMIT_STATUS_FEEDBACK) c (!off)) →
    b.nw.edgeAt = none ∨ b.fbOff = false → exec (.feedbackOff c off) s = .next (s.after b))
  ∧ (∀ (s : State) (c : Fin 4) (off : Bool) (b : Dev) (t : Nat),
    b = s.dev.sf F.NW_PERMIT_STATUS_FEEDBACK (setBit (s.dev.gf F.NW_PERMIT_STATUS_FEEDBACK) c (!off)) →
    b.nw.edgeAt = some t → b.fbOff = true → b.nwNow ≤ t + b.fbTime → b.edgeOk = true →
    exec (.feedbackOff c off) s = .next (s.after b.acceptEdge))
  ∧ (∀ s : State, s.dev.nwState = 2 →
    exec .releaseFeedbackOn s = .next (s.after
      ((s.dev.sf F.NW_PERMIT_STATUS_FEEDBACK (Nat.lor (s.dev.gf F.NW_PERMIT_STATUS_FEEDBACK) s.dev.permitMask)).permit)))
  ∧ (∀ (s : State) (b : Dev) (c : Nat), s.dev.nwState = 2 → b = s.dev.advanceNw (s.dev.nw.relAt + s.dev.fbTime) →
    (List.range 4).find? (fun k => bit b.permitMask k && !(bit (b.gf F.NW_PERMIT_STATUS_FEEDBACK) k)) = some c →
    exec .releaseFeedbackTimeout s = .next (s.after ((b.raise C.NW_FEEDBACK_FAULT c).latchTrip 9)))

/-- Test pulses, feedback and the watchdog (R484, R492, R494). -/
def Obligations.NwTests : Prop :=
  (∀ (s : State) (c : Fin 4) (b : Dev), s.dev.nwState = 3 → s.dev.nw.test = none → s.dev.nextTest = some c.val →
    b = s.dev.advanceNw (max (s.dev.nw.testAt
      + testSteps s.dev.nw.lastTest c * (min 60000 (max 100 (s.dev.gf F.NW_TP_CFG_PERIOD)) * 1000000) / 4) s.dev.nw.testEnd) →
    ∃ d e : Dev, exec (.testPulse c) s = .next (s.after e)
      ∧ e = (d.setDrive (setBit (d.gf F.NW_PERMIT_STATUS_DRIVE) c false)).sb F.NW_STATUS_TEST_ACTIVE true
      ∧ d = { b with nw := d.nw } ∧ d.nw.test = some (c.val, b.nwNow) ∧ d.nw.lastTest = c ∧ d.nw.testAt = b.nwNow)
  ∧ (∀ (s : State) (c : Fin 4) (t : Nat) (b : Dev), s.dev.nw.test = some (c.val, t) →
    b = s.dev.advanceNw (t + min 1000 (max 100 (s.dev.gf F.NW_TP_CFG_WIDTH)) * 1000) →
    exec (.testPulseEnd c true) s = .next (s.after (
      let d : Dev := { b with nw := { b.nw with test := none, testEnd := b.nwNow + 200000 } }
      (d.setDrive (setBit (d.gf F.NW_PERMIT_STATUS_DRIVE) c true)).inc F.NW_TESTS_COUNT)))
  ∧ (∀ (s : State) (c : Fin 4) (t : Nat) (b e : Dev), s.dev.nw.test = some (c.val, t) →
    b = s.dev.advanceNw (t + min 1000 (max 100 (s.dev.gf F.NW_TP_CFG_WIDTH)) * 1000) →
    e = { b with nw := { b.nw with test := none, testEnd := b.nwNow + 200000 } }.setDrive
      (setBit (b.gf F.NW_PERMIT_STATUS_DRIVE) c true) →
    exec (.testPulseEnd c false) s = .next (s.after (
      ((e.sf F.NW_PERMIT_STATUS_READBACK (setBit (e.gf F.NW_PERMIT_STATUS_READBACK) c true)).raise C.NW_TEST_FAULT c).latchTrip 10)))
  ∧ (∀ (s : State) (c : Fin 4), bit (s.dev.gf F.NW_PERMIT_STATUS_DRIVE) c = false → s.dev.nw.test = none →
    exec (.readbackFault c true) s = .next (s.after (
      ((s.dev.sf F.NW_PERMIT_STATUS_READBACK (setBit (s.dev.gf F.NW_PERMIT_STATUS_READBACK) c true)).raise C.NW_TEST_FAULT c).latchTrip 10)))
  ∧ (∀ (s : State) (c : Fin 4), bit (s.dev.gf F.NW_PERMIT_STATUS_DRIVE) c = false → s.dev.nw.test = none →
    exec (.readbackFault c false) s = .next (s.after
      (s.dev.sf F.NW_PERMIT_STATUS_READBACK (setBit (s.dev.gf F.NW_PERMIT_STATUS_READBACK) c false))))
  ∧ (∀ (s : State) (c : Fin 4), s.dev.nwState ≠ 2 → bit s.dev.permitMask c = true →
    s.dev.on F.NW_STATUS_TEST_ACTIVE = false ∨ s.dev.nw.lastTest ≠ c.val →
    ∃ d, exec (.feedbackFault c) s = .next (s.after ((d.raise C.NW_FEEDBACK_FAULT c).latchTrip 9))
      ∧ bit d.nw.fbBad c = true
      ∧ ∃ m n, d = { s.dev with regs := m, nw := n } ∧ s.dev.regsBut d [R.NW_PERMIT_STATUS]
      ∧ bit (d.gf F.NW_PERMIT_STATUS_FEEDBACK) c = !(bit (s.dev.gf F.NW_PERMIT_STATUS_DRIVE) c))
  ∧ (∀ (s : State) (v : Word) (b : Dev), s.dev.takes .firmware .nw → b = s.dev.nwOtherWrite .firmware →
    v.toNat = 0x5555 ∨ v.toNat = 0xAAAA → v.toNat ≠ b.nw.wdLast →
    exec (.watchdog .firmware v) s = .next (s.after
      { b with nw := { b.nw with wdLast := v.toNat, wdAt := b.nwNow, wdOk := min 2 (b.nw.wdOk + 1), wdMissed := false } }))
  ∧ (∀ (s : State) (q : Requester) (v : Word), s.dev.takes q .nw → q ≠ .firmware →
    exec (.watchdog q v) s = .next (s.after (s.dev.nwOtherWrite q).watchdogLatch))
  ∧ (∀ (s : State) (v : Word) (b : Dev), s.dev.takes .firmware .nw → b = s.dev.nwOtherWrite .firmware →
    (v.toNat ≠ 0x5555 ∧ v.toNat ≠ 0xAAAA) ∨ v.toNat = b.nw.wdLast →
    exec (.watchdog .firmware v) s = .next (s.after b.watchdogLatch))
  ∧ (∀ (s : State) (b : Dev), b = s.dev.advanceNw (s.dev.nw.wdAt + min 100 (max 1 (s.dev.gf F.NW_CFG_WD_TIME)) * 10000000) →
    exec .watchdogTimeout s = .next (s.after { b with nw := { b.nw with wdAt := b.nwNow } }.watchdogLatch))

/-- Protected writes (R502, R506 to R508). -/
def Obligations.NwWrites : Prop :=
  (∀ (s : State) (q : Requester) (v : Word), s.dev.takes q .nw → s.dev.unlockStep q = 0 → v.toNat = 0xA5C3 →
    exec (.unlock q v) s = .next (s.after (s.dev.setUnlock q 1)))
  ∧ (∀ (s : State) (q : Requester) (v : Word), s.dev.takes q .nw → s.dev.unlockStep q = 1 → v.toNat = 0x3C5A →
    exec (.unlock q v) s = .next (s.after (s.dev.setUnlock q 2)))
  ∧ (∀ (s : State) (q : Requester) (v : Word), s.dev.takes q .nw → s.dev.unlockStep q = 0 → v.toNat ≠ 0xA5C3 →
    exec (.unlock q v) s = .next (s.after (s.dev.raise C.NW_PROTECT_VIOLATION)))
  ∧ (∀ (s : State) (q : Requester) (v : Word), s.dev.takes q .nw → 1 ≤ s.dev.unlockStep q → s.dev.unlockStep q ≠ 1 ∨ v.toNat ≠ 0x3C5A →
    exec (.unlock q v) s = .next (s.after ((s.dev.setUnlock q 0).raise C.NW_PROTECT_VIOLATION)))
  ∧ (∀ (s : State) (q : Requester), s.dev.unlockStep q = 2 → exec (.protectTimeout q) s = .next (s.after
      (((s.dev.advanceNw (fget code0 s.dev.nw.unlockAt q.code + 100000)).setUnlock q 0).raise C.NW_PROTECT_VIOLATION)))
  ∧ (∀ (s : State) (q : Requester) (b : Dev) (off : BitVec 12) (w : Word), s.dev.takes q .nw → s.dev.unlockStep q = 2 →
    s.dev.nwNow ≤ fget code0 s.dev.nw.unlockAt q.code + 100000 → b = s.dev.setUnlock q 0 → off.toNat ∈ cfgOffsets →
    b.releasing = true → b.onlyReduces off.toNat w = false → exec (.protectedWrite q off w) s = .next (s.after (b.refuse .nw)))
  ∧ (∀ (s : State) (q : Requester) (b : Dev) (off : BitVec 12) (w : Word), s.dev.takes q .nw → s.dev.unlockStep q = 2 →
    s.dev.nwNow ≤ fget code0 s.dev.nw.unlockAt q.code + 100000 → b = s.dev.setUnlock q 0 → off.toNat ∈ cfgOffsets →
    b.releasing = false ∨ b.onlyReduces off.toNat w = true → exec (.protectedWrite q off w) s = .next (s.after (
      let d := ((b.storeReg .nw off.toNat w).sb F.NW_STATUS_SEALED false).cfgEffect off.toNat (b.rd ⟨.nw, off.toNat⟩)
      d.record 0x0034 .info Page.nw.base off.toNat w.toNat q.code)))
  ∧ (∀ (s : State) (q : Requester) (b : Dev) (k : Fin 3) (w : Word), s.dev.takes q .nw → s.dev.unlockStep q = 2 →
    s.dev.nwNow ≤ fget code0 s.dev.nw.unlockAt q.code + 100000 → b = s.dev.setUnlock q 0 → b.releasing = false →
    exec (.winCfgWrite q k w) s = .next (s.after (
      let d := ((b.storeReg .nw (0xC0 + 4 * k.val) w).sb F.NW_STATUS_SEALED false)
      ((d.fillWindow k id).startBuckets k d.nwNow).allCells.record 0x0034 .info Page.nw.base (0xC0 + 4 * k.val) w.toNat q.code)))
  ∧ (∀ (s : State) (q : Requester) (b : Dev) (w : Word), s.dev.takes q .nw → s.dev.unlockStep q = 2 →
    s.dev.nwNow ≤ fget code0 s.dev.nw.unlockAt q.code + 100000 → b = s.dev.setUnlock q 0 → b.releasing = false → w.toNat ≠ b.cfgCrc →
    exec (.seal q w) s = .next (s.after (b.refuse .nw)))
  ∧ (∀ (s : State) (q : Requester) (b : Dev) (w : Word), s.dev.takes q .nw → s.dev.unlockStep q = 2 →
    s.dev.nwNow ≤ fget code0 s.dev.nw.unlockAt q.code + 100000 → b = s.dev.setUnlock q 0 → b.releasing = false → w.toNat = b.cfgCrc →
    b.nw.sealedOnce = true → exec (.seal q w) s = .next (s.after
      ((b.sb F.NW_STATUS_SEALED true).record 0x0034 .info Page.nw.base 0x58 w.toNat q.code)))
  ∧ (∀ (s : State) (q : Requester) (b : Dev) (w : Word), s.dev.takes q .nw → s.dev.unlockStep q = 2 →
    s.dev.nwNow ≤ fget code0 s.dev.nw.unlockAt q.code + 100000 → b = s.dev.setUnlock q 0 → b.releasing = false → w.toNat = b.cfgCrc →
    b.nw.sealedOnce = false → exec (.seal q w) s = .next (s.after (
      let d := (b.sb F.NW_STATUS_SEALED true).record 0x0034 .info Page.nw.base 0x58 w.toNat q.code
      (forN 3 (fun k (e : Dev) => e.fillWindow k (fun c => c * e.gf (F.NW_WIN_CFG_PRELOAD k) / 256))
        { d with nw := { d.nw with sealedOnce := true }, ledger := { d.ledger with sums := [] } }).allCells)))
  ∧ (∀ (s : State) (q : Requester) (off : BitVec 12) (w : Word), s.dev.takes q .nw → s.dev.unlockStep q ≠ 2 → off.toNat ∈ cfgOffsets →
    exec (.protectedWrite q off w) s = .next (s.after ((s.dev.nwOtherWrite q).refuse .nw)))

/-- Protected registers without the sequence (R506, R508). -/
def Obligations.NwProtected : Prop :=
  ∀ (s : Dev) (q : Requester) (off o : Nat) (w : Word), s.unlockStep q ≠ 2 → 0x40 ≤ off → off < 4096 → o ∈ cfgOffsets →
    (s.regWrite q .nw off w).rd ⟨.nw, o⟩ = s.rd ⟨.nw, o⟩

/-- Monitor inputs (R515, R519 to R523, R527 to R533). `b` is the block as it stands, read through its registers. -/
def Obligations.MonRun : Prop :=
  (∀ (s : State) (q : Requester) (on : Bool), s.dev.takes q .mon → s.dev.on F.MON_CTRL_SEQ_RUN = !on →
    ∃ b, s.dev.onlyRegs b ∧ s.dev.regsBut b [] ∧ exec (.seqRun q on) s = .next (s.after (b.setSeq on)))
  ∧ (∀ (s : State) (q : Requester), s.dev.takes q .mon → s.dev.on F.MON_CTRL_PAIR_RUN = false →
    ∃ b, s.dev.onlyRegs b ∧ s.dev.regsBut b [] ∧ exec (.pairRun q true) s = .next (s.after (b.setPair true)))
  ∧ (∀ (s : State) (q : Requester), s.dev.takes q .mon → s.dev.on F.MON_CTRL_PAIR_RUN = true → s.dev.on F.SCAN_CTRL_FAST_EN = false →
    s.dev.on F.SCAN_CTRL_SLOW_EN = false →
    ∃ b, s.dev.onlyRegs b ∧ s.dev.regsBut b [] ∧ exec (.pairRun q false) s = .next (s.after (b.setPair false)))
  ∧ (∀ (s : State) (q : Requester), s.dev.takes q .mon → s.dev.on F.MON_CTRL_PAIR_RUN = true →
    s.dev.on F.SCAN_CTRL_FAST_EN = true ∨ s.dev.on F.SCAN_CTRL_SLOW_EN = true →
    exec (.pairRun q false) s = .next (s.after (s.dev.refuse .mon)))
  ∧ (∀ (s : State) (q : Requester) (k : Nat), s.dev.takes q .mon → s.dev.on F.MON_CTRL_PAIR_RUN = true →
    s.dev.gf F.SCAN_STATUS_STATE = 0 ∨ s.dev.gf F.SCAN_STATUS_STATE = 5 → k = cycleFrom (s.dev.now + 1) →
    ∃ b, s.dev.onlyRegs b ∧ s.dev.regsBut b [] ∧ exec (.decSync q) s = .next (s.after
      (((((((b.resetDec 0 k).disturb 0).resetDec 1 k).disturb 1).sf F.MON_SYNC_LAST_NS (cycleNs k % 2^32)).inc
        F.MON_SYNC_COUNTS_SYNCS).event E.MON_SYNC_DONE)))
  ∧ (∀ (s : State) (q : Requester), s.dev.takes q .mon → s.dev.on F.MON_CTRL_PAIR_RUN = true →
    s.dev.gf F.SCAN_STATUS_STATE ≠ 0 → s.dev.gf F.SCAN_STATUS_STATE ≠ 5 →
    ∃ b, s.dev.onlyRegs b ∧ s.dev.regsBut b [] ∧ exec (.decSync q) s = .next (s.after ((b.inc F.MON_SYNC_COUNTS_REFUSED).raise C.MON_SYNC_REFUSED)))
  ∧ (∀ (s : State) (q : Requester) (c : Fin 24) (w : Word), s.dev.takes q .mon → 2 ≤ c.val ∨ s.dev.on F.MON_CTRL_PAIR_RUN = false →
    exec (.chExcWrite c q w) s = .next (s.after (s.dev.storeReg .mon (0x104 + 0x10 * c.val) w)))
  ∧ (∀ (s : State) (q : Requester) (c : Fin 24) (w : Word) (e : Dev), s.dev.takes q .mon → c.val < 2 →
    s.dev.on F.MON_CTRL_PAIR_RUN = true → e = s.dev.storeReg .mon (0x104 + 0x10 * c.val) w →
    exec (.chExcWrite c q w) s = .next (s.after ((e.putExc c (e.rd (R.MON_CH_EXC c))).disturb c)))
  ∧ (∀ (s : State) (c : Fin 24) (q : Requester), s.dev.debugLocked q = false → s.dev.responds q .mon = true → s.dev.isOn .mon = true →
    exec (.chRaw c q) s = .next (s.after ((s.dev.readRaw q c).2.send (.value q (s.dev.rd (R.MON_CH_RAW c))))))
  ∧ (∀ (s : State) (k : Nat) (b : Dev), s.dev.on F.MON_CTRL_SYNC_PIN_EN = true → s.dev.on F.MON_CTRL_PAIR_RUN = true →
    s.dev.gf F.SCAN_STATUS_STATE = 0 ∨ s.dev.gf F.SCAN_STATUS_STATE = 5 → k = cycleFrom (s.dev.now + 1000) →
    b = s.dev.advanceTo (cycleNs k) →
    exec .sync1Edge s = .next (s.after
      (((((((b.resetDec 0 k).disturb 0).resetDec 1 k).disturb 1).sf F.MON_SYNC_LAST_NS (cycleNs k % 2^32)).inc
        F.MON_SYNC_COUNTS_SYNCS).event E.MON_SYNC_DONE)))
  ∧ (∀ (s : State) (b : Dev), s.dev.on F.MON_CTRL_SYNC_PIN_EN = true → s.dev.on F.MON_CTRL_PAIR_RUN = true →
    s.dev.gf F.SCAN_STATUS_STATE ≠ 0 → s.dev.gf F.SCAN_STATUS_STATE ≠ 5 →
    b = s.dev.advanceTo (cycleNs (cycleFrom (s.dev.now + 1000))) →
    exec .sync1Edge s = .next (s.after ((b.inc F.MON_SYNC_COUNTS_REFUSED).raise C.MON_SYNC_REFUSED)))
  ∧ (∀ (s : State) (c : Nat) (b : Dev), s.dev.mon.dwell = some c → s.dev.on F.MON_CTRL_SEQ_RUN = true →
    b = s.dev.advanceTo (cycleNs (s.dev.phaseEnd c)) → b.mon.three = true → b.mon.comp = false →
    exec .seqDwellEnd s = .next (s.after ({ b with mon := { b.mon with comp := true } }.disturb c)))
  ∧ (∀ (s : State) (c : Nat) (b : Dev), s.dev.mon.dwell = some c → s.dev.on F.MON_CTRL_SEQ_RUN = true →
    b = s.dev.advanceTo (cycleNs (s.dev.phaseEnd c)) → b.mon.three = false ∨ b.mon.comp = true →
    exec .seqDwellEnd s = .next (s.after (b.seqFrom (b.gf F.MON_STATUS_ENTRY + 1) (s.dev.phaseEnd c))))
  ∧ (∀ (s : State) (c : Fin 24) (m : MonIn) (n : Nat) (r : Int × Dev) (left : Nat) (clip open_ : Bool), s.dev.converting c = true →
    n = s.dev.nextSample c → c.val < 2 ∨ n ≤ s.dev.phaseEnd c → r = (s.dev.advanceTo (cycleNs n)).decimate c m.words →
    r.2.mon.three = false ∨ c.val < 2 → bit r.2.mon.openM c = false → left = fget code0 r.2.mon.settle c →
    clip = decide (99 * 2^23 ≤ 100 * r.1.natAbs) →
    open_ = ((m.compliance && bits (r.2.excOf c) 31 1 == 1) || (r.2.on (F.MON_CH_CFG_BURNOUT c) && left == 0 && clip)) →
    exec (.monSample c m) s = .next (s.after
      ({ r.2 with mon := { r.2.mon with settle := fset code0 r.2.mon.settle c (left - 1) } }.publish c r.1 0 (cycleNs n)
        (decide (left ≠ 0)) open_ clip)))
  ∧ (∀ (s : State) (c : Fin 24) (z : Nat) (b d : Dev), s.dev.on F.MON_CTRL_IMP_EN = true → s.dev.on (F.MON_CH_CFG_IMP c) = true →
    s.dev.converting c = true → s.dev.preset c ≠ 0 → s.dev.impDue c = true →
    b = { s.dev with mon := { s.dev.mon with impAt := fset code0 s.dev.mon.impAt c (s.dev.mon.start + 1) } }.advanceTo
      (cycleNs (s.dev.mon.start + 4096)) →
    d = (b.sb (F.MON_CH_IMP_DONE c) true).sf (F.MON_CH_IMP_OHMS c) (min (2^24 - 1) (z / s.dev.toneNa)) →
    bit d.mon.highZ c = false → z ≤ d.gf (F.MON_CH_ZLIM_OHMS c) * d.toneNa →
    exec (.impCheckDone c z) s = .next (s.after { d with mon := { d.mon with highZ := setBit d.mon.highZ c false } }))
  ∧ (∀ (s : State) (c : Fin 24) (z : Nat) (b d : Dev), s.dev.on F.MON_CTRL_IMP_EN = true → s.dev.on (F.MON_CH_CFG_IMP c) = true →
    s.dev.converting c = true → s.dev.preset c ≠ 0 → s.dev.impDue c = true →
    b = { s.dev with mon := { s.dev.mon with impAt := fset code0 s.dev.mon.impAt c (s.dev.mon.start + 1) } }.advanceTo
      (cycleNs (s.dev.mon.start + 4096)) →
    d = (b.sb (F.MON_CH_IMP_DONE c) true).sf (F.MON_CH_IMP_OHMS c) (min (2^24 - 1) (z / s.dev.toneNa)) →
    bit d.mon.highZ c = false → d.gf (F.MON_CH_ZLIM_OHMS c) * d.toneNa < z →
    ∃ e, e = d.event E.MON_FLAG_CHANGE ∧ exec (.impCheckDone c z) s = .next (s.after
      ({ e with mon := { e.mon with highZ := setBit e.mon.highZ c true } }.raise C.MON_HIGH_Z c)))

/-- A decimator sync is refused while SCAN.STATUS.STATE is other than OFF or FAULT, and without PAIR_RUN it has no effect (R532). -/
def Obligations.SyncRefused : Prop :=
  ∀ (s : State) (b : Dev) (c : Instr),
    (∃ q, c = .decSync q ∧ s.dev.takes q .mon ∧
      b = (s.dev.sf F.MON_CTRL_IMP_EN (s.dev.gf F.MON_CTRL_IMP_EN)).sf F.MON_CTRL_SYNC_PIN_EN (s.dev.gf F.MON_CTRL_SYNC_PIN_EN))
    ∨ (c = .sync1Edge ∧ s.dev.on F.MON_CTRL_SYNC_PIN_EN = true ∧ b = s.dev.advanceTo (cycleNs (cycleFrom (s.dev.now + 1000))))
    ∨ (∃ i : Fin 16, c = .actionDecSync i ∧ s.dev.nextAct = some i.val ∧ s.dev.running = true ∧ s.dev.gf (F.TIME_ACT_CFG_KIND i) = 2
        ∧ b = ((s.dev.advanceTo (s.dev.actAt i)).sf (F.TIME_ACT_STATUS_STATE i) 2).event E.TIME_ACTION_DONE) →
    (b.on F.MON_CTRL_PAIR_RUN = true → b.gf F.SCAN_STATUS_STATE ≠ 0 → b.gf F.SCAN_STATUS_STATE ≠ 5 →
      exec c s = .next (s.after ((b.inc F.MON_SYNC_COUNTS_REFUSED).raise C.MON_SYNC_REFUSED)))
    ∧ (b.on F.MON_CTRL_PAIR_RUN = false → exec c s = .next (s.after b))

/-- The thermal model's samples and the grace (R544 to R549, R555, R558). The page's model data are the sample's operand (log 72), and
what caused a request is kept from its start (log 101). -/
def Obligations.ThermSamples : Prop :=
  (∀ (s : State) (env : ThermEnv), ∃ d, exec (.modelSample env) s = .next (s.after d)
    ∧ (s.dev.running = true → d.now = max s.dev.now (s.dev.therm.lastAt + (if s.dev.on F.THERM_STATUS_RATE then 100 else 1000) * 1000))
    ∧ d.therm.lastAt = d.now
    ∧ d.gf F.PWR_P_EST_MW = min 65535 env.power
    ∧ (∀ n : Fin 24, ∀ t, env.diodes.all (fun r => r.isNone) = true → env.nodes.getD n 0 = t → n.val < env.nodes.length →
        -32768 ≤ t → t ≤ 32767 → d.gi (F.THERM_NODE_TEMP_TEMP n) = t))
  ∧ (∀ (s : State) (t : Nat) (b : Dev), s.dev.therm.graceEnd = some t → b = (s.dev.advanceTo t).endGrace →
    Nat.land b.exceeding s.dev.therm.graceFor ≠ 0 →
    exec .graceExpire s = .next (s.after ((b.setLevel (b.gf F.THERM_STATUS_LEVEL_REQ)).sb F.THERM_STATUS_ENFORCED
      (decide (b.gf F.THERM_STATUS_LEVEL_REQ ≠ 0)))))
  ∧ (∀ (s : State) (t : Nat) (b : Dev), s.dev.therm.graceEnd = some t → b = (s.dev.advanceTo t).endGrace →
    Nat.land b.exceeding s.dev.therm.graceFor = 0 → exec .graceExpire s = .next (s.after b))

/-- Quotes, frame keys, rollback counters and the window (R567, R570 to R572, R574, R585, R588). The keys are opaque (log 45). -/
def Obligations.SecKeys : Prop :=
  (∀ (s : State) (q : Requester), s.dev.takes q .sec → s.dev.on F.SEC_STATUS_QUOTE_BUSY = false → s.dev.sec.keyFault = false →
    exec (.quoteGo q) s = .next (s.after
      ({ s.dev with sec := { s.dev.sec with quotePend := some s.dev.quoteBytes } }.sb F.SEC_STATUS_QUOTE_BUSY true)))
  ∧ (∀ (s : State) (q : Requester), s.dev.takes q .sec → s.dev.on F.SEC_STATUS_QUOTE_BUSY = true ∨ s.dev.sec.keyFault = true →
    exec (.quoteGo q) s = .next (s.after (s.dev.refuse .sec)))
  ∧ (∀ (s : State) (q : Requester), s.dev.takes q .sec → s.dev.gf F.SEC_STATUS_DEBUG_LEVEL = 0 → s.dev.sec.keyFault = false →
    exec (.fkRotate q) s = .next (s.after { s.dev with sec := { s.dev.sec with fkPend := true } }))
  ∧ (∀ (s : State) (q : Requester), s.dev.takes q .sec → s.dev.gf F.SEC_STATUS_DEBUG_LEVEL ≠ 0 ∨ s.dev.sec.keyFault = true →
    exec (.fkRotate q) s = .next (s.after (s.dev.refuse .sec)))
  ∧ (∀ (s : State) (q : Requester), s.dev.takes q .sec → exec (.bar2Close q) s = .next (s.after
      ((s.dev.sb F.SEC_CTRL_BAR2_CLOSE true).sb F.SEC_STATUS_BAR2_CLOSED true)))
  ∧ (∀ (s : State) (q : Requester) (t : BitVec 2) (v : BitVec 7), s.dev.takes q .sec →
    s.dev.gf (counterFld t.toNat) < v.toNat → v.toNat ≤ s.dev.rollbackInUse t.toNat → v.toNat ≤ 64 →
    exec (.rollbackAdv q t v) s = .next (s.after
      ((s.dev.sf (counterFld t.toNat) v.toNat).record 0x0052 .info Page.sec.base t.toNat v.toNat)))
  ∧ (∀ (s : State) (q : Requester) (t : BitVec 2) (v : BitVec 7), s.dev.takes q .sec →
    v.toNat ≤ s.dev.gf (counterFld t.toNat) ∨ s.dev.rollbackInUse t.toNat < v.toNat ∨ 64 < v.toNat →
    exec (.rollbackAdv q t v) s = .next (s.after (s.dev.refuse .sec)))
  ∧ (∀ (s : State) (l : List Nat), s.dev.sec.quotePend = some l →
    exec .quoteReady s = .next (s.after
      ((({ s.dev with sec := { s.dev.sec with quotePend := none, quote := signed l } }.sb F.SEC_STATUS_QUOTE_BUSY false).sb
        F.SEC_STATUS_QUOTE_VALID true).event E.SEC_QUOTE_READY)))
  ∧ (∀ (s : State) (f : Nat × Dev) (id : Nat), s.dev.sec.fkPend = true → s.dev.sec.keyFault = false → f = s.dev.free →
    id = Config.sha256 (bytesBE 64 (Config.framePub f.1 % 2^512)) % 2^256 / 2^224 →
    ∃ d : Dev, d.sec.fkPend = false ∧ d.stream.chainStart = true ∧ d = { f.2 with sec := d.sec, stream := d.stream }
      ∧ exec .frameKey s = .next (s.after
          ((((d.sf F.SEC_FK_ID_KEY_ID id).sb F.SEC_STATUS_FK_VALID true).record 0x0055 .info Page.sec.base id).event E.SEC_FRAME_KEY_CHANGED)))
  ∧ (∀ (s : State) (q : Requester), s.dev.debugLocked q = false → s.dev.responds q .sec = true → s.dev.isOn .sec = true →
    exec (.winData q) s = .next (s.after ((s.dev.sfQ q F.SEC_WIN_SEL_WORD (s.dev.gfQ q F.SEC_WIN_SEL_WORD + 1)).send
      (.value q (BitVec.ofNat 32 (s.dev.winWord q))))))

/-- Almanac flushes and flash operations (R579 to R581, R584, R587). The last record of a flush is in MRAM with FLUSH_DONE (log 101);
what a failed or unerased program leaves is free (log 74). -/
def Obligations.AlmFlash : Prop :=
  (∀ (s : State) (q : Requester), s.dev.takes q .alm → s.dev.on F.ALM_STATUS_FLUSHING = false → s.dev.alm.scanned = true →
    s.dev.staging = [] → exec (.almFlush q) s = .next (s.after
      (({ s.dev with alm := { s.dev.alm with lastFlush := s.dev.now } }.inc F.ALM_FLUSHES_COUNT).event E.ALM_FLUSH_DONE)))
  ∧ (∀ (s : State) (q : Requester), s.dev.takes q .alm → s.dev.on F.ALM_STATUS_FLUSHING = false → s.dev.alm.scanned = true →
    s.dev.staging ≠ [] → exec (.almFlush q) s = .next (s.after
      ({ s.dev with alm := { s.dev.alm with flushAt := s.dev.now, flushed := 0 } }.sb F.ALM_STATUS_FLUSHING true)))
  ∧ (∀ (s : State) (q : Requester), s.dev.takes q .alm → s.dev.on F.ALM_STATUS_FLUSHING = true →
    exec (.almFlush q) s = .next (s.after s.dev))
  ∧ (∀ (s : State) (b : Dev), s.dev.on F.ALM_STATUS_FLUSHING = false → s.dev.alm.scanned = true → s.dev.staging = [] →
    b = s.dev.advanceTo (s.dev.alm.lastFlush + 1000000000) →
    exec .almFlushTimer s = .next (s.after
      (({ b with alm := { b.alm with lastFlush := b.now } }.inc F.ALM_FLUSHES_COUNT).event E.ALM_FLUSH_DONE)))
  ∧ (∀ (s : State) (b : Dev), s.dev.on F.ALM_STATUS_FLUSHING = false → s.dev.alm.scanned = true → s.dev.staging ≠ [] →
    b = s.dev.advanceTo (s.dev.alm.lastFlush + 1000000000) →
    exec .almFlushTimer s = .next (s.after
      ({ b with alm := { b.alm with flushAt := b.now, flushed := 0 } }.sb F.ALM_STATUS_FLUSHING true)))
  ∧ (∀ (s : State) (b e : Dev), s.dev.on F.ALM_STATUS_FLUSHING = true → s.dev.staging ≠ [] →
    b = s.dev.advanceTo (s.dev.alm.flushAt + 600 * (s.dev.alm.flushed + s.dev.staging.length)) →
    e = b.staging.foldl (fun (d : Dev) r => d.toRing (.valid r) r.seq) b →
    ∃ d : Dev, d.staging = [] ∧ d.alm.lastFlush = b.now ∧ d.alm.ring = e.alm.ring
      ∧ d.gf F.ALM_FLUSHED_SEQ_SEQ = (s.dev.gf F.ALM_FLUSHED_SEQ_SEQ + s.dev.staging.length) % 2^32
      ∧ d.on F.ALM_STATUS_FLUSHING = false
      ∧ s.dev.regsBut d [R.ALM_FLUSHED_SEQ, R.ALM_OLDEST_SEQ, R.ALM_WRAPS, R.ALM_STATUS]
      ∧ exec .flushDone s = .next (s.after ((d.inc F.ALM_FLUSHES_COUNT).event E.ALM_FLUSH_DONE).lostSync))
  ∧ (∀ s : State, s.dev.on F.ALM_STATUS_PFW = false → s.dev.nextStep = none →
    exec .powerFailWarning s = .next (s.after
      (({ s.dev with alm := { s.dev.alm with pfwStep := none } }.sb F.ALM_STATUS_PFW true).record 0x0004 .info Page.alm.base).startFlush))
  ∧ (∀ (s : State) (i : Nat), s.dev.on F.ALM_STATUS_PFW = false → s.dev.nextStep = some i →
    exec .powerFailWarning s = .next (s.after
      (({ s.dev with alm := { s.dev.alm with pfwStep := some (i, s.dev.stepsDone i) } }.sb F.ALM_STATUS_PFW true).record
        0x0004 .info Page.alm.base)))
  ∧ (∀ (s : State) (q : Requester) (c : Instr), s.dev.takes q .flash → s.dev.on F.FLASH_STATUS_BUSY = true →
    c = .erase4k q ∨ c = .erase64k q ∨ c = .program q ∨ c = .read q → exec c s = .next (s.after (s.dev.refuse .flash)))
  ∧ (∀ (s : State) (q : Requester) (c : Instr) (op : Nat) (b : Dev), s.dev.takes q .flash → s.dev.on F.FLASH_STATUS_BUSY = false →
    (c = .erase4k q ∧ op = 0) ∨ (c = .erase64k q ∧ op = 1) ∨ (c = .program q ∧ op = 2) →
    b = (s.dev.sf F.FLASH_CMD_OP op).sb F.FLASH_STATUS_PROTECTED false →
    b.flashProtected op (s.dev.gf F.FLASH_ADDR_ADDR) = true → exec c s = .next (s.after (b.sb F.FLASH_STATUS_PROTECTED true)))
  ∧ (∀ (s : State) (q : Requester) (a : Nat) (b : Dev), s.dev.takes q .flash → s.dev.on F.FLASH_STATUS_BUSY = false →
    a = s.dev.gf F.FLASH_ADDR_ADDR → b = (s.dev.sf F.FLASH_CMD_OP 0).sb F.FLASH_STATUS_PROTECTED false → b.flashProtected 0 a = false →
    exec (.erase4k q) s = .next (s.after ((({ b with flash := { b.flash with
      op := some (0, a, []) } }).sb
        F.FLASH_STATUS_BUSY true).sb F.FLASH_STATUS_ERROR false)))
  ∧ (∀ (s : State) (q : Requester) (a : Nat) (b : Dev), s.dev.takes q .flash → s.dev.on F.FLASH_STATUS_BUSY = false →
    a = s.dev.gf F.FLASH_ADDR_ADDR → b = (s.dev.sf F.FLASH_CMD_OP 1).sb F.FLASH_STATUS_PROTECTED false → b.flashProtected 1 a = false →
    exec (.erase64k q) s = .next (s.after ((({ b with flash := { b.flash with
      op := some (1, a, []) } }).sb
        F.FLASH_STATUS_BUSY true).sb F.FLASH_STATUS_ERROR false)))
  ∧ (∀ (s : State) (q : Requester) (a : Nat) (b : Dev), s.dev.takes q .flash → s.dev.on F.FLASH_STATUS_BUSY = false →
    a = s.dev.gf F.FLASH_ADDR_ADDR → b = (s.dev.sf F.FLASH_CMD_OP 2).sb F.FLASH_STATUS_PROTECTED false → b.flashProtected 2 a = false →
    exec (.program q) s = .next (s.after ((({ b with flash := { b.flash with
      op := some (2, a, (List.range 64).map (fun i => b.gf (F.FLASH_BUF_DATA i))) } }).sb
        F.FLASH_STATUS_BUSY true).sb F.FLASH_STATUS_ERROR false)))
  ∧ (∀ (s : State) (q : Requester) (a : Nat) (b : Dev), s.dev.takes q .flash → s.dev.on F.FLASH_STATUS_BUSY = false →
    a = s.dev.gf F.FLASH_ADDR_ADDR → b = (s.dev.sf F.FLASH_CMD_OP 3).sb F.FLASH_STATUS_PROTECTED false →
    exec (.read q) s = .next (s.after ((({ b with flash := { b.flash with
      op := some (3, a, []) } }).sb
        F.FLASH_STATUS_BUSY true).sb F.FLASH_STATUS_ERROR false)))
  ∧ (∀ (s : State) (a : Nat) (l : List Nat) (f : Nat × Dev) (b : Dev), s.dev.flash.op = some (3, a, l) → f = s.dev.free →
    b = { f.2 with flash := { f.2.flash with op := none } } →
    exec (.opDone 0#2) s = .next (s.after (
      let d := forN 64 (fun i (e : Dev) => e.sf (F.FLASH_BUF_DATA i) (ofBE (e.flashBytes (a / 256 * 256 + 4 * i) 4).reverse)) b
      ((d.sb F.FLASH_STATUS_BUSY false).sb F.FLASH_STATUS_ERROR false).event E.FLASH_OP_DONE)))
  ∧ (∀ (s : State) (a : Nat) (l : List Nat) (f : Nat × Dev) (b : Dev), s.dev.flash.op = some (2, a, l) → f = s.dev.free →
    b = { f.2 with flash := { f.2.flash with op := none } } →
    exec (.opDone 0#2) s = .next (s.after (
      let d := b.setFlash (a / 256 * 256) 256 (fun k =>
        programByte (b.flashByte k) ((l.flatMap (fun w => bytesLE 4 w)).getD (k - a / 256 * 256) 0) f.1 k)
      ((d.sb F.FLASH_STATUS_BUSY false).sb F.FLASH_STATUS_ERROR false).event E.FLASH_OP_DONE)))
  ∧ (∀ (s : State) (op a : Nat) (l : List Nat) (f : Nat × Dev) (b : Dev), s.dev.flash.op = some (op, a, l) → op < 2 →
    f = s.dev.free → b = { f.2 with flash := { f.2.flash with op := none } } →
    ∃ d : Dev, d = { b with flash := d.flash }
      ∧ (∀ k, d.flashByte k = if (flashRange op a).1 ≤ k ∧ k < (flashRange op a).1 + (flashRange op a).2 then 255 else b.flashByte k)
      ∧ exec (.opDone 0#2) s = .next (s.after
          (((d.sb F.FLASH_STATUS_BUSY false).sb F.FLASH_STATUS_ERROR false).event E.FLASH_OP_DONE)))
  ∧ (∀ (s : State) (x : Nat × Nat × List Nat) (err : BitVec 2), s.dev.flash.op = some x → err ≠ 0#2 →
    ∃ d : Dev, d.flash.op = none ∧ d.on F.FLASH_STATUS_BUSY = false ∧ d.on F.FLASH_STATUS_ERROR = true
      ∧ exec (.opDone err) s = .next (s.after ((d.raise C.FLASH_FLASH_ERROR).event E.FLASH_OP_DONE)))

/-- Wear, ageing and the automatic BIST (R589, R590, R595). -/
def Obligations.Reserves : Prop :=
  (∀ (s : State) (k : BitVec 3) (u : Nat), s.dev.res.due.contains (k.toNat, u) = true ∨ (k.toNat = 5 ∧ u < 8192) →
    isReserve k.toNat u = true → s.dev.swapOf k.toNat u = none →
    exec (.autoSwapSubmit k u) s = .next (s.after ((s.dev.clearDue k.toNat u).raise C.RES_WEAR_WARN k.toNat)))
  ∧ (∀ (s : State) (k : BitVec 3) (u : Nat), s.dev.res.due.contains (k.toNat, u) = true ∨ (k.toNat = 5 ∧ u < 8192) →
    isReserve k.toNat u = false ∨ (s.dev.swapOf k.toNat u).isSome = true →
    s.dev.retired k.toNat u = true ∨ s.dev.noReserve k.toNat u = true →
    exec (.autoSwapSubmit k u) s = .next (s.after ((s.dev.clearDue k.toNat u).raise C.RES_RESERVE_EXHAUSTED k.toNat)))
  ∧ (∀ (s : State) (k : BitVec 3) (u : Nat), s.dev.res.due.contains (k.toNat, u) = true ∨ (k.toNat = 5 ∧ u < 8192) →
    isReserve k.toNat u = false ∨ (s.dev.swapOf k.toNat u).isSome = true → s.dev.retired k.toNat u = false →
    s.dev.noReserve k.toNat u = false → bit (s.dev.gf F.RES_CTRL_AUTO_EN) k.toNat = false →
    exec (.autoSwapSubmit k u) s = .next (s.after ((s.dev.clearDue k.toNat u).raise C.RES_WEAR_WARN k.toNat)))
  ∧ (∀ (s : State) (k : BitVec 3) (u : Nat) (i : Fin 16), s.dev.res.due.contains (k.toNat, u) = true ∨ (k.toNat = 5 ∧ u < 8192) →
    isReserve k.toNat u = false ∨ (s.dev.swapOf k.toNat u).isSome = true → s.dev.retired k.toNat u = false →
    s.dev.noReserve k.toNat u = false → bit (s.dev.gf F.RES_CTRL_AUTO_EN) k.toNat = true →
    s.dev.ownSlot (fun _ => true) = some i →
    exec (.autoSwapSubmit k u) s = .next (s.after ((s.dev.clearDue k.toNat u).submitIn i 0x30
      (swapTarget k.toNat u).1.base k.toNat (swapTarget k.toNat u).2 0)))
  ∧ (∀ (s : State) (l : List Nat), ∃ d, exec (.ageSample l) s = .next (s.after d)
    ∧ (s.dev.running = true → d.now = max s.dev.now (s.dev.res.ageAt + 60000000000))
    ∧ (∀ i : Fin 6, d.gf (F.RES_AGE_LOSS i) = min 65535 (l.getD i 0))
    ∧ ((∀ i : Fin 6, l.getD i 0 ≤ s.dev.gf F.RES_AGE_CFG_LIMIT) → s.dev.regsBut d ((List.range 6).map (fun i => R.RES_AGE i))))
  ∧ (∀ s : State, s.dev.gf F.RES_BIST_CFG_PERIOD = 0 → exec .bistAutoSubmit s = .next (s.after s.dev))
  ∧ (∀ (s : State) (b : Dev), s.dev.gf F.RES_BIST_CFG_PERIOD ≠ 0 →
    b = s.dev.advanceTo (s.dev.res.bistAt + s.dev.gf F.RES_BIST_CFG_PERIOD * 3600000000000) →
    ∃ l : List Nat, exec .bistAutoSubmit s = .next (s.after { b with res := { b.res with bistAt := b.now, bist := l } }.bistPump)
      ∧ (∀ g : Page, (∃ k < 32, g = .clu k) ∨ (∃ b < 48, g = .bay b) ∨ (∃ q < 4, g = .pool q) → g.num ∈ l))

/-- From reset to RUNNING (R23, R24, R26, R564, R603 to R605, R610). A hand-over that names a slot the ROM does not take (R564) is
no event of the block: it then stays as it is. -/
def Obligations.BootSteps : Prop :=
  (∀ s : State, ∃ d, exec .coldReset s = .next (s.after d)
    ∧ (∀ r : Reg, r.key ≠ R.SEC_STATUS.key → r.key ≠ R.SEC_ROLLBACK.key → r.key ≠ R.CHIP_PART_ID.key →
        (s.dev.aq1 = true → r.key ≠ R.PWR_P_CEIL.key ∧ ∀ k, r.key ≠ (R.THERM_NODE_LIMIT k).key) → d.rd r = Dev.reset.rd r)
    ∧ d.rd R.CHIP_PART_ID = s.dev.rd R.CHIP_PART_ID
    ∧ d.gf F.SEC_STATUS_OWNER_SLOTS = s.dev.gf F.SEC_STATUS_OWNER_SLOTS
    ∧ d.on F.SEC_STATUS_OWNER_COUNTERSIGN = s.dev.on F.SEC_STATUS_OWNER_COUNTERSIGN
    ∧ d.on F.SEC_STATUS_MOALITH0_REVOKED = s.dev.on F.SEC_STATUS_MOALITH0_REVOKED
    ∧ d.rd R.SEC_ROLLBACK = s.dev.rd R.SEC_ROLLBACK
    ∧ d.mram = s.dev.mram ∧ d.now = 0 ∧ d.staging = [] ∧ d.boot.released = false
    ∧ (s.dev.on F.ALM_STATUS_FLUSHING = false → d.alm.ring = s.dev.alm.ring)
    ∧ (s.dev.flash.op = none → d.flash = s.dev.flash))
  ∧ (∀ (s : State) (env : BootEnv) (d : Dev), s.dev.boot.released = false →
    d = { s.dev with boot := { s.dev.boot with released := true } } →
    exec (.porRelease env) s = .next (s.after
      (((d.sb F.FLASH_INFO_OCTAL_DTR env.octal).sf F.FLASH_INFO_SIZE_LOG2 env.sizeLog2).drawChallenge)))
  ∧ (∀ (s : State) (f i : Nat), s.dev.stageNow = 0 → s.dev.boot.released = true → s.dev.boot.warm = false →
    s.dev.boot.measured = false → nominalOf f = some i →
    ∃ d : Dev, exec (.refMeasureDone f) s = .next (s.after d) ∧ d.boot.measured = true ∧ d.time.freq = i
      ∧ s.dev.regsBut d [R.TIME_REF_CFG] ∧ d.gf F.TIME_REF_CFG_FREQ = i)
  ∧ (∀ (s : State) (f : Nat), s.dev.stageNow = 0 → s.dev.boot.released = true → s.dev.boot.warm = false →
    s.dev.boot.measured = false → nominalOf f = none →
    ∃ d : Dev, exec (.refMeasureDone f) s = .next (s.after d) ∧ d.boot.measured = true
      ∧ d.time.freq = s.dev.gf F.TIME_REF_CFG_FREQ ∧ d.regs = s.dev.regs)
  ∧ (∀ (s : State) (x : Bool), s.dev.stageNow = 0 → s.dev.boot.released = true →
    s.dev.boot.measured = true ∨ s.dev.boot.warm = true → x = s.dev.mram.preferB →
    ∃ d, exec (.bootHandover x ()) s = .next (s.after d)
      ∧ (s.dev.romCheck x ≠ 0 → d = s.dev)
      ∧ (s.dev.romCheck x = 0 → d.stageNow = 1
        ∧ d.rd R.CHIP_FW_VERSION = BitVec.ofNat 32 (s.dev.secAt (slotBase x)).version
        ∧ d.on F.SEC_STATUS_BOOT_SLOT = x ∧ d.mram.boots = (s.dev.mram.boots + 1) % 2^32 ∧ d.gf F.SEC_BOOT_COUNT_COUNT = d.mram.boots))
  ∧ (∀ (s : State) (x : Bool), s.dev.stageNow = 0 → s.dev.boot.released = true →
    s.dev.boot.measured = true ∨ s.dev.boot.warm = true → x ≠ s.dev.mram.preferB → s.dev.romCheck s.dev.mram.preferB ≠ 0 →
    ∃ d, exec (.bootHandover x ()) s = .next (s.after d)
      ∧ (s.dev.romCheck x ≠ 0 → d = s.dev)
      ∧ (s.dev.romCheck x = 0 → d.stageNow = 1
        ∧ d.rd R.CHIP_FW_VERSION = BitVec.ofNat 32 (s.dev.secAt (slotBase x)).version
        ∧ d.on F.SEC_STATUS_BOOT_SLOT = x ∧ d.mram.boots = (s.dev.mram.boots + 1) % 2^32 ∧ d.gf F.SEC_BOOT_COUNT_COUNT = d.mram.boots
        ∧ d.gf (slotCheckFld s.dev.mram.preferB) = s.dev.romCheck s.dev.mram.preferB))
  ∧ (∀ s : State, s.dev.stageNow = 0 → s.dev.boot.released = true → s.dev.romCheck false ≠ 0 → s.dev.romCheck true ≠ 0 →
    ∃ d, exec (.recovery () ()) s = .next (s.after d) ∧ d.stageNow = 3 ∧ d.boot.recovered = true
      ∧ d.gf F.CHIP_BOOT_STATUS_SLOT_A_CHECK = s.dev.romCheck false ∧ d.gf F.CHIP_BOOT_STATUS_SLOT_B_CHECK = s.dev.romCheck true
      ∧ d.rd R.CHIP_FW_VERSION = 0#32)
  ∧ (∀ (s : State) (env : InitEnv), s.dev.stageNow = 1 →
    ∃ d, exec (.firmwareInitDone env) s = .next (s.after d) ∧ d.stageNow = 2
      ∧ d.gf F.CHIP_BOOT_STATUS_INIT_MS = min 65535 env.ms)

/-- Warm resets (R25, R601, R602, R614, R615). In RECOVERY a lockstep error resets nothing (log 101). -/
def Obligations.WarmResets : Prop :=
  (∀ (s : State) (q : Requester), s.dev.takes q .chip → s.dev.boot.released = true →
    exec (.warmReset q 0x5A#8) s = .next (s.after (s.dev.warm 1 q.code)))
  ∧ (∀ (s : State) (q : Requester) (k : BitVec 8), s.dev.takes q .chip → k ≠ 0x5A#8 →
    exec (.warmReset q k) s = .next (s.after (s.dev.refuse .chip)))
  ∧ (∀ s : State, s.dev.boot.released = true → s.dev.stageNow = 3 →
    exec .ctrlLockstep s = .next (s.after (s.dev.raise C.CHIP_CTRL_LOCKSTEP).nwSync))
  ∧ (∀ s : State, s.dev.boot.released = true → s.dev.stageNow ≠ 3 →
    exec .ctrlLockstep s = .next (s.after ((s.dev.dropFrames.raise C.CHIP_CTRL_LOCKSTEP).nwSync.warm 2 0)))
  ∧ (∀ s : State, s.dev.boot.released = true → s.dev.stageNow = 1 ∨ s.dev.stageNow = 2 →
    exec .firmwareFatal s = .next (s.after (s.dev.warm 3 0)))
  ∧ (∀ (b : Dev) (c q : Nat), b.boot.released = true → c < 4 → q < 8 →
    (b.warm c q).stageNow = 0 ∧ (b.warm c q).gf F.CHIP_RESET_CAUSE_LAST = c ∧ (b.warm c q).gf F.CHIP_RESET_CAUSE_REQ = q
    ∧ (b.warm c q).boot.warm = true ∧ (b.warm c q).taskQueue = [] ∧ (b.warm c q).tasks = [] ∧ (b.warm c q).frames = [])

/-- Lines and READY after a step (R81 to R83, R614). -/
def Obligations.SettledAfterStep : Prop :=
  ∀ s t : State, step s = .next t → t.dev.linesRight ∧ t.dev.readyRight

/-- No release with a trip source (R480, R482, R483). -/
def Obligations.NwSafeStep : Prop :=
  ∀ s t : State, step s = .next t → t.dev.nwSafe
end

