-- ==== Sys2Proof/Laws/FMap.lean ====
section
/-! SUPPORT. Sparse stores: read after write, and the canonical form that every write keeps. -/
namespace Sys2Proof.Machine

variable {ν : Type} [DecidableEq ν]

/-- Every key of the list lies above a bound. -/
def fabove (lo : Nat) (m : FMap ν) : Prop := ∀ e ∈ m, lo < e.1

theorem fwfFrom_some (d : Nat → ν) (lo : Nat) (m : FMap ν) :
    fwfFrom d (some lo) m = true ↔ fwfFrom d none m = true ∧ fabove lo m := by
  induction m generalizing lo with
  | nil => simp [fwfFrom, fabove]
  | cons e m ih =>
    obtain ⟨k, v⟩ := e
    simp only [fwfFrom, Bool.and_eq_true, decide_eq_true_eq, Bool.true_and, fabove, List.mem_cons, forall_eq_or_imp]
    constructor
    · rintro ⟨⟨h1, h2⟩, h3⟩
      refine ⟨⟨h2, h3⟩, h1, ?_⟩
      intro e he
      exact Nat.lt_trans h1 (((ih k).1 h3).2 e he)
    · rintro ⟨⟨h2, h3⟩, h1, _⟩
      exact ⟨⟨h1, h2⟩, h3⟩

/-- The keys of a canonical list and its tail. -/
theorem fwf_cons (d : Nat → ν) (k : Nat) (v : ν) (m : FMap ν) :
    fwf d ((k, v) :: m) = true ↔ v ≠ d k ∧ fwf d m = true ∧ fabove k m := by
  simp only [fwf, fwfFrom, Bool.true_and, Bool.and_eq_true, decide_eq_true_eq]
  rw [fwfFrom_some]

omit [DecidableEq ν] in
theorem fget_above (d : Nat → ν) {m : FMap ν} {k : Nat} (h : fabove k m) : fget d m k = d k := by
  induction m with
  | nil => rfl
  | cons e m ih =>
    obtain ⟨k', v'⟩ := e
    have hk : k < k' := h (k', v') (by simp)
    simp only [fget]
    rw [if_neg (Nat.ne_of_lt hk)]
    exact ih (fun e he => h e (by simp [he]))

omit [DecidableEq ν] in
/-- An erased key reads the default. -/
theorem fget_ferase_eq (d : Nat → ν) (m : FMap ν) (k : Nat) : fget d (ferase m k) k = d k := by
  induction m with
  | nil => rfl
  | cons e m ih =>
    by_cases h : e.1 = k
    · simpa [ferase, h] using ih
    · simp only [ferase, List.filter_cons, bne_iff_ne, ne_eq, h, not_false_eq_true, if_true, fget, if_neg (Ne.symm h)] at ih ⊢
      exact ih

omit [DecidableEq ν] in
/-- Another key reads as before an erasure. -/
theorem fget_ferase_ne (d : Nat → ν) (m : FMap ν) {k j : Nat} (h : j ≠ k) : fget d (ferase m k) j = fget d m j := by
  induction m with
  | nil => rfl
  | cons e m ih =>
    obtain ⟨k', v'⟩ := e
    by_cases hk : k' = k
    · subst hk
      simp only [ferase, List.filter_cons, bne_self_eq_false, Bool.false_eq_true, if_false, fget, if_neg h] at ih ⊢
      exact ih
    · simp only [ferase, List.filter_cons, bne_iff_ne, ne_eq, hk, not_false_eq_true, if_true, fget] at ih ⊢
      rw [ih]

omit [DecidableEq ν] in
/-- An inserted key reads what was inserted. -/
theorem fget_finsert_eq (d : Nat → ν) (m : FMap ν) (k : Nat) (v : ν) : fget d (finsert m k v) k = v := by
  induction m with
  | nil => simp [finsert, fget]
  | cons e m ih =>
    simp only [finsert]
    split
    · simp [fget]
    · split
      · simp [fget]
      · rename_i hne
        simp only [fget, if_neg hne]
        exact ih

omit [DecidableEq ν] in
/-- Another key reads as before an insertion. -/
theorem fget_finsert_ne (d : Nat → ν) (m : FMap ν) {k j : Nat} (v : ν) (h : j ≠ k) :
    fget d (finsert m k v) j = fget d m j := by
  induction m with
  | nil => simp [finsert, fget, h]
  | cons e m ih =>
    obtain ⟨k', v'⟩ := e
    simp only [finsert]
    split
    · simp [fget, h]
    · split
      · rename_i heq
        subst heq
        simp [fget, h]
      · simp only [fget, ih]

/-- A write erases or inserts. -/
theorem fset_eq (d : Nat → ν) (m : FMap ν) (k : Nat) (v : ν) :
    fset d m k v = if v = d k then ferase m k else finsert m k v := by
  cases m with
  | nil => rfl
  | cons e m => rfl

/-- The written key reads as written, in every store. -/
theorem fget_fset_eq (d : Nat → ν) (m : FMap ν) (k : Nat) (v : ν) : fget d (fset d m k v) k = v := by
  rw [fset_eq]
  split
  · rename_i h; rw [fget_ferase_eq, h]
  · exact fget_finsert_eq d m k v

/-- Another key reads as before a write, in every store. -/
theorem fget_fset_ne (d : Nat → ν) (m : FMap ν) {k j : Nat} (v : ν) (h : j ≠ k) :
    fget d (fset d m k v) j = fget d m j := by
  rw [fset_eq]
  split
  · exact fget_ferase_ne d m h
  · exact fget_finsert_ne d m v h

omit [DecidableEq ν] in
theorem fabove_ferase {lo : Nat} {m : FMap ν} (k : Nat) (h : fabove lo m) : fabove lo (ferase m k) :=
  fun e he => h e (List.mem_filter.1 he).1

omit [DecidableEq ν] in
theorem fabove_finsert {lo k : Nat} {m : FMap ν} (v : ν) (hk : lo < k) (h : fabove lo m) : fabove lo (finsert m k v) := by
  induction m with
  | nil => intro e he; simp [finsert] at he; subst he; exact hk
  | cons e m ih =>
    obtain ⟨k', v'⟩ := e
    have hk' : lo < k' := h (k', v') (by simp)
    have hm : fabove lo m := fun e he => h e (by simp [he])
    simp only [finsert]
    split
    · intro e he
      rcases List.mem_cons.1 he with rfl | he
      · exact hk
      · exact h e he
    · split
      · intro e he
        rcases List.mem_cons.1 he with rfl | he
        · exact hk
        · exact hm e he
      · intro e he
        rcases List.mem_cons.1 he with rfl | he
        · exact hk'
        · exact ih hm e he

theorem ferase_fwf (d : Nat → ν) (m : FMap ν) (k : Nat) (h : fwf d m = true) : fwf d (ferase m k) = true := by
  induction m with
  | nil => exact h
  | cons e m ih =>
    obtain ⟨k', v'⟩ := e
    obtain ⟨h1, h2, h3⟩ := (fwf_cons d k' v' m).1 h
    simp only [ferase, List.filter_cons]
    split
    · rw [fwf_cons]; exact ⟨h1, ih h2, fabove_ferase k h3⟩
    · exact ih h2

theorem finsert_fwf (d : Nat → ν) (m : FMap ν) (k : Nat) (v : ν) (hv : v ≠ d k) (h : fwf d m = true) :
    fwf d (finsert m k v) = true := by
  induction m with
  | nil => simp only [finsert]; rw [fwf_cons]; exact ⟨hv, h, by intro e he; simp at he⟩
  | cons e m ih =>
    obtain ⟨k', v'⟩ := e
    obtain ⟨h1, h2, h3⟩ := (fwf_cons d k' v' m).1 h
    simp only [finsert]
    split
    · rename_i hlt
      rw [fwf_cons]
      refine ⟨hv, h, ?_⟩
      intro e he
      rcases List.mem_cons.1 he with rfl | he
      · exact hlt
      · exact Nat.lt_trans hlt (h3 e he)
    · split
      · rename_i heq
        subst heq
        rw [fwf_cons]; exact ⟨hv, h2, h3⟩
      · rename_i hge hne
        rw [fwf_cons]
        exact ⟨h1, ih h2, fabove_finsert v (by omega) h3⟩

/-- A write keeps the canonical form. -/
theorem fset_fwf (d : Nat → ν) (m : FMap ν) (k : Nat) (v : ν) (h : fwf d m = true) : fwf d (fset d m k v) = true := by
  rw [fset_eq]
  split
  · exact ferase_fwf d m k h
  · exact finsert_fwf d m k v ‹_› h

/-- Canonical stores that read the same are the same. -/
theorem fwf_ext (d : Nat → ν) (m n : FMap ν) (hm : fwf d m = true) (hn : fwf d n = true)
    (h : ∀ k, fget d m k = fget d n k) : m = n := by
  induction m generalizing n with
  | nil =>
    cases n with
    | nil => rfl
    | cons e n =>
      obtain ⟨k, v⟩ := e
      obtain ⟨h1, _, _⟩ := (fwf_cons d k v n).1 hn
      exact absurd (by simpa [fget] using h k) (Ne.symm h1)
  | cons e m ih =>
    obtain ⟨k, v⟩ := e
    obtain ⟨h1, h2, h3⟩ := (fwf_cons d k v m).1 hm
    cases n with
    | nil => exact absurd (by simpa [fget] using h k) h1
    | cons e' n =>
      obtain ⟨k', v'⟩ := e'
      obtain ⟨g1, g2, g3⟩ := (fwf_cons d k' v' n).1 hn
      rcases Nat.lt_trichotomy k k' with hlt | heq | hgt
      · have := h k
        rw [fget_above d (m := (k', v') :: n) (by
          intro e he
          rcases List.mem_cons.1 he with rfl | he
          · exact hlt
          · exact Nat.lt_trans hlt (g3 e he))] at this
        exact absurd (by simpa [fget] using this) h1
      · subst heq
        have hv : v = v' := by simpa [fget] using h k
        subst hv
        have : m = n := ih n h2 g2 (by
          intro j
          by_cases hj : j = k
          · subst hj; rw [fget_above d h3, fget_above d g3]
          · have := h j; simpa [fget, hj] using this)
        rw [this]
      · have := h k'
        rw [fget_above d (m := (k, v) :: m) (k := k') (by
          intro e he
          rcases List.mem_cons.1 he with rfl | he
          · exact hgt
          · exact Nat.lt_trans hgt (h3 e he))] at this
        exact absurd (by simpa [fget] using this.symm) g1

/-- Dropping entries keeps the canonical form. -/
theorem fdrop_fwf (d : Nat → ν) (p : Nat → Bool) (m : FMap ν) (h : fwf d m = true) : fwf d (fdrop p m) = true := by
  induction m with
  | nil => exact h
  | cons e m ih =>
    obtain ⟨k, v⟩ := e
    obtain ⟨h1, h2, h3⟩ := (fwf_cons d k v m).1 h
    simp only [fdrop, List.filter_cons]
    split
    · rw [fwf_cons]
      exact ⟨h1, ih h2, fun e he => h3 e (List.mem_filter.1 he).1⟩
    · exact ih h2

end Sys2Proof.Machine
end

