-- ==== Sys2Proof/Laws/RegFile.lean ====
section
/-! SUPPORT. The register file: what a register and a field read after a write. -/
namespace Sys2Proof.Machine

/-! ## Bit fields -/

/-- The field lies within a word. -/
def Fld.ok (f : Fld) : Prop := f.lo + f.len ≤ 32

theorem bits_lt (w : Word) (lo len : Nat) : bits w lo len < 2^len := Nat.mod_lt _ (by positivity)

theorem setBits_toNat (w : Word) {lo len : Nat} (v : Nat) (h : lo + len ≤ 32) :
    (setBits w lo len v).toNat = w.toNat % 2^lo + (v % 2^len) * 2^lo + w.toNat / 2^(lo + len) * 2^(lo + len) := by
  unfold setBits
  rw [BitVec.toNat_ofNat]
  apply Nat.mod_eq_of_lt
  have h1 : w.toNat % 2^lo < 2^lo := Nat.mod_lt _ (by positivity)
  have h2 : v % 2^len < 2^len := Nat.mod_lt _ (by positivity)
  have h3 : w.toNat < 2^32 := w.isLt
  have e : (2:Nat)^32 = 2^(lo + len) * 2^(32 - (lo + len)) := by rw [← pow_add]; congr 1; omega
  have h4 : w.toNat / 2^(lo + len) < 2^(32 - (lo + len)) := by
    apply Nat.div_lt_of_lt_mul; rw [← e]; exact h3
  have e2 : (2:Nat)^(lo + len) = 2^len * 2^lo := by rw [pow_add]; ring
  have h5 : w.toNat % 2^lo + (v % 2^len) * 2^lo < 2^(lo + len) := by
    have : (v % 2^len + 1) * 2^lo ≤ 2^len * 2^lo := Nat.mul_le_mul_right _ h2
    rw [e2]; nlinarith
  have h6 : (w.toNat / 2^(lo + len) + 1) * 2^(lo + len) ≤ 2^(32 - (lo + len)) * 2^(lo + len) := Nat.mul_le_mul_right _ h4
  have h7 : 2^(32 - (lo + len)) * 2^(lo + len) = 2^32 := by rw [e]; ring
  rw [h7] at h6
  linarith [h6, h5, Nat.add_mul (w.toNat / 2^(lo + len)) 1 (2^(lo + len))]

/-- A field reads what was written to it. -/
theorem bits_setBits_same (w : Word) {lo len : Nat} (v : Nat) (h : lo + len ≤ 32) :
    bits (setBits w lo len v) lo len = v % 2^len := by
  unfold bits
  rw [setBits_toNat w v h, pow_add]
  have h1 : w.toNat % 2^lo < 2^lo := Nat.mod_lt _ (by positivity)
  have e : w.toNat % 2^lo + v % 2^len * 2^lo + w.toNat / (2^lo * 2^len) * (2^lo * 2^len)
      = w.toNat % 2^lo + (v % 2^len + w.toNat / (2^lo * 2^len) * 2^len) * 2^lo := by ring
  rw [e, Nat.add_mul_div_right _ _ (by positivity), Nat.div_eq_of_lt h1, Nat.zero_add, Nat.add_mul_mod_self_right,
    Nat.mod_mod]

/-- A field below the one written reads as before. -/
theorem bits_setBits_below (w : Word) {lo len lo' len' : Nat} (v : Nat) (h : lo + len ≤ 32) (hd : lo' + len' ≤ lo) :
    bits (setBits w lo len v) lo' len' = bits w lo' len' := by
  unfold bits
  rw [setBits_toNat w v h]
  have e : w.toNat % 2^lo + v % 2^len * 2^lo + w.toNat / 2^(lo + len) * 2^(lo + len)
      = w.toNat % 2^lo + 2^lo * (v % 2^len + w.toNat / 2^(lo + len) * 2^len) := by rw [pow_add]; ring
  rw [e]
  obtain ⟨k, rfl⟩ := Nat.exists_eq_add_of_le hd
  have key : ∀ x q : Nat, (x % 2^(lo' + len' + k) + 2^(lo' + len' + k) * q) / 2^lo' % 2^len' = x / 2^lo' % 2^len' := by
    intro x q
    have r : ∀ y : Nat, y / 2^lo' % 2^len' = y % 2^(lo' + len') / 2^lo' := by
      intro y; rw [pow_add, Nat.mod_mul_right_div_self]
    rw [r, r]
    congr 1
    have d : (2:Nat)^(lo' + len') ∣ 2^(lo' + len' + k) := pow_dvd_pow _ (by omega)
    obtain ⟨c, hc⟩ := d
    rw [Nat.add_mod, hc, Nat.mul_assoc, Nat.mul_mod_right, Nat.add_zero, Nat.mod_mod, Nat.mod_mul_right_mod]
  exact key _ _

/-- A field above the one written reads as before. -/
theorem bits_setBits_above (w : Word) {lo len lo' len' : Nat} (v : Nat) (h : lo + len ≤ 32) (hd : lo + len ≤ lo') :
    bits (setBits w lo len v) lo' len' = bits w lo' len' := by
  unfold bits
  rw [setBits_toNat w v h]
  obtain ⟨k, rfl⟩ := Nat.exists_eq_add_of_le hd
  congr 1
  rw [show (2:Nat)^(lo + len + k) = 2^(lo + len) * 2^k from pow_add _ _ _, ← Nat.div_div_eq_div_mul, ← Nat.div_div_eq_div_mul]
  congr 1
  have h1 : w.toNat % 2^lo < 2^lo := Nat.mod_lt _ (by positivity)
  have h2 : v % 2^len < 2^len := Nat.mod_lt _ (by positivity)
  have h5 : w.toNat % 2^lo + (v % 2^len) * 2^lo < 2^(lo + len) := by
    have : (v % 2^len + 1) * 2^lo ≤ 2^len * 2^lo := Nat.mul_le_mul_right _ h2
    rw [pow_add]; nlinarith
  rw [Nat.add_mul_div_right _ _ (by positivity), Nat.div_eq_of_lt h5, Nat.zero_add]

/-! ## Registers -/

/-- What registers read depends on the register file alone. -/
theorem rd_regs {s t : Dev} (h : s.regs = t.regs) (r : Reg) : s.rd r = t.rd r := by unfold Dev.rd; rw [h]
theorem gf_regs {s t : Dev} (h : s.regs = t.regs) (f : Fld) : s.gf f = t.gf f := by unfold Dev.gf; rw [rd_regs h]
theorem on_regs {s t : Dev} (h : s.regs = t.regs) (f : Fld) : s.on f = t.on f := by unfold Dev.on; rw [gf_regs h]

theorem rd_wr_same (s : Dev) (r : Reg) (w : Word) : (s.wr r w).rd r = w := fget_fset_eq _ _ _ _

theorem rd_wr_key (s : Dev) {r r' : Reg} (w : Word) (h : r'.key = r.key) : (s.wr r w).rd r' = w := by
  unfold Dev.rd Dev.wr; rw [h]; exact fget_fset_eq _ _ _ _

theorem rd_wr_ne (s : Dev) {r r' : Reg} (w : Word) (h : r'.key ≠ r.key) : (s.wr r w).rd r' = s.rd r' :=
  fget_fset_ne _ _ _ h

theorem gf_wr_ne (s : Dev) {r : Reg} {f : Fld} (w : Word) (h : f.reg.key ≠ r.key) : (s.wr r w).gf f = s.gf f := by
  unfold Dev.gf; rw [rd_wr_ne s w h]

theorem gf_wr_same (s : Dev) {r : Reg} {f : Fld} (w : Word) (h : f.reg.key = r.key) : (s.wr r w).gf f = bits w f.lo f.len := by
  unfold Dev.gf; rw [rd_wr_key s w h]

/-- A field reads what was written to it, modulo its width. -/
theorem gf_sf_same (s : Dev) (f : Fld) (v : Nat) (h : f.ok) : (s.sf f v).gf f = v % 2^f.len := by
  unfold Dev.sf Dev.gf; rw [rd_wr_same]; exact bits_setBits_same _ _ h

/-- A field of another register reads as before. -/
theorem gf_sf_key (s : Dev) {f f' : Fld} (v : Nat) (h : f'.reg.key ≠ f.reg.key) : (s.sf f v).gf f' = s.gf f' :=
  gf_wr_ne s _ h

/-- Another field of the same register reads as before. -/
theorem gf_sf_apart (s : Dev) {f f' : Fld} (v : Nat) (hk : f'.reg.key = f.reg.key) (h : f.ok)
    (hd : f'.lo + f'.len ≤ f.lo ∨ f.lo + f.len ≤ f'.lo) : (s.sf f v).gf f' = s.gf f' := by
  unfold Dev.sf
  rw [gf_wr_same s _ hk]
  have e : s.rd f.reg = s.rd f'.reg := by unfold Dev.rd; rw [hk]
  unfold Dev.gf
  rcases hd with hd | hd
  · rw [bits_setBits_below _ _ h hd, e]
  · rw [bits_setBits_above _ _ h hd, e]

/-- Two fields that no write of one can change in the other. -/
def Fld.apart (f f' : Fld) : Prop :=
  f'.reg.key ≠ f.reg.key ∨ (f.lo + f.len ≤ 32 ∧ (f'.lo + f'.len ≤ f.lo ∨ f.lo + f.len ≤ f'.lo))

/-- A write of a field leaves every field apart from it. -/
theorem gf_sf_of_apart (s : Dev) {f f' : Fld} (v : Nat) (h : f.apart f') : (s.sf f v).gf f' = s.gf f' := by
  by_cases hk : f'.reg.key = f.reg.key
  · rcases h with h | ⟨h, hd⟩
    · exact absurd hk h
    · exact gf_sf_apart s v hk h hd
  · exact gf_sf_key s v hk

theorem rd_sf_ne (s : Dev) {f : Fld} {r : Reg} (v : Nat) (h : r.key ≠ f.reg.key) : (s.sf f v).rd r = s.rd r :=
  rd_wr_ne s _ h

theorem b2n_lt (b : Bool) : b2n b < 2 := by cases b <;> decide

theorem b2n_eq_one (b : Bool) : (b2n b == 1) = b := by cases b <;> rfl

/-- A one-bit field reads what was written to it. -/
theorem on_sb_same (s : Dev) (f : Fld) (b : Bool) (h : f.ok) (h1 : f.len = 1) : (s.sb f b).on f = b := by
  unfold Dev.on Dev.sb
  rw [gf_sf_same s f _ h, h1, pow_one, Nat.mod_eq_of_lt (b2n_lt b), b2n_eq_one]

/-! ## The canonical form -/

/-- The register file is in canonical form. -/
def Dev.regsWf (s : Dev) : Bool := fwf regDefault s.regs

theorem wr_regsWf (s : Dev) (r : Reg) (w : Word) (h : s.regsWf = true) : (s.wr r w).regsWf = true := fset_fwf _ _ _ _ h
theorem sf_regsWf (s : Dev) (f : Fld) (v : Nat) (h : s.regsWf = true) : (s.sf f v).regsWf = true := wr_regsWf _ _ _ h
theorem wrQ_regsWf (s : Dev) (q : Requester) (r : Reg) (w : Word) (h : s.regsWf = true) : (s.wrQ q r w).regsWf = true :=
  fset_fwf _ _ _ _ h

/-- A requester's own copy reads what was written to it. -/
theorem rdQ_wrQ_same (s : Dev) (q : Requester) (r : Reg) (w : Word) : (s.wrQ q r w).rdQ q r = w := fget_fset_eq _ _ _ _
theorem rdQ_wrQ_ne (s : Dev) {q q' : Requester} {r r' : Reg} (w : Word) (h : r'.keyOf q' ≠ r.keyOf q) :
    (s.wrQ q r w).rdQ q' r' = s.rdQ q' r' := fget_fset_ne _ _ _ h
theorem rd_wrQ_ne (s : Dev) {q : Requester} {r r' : Reg} (w : Word) (h : r'.key ≠ r.keyOf q) :
    (s.wrQ q r w).rd r' = s.rd r' := fget_fset_ne _ _ _ h

end Sys2Proof.Machine
end

