-- ==== Sys2Proof/Laws/Access.lean ====
section
/-! SUPPORT. How a requester's write reaches what it does: the path from the bus to the page, and the words that a command
writing one field spells. -/
namespace Sys2Proof.Machine

/-- The next state of a command whose effect is `d`. -/
theorem done_eq {s : State} {d e : Dev} (h : d = e) : State.done s d = .next (s.after e) := by subst h; rfl

/-! ## Words -/

theorem bit_toNat (w : Word) (i : Nat) : bit w.toNat i = (bits w i 1 == 1) := by simp [bit, bits]

/-- A field of a masked word. -/
theorem bits_and (x y : Word) (lo len : Nat) : bits (x &&& y) lo len = bits x lo len &&& bits y lo len := by
  apply Nat.eq_of_testBit_eq
  intro i
  simp only [bits, BitVec.toNat_and, Nat.testBit_mod_two_pow, Nat.testBit_div_two_pow, Nat.testBit_and]
  by_cases h : i < len <;> simp [h]

theorem bits_zero (lo len : Nat) : bits 0#32 lo len = 0 := by simp [bits]

theorem bits_ofNat (n lo len : Nat) : bits (BitVec.ofNat 32 n) lo len = n % 2^32 / 2^lo % 2^len := by simp [bits]

/-- A field of a word masked so that the field is cleared. -/
theorem bits_and_off (x : Word) (m lo len : Nat) (h : m % 2^32 / 2^lo % 2^len = 0) :
    bits (x &&& BitVec.ofNat 32 m) lo len = 0 := by
  rw [bits_and, bits_ofNat, h]; exact Nat.and_zero _

/-- A field of a word masked so that the field is kept. -/
theorem bits_and_on (x : Word) (m lo len : Nat) (h : m % 2^32 / 2^lo % 2^len = 2^len - 1) :
    bits (x &&& BitVec.ofNat 32 m) lo len = bits x lo len := by
  rw [bits_and, bits_ofNat, h, Nat.and_two_pow_sub_one_eq_mod]
  exact Nat.mod_eq_of_lt (bits_lt _ _ _)

/-! ## Header registers -/

/-- A header register but SHADOW_CTRL is its page's own. -/
theorem key_header (g : Page) {off : Nat} (h : off < 0x40) (h2 : off ≠ 0x2C) : Reg.key ⟨g, off⟩ = g.num * 4096 + off := by
  cases g <;> simp [Reg.key, home, regKey, inStore, h2, show off ≠ 0x6C by omega, show off ≠ 0x68 by omega,
    show off ≠ 0x70 by omega, show off ≠ 0x74 by omega, show off ≠ 0x88 by omega, show off ≠ 0x8C by omega,
    show ¬ (0x400 ≤ off) by omega]

theorem regRow_ctrl (g : Page) : rwMask g 0x0C = 3 := by cases g <;> rfl

/-! ## The instances of a page share their register list -/

theorem regRow_bay (b off : Nat) : regRow (.bay b) off = regRow (.bay 0) off := rfl
theorem regRow_clu (k off : Nat) : regRow (.clu k) off = regRow (.clu 0) off := rfl
theorem regRow_lane (n off : Nat) : regRow (.lane n) off = regRow (.lane 0) off := rfl
theorem regRow_pool (q off : Nat) : regRow (.pool q) off = regRow (.pool 0) off := rfl
theorem regRow_net (i off : Nat) : regRow (.net i) off = regRow (.net 0) off := rfl
theorem shadowed_bay (b off : Nat) : shadowedReg (.bay b) off = shadowedReg (.bay 0) off := rfl
theorem shadowed_clu (k off : Nat) : shadowedReg (.clu k) off = shadowedReg (.clu 0) off := rfl
theorem shadowed_lane (n off : Nat) : shadowedReg (.lane n) off = shadowedReg (.lane 0) off := rfl
theorem rwMask_bay (b off : Nat) : rwMask (.bay b) off = rwMask (.bay 0) off := rfl
theorem rwMask_clu (k off : Nat) : rwMask (.clu k) off = rwMask (.clu 0) off := rfl
theorem rwMask_lane (n off : Nat) : rwMask (.lane n) off = rwMask (.lane 0) off := rfl

/-! ## The path of a write -/

theorem regWrite_header {s : Dev} {q : Requester} {g : Page} {off : Nat} (w : Word) (h : s.admits q g) (ho : off < 0x40) :
    s.regWrite q g off w = s.headerWrite q g off w := by
  obtain ⟨h1, h2, h3, h4⟩ := h
  simp only [Dev.regWrite, Dev.regWriteWith, h1, h2, if_neg h3, if_neg h4, if_pos ho, Bool.false_eq_true, if_false, Bool.not_true]

theorem regWrite_page {s : Dev} {q : Requester} {g : Page} {off : Nat} (w : Word) (h : s.admits q g) (ho : ¬off < 0x40) :
    s.regWrite q g off w = s.pageWrite (issueN 16) q g off w := by
  obtain ⟨h1, h2, h3, h4⟩ := h
  simp only [Dev.regWrite, Dev.regWriteWith, h1, h2, if_neg h3, if_neg h4, if_neg ho, Bool.false_eq_true, if_false, Bool.not_true]

/-- A write of a register that is not shadowed, on a page that is ON. -/
theorem regWrite_effect {s : Dev} {q : Requester} {g : Page} {off : Nat} (w : Word) (h : s.takes q g) (ho : ¬off < 0x40)
    (hr : (regRow g off).any (fun r => !r.readOnly) = true) (hs : shadowedReg g off = false) (hw : s.waveOff g off = false) :
    s.regWrite q g off w = s.effect (issueN 16) q g off w := by
  rw [regWrite_page w h.1 ho]
  obtain ⟨r, hr, hro⟩ := (Option.any_eq_true _ _).1 hr
  rw [Bool.not_eq_true'] at hro
  simp [Dev.pageWrite, hr, hro, h.2, Dev.apply_, hw, hs]

/-- A command that writes one field of a register that is not shadowed, on a page that is ON. -/
theorem putF_effect {s : Dev} {q : Requester} {f : Fld} (v : Nat) (h : s.takes q f.pg) (ho : ¬f.off < 0x40)
    (hr : (regRow f.pg f.off).any (fun r => !r.readOnly) = true) (hs : shadowedReg f.pg f.off = false) (hw : s.waveOff f.pg f.off = false) :
    s.putF q f v = s.effect (issueN 16) q f.pg f.off
      (setBits ((s.regRead q f.pg f.off).1 &&& BitVec.ofNat 32 (rwMask f.pg f.off)) f.lo f.len v) := by
  unfold Dev.putF
  exact regWrite_effect _ h ho hr hs hw

/-- A command that writes one field of a register of which no bit is stored. -/
theorem putF_wo {s : Dev} {q : Requester} {f : Fld} (v : Nat) (h : s.takes q f.pg) (ho : ¬f.off < 0x40)
    (hr : (regRow f.pg f.off).any (fun r => !r.readOnly) = true) (hs : shadowedReg f.pg f.off = false) (hw : s.waveOff f.pg f.off = false)
    (hm : rwMask f.pg f.off = 0) :
    s.putF q f v = s.effect (issueN 16) q f.pg f.off (setBits 0#32 f.lo f.len v) := by
  rw [putF_effect v h ho hr hs hw, hm]
  congr 2
  exact BitVec.and_zero

/-- A header read returns the stored word but for the status bits that follow others. -/
theorem regRead_header {s : Dev} {q : Requester} {g : Page} {off : Nat} (ho : off < 0x40) :
    s.regRead q g off = (s.headerRead g off, s) := by simp [Dev.regRead, ho]

end Sys2Proof.Machine
end

