-- ==== Sys2Proof/Laws/Crc.lean ====
section
/-! SUPPORT. The CRC of a list of bytes fits 32 bits, so that SEAL can name it. -/
namespace Sys2Proof.Machine

theorem crc32Bits_lt (n c : Nat) (h : c < 2^32) : crc32Bits n c < 2^32 := by
  induction n generalizing c with
  | zero => exact h
  | succ n ih =>
    unfold crc32Bits
    refine ih _ ?_
    split
    · exact Nat.xor_lt_two_pow (by omega) (by norm_num)
    · omega

theorem crc32_fold_lt (l : List Nat) (c : Nat) (hc : c < 2^32) (h : ∀ b ∈ l, b < 256) :
    l.foldl (fun c b => crc32Bits 8 (Nat.xor c b)) c < 2^32 := by
  induction l generalizing c with
  | nil => exact hc
  | cons b l ih =>
    have hb : b < 2^32 := lt_trans (h b (by simp)) (by norm_num)
    exact ih _ (crc32Bits_lt 8 _ (Nat.xor_lt_two_pow hc hb)) (fun x hx => h x (by simp [hx]))

theorem crc32_lt (l : List Nat) (h : ∀ b ∈ l, b < 256) : crc32 l < 2^32 :=
  Nat.xor_lt_two_pow (crc32_fold_lt l _ (by norm_num) h) (by norm_num)

theorem wordBytes_lt (w : Word) : ∀ b ∈ wordBytes w, b < 256 := by
  have := w.isLt
  intro b hb
  simp only [wordBytes, List.mem_cons, List.not_mem_nil, or_false] at hb
  rcases hb with h | h | h | h <;> omega

/-- The CRC over the configuration (R508) fits SEAL's word. -/
theorem cfgCrc_lt (s : Dev) : s.cfgCrc < 2^32 := by
  refine crc32_lt _ (fun b hb => ?_)
  obtain ⟨o, _, ho⟩ := List.mem_flatMap.1 hb
  exact wordBytes_lt _ b ho

/-- So the word of that value is one SEAL accepts. -/
theorem toNat_cfgCrc (s : Dev) : (BitVec.ofNat 32 s.cfgCrc).toNat = s.cfgCrc := by
  rw [BitVec.toNat_ofNat, Nat.mod_eq_of_lt (cfgCrc_lt s)]

end Sys2Proof.Machine
end

