-- ==== Sys2Proof/Laws/State.lean ====
section
/-! SUPPORT. What every named update of the state leaves as it was, field by field, and what reading back what it wrote gives;
later proofs cite these and never unfold an update. -/
namespace Sys2Proof.Machine

/-! ## Fields an update leaves as they were -/

@[simp] theorem wr_keeps (s : Dev) (r : Reg) (w : Word) :
  (s.wr r w).now = s.now ∧ (s.wr r w).running = s.running ∧ (s.wr r w).pages = s.pages ∧ (s.wr r w).reqs = s.reqs ∧
  (s.wr r w).commitNo = s.commitNo ∧ (s.wr r w).tasks = s.tasks ∧ (s.wr r w).taskQueue = s.taskQueue ∧
  (s.wr r w).taskRun = s.taskRun ∧ (s.wr r w).taskLast = s.taskLast ∧ (s.wr r w).reports = s.reports ∧
  (s.wr r w).escalated = s.escalated ∧ (s.wr r w).firstAt = s.firstAt ∧ (s.wr r w).staging = s.staging ∧
  (s.wr r w).lostSince = s.lostSince ∧ (s.wr r w).vectors = s.vectors ∧ (s.wr r w).int0 = s.int0 ∧ (s.wr r w).int1 = s.int1 ∧
  (s.wr r w).chans = s.chans ∧ (s.wr r w).bays = s.bays ∧ (s.wr r w).convs = s.convs ∧ (s.wr r w).slices = s.slices ∧
  (s.wr r w).time = s.time ∧ (s.wr r w).ports = s.ports ∧ (s.wr r w).rz = s.rz ∧ (s.wr r w).emit = s.emit ∧
  (s.wr r w).ledger = s.ledger ∧ (s.wr r w).scan = s.scan ∧ (s.wr r w).column = s.column ∧ (s.wr r w).frames = s.frames ∧
  (s.wr r w).hists = s.hists ∧ (s.wr r w).nextHist = s.nextHist ∧ (s.wr r w).ambs = s.ambs ∧ (s.wr r w).nextAmb = s.nextAmb ∧
  (s.wr r w).pools = s.pools ∧ (s.wr r w).engs = s.engs ∧ (s.wr r w).clus = s.clus ∧ (s.wr r w).regions = s.regions ∧
  (s.wr r w).kbank = s.kbank ∧ (s.wr r w).stream = s.stream ∧ (s.wr r w).lanes = s.lanes ∧ (s.wr r w).chain = s.chain ∧
  (s.wr r w).ptp = s.ptp ∧ (s.wr r w).host = s.host ∧ (s.wr r w).nets = s.nets ∧ (s.wr r w).answered = s.answered ∧
  (s.wr r w).nw = s.nw ∧ (s.wr r w).mon = s.mon ∧ (s.wr r w).therm = s.therm ∧ (s.wr r w).alm = s.alm ∧
  (s.wr r w).mram = s.mram ∧ (s.wr r w).flash = s.flash ∧ (s.wr r w).sec = s.sec ∧ (s.wr r w).res = s.res ∧
  (s.wr r w).boot = s.boot ∧ (s.wr r w).freeCtr = s.freeCtr ∧ (s.wr r w).out = s.out :=
  ⟨rfl, rfl, rfl, rfl, rfl, rfl, rfl, rfl, rfl, rfl, rfl, rfl, rfl, rfl, rfl, rfl, rfl, rfl, rfl, rfl, rfl, rfl, rfl, rfl, rfl, rfl, rfl, rfl, rfl, rfl, rfl, rfl, rfl, rfl, rfl, rfl, rfl, rfl, rfl, rfl, rfl, rfl, rfl, rfl, rfl, rfl, rfl, rfl, rfl, rfl, rfl, rfl, rfl, rfl, rfl, rfl⟩

@[simp] theorem sf_keeps (s : Dev) (f : Fld) (v : Nat) :
  (s.sf f v).now = s.now ∧ (s.sf f v).running = s.running ∧ (s.sf f v).pages = s.pages ∧ (s.sf f v).reqs = s.reqs ∧
  (s.sf f v).commitNo = s.commitNo ∧ (s.sf f v).tasks = s.tasks ∧ (s.sf f v).taskQueue = s.taskQueue ∧
  (s.sf f v).taskRun = s.taskRun ∧ (s.sf f v).taskLast = s.taskLast ∧ (s.sf f v).reports = s.reports ∧
  (s.sf f v).escalated = s.escalated ∧ (s.sf f v).firstAt = s.firstAt ∧ (s.sf f v).staging = s.staging ∧
  (s.sf f v).lostSince = s.lostSince ∧ (s.sf f v).vectors = s.vectors ∧ (s.sf f v).int0 = s.int0 ∧ (s.sf f v).int1 = s.int1 ∧
  (s.sf f v).chans = s.chans ∧ (s.sf f v).bays = s.bays ∧ (s.sf f v).convs = s.convs ∧ (s.sf f v).slices = s.slices ∧
  (s.sf f v).time = s.time ∧ (s.sf f v).ports = s.ports ∧ (s.sf f v).rz = s.rz ∧ (s.sf f v).emit = s.emit ∧
  (s.sf f v).ledger = s.ledger ∧ (s.sf f v).scan = s.scan ∧ (s.sf f v).column = s.column ∧ (s.sf f v).frames = s.frames ∧
  (s.sf f v).hists = s.hists ∧ (s.sf f v).nextHist = s.nextHist ∧ (s.sf f v).ambs = s.ambs ∧ (s.sf f v).nextAmb = s.nextAmb ∧
  (s.sf f v).pools = s.pools ∧ (s.sf f v).engs = s.engs ∧ (s.sf f v).clus = s.clus ∧ (s.sf f v).regions = s.regions ∧
  (s.sf f v).kbank = s.kbank ∧ (s.sf f v).stream = s.stream ∧ (s.sf f v).lanes = s.lanes ∧ (s.sf f v).chain = s.chain ∧
  (s.sf f v).ptp = s.ptp ∧ (s.sf f v).host = s.host ∧ (s.sf f v).nets = s.nets ∧ (s.sf f v).answered = s.answered ∧
  (s.sf f v).nw = s.nw ∧ (s.sf f v).mon = s.mon ∧ (s.sf f v).therm = s.therm ∧ (s.sf f v).alm = s.alm ∧
  (s.sf f v).mram = s.mram ∧ (s.sf f v).flash = s.flash ∧ (s.sf f v).sec = s.sec ∧ (s.sf f v).res = s.res ∧
  (s.sf f v).boot = s.boot ∧ (s.sf f v).freeCtr = s.freeCtr ∧ (s.sf f v).out = s.out :=
  ⟨rfl, rfl, rfl, rfl, rfl, rfl, rfl, rfl, rfl, rfl, rfl, rfl, rfl, rfl, rfl, rfl, rfl, rfl, rfl, rfl, rfl, rfl, rfl, rfl, rfl, rfl, rfl, rfl, rfl, rfl, rfl, rfl, rfl, rfl, rfl, rfl, rfl, rfl, rfl, rfl, rfl, rfl, rfl, rfl, rfl, rfl, rfl, rfl, rfl, rfl, rfl, rfl, rfl, rfl, rfl, rfl⟩

@[simp] theorem sb_keeps (s : Dev) (f : Fld) (b : Bool) :
  (s.sb f b).now = s.now ∧ (s.sb f b).running = s.running ∧ (s.sb f b).pages = s.pages ∧ (s.sb f b).reqs = s.reqs ∧
  (s.sb f b).commitNo = s.commitNo ∧ (s.sb f b).tasks = s.tasks ∧ (s.sb f b).taskQueue = s.taskQueue ∧
  (s.sb f b).taskRun = s.taskRun ∧ (s.sb f b).taskLast = s.taskLast ∧ (s.sb f b).reports = s.reports ∧
  (s.sb f b).escalated = s.escalated ∧ (s.sb f b).firstAt = s.firstAt ∧ (s.sb f b).staging = s.staging ∧
  (s.sb f b).lostSince = s.lostSince ∧ (s.sb f b).vectors = s.vectors ∧ (s.sb f b).int0 = s.int0 ∧ (s.sb f b).int1 = s.int1 ∧
  (s.sb f b).chans = s.chans ∧ (s.sb f b).bays = s.bays ∧ (s.sb f b).convs = s.convs ∧ (s.sb f b).slices = s.slices ∧
  (s.sb f b).time = s.time ∧ (s.sb f b).ports = s.ports ∧ (s.sb f b).rz = s.rz ∧ (s.sb f b).emit = s.emit ∧
  (s.sb f b).ledger = s.ledger ∧ (s.sb f b).scan = s.scan ∧ (s.sb f b).column = s.column ∧ (s.sb f b).frames = s.frames ∧
  (s.sb f b).hists = s.hists ∧ (s.sb f b).nextHist = s.nextHist ∧ (s.sb f b).ambs = s.ambs ∧ (s.sb f b).nextAmb = s.nextAmb ∧
  (s.sb f b).pools = s.pools ∧ (s.sb f b).engs = s.engs ∧ (s.sb f b).clus = s.clus ∧ (s.sb f b).regions = s.regions ∧
  (s.sb f b).kbank = s.kbank ∧ (s.sb f b).stream = s.stream ∧ (s.sb f b).lanes = s.lanes ∧ (s.sb f b).chain = s.chain ∧
  (s.sb f b).ptp = s.ptp ∧ (s.sb f b).host = s.host ∧ (s.sb f b).nets = s.nets ∧ (s.sb f b).answered = s.answered ∧
  (s.sb f b).nw = s.nw ∧ (s.sb f b).mon = s.mon ∧ (s.sb f b).therm = s.therm ∧ (s.sb f b).alm = s.alm ∧
  (s.sb f b).mram = s.mram ∧ (s.sb f b).flash = s.flash ∧ (s.sb f b).sec = s.sec ∧ (s.sb f b).res = s.res ∧
  (s.sb f b).boot = s.boot ∧ (s.sb f b).freeCtr = s.freeCtr ∧ (s.sb f b).out = s.out :=
  ⟨rfl, rfl, rfl, rfl, rfl, rfl, rfl, rfl, rfl, rfl, rfl, rfl, rfl, rfl, rfl, rfl, rfl, rfl, rfl, rfl, rfl, rfl, rfl, rfl, rfl, rfl, rfl, rfl, rfl, rfl, rfl, rfl, rfl, rfl, rfl, rfl, rfl, rfl, rfl, rfl, rfl, rfl, rfl, rfl, rfl, rfl, rfl, rfl, rfl, rfl, rfl, rfl, rfl, rfl, rfl, rfl⟩

@[simp] theorem si_keeps (s : Dev) (f : Fld) (v : Int) :
  (s.si f v).now = s.now ∧ (s.si f v).running = s.running ∧ (s.si f v).pages = s.pages ∧ (s.si f v).reqs = s.reqs ∧
  (s.si f v).commitNo = s.commitNo ∧ (s.si f v).tasks = s.tasks ∧ (s.si f v).taskQueue = s.taskQueue ∧
  (s.si f v).taskRun = s.taskRun ∧ (s.si f v).taskLast = s.taskLast ∧ (s.si f v).reports = s.reports ∧
  (s.si f v).escalated = s.escalated ∧ (s.si f v).firstAt = s.firstAt ∧ (s.si f v).staging = s.staging ∧
  (s.si f v).lostSince = s.lostSince ∧ (s.si f v).vectors = s.vectors ∧ (s.si f v).int0 = s.int0 ∧ (s.si f v).int1 = s.int1 ∧
  (s.si f v).chans = s.chans ∧ (s.si f v).bays = s.bays ∧ (s.si f v).convs = s.convs ∧ (s.si f v).slices = s.slices ∧
  (s.si f v).time = s.time ∧ (s.si f v).ports = s.ports ∧ (s.si f v).rz = s.rz ∧ (s.si f v).emit = s.emit ∧
  (s.si f v).ledger = s.ledger ∧ (s.si f v).scan = s.scan ∧ (s.si f v).column = s.column ∧ (s.si f v).frames = s.frames ∧
  (s.si f v).hists = s.hists ∧ (s.si f v).nextHist = s.nextHist ∧ (s.si f v).ambs = s.ambs ∧ (s.si f v).nextAmb = s.nextAmb ∧
  (s.si f v).pools = s.pools ∧ (s.si f v).engs = s.engs ∧ (s.si f v).clus = s.clus ∧ (s.si f v).regions = s.regions ∧
  (s.si f v).kbank = s.kbank ∧ (s.si f v).stream = s.stream ∧ (s.si f v).lanes = s.lanes ∧ (s.si f v).chain = s.chain ∧
  (s.si f v).ptp = s.ptp ∧ (s.si f v).host = s.host ∧ (s.si f v).nets = s.nets ∧ (s.si f v).answered = s.answered ∧
  (s.si f v).nw = s.nw ∧ (s.si f v).mon = s.mon ∧ (s.si f v).therm = s.therm ∧ (s.si f v).alm = s.alm ∧
  (s.si f v).mram = s.mram ∧ (s.si f v).flash = s.flash ∧ (s.si f v).sec = s.sec ∧ (s.si f v).res = s.res ∧
  (s.si f v).boot = s.boot ∧ (s.si f v).freeCtr = s.freeCtr ∧ (s.si f v).out = s.out :=
  ⟨rfl, rfl, rfl, rfl, rfl, rfl, rfl, rfl, rfl, rfl, rfl, rfl, rfl, rfl, rfl, rfl, rfl, rfl, rfl, rfl, rfl, rfl, rfl, rfl, rfl, rfl, rfl, rfl, rfl, rfl, rfl, rfl, rfl, rfl, rfl, rfl, rfl, rfl, rfl, rfl, rfl, rfl, rfl, rfl, rfl, rfl, rfl, rfl, rfl, rfl, rfl, rfl, rfl, rfl, rfl, rfl⟩

@[simp] theorem inc_keeps (s : Dev) (f : Fld) (n : Nat) :
  (s.inc f n).now = s.now ∧ (s.inc f n).running = s.running ∧ (s.inc f n).pages = s.pages ∧ (s.inc f n).reqs = s.reqs ∧
  (s.inc f n).commitNo = s.commitNo ∧ (s.inc f n).tasks = s.tasks ∧ (s.inc f n).taskQueue = s.taskQueue ∧
  (s.inc f n).taskRun = s.taskRun ∧ (s.inc f n).taskLast = s.taskLast ∧ (s.inc f n).reports = s.reports ∧
  (s.inc f n).escalated = s.escalated ∧ (s.inc f n).firstAt = s.firstAt ∧ (s.inc f n).staging = s.staging ∧
  (s.inc f n).lostSince = s.lostSince ∧ (s.inc f n).vectors = s.vectors ∧ (s.inc f n).int0 = s.int0 ∧
  (s.inc f n).int1 = s.int1 ∧ (s.inc f n).chans = s.chans ∧ (s.inc f n).bays = s.bays ∧ (s.inc f n).convs = s.convs ∧
  (s.inc f n).slices = s.slices ∧ (s.inc f n).time = s.time ∧ (s.inc f n).ports = s.ports ∧ (s.inc f n).rz = s.rz ∧
  (s.inc f n).emit = s.emit ∧ (s.inc f n).ledger = s.ledger ∧ (s.inc f n).scan = s.scan ∧ (s.inc f n).column = s.column ∧
  (s.inc f n).frames = s.frames ∧ (s.inc f n).hists = s.hists ∧ (s.inc f n).nextHist = s.nextHist ∧ (s.inc f n).ambs = s.ambs ∧
  (s.inc f n).nextAmb = s.nextAmb ∧ (s.inc f n).pools = s.pools ∧ (s.inc f n).engs = s.engs ∧ (s.inc f n).clus = s.clus ∧
  (s.inc f n).regions = s.regions ∧ (s.inc f n).kbank = s.kbank ∧ (s.inc f n).stream = s.stream ∧ (s.inc f n).lanes = s.lanes ∧
  (s.inc f n).chain = s.chain ∧ (s.inc f n).ptp = s.ptp ∧ (s.inc f n).host = s.host ∧ (s.inc f n).nets = s.nets ∧
  (s.inc f n).answered = s.answered ∧ (s.inc f n).nw = s.nw ∧ (s.inc f n).mon = s.mon ∧ (s.inc f n).therm = s.therm ∧
  (s.inc f n).alm = s.alm ∧ (s.inc f n).mram = s.mram ∧ (s.inc f n).flash = s.flash ∧ (s.inc f n).sec = s.sec ∧
  (s.inc f n).res = s.res ∧ (s.inc f n).boot = s.boot ∧ (s.inc f n).freeCtr = s.freeCtr ∧ (s.inc f n).out = s.out :=
  ⟨rfl, rfl, rfl, rfl, rfl, rfl, rfl, rfl, rfl, rfl, rfl, rfl, rfl, rfl, rfl, rfl, rfl, rfl, rfl, rfl, rfl, rfl, rfl, rfl, rfl, rfl, rfl, rfl, rfl, rfl, rfl, rfl, rfl, rfl, rfl, rfl, rfl, rfl, rfl, rfl, rfl, rfl, rfl, rfl, rfl, rfl, rfl, rfl, rfl, rfl, rfl, rfl, rfl, rfl, rfl, rfl⟩

@[simp] theorem incSat_keeps (s : Dev) (f : Fld) (n : Nat) :
  (s.incSat f n).now = s.now ∧ (s.incSat f n).running = s.running ∧ (s.incSat f n).pages = s.pages ∧
  (s.incSat f n).reqs = s.reqs ∧ (s.incSat f n).commitNo = s.commitNo ∧ (s.incSat f n).tasks = s.tasks ∧
  (s.incSat f n).taskQueue = s.taskQueue ∧ (s.incSat f n).taskRun = s.taskRun ∧ (s.incSat f n).taskLast = s.taskLast ∧
  (s.incSat f n).reports = s.reports ∧ (s.incSat f n).escalated = s.escalated ∧ (s.incSat f n).firstAt = s.firstAt ∧
  (s.incSat f n).staging = s.staging ∧ (s.incSat f n).lostSince = s.lostSince ∧ (s.incSat f n).vectors = s.vectors ∧
  (s.incSat f n).int0 = s.int0 ∧ (s.incSat f n).int1 = s.int1 ∧ (s.incSat f n).chans = s.chans ∧ (s.incSat f n).bays = s.bays ∧
  (s.incSat f n).convs = s.convs ∧ (s.incSat f n).slices = s.slices ∧ (s.incSat f n).time = s.time ∧
  (s.incSat f n).ports = s.ports ∧ (s.incSat f n).rz = s.rz ∧ (s.incSat f n).emit = s.emit ∧ (s.incSat f n).ledger = s.ledger ∧
  (s.incSat f n).scan = s.scan ∧ (s.incSat f n).column = s.column ∧ (s.incSat f n).frames = s.frames ∧
  (s.incSat f n).hists = s.hists ∧ (s.incSat f n).nextHist = s.nextHist ∧ (s.incSat f n).ambs = s.ambs ∧
  (s.incSat f n).nextAmb = s.nextAmb ∧ (s.incSat f n).pools = s.pools ∧ (s.incSat f n).engs = s.engs ∧
  (s.incSat f n).clus = s.clus ∧ (s.incSat f n).regions = s.regions ∧ (s.incSat f n).kbank = s.kbank ∧
  (s.incSat f n).stream = s.stream ∧ (s.incSat f n).lanes = s.lanes ∧ (s.incSat f n).chain = s.chain ∧
  (s.incSat f n).ptp = s.ptp ∧ (s.incSat f n).host = s.host ∧ (s.incSat f n).nets = s.nets ∧
  (s.incSat f n).answered = s.answered ∧ (s.incSat f n).nw = s.nw ∧ (s.incSat f n).mon = s.mon ∧
  (s.incSat f n).therm = s.therm ∧ (s.incSat f n).alm = s.alm ∧ (s.incSat f n).mram = s.mram ∧ (s.incSat f n).flash = s.flash ∧
  (s.incSat f n).sec = s.sec ∧ (s.incSat f n).res = s.res ∧ (s.incSat f n).boot = s.boot ∧ (s.incSat f n).freeCtr = s.freeCtr ∧
  (s.incSat f n).out = s.out :=
  ⟨rfl, rfl, rfl, rfl, rfl, rfl, rfl, rfl, rfl, rfl, rfl, rfl, rfl, rfl, rfl, rfl, rfl, rfl, rfl, rfl, rfl, rfl, rfl, rfl, rfl, rfl, rfl, rfl, rfl, rfl, rfl, rfl, rfl, rfl, rfl, rfl, rfl, rfl, rfl, rfl, rfl, rfl, rfl, rfl, rfl, rfl, rfl, rfl, rfl, rfl, rfl, rfl, rfl, rfl, rfl, rfl⟩

@[simp] theorem wrQ_keeps (s : Dev) (q : Requester) (r : Reg) (w : Word) :
  (s.wrQ q r w).now = s.now ∧ (s.wrQ q r w).running = s.running ∧ (s.wrQ q r w).pages = s.pages ∧ (s.wrQ q r w).reqs = s.reqs ∧
  (s.wrQ q r w).commitNo = s.commitNo ∧ (s.wrQ q r w).tasks = s.tasks ∧ (s.wrQ q r w).taskQueue = s.taskQueue ∧
  (s.wrQ q r w).taskRun = s.taskRun ∧ (s.wrQ q r w).taskLast = s.taskLast ∧ (s.wrQ q r w).reports = s.reports ∧
  (s.wrQ q r w).escalated = s.escalated ∧ (s.wrQ q r w).firstAt = s.firstAt ∧ (s.wrQ q r w).staging = s.staging ∧
  (s.wrQ q r w).lostSince = s.lostSince ∧ (s.wrQ q r w).vectors = s.vectors ∧ (s.wrQ q r w).int0 = s.int0 ∧
  (s.wrQ q r w).int1 = s.int1 ∧ (s.wrQ q r w).chans = s.chans ∧ (s.wrQ q r w).bays = s.bays ∧ (s.wrQ q r w).convs = s.convs ∧
  (s.wrQ q r w).slices = s.slices ∧ (s.wrQ q r w).time = s.time ∧ (s.wrQ q r w).ports = s.ports ∧ (s.wrQ q r w).rz = s.rz ∧
  (s.wrQ q r w).emit = s.emit ∧ (s.wrQ q r w).ledger = s.ledger ∧ (s.wrQ q r w).scan = s.scan ∧
  (s.wrQ q r w).column = s.column ∧ (s.wrQ q r w).frames = s.frames ∧ (s.wrQ q r w).hists = s.hists ∧
  (s.wrQ q r w).nextHist = s.nextHist ∧ (s.wrQ q r w).ambs = s.ambs ∧ (s.wrQ q r w).nextAmb = s.nextAmb ∧
  (s.wrQ q r w).pools = s.pools ∧ (s.wrQ q r w).engs = s.engs ∧ (s.wrQ q r w).clus = s.clus ∧
  (s.wrQ q r w).regions = s.regions ∧ (s.wrQ q r w).kbank = s.kbank ∧ (s.wrQ q r w).stream = s.stream ∧
  (s.wrQ q r w).lanes = s.lanes ∧ (s.wrQ q r w).chain = s.chain ∧ (s.wrQ q r w).ptp = s.ptp ∧ (s.wrQ q r w).host = s.host ∧
  (s.wrQ q r w).nets = s.nets ∧ (s.wrQ q r w).answered = s.answered ∧ (s.wrQ q r w).nw = s.nw ∧ (s.wrQ q r w).mon = s.mon ∧
  (s.wrQ q r w).therm = s.therm ∧ (s.wrQ q r w).alm = s.alm ∧ (s.wrQ q r w).mram = s.mram ∧ (s.wrQ q r w).flash = s.flash ∧
  (s.wrQ q r w).sec = s.sec ∧ (s.wrQ q r w).res = s.res ∧ (s.wrQ q r w).boot = s.boot ∧ (s.wrQ q r w).freeCtr = s.freeCtr ∧
  (s.wrQ q r w).out = s.out :=
  ⟨rfl, rfl, rfl, rfl, rfl, rfl, rfl, rfl, rfl, rfl, rfl, rfl, rfl, rfl, rfl, rfl, rfl, rfl, rfl, rfl, rfl, rfl, rfl, rfl, rfl, rfl, rfl, rfl, rfl, rfl, rfl, rfl, rfl, rfl, rfl, rfl, rfl, rfl, rfl, rfl, rfl, rfl, rfl, rfl, rfl, rfl, rfl, rfl, rfl, rfl, rfl, rfl, rfl, rfl, rfl, rfl⟩

@[simp] theorem sfQ_keeps (s : Dev) (q : Requester) (f : Fld) (v : Nat) :
  (s.sfQ q f v).now = s.now ∧ (s.sfQ q f v).running = s.running ∧ (s.sfQ q f v).pages = s.pages ∧ (s.sfQ q f v).reqs = s.reqs ∧
  (s.sfQ q f v).commitNo = s.commitNo ∧ (s.sfQ q f v).tasks = s.tasks ∧ (s.sfQ q f v).taskQueue = s.taskQueue ∧
  (s.sfQ q f v).taskRun = s.taskRun ∧ (s.sfQ q f v).taskLast = s.taskLast ∧ (s.sfQ q f v).reports = s.reports ∧
  (s.sfQ q f v).escalated = s.escalated ∧ (s.sfQ q f v).firstAt = s.firstAt ∧ (s.sfQ q f v).staging = s.staging ∧
  (s.sfQ q f v).lostSince = s.lostSince ∧ (s.sfQ q f v).vectors = s.vectors ∧ (s.sfQ q f v).int0 = s.int0 ∧
  (s.sfQ q f v).int1 = s.int1 ∧ (s.sfQ q f v).chans = s.chans ∧ (s.sfQ q f v).bays = s.bays ∧ (s.sfQ q f v).convs = s.convs ∧
  (s.sfQ q f v).slices = s.slices ∧ (s.sfQ q f v).time = s.time ∧ (s.sfQ q f v).ports = s.ports ∧ (s.sfQ q f v).rz = s.rz ∧
  (s.sfQ q f v).emit = s.emit ∧ (s.sfQ q f v).ledger = s.ledger ∧ (s.sfQ q f v).scan = s.scan ∧
  (s.sfQ q f v).column = s.column ∧ (s.sfQ q f v).frames = s.frames ∧ (s.sfQ q f v).hists = s.hists ∧
  (s.sfQ q f v).nextHist = s.nextHist ∧ (s.sfQ q f v).ambs = s.ambs ∧ (s.sfQ q f v).nextAmb = s.nextAmb ∧
  (s.sfQ q f v).pools = s.pools ∧ (s.sfQ q f v).engs = s.engs ∧ (s.sfQ q f v).clus = s.clus ∧
  (s.sfQ q f v).regions = s.regions ∧ (s.sfQ q f v).kbank = s.kbank ∧ (s.sfQ q f v).stream = s.stream ∧
  (s.sfQ q f v).lanes = s.lanes ∧ (s.sfQ q f v).chain = s.chain ∧ (s.sfQ q f v).ptp = s.ptp ∧ (s.sfQ q f v).host = s.host ∧
  (s.sfQ q f v).nets = s.nets ∧ (s.sfQ q f v).answered = s.answered ∧ (s.sfQ q f v).nw = s.nw ∧ (s.sfQ q f v).mon = s.mon ∧
  (s.sfQ q f v).therm = s.therm ∧ (s.sfQ q f v).alm = s.alm ∧ (s.sfQ q f v).mram = s.mram ∧ (s.sfQ q f v).flash = s.flash ∧
  (s.sfQ q f v).sec = s.sec ∧ (s.sfQ q f v).res = s.res ∧ (s.sfQ q f v).boot = s.boot ∧ (s.sfQ q f v).freeCtr = s.freeCtr ∧
  (s.sfQ q f v).out = s.out :=
  ⟨rfl, rfl, rfl, rfl, rfl, rfl, rfl, rfl, rfl, rfl, rfl, rfl, rfl, rfl, rfl, rfl, rfl, rfl, rfl, rfl, rfl, rfl, rfl, rfl, rfl, rfl, rfl, rfl, rfl, rfl, rfl, rfl, rfl, rfl, rfl, rfl, rfl, rfl, rfl, rfl, rfl, rfl, rfl, rfl, rfl, rfl, rfl, rfl, rfl, rfl, rfl, rfl, rfl, rfl, rfl, rfl⟩

@[simp] theorem event_keeps (s : Dev) (e : Event) :
  (s.event e).now = s.now ∧ (s.event e).running = s.running ∧ (s.event e).pages = s.pages ∧ (s.event e).reqs = s.reqs ∧
  (s.event e).commitNo = s.commitNo ∧ (s.event e).tasks = s.tasks ∧ (s.event e).taskQueue = s.taskQueue ∧
  (s.event e).taskRun = s.taskRun ∧ (s.event e).taskLast = s.taskLast ∧ (s.event e).reports = s.reports ∧
  (s.event e).escalated = s.escalated ∧ (s.event e).firstAt = s.firstAt ∧ (s.event e).staging = s.staging ∧
  (s.event e).lostSince = s.lostSince ∧ (s.event e).vectors = s.vectors ∧ (s.event e).int0 = s.int0 ∧
  (s.event e).int1 = s.int1 ∧ (s.event e).chans = s.chans ∧ (s.event e).bays = s.bays ∧ (s.event e).convs = s.convs ∧
  (s.event e).slices = s.slices ∧ (s.event e).time = s.time ∧ (s.event e).ports = s.ports ∧ (s.event e).rz = s.rz ∧
  (s.event e).emit = s.emit ∧ (s.event e).ledger = s.ledger ∧ (s.event e).scan = s.scan ∧ (s.event e).column = s.column ∧
  (s.event e).frames = s.frames ∧ (s.event e).hists = s.hists ∧ (s.event e).nextHist = s.nextHist ∧ (s.event e).ambs = s.ambs ∧
  (s.event e).nextAmb = s.nextAmb ∧ (s.event e).pools = s.pools ∧ (s.event e).engs = s.engs ∧ (s.event e).clus = s.clus ∧
  (s.event e).regions = s.regions ∧ (s.event e).kbank = s.kbank ∧ (s.event e).stream = s.stream ∧ (s.event e).lanes = s.lanes ∧
  (s.event e).chain = s.chain ∧ (s.event e).ptp = s.ptp ∧ (s.event e).host = s.host ∧ (s.event e).nets = s.nets ∧
  (s.event e).answered = s.answered ∧ (s.event e).nw = s.nw ∧ (s.event e).mon = s.mon ∧ (s.event e).therm = s.therm ∧
  (s.event e).alm = s.alm ∧ (s.event e).mram = s.mram ∧ (s.event e).flash = s.flash ∧ (s.event e).sec = s.sec ∧
  (s.event e).res = s.res ∧ (s.event e).boot = s.boot ∧ (s.event e).freeCtr = s.freeCtr ∧ (s.event e).out = s.out :=
  ⟨rfl, rfl, rfl, rfl, rfl, rfl, rfl, rfl, rfl, rfl, rfl, rfl, rfl, rfl, rfl, rfl, rfl, rfl, rfl, rfl, rfl, rfl, rfl, rfl, rfl, rfl, rfl, rfl, rfl, rfl, rfl, rfl, rfl, rfl, rfl, rfl, rfl, rfl, rfl, rfl, rfl, rfl, rfl, rfl, rfl, rfl, rfl, rfl, rfl, rfl, rfl, rfl, rfl, rfl, rfl, rfl⟩

@[simp] theorem stateEvent_keeps (s : Dev) (g : Page) :
  (s.stateEvent g).now = s.now ∧ (s.stateEvent g).running = s.running ∧ (s.stateEvent g).pages = s.pages ∧
  (s.stateEvent g).reqs = s.reqs ∧ (s.stateEvent g).commitNo = s.commitNo ∧ (s.stateEvent g).tasks = s.tasks ∧
  (s.stateEvent g).taskQueue = s.taskQueue ∧ (s.stateEvent g).taskRun = s.taskRun ∧ (s.stateEvent g).taskLast = s.taskLast ∧
  (s.stateEvent g).reports = s.reports ∧ (s.stateEvent g).escalated = s.escalated ∧ (s.stateEvent g).firstAt = s.firstAt ∧
  (s.stateEvent g).staging = s.staging ∧ (s.stateEvent g).lostSince = s.lostSince ∧ (s.stateEvent g).vectors = s.vectors ∧
  (s.stateEvent g).int0 = s.int0 ∧ (s.stateEvent g).int1 = s.int1 ∧ (s.stateEvent g).chans = s.chans ∧
  (s.stateEvent g).bays = s.bays ∧ (s.stateEvent g).convs = s.convs ∧ (s.stateEvent g).slices = s.slices ∧
  (s.stateEvent g).time = s.time ∧ (s.stateEvent g).ports = s.ports ∧ (s.stateEvent g).rz = s.rz ∧
  (s.stateEvent g).emit = s.emit ∧ (s.stateEvent g).ledger = s.ledger ∧ (s.stateEvent g).scan = s.scan ∧
  (s.stateEvent g).column = s.column ∧ (s.stateEvent g).frames = s.frames ∧ (s.stateEvent g).hists = s.hists ∧
  (s.stateEvent g).nextHist = s.nextHist ∧ (s.stateEvent g).ambs = s.ambs ∧ (s.stateEvent g).nextAmb = s.nextAmb ∧
  (s.stateEvent g).pools = s.pools ∧ (s.stateEvent g).engs = s.engs ∧ (s.stateEvent g).clus = s.clus ∧
  (s.stateEvent g).regions = s.regions ∧ (s.stateEvent g).kbank = s.kbank ∧ (s.stateEvent g).stream = s.stream ∧
  (s.stateEvent g).lanes = s.lanes ∧ (s.stateEvent g).chain = s.chain ∧ (s.stateEvent g).ptp = s.ptp ∧
  (s.stateEvent g).host = s.host ∧ (s.stateEvent g).nets = s.nets ∧ (s.stateEvent g).answered = s.answered ∧
  (s.stateEvent g).nw = s.nw ∧ (s.stateEvent g).mon = s.mon ∧ (s.stateEvent g).therm = s.therm ∧ (s.stateEvent g).alm = s.alm ∧
  (s.stateEvent g).mram = s.mram ∧ (s.stateEvent g).flash = s.flash ∧ (s.stateEvent g).sec = s.sec ∧
  (s.stateEvent g).res = s.res ∧ (s.stateEvent g).boot = s.boot ∧ (s.stateEvent g).freeCtr = s.freeCtr ∧
  (s.stateEvent g).out = s.out :=
  ⟨rfl, rfl, rfl, rfl, rfl, rfl, rfl, rfl, rfl, rfl, rfl, rfl, rfl, rfl, rfl, rfl, rfl, rfl, rfl, rfl, rfl, rfl, rfl, rfl, rfl, rfl, rfl, rfl, rfl, rfl, rfl, rfl, rfl, rfl, rfl, rfl, rfl, rfl, rfl, rfl, rfl, rfl, rfl, rfl, rfl, rfl, rfl, rfl, rfl, rfl, rfl, rfl, rfl, rfl, rfl, rfl⟩

@[simp] theorem commitEvent_keeps (s : Dev) (g : Page) :
  (s.commitEvent g).now = s.now ∧ (s.commitEvent g).running = s.running ∧ (s.commitEvent g).pages = s.pages ∧
  (s.commitEvent g).reqs = s.reqs ∧ (s.commitEvent g).commitNo = s.commitNo ∧ (s.commitEvent g).tasks = s.tasks ∧
  (s.commitEvent g).taskQueue = s.taskQueue ∧ (s.commitEvent g).taskRun = s.taskRun ∧ (s.commitEvent g).taskLast = s.taskLast ∧
  (s.commitEvent g).reports = s.reports ∧ (s.commitEvent g).escalated = s.escalated ∧ (s.commitEvent g).firstAt = s.firstAt ∧
  (s.commitEvent g).staging = s.staging ∧ (s.commitEvent g).lostSince = s.lostSince ∧ (s.commitEvent g).vectors = s.vectors ∧
  (s.commitEvent g).int0 = s.int0 ∧ (s.commitEvent g).int1 = s.int1 ∧ (s.commitEvent g).chans = s.chans ∧
  (s.commitEvent g).bays = s.bays ∧ (s.commitEvent g).convs = s.convs ∧ (s.commitEvent g).slices = s.slices ∧
  (s.commitEvent g).time = s.time ∧ (s.commitEvent g).ports = s.ports ∧ (s.commitEvent g).rz = s.rz ∧
  (s.commitEvent g).emit = s.emit ∧ (s.commitEvent g).ledger = s.ledger ∧ (s.commitEvent g).scan = s.scan ∧
  (s.commitEvent g).column = s.column ∧ (s.commitEvent g).frames = s.frames ∧ (s.commitEvent g).hists = s.hists ∧
  (s.commitEvent g).nextHist = s.nextHist ∧ (s.commitEvent g).ambs = s.ambs ∧ (s.commitEvent g).nextAmb = s.nextAmb ∧
  (s.commitEvent g).pools = s.pools ∧ (s.commitEvent g).engs = s.engs ∧ (s.commitEvent g).clus = s.clus ∧
  (s.commitEvent g).regions = s.regions ∧ (s.commitEvent g).kbank = s.kbank ∧ (s.commitEvent g).stream = s.stream ∧
  (s.commitEvent g).lanes = s.lanes ∧ (s.commitEvent g).chain = s.chain ∧ (s.commitEvent g).ptp = s.ptp ∧
  (s.commitEvent g).host = s.host ∧ (s.commitEvent g).nets = s.nets ∧ (s.commitEvent g).answered = s.answered ∧
  (s.commitEvent g).nw = s.nw ∧ (s.commitEvent g).mon = s.mon ∧ (s.commitEvent g).therm = s.therm ∧
  (s.commitEvent g).alm = s.alm ∧ (s.commitEvent g).mram = s.mram ∧ (s.commitEvent g).flash = s.flash ∧
  (s.commitEvent g).sec = s.sec ∧ (s.commitEvent g).res = s.res ∧ (s.commitEvent g).boot = s.boot ∧
  (s.commitEvent g).freeCtr = s.freeCtr ∧ (s.commitEvent g).out = s.out :=
  ⟨rfl, rfl, rfl, rfl, rfl, rfl, rfl, rfl, rfl, rfl, rfl, rfl, rfl, rfl, rfl, rfl, rfl, rfl, rfl, rfl, rfl, rfl, rfl, rfl, rfl, rfl, rfl, rfl, rfl, rfl, rfl, rfl, rfl, rfl, rfl, rfl, rfl, rfl, rfl, rfl, rfl, rfl, rfl, rfl, rfl, rfl, rfl, rfl, rfl, rfl, rfl, rfl, rfl, rfl, rfl, rfl⟩

@[simp] theorem send_keeps (s : Dev) (o : Out) :
  (s.send o).regs = s.regs ∧ (s.send o).now = s.now ∧ (s.send o).running = s.running ∧ (s.send o).pages = s.pages ∧
  (s.send o).reqs = s.reqs ∧ (s.send o).commitNo = s.commitNo ∧ (s.send o).tasks = s.tasks ∧
  (s.send o).taskQueue = s.taskQueue ∧ (s.send o).taskRun = s.taskRun ∧ (s.send o).taskLast = s.taskLast ∧
  (s.send o).reports = s.reports ∧ (s.send o).escalated = s.escalated ∧ (s.send o).firstAt = s.firstAt ∧
  (s.send o).staging = s.staging ∧ (s.send o).lostSince = s.lostSince ∧ (s.send o).vectors = s.vectors ∧
  (s.send o).int0 = s.int0 ∧ (s.send o).int1 = s.int1 ∧ (s.send o).chans = s.chans ∧ (s.send o).bays = s.bays ∧
  (s.send o).convs = s.convs ∧ (s.send o).slices = s.slices ∧ (s.send o).time = s.time ∧ (s.send o).ports = s.ports ∧
  (s.send o).rz = s.rz ∧ (s.send o).emit = s.emit ∧ (s.send o).ledger = s.ledger ∧ (s.send o).scan = s.scan ∧
  (s.send o).column = s.column ∧ (s.send o).frames = s.frames ∧ (s.send o).hists = s.hists ∧ (s.send o).nextHist = s.nextHist ∧
  (s.send o).ambs = s.ambs ∧ (s.send o).nextAmb = s.nextAmb ∧ (s.send o).pools = s.pools ∧ (s.send o).engs = s.engs ∧
  (s.send o).clus = s.clus ∧ (s.send o).regions = s.regions ∧ (s.send o).kbank = s.kbank ∧ (s.send o).stream = s.stream ∧
  (s.send o).lanes = s.lanes ∧ (s.send o).chain = s.chain ∧ (s.send o).ptp = s.ptp ∧ (s.send o).host = s.host ∧
  (s.send o).nets = s.nets ∧ (s.send o).answered = s.answered ∧ (s.send o).nw = s.nw ∧ (s.send o).mon = s.mon ∧
  (s.send o).therm = s.therm ∧ (s.send o).alm = s.alm ∧ (s.send o).mram = s.mram ∧ (s.send o).flash = s.flash ∧
  (s.send o).sec = s.sec ∧ (s.send o).res = s.res ∧ (s.send o).boot = s.boot ∧ (s.send o).freeCtr = s.freeCtr :=
  ⟨rfl, rfl, rfl, rfl, rfl, rfl, rfl, rfl, rfl, rfl, rfl, rfl, rfl, rfl, rfl, rfl, rfl, rfl, rfl, rfl, rfl, rfl, rfl, rfl, rfl, rfl, rfl, rfl, rfl, rfl, rfl, rfl, rfl, rfl, rfl, rfl, rfl, rfl, rfl, rfl, rfl, rfl, rfl, rfl, rfl, rfl, rfl, rfl, rfl, rfl, rfl, rfl, rfl, rfl, rfl, rfl⟩

@[simp] theorem setPx_keeps (s : Dev) (g : Page) (x : PageX) :
  (s.setPx g x).regs = s.regs ∧ (s.setPx g x).now = s.now ∧ (s.setPx g x).running = s.running ∧ (s.setPx g x).reqs = s.reqs ∧
  (s.setPx g x).commitNo = s.commitNo ∧ (s.setPx g x).tasks = s.tasks ∧ (s.setPx g x).taskQueue = s.taskQueue ∧
  (s.setPx g x).taskRun = s.taskRun ∧ (s.setPx g x).taskLast = s.taskLast ∧ (s.setPx g x).reports = s.reports ∧
  (s.setPx g x).escalated = s.escalated ∧ (s.setPx g x).firstAt = s.firstAt ∧ (s.setPx g x).staging = s.staging ∧
  (s.setPx g x).lostSince = s.lostSince ∧ (s.setPx g x).vectors = s.vectors ∧ (s.setPx g x).int0 = s.int0 ∧
  (s.setPx g x).int1 = s.int1 ∧ (s.setPx g x).chans = s.chans ∧ (s.setPx g x).bays = s.bays ∧ (s.setPx g x).convs = s.convs ∧
  (s.setPx g x).slices = s.slices ∧ (s.setPx g x).time = s.time ∧ (s.setPx g x).ports = s.ports ∧ (s.setPx g x).rz = s.rz ∧
  (s.setPx g x).emit = s.emit ∧ (s.setPx g x).ledger = s.ledger ∧ (s.setPx g x).scan = s.scan ∧
  (s.setPx g x).column = s.column ∧ (s.setPx g x).frames = s.frames ∧ (s.setPx g x).hists = s.hists ∧
  (s.setPx g x).nextHist = s.nextHist ∧ (s.setPx g x).ambs = s.ambs ∧ (s.setPx g x).nextAmb = s.nextAmb ∧
  (s.setPx g x).pools = s.pools ∧ (s.setPx g x).engs = s.engs ∧ (s.setPx g x).clus = s.clus ∧
  (s.setPx g x).regions = s.regions ∧ (s.setPx g x).kbank = s.kbank ∧ (s.setPx g x).stream = s.stream ∧
  (s.setPx g x).lanes = s.lanes ∧ (s.setPx g x).chain = s.chain ∧ (s.setPx g x).ptp = s.ptp ∧ (s.setPx g x).host = s.host ∧
  (s.setPx g x).nets = s.nets ∧ (s.setPx g x).answered = s.answered ∧ (s.setPx g x).nw = s.nw ∧ (s.setPx g x).mon = s.mon ∧
  (s.setPx g x).therm = s.therm ∧ (s.setPx g x).alm = s.alm ∧ (s.setPx g x).mram = s.mram ∧ (s.setPx g x).flash = s.flash ∧
  (s.setPx g x).sec = s.sec ∧ (s.setPx g x).res = s.res ∧ (s.setPx g x).boot = s.boot ∧ (s.setPx g x).freeCtr = s.freeCtr ∧
  (s.setPx g x).out = s.out :=
  ⟨rfl, rfl, rfl, rfl, rfl, rfl, rfl, rfl, rfl, rfl, rfl, rfl, rfl, rfl, rfl, rfl, rfl, rfl, rfl, rfl, rfl, rfl, rfl, rfl, rfl, rfl, rfl, rfl, rfl, rfl, rfl, rfl, rfl, rfl, rfl, rfl, rfl, rfl, rfl, rfl, rfl, rfl, rfl, rfl, rfl, rfl, rfl, rfl, rfl, rfl, rfl, rfl, rfl, rfl, rfl, rfl⟩

@[simp] theorem setReq_keeps (s : Dev) (q : Requester) (x : ReqX) :
  (s.setReq q x).regs = s.regs ∧ (s.setReq q x).now = s.now ∧ (s.setReq q x).running = s.running ∧
  (s.setReq q x).pages = s.pages ∧ (s.setReq q x).commitNo = s.commitNo ∧ (s.setReq q x).tasks = s.tasks ∧
  (s.setReq q x).taskQueue = s.taskQueue ∧ (s.setReq q x).taskRun = s.taskRun ∧ (s.setReq q x).taskLast = s.taskLast ∧
  (s.setReq q x).reports = s.reports ∧ (s.setReq q x).escalated = s.escalated ∧ (s.setReq q x).firstAt = s.firstAt ∧
  (s.setReq q x).staging = s.staging ∧ (s.setReq q x).lostSince = s.lostSince ∧ (s.setReq q x).vectors = s.vectors ∧
  (s.setReq q x).int0 = s.int0 ∧ (s.setReq q x).int1 = s.int1 ∧ (s.setReq q x).chans = s.chans ∧ (s.setReq q x).bays = s.bays ∧
  (s.setReq q x).convs = s.convs ∧ (s.setReq q x).slices = s.slices ∧ (s.setReq q x).time = s.time ∧
  (s.setReq q x).ports = s.ports ∧ (s.setReq q x).rz = s.rz ∧ (s.setReq q x).emit = s.emit ∧ (s.setReq q x).ledger = s.ledger ∧
  (s.setReq q x).scan = s.scan ∧ (s.setReq q x).column = s.column ∧ (s.setReq q x).frames = s.frames ∧
  (s.setReq q x).hists = s.hists ∧ (s.setReq q x).nextHist = s.nextHist ∧ (s.setReq q x).ambs = s.ambs ∧
  (s.setReq q x).nextAmb = s.nextAmb ∧ (s.setReq q x).pools = s.pools ∧ (s.setReq q x).engs = s.engs ∧
  (s.setReq q x).clus = s.clus ∧ (s.setReq q x).regions = s.regions ∧ (s.setReq q x).kbank = s.kbank ∧
  (s.setReq q x).stream = s.stream ∧ (s.setReq q x).lanes = s.lanes ∧ (s.setReq q x).chain = s.chain ∧
  (s.setReq q x).ptp = s.ptp ∧ (s.setReq q x).host = s.host ∧ (s.setReq q x).nets = s.nets ∧
  (s.setReq q x).answered = s.answered ∧ (s.setReq q x).nw = s.nw ∧ (s.setReq q x).mon = s.mon ∧
  (s.setReq q x).therm = s.therm ∧ (s.setReq q x).alm = s.alm ∧ (s.setReq q x).mram = s.mram ∧ (s.setReq q x).flash = s.flash ∧
  (s.setReq q x).sec = s.sec ∧ (s.setReq q x).res = s.res ∧ (s.setReq q x).boot = s.boot ∧ (s.setReq q x).freeCtr = s.freeCtr ∧
  (s.setReq q x).out = s.out :=
  ⟨rfl, rfl, rfl, rfl, rfl, rfl, rfl, rfl, rfl, rfl, rfl, rfl, rfl, rfl, rfl, rfl, rfl, rfl, rfl, rfl, rfl, rfl, rfl, rfl, rfl, rfl, rfl, rfl, rfl, rfl, rfl, rfl, rfl, rfl, rfl, rfl, rfl, rfl, rfl, rfl, rfl, rfl, rfl, rfl, rfl, rfl, rfl, rfl, rfl, rfl, rfl, rfl, rfl, rfl, rfl, rfl⟩

@[simp] theorem setTask_keeps (s : Dev) (i : Nat) (x : TaskX) :
  (s.setTask i x).regs = s.regs ∧ (s.setTask i x).now = s.now ∧ (s.setTask i x).running = s.running ∧
  (s.setTask i x).pages = s.pages ∧ (s.setTask i x).reqs = s.reqs ∧ (s.setTask i x).commitNo = s.commitNo ∧
  (s.setTask i x).taskQueue = s.taskQueue ∧ (s.setTask i x).taskRun = s.taskRun ∧ (s.setTask i x).taskLast = s.taskLast ∧
  (s.setTask i x).reports = s.reports ∧ (s.setTask i x).escalated = s.escalated ∧ (s.setTask i x).firstAt = s.firstAt ∧
  (s.setTask i x).staging = s.staging ∧ (s.setTask i x).lostSince = s.lostSince ∧ (s.setTask i x).vectors = s.vectors ∧
  (s.setTask i x).int0 = s.int0 ∧ (s.setTask i x).int1 = s.int1 ∧ (s.setTask i x).chans = s.chans ∧
  (s.setTask i x).bays = s.bays ∧ (s.setTask i x).convs = s.convs ∧ (s.setTask i x).slices = s.slices ∧
  (s.setTask i x).time = s.time ∧ (s.setTask i x).ports = s.ports ∧ (s.setTask i x).rz = s.rz ∧ (s.setTask i x).emit = s.emit ∧
  (s.setTask i x).ledger = s.ledger ∧ (s.setTask i x).scan = s.scan ∧ (s.setTask i x).column = s.column ∧
  (s.setTask i x).frames = s.frames ∧ (s.setTask i x).hists = s.hists ∧ (s.setTask i x).nextHist = s.nextHist ∧
  (s.setTask i x).ambs = s.ambs ∧ (s.setTask i x).nextAmb = s.nextAmb ∧ (s.setTask i x).pools = s.pools ∧
  (s.setTask i x).engs = s.engs ∧ (s.setTask i x).clus = s.clus ∧ (s.setTask i x).regions = s.regions ∧
  (s.setTask i x).kbank = s.kbank ∧ (s.setTask i x).stream = s.stream ∧ (s.setTask i x).lanes = s.lanes ∧
  (s.setTask i x).chain = s.chain ∧ (s.setTask i x).ptp = s.ptp ∧ (s.setTask i x).host = s.host ∧
  (s.setTask i x).nets = s.nets ∧ (s.setTask i x).answered = s.answered ∧ (s.setTask i x).nw = s.nw ∧
  (s.setTask i x).mon = s.mon ∧ (s.setTask i x).therm = s.therm ∧ (s.setTask i x).alm = s.alm ∧ (s.setTask i x).mram = s.mram ∧
  (s.setTask i x).flash = s.flash ∧ (s.setTask i x).sec = s.sec ∧ (s.setTask i x).res = s.res ∧ (s.setTask i x).boot = s.boot ∧
  (s.setTask i x).freeCtr = s.freeCtr ∧ (s.setTask i x).out = s.out :=
  ⟨rfl, rfl, rfl, rfl, rfl, rfl, rfl, rfl, rfl, rfl, rfl, rfl, rfl, rfl, rfl, rfl, rfl, rfl, rfl, rfl, rfl, rfl, rfl, rfl, rfl, rfl, rfl, rfl, rfl, rfl, rfl, rfl, rfl, rfl, rfl, rfl, rfl, rfl, rfl, rfl, rfl, rfl, rfl, rfl, rfl, rfl, rfl, rfl, rfl, rfl, rfl, rfl, rfl, rfl, rfl, rfl⟩

@[simp] theorem setChan_keeps (s : Dev) (b c : Nat) (x : ChanX) :
  (s.setChan b c x).regs = s.regs ∧ (s.setChan b c x).now = s.now ∧ (s.setChan b c x).running = s.running ∧
  (s.setChan b c x).pages = s.pages ∧ (s.setChan b c x).reqs = s.reqs ∧ (s.setChan b c x).commitNo = s.commitNo ∧
  (s.setChan b c x).tasks = s.tasks ∧ (s.setChan b c x).taskQueue = s.taskQueue ∧ (s.setChan b c x).taskRun = s.taskRun ∧
  (s.setChan b c x).taskLast = s.taskLast ∧ (s.setChan b c x).reports = s.reports ∧ (s.setChan b c x).escalated = s.escalated ∧
  (s.setChan b c x).firstAt = s.firstAt ∧ (s.setChan b c x).staging = s.staging ∧ (s.setChan b c x).lostSince = s.lostSince ∧
  (s.setChan b c x).vectors = s.vectors ∧ (s.setChan b c x).int0 = s.int0 ∧ (s.setChan b c x).int1 = s.int1 ∧
  (s.setChan b c x).bays = s.bays ∧ (s.setChan b c x).convs = s.convs ∧ (s.setChan b c x).slices = s.slices ∧
  (s.setChan b c x).time = s.time ∧ (s.setChan b c x).ports = s.ports ∧ (s.setChan b c x).rz = s.rz ∧
  (s.setChan b c x).emit = s.emit ∧ (s.setChan b c x).ledger = s.ledger ∧ (s.setChan b c x).scan = s.scan ∧
  (s.setChan b c x).column = s.column ∧ (s.setChan b c x).frames = s.frames ∧ (s.setChan b c x).hists = s.hists ∧
  (s.setChan b c x).nextHist = s.nextHist ∧ (s.setChan b c x).ambs = s.ambs ∧ (s.setChan b c x).nextAmb = s.nextAmb ∧
  (s.setChan b c x).pools = s.pools ∧ (s.setChan b c x).engs = s.engs ∧ (s.setChan b c x).clus = s.clus ∧
  (s.setChan b c x).regions = s.regions ∧ (s.setChan b c x).kbank = s.kbank ∧ (s.setChan b c x).stream = s.stream ∧
  (s.setChan b c x).lanes = s.lanes ∧ (s.setChan b c x).chain = s.chain ∧ (s.setChan b c x).ptp = s.ptp ∧
  (s.setChan b c x).host = s.host ∧ (s.setChan b c x).nets = s.nets ∧ (s.setChan b c x).answered = s.answered ∧
  (s.setChan b c x).nw = s.nw ∧ (s.setChan b c x).mon = s.mon ∧ (s.setChan b c x).therm = s.therm ∧
  (s.setChan b c x).alm = s.alm ∧ (s.setChan b c x).mram = s.mram ∧ (s.setChan b c x).flash = s.flash ∧
  (s.setChan b c x).sec = s.sec ∧ (s.setChan b c x).res = s.res ∧ (s.setChan b c x).boot = s.boot ∧
  (s.setChan b c x).freeCtr = s.freeCtr ∧ (s.setChan b c x).out = s.out :=
  ⟨rfl, rfl, rfl, rfl, rfl, rfl, rfl, rfl, rfl, rfl, rfl, rfl, rfl, rfl, rfl, rfl, rfl, rfl, rfl, rfl, rfl, rfl, rfl, rfl, rfl, rfl, rfl, rfl, rfl, rfl, rfl, rfl, rfl, rfl, rfl, rfl, rfl, rfl, rfl, rfl, rfl, rfl, rfl, rfl, rfl, rfl, rfl, rfl, rfl, rfl, rfl, rfl, rfl, rfl, rfl, rfl⟩

@[simp] theorem setBay_keeps (s : Dev) (b : Nat) (x : BayX) :
  (s.setBay b x).regs = s.regs ∧ (s.setBay b x).now = s.now ∧ (s.setBay b x).running = s.running ∧
  (s.setBay b x).pages = s.pages ∧ (s.setBay b x).reqs = s.reqs ∧ (s.setBay b x).commitNo = s.commitNo ∧
  (s.setBay b x).tasks = s.tasks ∧ (s.setBay b x).taskQueue = s.taskQueue ∧ (s.setBay b x).taskRun = s.taskRun ∧
  (s.setBay b x).taskLast = s.taskLast ∧ (s.setBay b x).reports = s.reports ∧ (s.setBay b x).escalated = s.escalated ∧
  (s.setBay b x).firstAt = s.firstAt ∧ (s.setBay b x).staging = s.staging ∧ (s.setBay b x).lostSince = s.lostSince ∧
  (s.setBay b x).vectors = s.vectors ∧ (s.setBay b x).int0 = s.int0 ∧ (s.setBay b x).int1 = s.int1 ∧
  (s.setBay b x).chans = s.chans ∧ (s.setBay b x).convs = s.convs ∧ (s.setBay b x).slices = s.slices ∧
  (s.setBay b x).time = s.time ∧ (s.setBay b x).ports = s.ports ∧ (s.setBay b x).rz = s.rz ∧ (s.setBay b x).emit = s.emit ∧
  (s.setBay b x).ledger = s.ledger ∧ (s.setBay b x).scan = s.scan ∧ (s.setBay b x).column = s.column ∧
  (s.setBay b x).frames = s.frames ∧ (s.setBay b x).hists = s.hists ∧ (s.setBay b x).nextHist = s.nextHist ∧
  (s.setBay b x).ambs = s.ambs ∧ (s.setBay b x).nextAmb = s.nextAmb ∧ (s.setBay b x).pools = s.pools ∧
  (s.setBay b x).engs = s.engs ∧ (s.setBay b x).clus = s.clus ∧ (s.setBay b x).regions = s.regions ∧
  (s.setBay b x).kbank = s.kbank ∧ (s.setBay b x).stream = s.stream ∧ (s.setBay b x).lanes = s.lanes ∧
  (s.setBay b x).chain = s.chain ∧ (s.setBay b x).ptp = s.ptp ∧ (s.setBay b x).host = s.host ∧ (s.setBay b x).nets = s.nets ∧
  (s.setBay b x).answered = s.answered ∧ (s.setBay b x).nw = s.nw ∧ (s.setBay b x).mon = s.mon ∧
  (s.setBay b x).therm = s.therm ∧ (s.setBay b x).alm = s.alm ∧ (s.setBay b x).mram = s.mram ∧ (s.setBay b x).flash = s.flash ∧
  (s.setBay b x).sec = s.sec ∧ (s.setBay b x).res = s.res ∧ (s.setBay b x).boot = s.boot ∧ (s.setBay b x).freeCtr = s.freeCtr ∧
  (s.setBay b x).out = s.out :=
  ⟨rfl, rfl, rfl, rfl, rfl, rfl, rfl, rfl, rfl, rfl, rfl, rfl, rfl, rfl, rfl, rfl, rfl, rfl, rfl, rfl, rfl, rfl, rfl, rfl, rfl, rfl, rfl, rfl, rfl, rfl, rfl, rfl, rfl, rfl, rfl, rfl, rfl, rfl, rfl, rfl, rfl, rfl, rfl, rfl, rfl, rfl, rfl, rfl, rfl, rfl, rfl, rfl, rfl, rfl, rfl, rfl⟩

@[simp] theorem setConv_keeps (s : Dev) (b i : Nat) (x : ConvX) :
  (s.setConv b i x).regs = s.regs ∧ (s.setConv b i x).now = s.now ∧ (s.setConv b i x).running = s.running ∧
  (s.setConv b i x).pages = s.pages ∧ (s.setConv b i x).reqs = s.reqs ∧ (s.setConv b i x).commitNo = s.commitNo ∧
  (s.setConv b i x).tasks = s.tasks ∧ (s.setConv b i x).taskQueue = s.taskQueue ∧ (s.setConv b i x).taskRun = s.taskRun ∧
  (s.setConv b i x).taskLast = s.taskLast ∧ (s.setConv b i x).reports = s.reports ∧ (s.setConv b i x).escalated = s.escalated ∧
  (s.setConv b i x).firstAt = s.firstAt ∧ (s.setConv b i x).staging = s.staging ∧ (s.setConv b i x).lostSince = s.lostSince ∧
  (s.setConv b i x).vectors = s.vectors ∧ (s.setConv b i x).int0 = s.int0 ∧ (s.setConv b i x).int1 = s.int1 ∧
  (s.setConv b i x).chans = s.chans ∧ (s.setConv b i x).bays = s.bays ∧ (s.setConv b i x).slices = s.slices ∧
  (s.setConv b i x).time = s.time ∧ (s.setConv b i x).ports = s.ports ∧ (s.setConv b i x).rz = s.rz ∧
  (s.setConv b i x).emit = s.emit ∧ (s.setConv b i x).ledger = s.ledger ∧ (s.setConv b i x).scan = s.scan ∧
  (s.setConv b i x).column = s.column ∧ (s.setConv b i x).frames = s.frames ∧ (s.setConv b i x).hists = s.hists ∧
  (s.setConv b i x).nextHist = s.nextHist ∧ (s.setConv b i x).ambs = s.ambs ∧ (s.setConv b i x).nextAmb = s.nextAmb ∧
  (s.setConv b i x).pools = s.pools ∧ (s.setConv b i x).engs = s.engs ∧ (s.setConv b i x).clus = s.clus ∧
  (s.setConv b i x).regions = s.regions ∧ (s.setConv b i x).kbank = s.kbank ∧ (s.setConv b i x).stream = s.stream ∧
  (s.setConv b i x).lanes = s.lanes ∧ (s.setConv b i x).chain = s.chain ∧ (s.setConv b i x).ptp = s.ptp ∧
  (s.setConv b i x).host = s.host ∧ (s.setConv b i x).nets = s.nets ∧ (s.setConv b i x).answered = s.answered ∧
  (s.setConv b i x).nw = s.nw ∧ (s.setConv b i x).mon = s.mon ∧ (s.setConv b i x).therm = s.therm ∧
  (s.setConv b i x).alm = s.alm ∧ (s.setConv b i x).mram = s.mram ∧ (s.setConv b i x).flash = s.flash ∧
  (s.setConv b i x).sec = s.sec ∧ (s.setConv b i x).res = s.res ∧ (s.setConv b i x).boot = s.boot ∧
  (s.setConv b i x).freeCtr = s.freeCtr ∧ (s.setConv b i x).out = s.out :=
  ⟨rfl, rfl, rfl, rfl, rfl, rfl, rfl, rfl, rfl, rfl, rfl, rfl, rfl, rfl, rfl, rfl, rfl, rfl, rfl, rfl, rfl, rfl, rfl, rfl, rfl, rfl, rfl, rfl, rfl, rfl, rfl, rfl, rfl, rfl, rfl, rfl, rfl, rfl, rfl, rfl, rfl, rfl, rfl, rfl, rfl, rfl, rfl, rfl, rfl, rfl, rfl, rfl, rfl, rfl, rfl, rfl⟩

@[simp] theorem setSlice_keeps (s : Dev) (b i : Nat) (x : SliceX) :
  (s.setSlice b i x).regs = s.regs ∧ (s.setSlice b i x).now = s.now ∧ (s.setSlice b i x).running = s.running ∧
  (s.setSlice b i x).pages = s.pages ∧ (s.setSlice b i x).reqs = s.reqs ∧ (s.setSlice b i x).commitNo = s.commitNo ∧
  (s.setSlice b i x).tasks = s.tasks ∧ (s.setSlice b i x).taskQueue = s.taskQueue ∧ (s.setSlice b i x).taskRun = s.taskRun ∧
  (s.setSlice b i x).taskLast = s.taskLast ∧ (s.setSlice b i x).reports = s.reports ∧
  (s.setSlice b i x).escalated = s.escalated ∧ (s.setSlice b i x).firstAt = s.firstAt ∧
  (s.setSlice b i x).staging = s.staging ∧ (s.setSlice b i x).lostSince = s.lostSince ∧
  (s.setSlice b i x).vectors = s.vectors ∧ (s.setSlice b i x).int0 = s.int0 ∧ (s.setSlice b i x).int1 = s.int1 ∧
  (s.setSlice b i x).chans = s.chans ∧ (s.setSlice b i x).bays = s.bays ∧ (s.setSlice b i x).convs = s.convs ∧
  (s.setSlice b i x).time = s.time ∧ (s.setSlice b i x).ports = s.ports ∧ (s.setSlice b i x).rz = s.rz ∧
  (s.setSlice b i x).emit = s.emit ∧ (s.setSlice b i x).ledger = s.ledger ∧ (s.setSlice b i x).scan = s.scan ∧
  (s.setSlice b i x).column = s.column ∧ (s.setSlice b i x).frames = s.frames ∧ (s.setSlice b i x).hists = s.hists ∧
  (s.setSlice b i x).nextHist = s.nextHist ∧ (s.setSlice b i x).ambs = s.ambs ∧ (s.setSlice b i x).nextAmb = s.nextAmb ∧
  (s.setSlice b i x).pools = s.pools ∧ (s.setSlice b i x).engs = s.engs ∧ (s.setSlice b i x).clus = s.clus ∧
  (s.setSlice b i x).regions = s.regions ∧ (s.setSlice b i x).kbank = s.kbank ∧ (s.setSlice b i x).stream = s.stream ∧
  (s.setSlice b i x).lanes = s.lanes ∧ (s.setSlice b i x).chain = s.chain ∧ (s.setSlice b i x).ptp = s.ptp ∧
  (s.setSlice b i x).host = s.host ∧ (s.setSlice b i x).nets = s.nets ∧ (s.setSlice b i x).answered = s.answered ∧
  (s.setSlice b i x).nw = s.nw ∧ (s.setSlice b i x).mon = s.mon ∧ (s.setSlice b i x).therm = s.therm ∧
  (s.setSlice b i x).alm = s.alm ∧ (s.setSlice b i x).mram = s.mram ∧ (s.setSlice b i x).flash = s.flash ∧
  (s.setSlice b i x).sec = s.sec ∧ (s.setSlice b i x).res = s.res ∧ (s.setSlice b i x).boot = s.boot ∧
  (s.setSlice b i x).freeCtr = s.freeCtr ∧ (s.setSlice b i x).out = s.out :=
  ⟨rfl, rfl, rfl, rfl, rfl, rfl, rfl, rfl, rfl, rfl, rfl, rfl, rfl, rfl, rfl, rfl, rfl, rfl, rfl, rfl, rfl, rfl, rfl, rfl, rfl, rfl, rfl, rfl, rfl, rfl, rfl, rfl, rfl, rfl, rfl, rfl, rfl, rfl, rfl, rfl, rfl, rfl, rfl, rfl, rfl, rfl, rfl, rfl, rfl, rfl, rfl, rfl, rfl, rfl, rfl, rfl⟩

@[simp] theorem setRz_keeps (s : Dev) (p : Nat) (x : RzX) :
  (s.setRz p x).regs = s.regs ∧ (s.setRz p x).now = s.now ∧ (s.setRz p x).running = s.running ∧ (s.setRz p x).pages = s.pages ∧
  (s.setRz p x).reqs = s.reqs ∧ (s.setRz p x).commitNo = s.commitNo ∧ (s.setRz p x).tasks = s.tasks ∧
  (s.setRz p x).taskQueue = s.taskQueue ∧ (s.setRz p x).taskRun = s.taskRun ∧ (s.setRz p x).taskLast = s.taskLast ∧
  (s.setRz p x).reports = s.reports ∧ (s.setRz p x).escalated = s.escalated ∧ (s.setRz p x).firstAt = s.firstAt ∧
  (s.setRz p x).staging = s.staging ∧ (s.setRz p x).lostSince = s.lostSince ∧ (s.setRz p x).vectors = s.vectors ∧
  (s.setRz p x).int0 = s.int0 ∧ (s.setRz p x).int1 = s.int1 ∧ (s.setRz p x).chans = s.chans ∧ (s.setRz p x).bays = s.bays ∧
  (s.setRz p x).convs = s.convs ∧ (s.setRz p x).slices = s.slices ∧ (s.setRz p x).time = s.time ∧
  (s.setRz p x).ports = s.ports ∧ (s.setRz p x).emit = s.emit ∧ (s.setRz p x).ledger = s.ledger ∧ (s.setRz p x).scan = s.scan ∧
  (s.setRz p x).column = s.column ∧ (s.setRz p x).frames = s.frames ∧ (s.setRz p x).hists = s.hists ∧
  (s.setRz p x).nextHist = s.nextHist ∧ (s.setRz p x).ambs = s.ambs ∧ (s.setRz p x).nextAmb = s.nextAmb ∧
  (s.setRz p x).pools = s.pools ∧ (s.setRz p x).engs = s.engs ∧ (s.setRz p x).clus = s.clus ∧
  (s.setRz p x).regions = s.regions ∧ (s.setRz p x).kbank = s.kbank ∧ (s.setRz p x).stream = s.stream ∧
  (s.setRz p x).lanes = s.lanes ∧ (s.setRz p x).chain = s.chain ∧ (s.setRz p x).ptp = s.ptp ∧ (s.setRz p x).host = s.host ∧
  (s.setRz p x).nets = s.nets ∧ (s.setRz p x).answered = s.answered ∧ (s.setRz p x).nw = s.nw ∧ (s.setRz p x).mon = s.mon ∧
  (s.setRz p x).therm = s.therm ∧ (s.setRz p x).alm = s.alm ∧ (s.setRz p x).mram = s.mram ∧ (s.setRz p x).flash = s.flash ∧
  (s.setRz p x).sec = s.sec ∧ (s.setRz p x).res = s.res ∧ (s.setRz p x).boot = s.boot ∧ (s.setRz p x).freeCtr = s.freeCtr ∧
  (s.setRz p x).out = s.out :=
  ⟨rfl, rfl, rfl, rfl, rfl, rfl, rfl, rfl, rfl, rfl, rfl, rfl, rfl, rfl, rfl, rfl, rfl, rfl, rfl, rfl, rfl, rfl, rfl, rfl, rfl, rfl, rfl, rfl, rfl, rfl, rfl, rfl, rfl, rfl, rfl, rfl, rfl, rfl, rfl, rfl, rfl, rfl, rfl, rfl, rfl, rfl, rfl, rfl, rfl, rfl, rfl, rfl, rfl, rfl, rfl, rfl⟩

@[simp] theorem setPort_keeps (s : Dev) (p : Nat) (x : PortX) :
  (s.setPort p x).regs = s.regs ∧ (s.setPort p x).now = s.now ∧ (s.setPort p x).running = s.running ∧
  (s.setPort p x).pages = s.pages ∧ (s.setPort p x).reqs = s.reqs ∧ (s.setPort p x).commitNo = s.commitNo ∧
  (s.setPort p x).tasks = s.tasks ∧ (s.setPort p x).taskQueue = s.taskQueue ∧ (s.setPort p x).taskRun = s.taskRun ∧
  (s.setPort p x).taskLast = s.taskLast ∧ (s.setPort p x).reports = s.reports ∧ (s.setPort p x).escalated = s.escalated ∧
  (s.setPort p x).firstAt = s.firstAt ∧ (s.setPort p x).staging = s.staging ∧ (s.setPort p x).lostSince = s.lostSince ∧
  (s.setPort p x).vectors = s.vectors ∧ (s.setPort p x).int0 = s.int0 ∧ (s.setPort p x).int1 = s.int1 ∧
  (s.setPort p x).chans = s.chans ∧ (s.setPort p x).bays = s.bays ∧ (s.setPort p x).convs = s.convs ∧
  (s.setPort p x).slices = s.slices ∧ (s.setPort p x).time = s.time ∧ (s.setPort p x).rz = s.rz ∧
  (s.setPort p x).emit = s.emit ∧ (s.setPort p x).ledger = s.ledger ∧ (s.setPort p x).scan = s.scan ∧
  (s.setPort p x).column = s.column ∧ (s.setPort p x).frames = s.frames ∧ (s.setPort p x).hists = s.hists ∧
  (s.setPort p x).nextHist = s.nextHist ∧ (s.setPort p x).ambs = s.ambs ∧ (s.setPort p x).nextAmb = s.nextAmb ∧
  (s.setPort p x).pools = s.pools ∧ (s.setPort p x).engs = s.engs ∧ (s.setPort p x).clus = s.clus ∧
  (s.setPort p x).regions = s.regions ∧ (s.setPort p x).kbank = s.kbank ∧ (s.setPort p x).stream = s.stream ∧
  (s.setPort p x).lanes = s.lanes ∧ (s.setPort p x).chain = s.chain ∧ (s.setPort p x).ptp = s.ptp ∧
  (s.setPort p x).host = s.host ∧ (s.setPort p x).nets = s.nets ∧ (s.setPort p x).answered = s.answered ∧
  (s.setPort p x).nw = s.nw ∧ (s.setPort p x).mon = s.mon ∧ (s.setPort p x).therm = s.therm ∧ (s.setPort p x).alm = s.alm ∧
  (s.setPort p x).mram = s.mram ∧ (s.setPort p x).flash = s.flash ∧ (s.setPort p x).sec = s.sec ∧ (s.setPort p x).res = s.res ∧
  (s.setPort p x).boot = s.boot ∧ (s.setPort p x).freeCtr = s.freeCtr ∧ (s.setPort p x).out = s.out :=
  ⟨rfl, rfl, rfl, rfl, rfl, rfl, rfl, rfl, rfl, rfl, rfl, rfl, rfl, rfl, rfl, rfl, rfl, rfl, rfl, rfl, rfl, rfl, rfl, rfl, rfl, rfl, rfl, rfl, rfl, rfl, rfl, rfl, rfl, rfl, rfl, rfl, rfl, rfl, rfl, rfl, rfl, rfl, rfl, rfl, rfl, rfl, rfl, rfl, rfl, rfl, rfl, rfl, rfl, rfl, rfl, rfl⟩

@[simp] theorem setWire_keeps (s : Dev) (w : Nat) (x : StarX) :
  (s.setWire w x).regs = s.regs ∧ (s.setWire w x).now = s.now ∧ (s.setWire w x).running = s.running ∧
  (s.setWire w x).pages = s.pages ∧ (s.setWire w x).reqs = s.reqs ∧ (s.setWire w x).commitNo = s.commitNo ∧
  (s.setWire w x).tasks = s.tasks ∧ (s.setWire w x).taskQueue = s.taskQueue ∧ (s.setWire w x).taskRun = s.taskRun ∧
  (s.setWire w x).taskLast = s.taskLast ∧ (s.setWire w x).reports = s.reports ∧ (s.setWire w x).escalated = s.escalated ∧
  (s.setWire w x).firstAt = s.firstAt ∧ (s.setWire w x).staging = s.staging ∧ (s.setWire w x).lostSince = s.lostSince ∧
  (s.setWire w x).vectors = s.vectors ∧ (s.setWire w x).int0 = s.int0 ∧ (s.setWire w x).int1 = s.int1 ∧
  (s.setWire w x).chans = s.chans ∧ (s.setWire w x).bays = s.bays ∧ (s.setWire w x).convs = s.convs ∧
  (s.setWire w x).slices = s.slices ∧ (s.setWire w x).time = s.time ∧ (s.setWire w x).ports = s.ports ∧
  (s.setWire w x).rz = s.rz ∧ (s.setWire w x).ledger = s.ledger ∧ (s.setWire w x).scan = s.scan ∧
  (s.setWire w x).column = s.column ∧ (s.setWire w x).frames = s.frames ∧ (s.setWire w x).hists = s.hists ∧
  (s.setWire w x).nextHist = s.nextHist ∧ (s.setWire w x).ambs = s.ambs ∧ (s.setWire w x).nextAmb = s.nextAmb ∧
  (s.setWire w x).pools = s.pools ∧ (s.setWire w x).engs = s.engs ∧ (s.setWire w x).clus = s.clus ∧
  (s.setWire w x).regions = s.regions ∧ (s.setWire w x).kbank = s.kbank ∧ (s.setWire w x).stream = s.stream ∧
  (s.setWire w x).lanes = s.lanes ∧ (s.setWire w x).chain = s.chain ∧ (s.setWire w x).ptp = s.ptp ∧
  (s.setWire w x).host = s.host ∧ (s.setWire w x).nets = s.nets ∧ (s.setWire w x).answered = s.answered ∧
  (s.setWire w x).nw = s.nw ∧ (s.setWire w x).mon = s.mon ∧ (s.setWire w x).therm = s.therm ∧ (s.setWire w x).alm = s.alm ∧
  (s.setWire w x).mram = s.mram ∧ (s.setWire w x).flash = s.flash ∧ (s.setWire w x).sec = s.sec ∧ (s.setWire w x).res = s.res ∧
  (s.setWire w x).boot = s.boot ∧ (s.setWire w x).freeCtr = s.freeCtr ∧ (s.setWire w x).out = s.out :=
  ⟨rfl, rfl, rfl, rfl, rfl, rfl, rfl, rfl, rfl, rfl, rfl, rfl, rfl, rfl, rfl, rfl, rfl, rfl, rfl, rfl, rfl, rfl, rfl, rfl, rfl, rfl, rfl, rfl, rfl, rfl, rfl, rfl, rfl, rfl, rfl, rfl, rfl, rfl, rfl, rfl, rfl, rfl, rfl, rfl, rfl, rfl, rfl, rfl, rfl, rfl, rfl, rfl, rfl, rfl, rfl, rfl⟩

@[simp] theorem setLink_keeps (s : Dev) (p : Nat) (x : LinkX) :
  (s.setLink p x).regs = s.regs ∧ (s.setLink p x).now = s.now ∧ (s.setLink p x).running = s.running ∧
  (s.setLink p x).pages = s.pages ∧ (s.setLink p x).reqs = s.reqs ∧ (s.setLink p x).commitNo = s.commitNo ∧
  (s.setLink p x).tasks = s.tasks ∧ (s.setLink p x).taskQueue = s.taskQueue ∧ (s.setLink p x).taskRun = s.taskRun ∧
  (s.setLink p x).taskLast = s.taskLast ∧ (s.setLink p x).reports = s.reports ∧ (s.setLink p x).escalated = s.escalated ∧
  (s.setLink p x).firstAt = s.firstAt ∧ (s.setLink p x).staging = s.staging ∧ (s.setLink p x).lostSince = s.lostSince ∧
  (s.setLink p x).vectors = s.vectors ∧ (s.setLink p x).int0 = s.int0 ∧ (s.setLink p x).int1 = s.int1 ∧
  (s.setLink p x).chans = s.chans ∧ (s.setLink p x).bays = s.bays ∧ (s.setLink p x).convs = s.convs ∧
  (s.setLink p x).slices = s.slices ∧ (s.setLink p x).time = s.time ∧ (s.setLink p x).ports = s.ports ∧
  (s.setLink p x).rz = s.rz ∧ (s.setLink p x).emit = s.emit ∧ (s.setLink p x).ledger = s.ledger ∧
  (s.setLink p x).scan = s.scan ∧ (s.setLink p x).column = s.column ∧ (s.setLink p x).frames = s.frames ∧
  (s.setLink p x).hists = s.hists ∧ (s.setLink p x).nextHist = s.nextHist ∧ (s.setLink p x).ambs = s.ambs ∧
  (s.setLink p x).nextAmb = s.nextAmb ∧ (s.setLink p x).pools = s.pools ∧ (s.setLink p x).engs = s.engs ∧
  (s.setLink p x).clus = s.clus ∧ (s.setLink p x).regions = s.regions ∧ (s.setLink p x).kbank = s.kbank ∧
  (s.setLink p x).stream = s.stream ∧ (s.setLink p x).lanes = s.lanes ∧ (s.setLink p x).ptp = s.ptp ∧
  (s.setLink p x).host = s.host ∧ (s.setLink p x).nets = s.nets ∧ (s.setLink p x).answered = s.answered ∧
  (s.setLink p x).nw = s.nw ∧ (s.setLink p x).mon = s.mon ∧ (s.setLink p x).therm = s.therm ∧ (s.setLink p x).alm = s.alm ∧
  (s.setLink p x).mram = s.mram ∧ (s.setLink p x).flash = s.flash ∧ (s.setLink p x).sec = s.sec ∧ (s.setLink p x).res = s.res ∧
  (s.setLink p x).boot = s.boot ∧ (s.setLink p x).freeCtr = s.freeCtr ∧ (s.setLink p x).out = s.out :=
  ⟨rfl, rfl, rfl, rfl, rfl, rfl, rfl, rfl, rfl, rfl, rfl, rfl, rfl, rfl, rfl, rfl, rfl, rfl, rfl, rfl, rfl, rfl, rfl, rfl, rfl, rfl, rfl, rfl, rfl, rfl, rfl, rfl, rfl, rfl, rfl, rfl, rfl, rfl, rfl, rfl, rfl, rfl, rfl, rfl, rfl, rfl, rfl, rfl, rfl, rfl, rfl, rfl, rfl, rfl, rfl, rfl⟩

@[simp] theorem setLaneX_keeps (s : Dev) (n : Nat) (x : LaneX) :
  (s.setLaneX n x).regs = s.regs ∧ (s.setLaneX n x).now = s.now ∧ (s.setLaneX n x).running = s.running ∧
  (s.setLaneX n x).pages = s.pages ∧ (s.setLaneX n x).reqs = s.reqs ∧ (s.setLaneX n x).commitNo = s.commitNo ∧
  (s.setLaneX n x).tasks = s.tasks ∧ (s.setLaneX n x).taskQueue = s.taskQueue ∧ (s.setLaneX n x).taskRun = s.taskRun ∧
  (s.setLaneX n x).taskLast = s.taskLast ∧ (s.setLaneX n x).reports = s.reports ∧ (s.setLaneX n x).escalated = s.escalated ∧
  (s.setLaneX n x).firstAt = s.firstAt ∧ (s.setLaneX n x).staging = s.staging ∧ (s.setLaneX n x).lostSince = s.lostSince ∧
  (s.setLaneX n x).vectors = s.vectors ∧ (s.setLaneX n x).int0 = s.int0 ∧ (s.setLaneX n x).int1 = s.int1 ∧
  (s.setLaneX n x).chans = s.chans ∧ (s.setLaneX n x).bays = s.bays ∧ (s.setLaneX n x).convs = s.convs ∧
  (s.setLaneX n x).slices = s.slices ∧ (s.setLaneX n x).time = s.time ∧ (s.setLaneX n x).ports = s.ports ∧
  (s.setLaneX n x).rz = s.rz ∧ (s.setLaneX n x).emit = s.emit ∧ (s.setLaneX n x).ledger = s.ledger ∧
  (s.setLaneX n x).scan = s.scan ∧ (s.setLaneX n x).column = s.column ∧ (s.setLaneX n x).frames = s.frames ∧
  (s.setLaneX n x).hists = s.hists ∧ (s.setLaneX n x).nextHist = s.nextHist ∧ (s.setLaneX n x).ambs = s.ambs ∧
  (s.setLaneX n x).nextAmb = s.nextAmb ∧ (s.setLaneX n x).pools = s.pools ∧ (s.setLaneX n x).engs = s.engs ∧
  (s.setLaneX n x).clus = s.clus ∧ (s.setLaneX n x).regions = s.regions ∧ (s.setLaneX n x).kbank = s.kbank ∧
  (s.setLaneX n x).stream = s.stream ∧ (s.setLaneX n x).chain = s.chain ∧ (s.setLaneX n x).ptp = s.ptp ∧
  (s.setLaneX n x).host = s.host ∧ (s.setLaneX n x).nets = s.nets ∧ (s.setLaneX n x).answered = s.answered ∧
  (s.setLaneX n x).nw = s.nw ∧ (s.setLaneX n x).mon = s.mon ∧ (s.setLaneX n x).therm = s.therm ∧ (s.setLaneX n x).alm = s.alm ∧
  (s.setLaneX n x).mram = s.mram ∧ (s.setLaneX n x).flash = s.flash ∧ (s.setLaneX n x).sec = s.sec ∧
  (s.setLaneX n x).res = s.res ∧ (s.setLaneX n x).boot = s.boot ∧ (s.setLaneX n x).freeCtr = s.freeCtr ∧
  (s.setLaneX n x).out = s.out :=
  ⟨rfl, rfl, rfl, rfl, rfl, rfl, rfl, rfl, rfl, rfl, rfl, rfl, rfl, rfl, rfl, rfl, rfl, rfl, rfl, rfl, rfl, rfl, rfl, rfl, rfl, rfl, rfl, rfl, rfl, rfl, rfl, rfl, rfl, rfl, rfl, rfl, rfl, rfl, rfl, rfl, rfl, rfl, rfl, rfl, rfl, rfl, rfl, rfl, rfl, rfl, rfl, rfl, rfl, rfl, rfl, rfl⟩

@[simp] theorem setPool_keeps (s : Dev) (q : Nat) (x : PoolX) :
  (s.setPool q x).regs = s.regs ∧ (s.setPool q x).now = s.now ∧ (s.setPool q x).running = s.running ∧
  (s.setPool q x).pages = s.pages ∧ (s.setPool q x).reqs = s.reqs ∧ (s.setPool q x).commitNo = s.commitNo ∧
  (s.setPool q x).tasks = s.tasks ∧ (s.setPool q x).taskQueue = s.taskQueue ∧ (s.setPool q x).taskRun = s.taskRun ∧
  (s.setPool q x).taskLast = s.taskLast ∧ (s.setPool q x).reports = s.reports ∧ (s.setPool q x).escalated = s.escalated ∧
  (s.setPool q x).firstAt = s.firstAt ∧ (s.setPool q x).staging = s.staging ∧ (s.setPool q x).lostSince = s.lostSince ∧
  (s.setPool q x).vectors = s.vectors ∧ (s.setPool q x).int0 = s.int0 ∧ (s.setPool q x).int1 = s.int1 ∧
  (s.setPool q x).chans = s.chans ∧ (s.setPool q x).bays = s.bays ∧ (s.setPool q x).convs = s.convs ∧
  (s.setPool q x).slices = s.slices ∧ (s.setPool q x).time = s.time ∧ (s.setPool q x).ports = s.ports ∧
  (s.setPool q x).rz = s.rz ∧ (s.setPool q x).emit = s.emit ∧ (s.setPool q x).ledger = s.ledger ∧
  (s.setPool q x).scan = s.scan ∧ (s.setPool q x).column = s.column ∧ (s.setPool q x).frames = s.frames ∧
  (s.setPool q x).hists = s.hists ∧ (s.setPool q x).nextHist = s.nextHist ∧ (s.setPool q x).ambs = s.ambs ∧
  (s.setPool q x).nextAmb = s.nextAmb ∧ (s.setPool q x).engs = s.engs ∧ (s.setPool q x).clus = s.clus ∧
  (s.setPool q x).regions = s.regions ∧ (s.setPool q x).kbank = s.kbank ∧ (s.setPool q x).stream = s.stream ∧
  (s.setPool q x).lanes = s.lanes ∧ (s.setPool q x).chain = s.chain ∧ (s.setPool q x).ptp = s.ptp ∧
  (s.setPool q x).host = s.host ∧ (s.setPool q x).nets = s.nets ∧ (s.setPool q x).answered = s.answered ∧
  (s.setPool q x).nw = s.nw ∧ (s.setPool q x).mon = s.mon ∧ (s.setPool q x).therm = s.therm ∧ (s.setPool q x).alm = s.alm ∧
  (s.setPool q x).mram = s.mram ∧ (s.setPool q x).flash = s.flash ∧ (s.setPool q x).sec = s.sec ∧ (s.setPool q x).res = s.res ∧
  (s.setPool q x).boot = s.boot ∧ (s.setPool q x).freeCtr = s.freeCtr ∧ (s.setPool q x).out = s.out :=
  ⟨rfl, rfl, rfl, rfl, rfl, rfl, rfl, rfl, rfl, rfl, rfl, rfl, rfl, rfl, rfl, rfl, rfl, rfl, rfl, rfl, rfl, rfl, rfl, rfl, rfl, rfl, rfl, rfl, rfl, rfl, rfl, rfl, rfl, rfl, rfl, rfl, rfl, rfl, rfl, rfl, rfl, rfl, rfl, rfl, rfl, rfl, rfl, rfl, rfl, rfl, rfl, rfl, rfl, rfl, rfl, rfl⟩

@[simp] theorem setEng_keeps (s : Dev) (e : Nat) (x : EngX) :
  (s.setEng e x).regs = s.regs ∧ (s.setEng e x).now = s.now ∧ (s.setEng e x).running = s.running ∧
  (s.setEng e x).pages = s.pages ∧ (s.setEng e x).reqs = s.reqs ∧ (s.setEng e x).commitNo = s.commitNo ∧
  (s.setEng e x).tasks = s.tasks ∧ (s.setEng e x).taskQueue = s.taskQueue ∧ (s.setEng e x).taskRun = s.taskRun ∧
  (s.setEng e x).taskLast = s.taskLast ∧ (s.setEng e x).reports = s.reports ∧ (s.setEng e x).escalated = s.escalated ∧
  (s.setEng e x).firstAt = s.firstAt ∧ (s.setEng e x).staging = s.staging ∧ (s.setEng e x).lostSince = s.lostSince ∧
  (s.setEng e x).vectors = s.vectors ∧ (s.setEng e x).int0 = s.int0 ∧ (s.setEng e x).int1 = s.int1 ∧
  (s.setEng e x).chans = s.chans ∧ (s.setEng e x).bays = s.bays ∧ (s.setEng e x).convs = s.convs ∧
  (s.setEng e x).slices = s.slices ∧ (s.setEng e x).time = s.time ∧ (s.setEng e x).ports = s.ports ∧ (s.setEng e x).rz = s.rz ∧
  (s.setEng e x).emit = s.emit ∧ (s.setEng e x).ledger = s.ledger ∧ (s.setEng e x).scan = s.scan ∧
  (s.setEng e x).column = s.column ∧ (s.setEng e x).frames = s.frames ∧ (s.setEng e x).hists = s.hists ∧
  (s.setEng e x).nextHist = s.nextHist ∧ (s.setEng e x).ambs = s.ambs ∧ (s.setEng e x).nextAmb = s.nextAmb ∧
  (s.setEng e x).pools = s.pools ∧ (s.setEng e x).clus = s.clus ∧ (s.setEng e x).regions = s.regions ∧
  (s.setEng e x).kbank = s.kbank ∧ (s.setEng e x).stream = s.stream ∧ (s.setEng e x).lanes = s.lanes ∧
  (s.setEng e x).chain = s.chain ∧ (s.setEng e x).ptp = s.ptp ∧ (s.setEng e x).host = s.host ∧ (s.setEng e x).nets = s.nets ∧
  (s.setEng e x).answered = s.answered ∧ (s.setEng e x).nw = s.nw ∧ (s.setEng e x).mon = s.mon ∧
  (s.setEng e x).therm = s.therm ∧ (s.setEng e x).alm = s.alm ∧ (s.setEng e x).mram = s.mram ∧ (s.setEng e x).flash = s.flash ∧
  (s.setEng e x).sec = s.sec ∧ (s.setEng e x).res = s.res ∧ (s.setEng e x).boot = s.boot ∧ (s.setEng e x).freeCtr = s.freeCtr ∧
  (s.setEng e x).out = s.out :=
  ⟨rfl, rfl, rfl, rfl, rfl, rfl, rfl, rfl, rfl, rfl, rfl, rfl, rfl, rfl, rfl, rfl, rfl, rfl, rfl, rfl, rfl, rfl, rfl, rfl, rfl, rfl, rfl, rfl, rfl, rfl, rfl, rfl, rfl, rfl, rfl, rfl, rfl, rfl, rfl, rfl, rfl, rfl, rfl, rfl, rfl, rfl, rfl, rfl, rfl, rfl, rfl, rfl, rfl, rfl, rfl, rfl⟩

@[simp] theorem setClu_keeps (s : Dev) (k : Nat) (x : CluX) :
  (s.setClu k x).regs = s.regs ∧ (s.setClu k x).now = s.now ∧ (s.setClu k x).running = s.running ∧
  (s.setClu k x).pages = s.pages ∧ (s.setClu k x).reqs = s.reqs ∧ (s.setClu k x).commitNo = s.commitNo ∧
  (s.setClu k x).tasks = s.tasks ∧ (s.setClu k x).taskQueue = s.taskQueue ∧ (s.setClu k x).taskRun = s.taskRun ∧
  (s.setClu k x).taskLast = s.taskLast ∧ (s.setClu k x).reports = s.reports ∧ (s.setClu k x).escalated = s.escalated ∧
  (s.setClu k x).firstAt = s.firstAt ∧ (s.setClu k x).staging = s.staging ∧ (s.setClu k x).lostSince = s.lostSince ∧
  (s.setClu k x).vectors = s.vectors ∧ (s.setClu k x).int0 = s.int0 ∧ (s.setClu k x).int1 = s.int1 ∧
  (s.setClu k x).chans = s.chans ∧ (s.setClu k x).bays = s.bays ∧ (s.setClu k x).convs = s.convs ∧
  (s.setClu k x).slices = s.slices ∧ (s.setClu k x).time = s.time ∧ (s.setClu k x).ports = s.ports ∧ (s.setClu k x).rz = s.rz ∧
  (s.setClu k x).emit = s.emit ∧ (s.setClu k x).ledger = s.ledger ∧ (s.setClu k x).scan = s.scan ∧
  (s.setClu k x).column = s.column ∧ (s.setClu k x).frames = s.frames ∧ (s.setClu k x).hists = s.hists ∧
  (s.setClu k x).nextHist = s.nextHist ∧ (s.setClu k x).ambs = s.ambs ∧ (s.setClu k x).nextAmb = s.nextAmb ∧
  (s.setClu k x).pools = s.pools ∧ (s.setClu k x).engs = s.engs ∧ (s.setClu k x).regions = s.regions ∧
  (s.setClu k x).kbank = s.kbank ∧ (s.setClu k x).stream = s.stream ∧ (s.setClu k x).lanes = s.lanes ∧
  (s.setClu k x).chain = s.chain ∧ (s.setClu k x).ptp = s.ptp ∧ (s.setClu k x).host = s.host ∧ (s.setClu k x).nets = s.nets ∧
  (s.setClu k x).answered = s.answered ∧ (s.setClu k x).nw = s.nw ∧ (s.setClu k x).mon = s.mon ∧
  (s.setClu k x).therm = s.therm ∧ (s.setClu k x).alm = s.alm ∧ (s.setClu k x).mram = s.mram ∧ (s.setClu k x).flash = s.flash ∧
  (s.setClu k x).sec = s.sec ∧ (s.setClu k x).res = s.res ∧ (s.setClu k x).boot = s.boot ∧ (s.setClu k x).freeCtr = s.freeCtr ∧
  (s.setClu k x).out = s.out :=
  ⟨rfl, rfl, rfl, rfl, rfl, rfl, rfl, rfl, rfl, rfl, rfl, rfl, rfl, rfl, rfl, rfl, rfl, rfl, rfl, rfl, rfl, rfl, rfl, rfl, rfl, rfl, rfl, rfl, rfl, rfl, rfl, rfl, rfl, rfl, rfl, rfl, rfl, rfl, rfl, rfl, rfl, rfl, rfl, rfl, rfl, rfl, rfl, rfl, rfl, rfl, rfl, rfl, rfl, rfl, rfl, rfl⟩

@[simp] theorem setRegion_keeps (s : Dev) (q : Nat) (x : RegionX) :
  (s.setRegion q x).regs = s.regs ∧ (s.setRegion q x).now = s.now ∧ (s.setRegion q x).running = s.running ∧
  (s.setRegion q x).pages = s.pages ∧ (s.setRegion q x).reqs = s.reqs ∧ (s.setRegion q x).commitNo = s.commitNo ∧
  (s.setRegion q x).tasks = s.tasks ∧ (s.setRegion q x).taskQueue = s.taskQueue ∧ (s.setRegion q x).taskRun = s.taskRun ∧
  (s.setRegion q x).taskLast = s.taskLast ∧ (s.setRegion q x).reports = s.reports ∧ (s.setRegion q x).escalated = s.escalated ∧
  (s.setRegion q x).firstAt = s.firstAt ∧ (s.setRegion q x).staging = s.staging ∧ (s.setRegion q x).lostSince = s.lostSince ∧
  (s.setRegion q x).vectors = s.vectors ∧ (s.setRegion q x).int0 = s.int0 ∧ (s.setRegion q x).int1 = s.int1 ∧
  (s.setRegion q x).chans = s.chans ∧ (s.setRegion q x).bays = s.bays ∧ (s.setRegion q x).convs = s.convs ∧
  (s.setRegion q x).slices = s.slices ∧ (s.setRegion q x).time = s.time ∧ (s.setRegion q x).ports = s.ports ∧
  (s.setRegion q x).rz = s.rz ∧ (s.setRegion q x).emit = s.emit ∧ (s.setRegion q x).ledger = s.ledger ∧
  (s.setRegion q x).scan = s.scan ∧ (s.setRegion q x).column = s.column ∧ (s.setRegion q x).frames = s.frames ∧
  (s.setRegion q x).hists = s.hists ∧ (s.setRegion q x).nextHist = s.nextHist ∧ (s.setRegion q x).ambs = s.ambs ∧
  (s.setRegion q x).nextAmb = s.nextAmb ∧ (s.setRegion q x).pools = s.pools ∧ (s.setRegion q x).engs = s.engs ∧
  (s.setRegion q x).clus = s.clus ∧ (s.setRegion q x).kbank = s.kbank ∧ (s.setRegion q x).stream = s.stream ∧
  (s.setRegion q x).lanes = s.lanes ∧ (s.setRegion q x).chain = s.chain ∧ (s.setRegion q x).ptp = s.ptp ∧
  (s.setRegion q x).host = s.host ∧ (s.setRegion q x).nets = s.nets ∧ (s.setRegion q x).answered = s.answered ∧
  (s.setRegion q x).nw = s.nw ∧ (s.setRegion q x).mon = s.mon ∧ (s.setRegion q x).therm = s.therm ∧
  (s.setRegion q x).alm = s.alm ∧ (s.setRegion q x).mram = s.mram ∧ (s.setRegion q x).flash = s.flash ∧
  (s.setRegion q x).sec = s.sec ∧ (s.setRegion q x).res = s.res ∧ (s.setRegion q x).boot = s.boot ∧
  (s.setRegion q x).freeCtr = s.freeCtr ∧ (s.setRegion q x).out = s.out :=
  ⟨rfl, rfl, rfl, rfl, rfl, rfl, rfl, rfl, rfl, rfl, rfl, rfl, rfl, rfl, rfl, rfl, rfl, rfl, rfl, rfl, rfl, rfl, rfl, rfl, rfl, rfl, rfl, rfl, rfl, rfl, rfl, rfl, rfl, rfl, rfl, rfl, rfl, rfl, rfl, rfl, rfl, rfl, rfl, rfl, rfl, rfl, rfl, rfl, rfl, rfl, rfl, rfl, rfl, rfl, rfl, rfl⟩

@[simp] theorem setNet_keeps (s : Dev) (p : Nat) (x : NetX) :
  (s.setNet p x).regs = s.regs ∧ (s.setNet p x).now = s.now ∧ (s.setNet p x).running = s.running ∧
  (s.setNet p x).pages = s.pages ∧ (s.setNet p x).reqs = s.reqs ∧ (s.setNet p x).commitNo = s.commitNo ∧
  (s.setNet p x).tasks = s.tasks ∧ (s.setNet p x).taskQueue = s.taskQueue ∧ (s.setNet p x).taskRun = s.taskRun ∧
  (s.setNet p x).taskLast = s.taskLast ∧ (s.setNet p x).reports = s.reports ∧ (s.setNet p x).escalated = s.escalated ∧
  (s.setNet p x).firstAt = s.firstAt ∧ (s.setNet p x).staging = s.staging ∧ (s.setNet p x).lostSince = s.lostSince ∧
  (s.setNet p x).vectors = s.vectors ∧ (s.setNet p x).int0 = s.int0 ∧ (s.setNet p x).int1 = s.int1 ∧
  (s.setNet p x).chans = s.chans ∧ (s.setNet p x).bays = s.bays ∧ (s.setNet p x).convs = s.convs ∧
  (s.setNet p x).slices = s.slices ∧ (s.setNet p x).time = s.time ∧ (s.setNet p x).ports = s.ports ∧ (s.setNet p x).rz = s.rz ∧
  (s.setNet p x).emit = s.emit ∧ (s.setNet p x).ledger = s.ledger ∧ (s.setNet p x).scan = s.scan ∧
  (s.setNet p x).column = s.column ∧ (s.setNet p x).frames = s.frames ∧ (s.setNet p x).hists = s.hists ∧
  (s.setNet p x).nextHist = s.nextHist ∧ (s.setNet p x).ambs = s.ambs ∧ (s.setNet p x).nextAmb = s.nextAmb ∧
  (s.setNet p x).pools = s.pools ∧ (s.setNet p x).engs = s.engs ∧ (s.setNet p x).clus = s.clus ∧
  (s.setNet p x).regions = s.regions ∧ (s.setNet p x).kbank = s.kbank ∧ (s.setNet p x).stream = s.stream ∧
  (s.setNet p x).lanes = s.lanes ∧ (s.setNet p x).chain = s.chain ∧ (s.setNet p x).ptp = s.ptp ∧ (s.setNet p x).host = s.host ∧
  (s.setNet p x).answered = s.answered ∧ (s.setNet p x).nw = s.nw ∧ (s.setNet p x).mon = s.mon ∧
  (s.setNet p x).therm = s.therm ∧ (s.setNet p x).alm = s.alm ∧ (s.setNet p x).mram = s.mram ∧ (s.setNet p x).flash = s.flash ∧
  (s.setNet p x).sec = s.sec ∧ (s.setNet p x).res = s.res ∧ (s.setNet p x).boot = s.boot ∧ (s.setNet p x).freeCtr = s.freeCtr ∧
  (s.setNet p x).out = s.out :=
  ⟨rfl, rfl, rfl, rfl, rfl, rfl, rfl, rfl, rfl, rfl, rfl, rfl, rfl, rfl, rfl, rfl, rfl, rfl, rfl, rfl, rfl, rfl, rfl, rfl, rfl, rfl, rfl, rfl, rfl, rfl, rfl, rfl, rfl, rfl, rfl, rfl, rfl, rfl, rfl, rfl, rfl, rfl, rfl, rfl, rfl, rfl, rfl, rfl, rfl, rfl, rfl, rfl, rfl, rfl, rfl, rfl⟩

/-! ## Reading back what an update wrote -/

@[simp] theorem setPx_same (s : Dev) (g : Page) (x : PageX) : (s.setPx g x).px g = x := fget_fset_eq _ _ _ _
theorem setPx_other (s : Dev) (g : Page) (x : PageX) (g' : Page) (h : g'.num ≠ g.num) : (s.setPx g x).px g' = s.px g' :=
  fget_fset_ne _ _ _ h

@[simp] theorem setReq_same (s : Dev) (q : Requester) (x : ReqX) : (s.setReq q x).req q = x := fget_fset_eq _ _ _ _
theorem setReq_other (s : Dev) (q : Requester) (x : ReqX) (q' : Requester) (h : q'.code ≠ q.code) : (s.setReq q x).req q' = s.req q' :=
  fget_fset_ne _ _ _ h

@[simp] theorem setTask_same (s : Dev) (i : Nat) (x : TaskX) : (s.setTask i x).task i = x := fget_fset_eq _ _ _ _
theorem setTask_other (s : Dev) (i : Nat) (x : TaskX) (j : Nat) (h : j ≠ i) : (s.setTask i x).task j = s.task j :=
  fget_fset_ne _ _ _ h

@[simp] theorem setChan_same (s : Dev) (b c : Nat) (x : ChanX) : (s.setChan b c x).chan b c = x := fget_fset_eq _ _ _ _
theorem setChan_other (s : Dev) (b c : Nat) (x : ChanX) (b' c' : Nat) (h : 8 * b' + c' ≠ 8 * b + c) : (s.setChan b c x).chan b' c' = s.chan b' c' :=
  fget_fset_ne _ _ _ h

@[simp] theorem setBay_same (s : Dev) (b : Nat) (x : BayX) : (s.setBay b x).bay b = x := fget_fset_eq _ _ _ _
theorem setBay_other (s : Dev) (b : Nat) (x : BayX) (j : Nat) (h : j ≠ b) : (s.setBay b x).bay j = s.bay j :=
  fget_fset_ne _ _ _ h

@[simp] theorem setConv_same (s : Dev) (b i : Nat) (x : ConvX) : (s.setConv b i x).conv b i = x := fget_fset_eq _ _ _ _
theorem setConv_other (s : Dev) (b i : Nat) (x : ConvX) (b' i' : Nat) (h : 17 * b' + i' ≠ 17 * b + i) : (s.setConv b i x).conv b' i' = s.conv b' i' :=
  fget_fset_ne _ _ _ h

@[simp] theorem setSlice_same (s : Dev) (b i : Nat) (x : SliceX) : (s.setSlice b i x).slice b i = x := fget_fset_eq _ _ _ _
theorem setSlice_other (s : Dev) (b i : Nat) (x : SliceX) (b' i' : Nat) (h : 8 * b' + i' ≠ 8 * b + i) : (s.setSlice b i x).slice b' i' = s.slice b' i' :=
  fget_fset_ne _ _ _ h

@[simp] theorem setRz_same (s : Dev) (p : Nat) (x : RzX) : (s.setRz p x).rzOf p = x := fget_fset_eq _ _ _ _
theorem setRz_other (s : Dev) (p : Nat) (x : RzX) (j : Nat) (h : j ≠ p) : (s.setRz p x).rzOf j = s.rzOf j :=
  fget_fset_ne _ _ _ h

@[simp] theorem setPort_same (s : Dev) (p : Nat) (x : PortX) : (s.setPort p x).port p = x := fget_fset_eq _ _ _ _
theorem setPort_other (s : Dev) (p : Nat) (x : PortX) (j : Nat) (h : j ≠ p) : (s.setPort p x).port j = s.port j :=
  fget_fset_ne _ _ _ h

@[simp] theorem setWire_same (s : Dev) (w : Nat) (x : StarX) : (s.setWire w x).wire w = x := fget_fset_eq _ _ _ _
theorem setWire_other (s : Dev) (w : Nat) (x : StarX) (j : Nat) (h : j ≠ w) : (s.setWire w x).wire j = s.wire j :=
  fget_fset_ne _ _ _ h

@[simp] theorem setLink_same (s : Dev) (p : Nat) (x : LinkX) : (s.setLink p x).link p = x := fget_fset_eq _ _ _ _
theorem setLink_other (s : Dev) (p : Nat) (x : LinkX) (j : Nat) (h : j ≠ p) : (s.setLink p x).link j = s.link j :=
  fget_fset_ne _ _ _ h

@[simp] theorem setLaneX_same (s : Dev) (n : Nat) (x : LaneX) : (s.setLaneX n x).laneX n = x := fget_fset_eq _ _ _ _
theorem setLaneX_other (s : Dev) (n : Nat) (x : LaneX) (j : Nat) (h : j ≠ n) : (s.setLaneX n x).laneX j = s.laneX j :=
  fget_fset_ne _ _ _ h

@[simp] theorem setPool_same (s : Dev) (q : Nat) (x : PoolX) : (s.setPool q x).pool q = x := fget_fset_eq _ _ _ _
theorem setPool_other (s : Dev) (q : Nat) (x : PoolX) (j : Nat) (h : j ≠ q) : (s.setPool q x).pool j = s.pool j :=
  fget_fset_ne _ _ _ h

@[simp] theorem setEng_same (s : Dev) (e : Nat) (x : EngX) : (s.setEng e x).eng e = x := fget_fset_eq _ _ _ _
theorem setEng_other (s : Dev) (e : Nat) (x : EngX) (j : Nat) (h : j ≠ e) : (s.setEng e x).eng j = s.eng j :=
  fget_fset_ne _ _ _ h

@[simp] theorem setClu_same (s : Dev) (k : Nat) (x : CluX) : (s.setClu k x).clu k = x := fget_fset_eq _ _ _ _
theorem setClu_other (s : Dev) (k : Nat) (x : CluX) (j : Nat) (h : j ≠ k) : (s.setClu k x).clu j = s.clu j :=
  fget_fset_ne _ _ _ h

@[simp] theorem setRegion_same (s : Dev) (q : Nat) (x : RegionX) : (s.setRegion q x).region q = x := fget_fset_eq _ _ _ _
theorem setRegion_other (s : Dev) (q : Nat) (x : RegionX) (j : Nat) (h : j ≠ q) : (s.setRegion q x).region j = s.region j :=
  fget_fset_ne _ _ _ h

@[simp] theorem setNet_same (s : Dev) (p : Nat) (x : NetX) : (s.setNet p x).net p = x := fget_fset_eq _ _ _ _
theorem setNet_other (s : Dev) (p : Nat) (x : NetX) (j : Nat) (h : j ≠ p) : (s.setNet p x).net j = s.net j :=
  fget_fset_ne _ _ _ h

/-- Time moves forward or stands still, and nothing else changes (log 5). -/
theorem advanceTo_form (s : Dev) (t : Nat) : ∃ n, s.now ≤ n ∧ s.advanceTo t = { s with now := n } := by
  unfold Dev.advanceTo
  split
  · exact ⟨_, le_max_left _ _, rfl⟩
  · exact ⟨_, le_refl _, rfl⟩

/-- A free value is taken from the counter, and nothing else changes (log 2). -/
theorem free_form (s : Dev) : s.free = (Config.free s.freeCtr, { s with freeCtr := s.freeCtr + 1 }) := rfl

end Sys2Proof.Machine
end

