-- ==== Sys2Proof/Laws/Flags.lean ====
section
/-! SUPPORT. What the shared flag operations can do, each said once: recording and raising an error, an event, a refusal and
an Almanac record (R48 to R51, R78, R79, R577 to R579). -/
namespace Sys2Proof.Machine

/-- An event writes one bit of its page's IRQ_STATUS. -/
theorem event_rd_ne (s : Dev) (e : Event) {r : Reg} (h : r.key ≠ Reg.key ⟨e.pg, 0x20⟩) : (s.event e).rd r = s.rd r :=
  rd_sf_ne _ _ h

/-- An event of the page is set. -/
theorem event_on (s : Dev) (e : Event) (h : e.bit < 32) : (s.event e).on ⟨e.pg, 0x20, e.bit, 1⟩ = true := by
  have hk : (⟨e.pg, 0x20, e.bit, 1⟩ : Fld).ok := by
    show e.bit + 1 ≤ 32
    omega
  unfold Dev.event Dev.on
  rw [gf_sf_same _ _ _ hk]
  rfl

/-- Recording an error changes registers and the moment of capture alone. -/
theorem recordError_form (s : Dev) (g : Page) (n : Nat) (sev : Severity) (src : Nat) :
    ∃ m f, s.recordError g n sev src = { s with regs := m, firstAt := f } := by
  unfold Dev.recordError Dev.captureFirst
  dsimp only
  split <;> split <;> exact ⟨_, _, rfl⟩

/-- Of them the page's ERR_STATUS, ERR_COUNT and ERR_FIRST alone. -/
theorem recordError_rd_ne (s : Dev) (g : Page) (n : Nat) (sev : Severity) (src : Nat) {r : Reg}
    (h1 : r.key ≠ Reg.key ⟨g, 0x10⟩) (h2 : r.key ≠ (R.ERR_COUNT g).key) (h3 : r.key ≠ (R.ERR_FIRST g).key) :
    (s.recordError g n sev src).rd r = s.rd r := by
  have ha : ∀ (d : Dev) (v : Nat), (d.sf ⟨g, 0x10, n, 1⟩ v).rd r = d.rd r := fun d v => rd_sf_ne _ _ h1
  have hb : ∀ d : Dev, (d.incSat (F.ERR_COUNT_ALL g)).rd r = d.rd r := fun d => rd_sf_ne _ _ h2
  have hc : ∀ d : Dev, (d.incSat (F.ERR_COUNT_SEVERE g)).rd r = d.rd r := fun d => rd_sf_ne _ _ h2
  have hd : ∀ d : Dev, (d.captureFirst g n sev src).rd r = d.rd r := fun d => rd_wr_ne _ _ h3
  unfold Dev.recordError
  dsimp only
  split <;> split <;> simp only [hd, ha, hb, hc]

/-- Records put into the ring change the ring alone. -/
theorem foldl_toRing_form (l : List AlmRec) (s : Dev) :
    ∃ al, l.foldl (fun (s : Dev) r => s.toRing (.valid r) r.seq) s = { s with alm := al } := by
  induction l generalizing s with
  | nil => exact ⟨_, rfl⟩
  | cons r l ih =>
    obtain ⟨al, h⟩ := ih (s.toRing (.valid r) r.seq)
    exact ⟨al, h⟩

/-- A flush that moves on changes its registers, the buffer and the ring. -/
theorem flushN_form (s : Dev) (n : Nat) : ∃ m st al, s.flushN n = { s with regs := m, staging := st, alm := al } := by
  unfold Dev.flushN
  split
  · exact ⟨_, _, _, rfl⟩
  · obtain ⟨al, h⟩ := foldl_toRing_form (s.staging.take n) s
    dsimp only
    rw [h]
    exact ⟨_, _, _, rfl⟩

/-- A flush starts, ends at once, or does nothing. -/
theorem startFlush_form (s : Dev) : ∃ m a, s.startFlush = { s with regs := m, alm := a } := by
  unfold Dev.startFlush
  split
  · exact ⟨_, _, rfl⟩
  · split <;> exact ⟨_, _, rfl⟩

/-- A record enters the staging buffer. -/
theorem enter_form (s : Dev) (r : AlmRec) :
    ∃ m st al, s.enter r = { s with regs := m, staging := st, alm := al } := by
  unfold Dev.enter
  dsimp only
  split
  · obtain ⟨m, al, h⟩ := startFlush_form ((({ s with staging := s.staging ++ [{ r with seq := s.gf F.ALM_NEXT_SEQ_SEQ }] } : Dev).sf
      F.ALM_NEXT_SEQ_SEQ (s.gf F.ALM_NEXT_SEQ_SEQ + 1)).sf F.ALM_STATUS_STAGED
      (s.staging ++ [{ r with seq := s.gf F.ALM_NEXT_SEQ_SEQ }]).length)
    exact ⟨m, _, al, h⟩
  · exact ⟨_, _, _, rfl⟩

/-- A record is staged, or counted as lost. -/
theorem admitRec_form (s : Dev) (r : AlmRec) :
    ∃ m st l al, s.admitRec r = { s with regs := m, staging := st, lostSince := l, alm := al } := by
  have key : ∀ x : Dev, (∃ m st l al, x = { s with regs := m, staging := st, lostSince := l, alm := al }) →
      ∃ m st l al, (if x.almRoom r.sev then x.enter r else { x.inc F.ALM_LOST_COUNT with lostSince := x.lostSince + 1 })
        = { s with regs := m, staging := st, lostSince := l, alm := al } := by
    rintro x ⟨m, st, l, al, rfl⟩
    split
    · obtain ⟨m', st', al', h⟩ := enter_form { s with regs := m, staging := st, lostSince := l, alm := al } r
      exact ⟨m', st', l, al', h⟩
    · exact ⟨_, _, _, _, rfl⟩
  unfold Dev.admitRec
  obtain ⟨m0, st0, al0, h0⟩ := flushN_form s (min s.flushReady (s.staging.length - 1))
  have h0' : s.flushSync = { s with regs := m0, staging := st0, alm := al0 } := h0
  dsimp only
  rw [h0']
  split
  · refine key _ ?_
    split
    · obtain ⟨m, st, al, h⟩ := enter_form { s with regs := m0, staging := st0, alm := al0 }
        (Dev.newRec { s with regs := m0, staging := st0, alm := al0 } 0x0005 .degraded Page.alm.base s.lostSince 0 0)
      exact ⟨m, st, 0, _, by rw [Dev.stage, h]⟩
    · exact ⟨_, _, _, _, rfl⟩
  · exact ⟨_, _, _, _, rfl⟩

/-- A record is staged, kept by Nightwatch, counted as lost, or, in RECOVERY, not written. -/
theorem record_form (s : Dev) (code : Nat) (sev : Severity) (a b c d : Nat) :
    ∃ m st l al, s.record code sev a b c d = { s with regs := m, staging := st, lostSince := l, alm := al } := by
  unfold Dev.record
  dsimp only
  split
  · split <;> exact ⟨_, _, _, _, rfl⟩
  · split
    · exact ⟨_, _, _, _, rfl⟩
    · exact admitRec_form s _

/-- Raising an error changes registers, the reports on their way, what has been escalated, and the Almanac's buffer. -/
theorem raiseBit_form (s : Dev) (g : Page) (n : Nat) (sev : Severity) (src : Nat) :
    ∃ m f r e st l al, s.raiseBit g n sev src =
      { s with regs := m, firstAt := f, reports := r, escalated := e, staging := st, lostSince := l, alm := al } := by
  obtain ⟨m, f, hm⟩ := recordError_form s g n sev src
  have key : ∀ (x : Dev) (r : Report), (∃ m e, x = { s with regs := m, firstAt := f, escalated := e }) →
      ∃ m f r' e st l al, (match g.parent with
        | none => x.writeEscalated r
        | some _ => if x.escalates g n sev then { x with reports := x.reports ++ [r] } else x) =
        { s with regs := m, firstAt := f, reports := r', escalated := e, staging := st, lostSince := l, alm := al } := by
    rintro x r ⟨m, e, rfl⟩
    split
    · unfold Dev.writeEscalated
      split
      · obtain ⟨m', st, l, al, h⟩ := record_form { s with regs := m, firstAt := f, escalated := e } 0x0010 r.sev r.origin.base r.origin.base r.bit r.word
        exact ⟨m', f, _, e, st, l, al, h⟩
      · exact ⟨_, _, _, _, _, _, _, rfl⟩
    · split <;> exact ⟨_, _, _, _, _, _, _, rfl⟩
  unfold Dev.raiseBit
  dsimp only
  rw [hm]
  refine key _ _ ?_
  split <;> exact ⟨_, _, rfl⟩

/-- A refusal sets ERR_STATUS.ACCESS of the page and changes nothing but what an error changes (R48, R631). -/
theorem refuse_form (s : Dev) (g : Page) :
    ∃ m f r e st l al, s.refuse g = { s with regs := m, firstAt := f, reports := r, escalated := e, staging := st, lostSince := l, alm := al } :=
  raiseBit_form s g 30 .info 0

end Sys2Proof.Machine
end

