-- ==== Sys2Proof/Laws/Pages.lean ====
section
/-! SUPPORT. PAGE_CTRL: what a command that writes one of its fields comes to. -/
namespace Sys2Proof.Machine

theorem bit_of_bits {w : Word} {i : Nat} (h : bits w i 1 = 0) : bit w.toNat i = false := by rw [bit_toNat, h]; rfl

/-- The word of a PAGE_CTRL command that writes a field above QUIESCE or EN itself. -/
theorem ctrl_hi (x : Word) (lo v i : Nat) (hlo : lo < 32) (h : lo < i) (h2 : 2 ≤ i) :
    bit (setBits (x &&& BitVec.ofNat 32 3) lo 1 v).toNat i = false := by
  apply bit_of_bits
  rw [bits_setBits_above _ _ (by omega) (by omega), bits_and_off]
  rw [show (3:Nat) % 2^32 = 3 from rfl, Nat.div_eq_of_lt]
  · rfl
  · calc 3 < 2^2 := by norm_num
      _ ≤ 2^i := Nat.pow_le_pow_right (by norm_num) h2

theorem ctrl_lo (x : Word) (lo v i : Nat) (hlo : lo < 32) (h : i < lo) (h2 : 2 ≤ i) :
    bit (setBits (x &&& BitVec.ofNat 32 3) lo 1 v).toNat i = false := by
  apply bit_of_bits
  rw [bits_setBits_below _ _ (by omega) (by omega), bits_and_off]
  rw [show (3:Nat) % 2^32 = 3 from rfl, Nat.div_eq_of_lt]
  · rfl
  · calc 3 < 2^2 := by norm_num
      _ ≤ 2^i := Nat.pow_le_pow_right (by norm_num) h2

theorem ctrl_same (x : Word) (lo v : Nat) (hlo : lo < 32) :
    bit (setBits (x &&& BitVec.ofNat 32 3) lo 1 v).toNat lo = (v % 2 == 1) := by
  rw [bit_toNat, bits_setBits_same _ _ (by omega)]; rfl

theorem ctrl_keep (x : Word) (lo v i : Nat) (hlo : lo < 32) (h : i ≠ lo) (h2 : i < 2) :
    bit (setBits (x &&& BitVec.ofNat 32 3) lo 1 v).toNat i = (bits x i 1 == 1) := by
  rw [bit_toNat]
  have : bits (x &&& BitVec.ofNat 32 3) i 1 = bits x i 1 := by
    rw [bits_and_on]
    interval_cases i <;> rfl
  rcases Nat.lt_or_gt_of_ne h with h | h
  · rw [bits_setBits_below _ _ (by omega) (by omega), this]
  · rw [bits_setBits_above _ _ (by omega) (by omega), this]

/-- A PAGE_CTRL command that writes one field. -/
theorem putF_ctrl {s : Dev} {q : Requester} {g : Page} (lo v : Nat) (h : s.admits q g) (hg : g ≠ .nw) :
    s.putF q ⟨g, 0x0C, lo, 1⟩ v = s.pageCtrl g (setBits ((s.rd (R.PAGE_CTRL g)) &&& BitVec.ofNat 32 3) lo 1 v) := by
  unfold Dev.putF
  rw [regRead_header (show 0x0C < 0x40 by decide), regWrite_header _ h (show 0x0C < 0x40 by decide)]
  simp only [regRow_ctrl, Dev.headerWrite, if_neg hg]
  rfl

/-- PAGE_ENABLE and PAGE_DISABLE. -/
theorem putF_en {s : Dev} {q : Requester} {g : Page} (v : Nat) (h : s.admits q g) (hg : g ≠ .nw) :
    s.putF q (F.PAGE_CTRL_EN g) v = if v % 2 = 1 then s.enablePage g else s.disablePage g := by
  rw [putF_ctrl 0 v h hg]
  unfold Dev.pageCtrl
  simp only [ctrl_hi _ 0 v 8 (by decide) (by decide) (by decide), ctrl_hi _ 0 v 2 (by decide) (by decide) (by decide),
    ctrl_hi _ 0 v 3 (by decide) (by decide) (by decide), ctrl_same _ 0 v (by decide), ctrl_keep _ 0 v 1 (by decide) (by decide) (by decide),
    Bool.false_eq_true, if_false]
  have : (bits (s.rd (R.PAGE_CTRL g)) 1 1 == 1) = s.on (F.PAGE_CTRL_QUIESCE g) := rfl
  rw [this]
  have key : (if (v % 2 == 1) = s.on (F.PAGE_CTRL_EN g) then s else if (v % 2 == 1) = true then s.enablePage g else s.disablePage g)
      = if v % 2 = 1 then s.enablePage g else s.disablePage g := by
    by_cases hv : v % 2 = 1
    · cases he : s.on (F.PAGE_CTRL_EN g) <;> simp [hv, Dev.enablePage, he]
    · cases he : s.on (F.PAGE_CTRL_EN g) <;> simp [hv, Dev.disablePage, he]
  cases hq : s.on (F.PAGE_CTRL_QUIESCE g) <;> simpa [Dev.quiescePage, hq] using key

/-- A word that keeps EN and QUIESCE and resets nothing drains and resumes as its bits say. -/
theorem pageCtrl_keep {s : Dev} {g : Page} {w : Word} (h8 : bit w.toNat 8 = false) (hq : bit w.toNat 1 = s.on (F.PAGE_CTRL_QUIESCE g))
    (he : bit w.toNat 0 = s.on (F.PAGE_CTRL_EN g)) :
    s.pageCtrl g w = (let s := if bit w.toNat 2 then s.drainPage g else s
      if bit w.toNat 3 then s.resumePage g else s) := by
  unfold Dev.pageCtrl
  simp only [h8, hq, he, Bool.false_eq_true, if_false, beq_self_eq_true, if_true]
  cases hb : s.on (F.PAGE_CTRL_QUIESCE g) <;> simp [Dev.quiescePage, hb]

theorem keep_en {s : Dev} {g : Page} (lo v : Nat) (hlo : lo < 32) (h : 0 ≠ lo) :
    bit (setBits (s.rd (R.PAGE_CTRL g) &&& BitVec.ofNat 32 3) lo 1 v).toNat 0 = s.on (F.PAGE_CTRL_EN g) :=
  ctrl_keep _ lo v 0 hlo h (by decide)

theorem keep_quiesce {s : Dev} {g : Page} (lo v : Nat) (hlo : lo < 32) (h : 1 ≠ lo) :
    bit (setBits (s.rd (R.PAGE_CTRL g) &&& BitVec.ofNat 32 3) lo 1 v).toNat 1 = s.on (F.PAGE_CTRL_QUIESCE g) :=
  ctrl_keep _ lo v 1 hlo h (by decide)

/-- DRAIN_REQ. -/
theorem putF_drain {s : Dev} {q : Requester} {g : Page} (h : s.admits q g) (hg : g ≠ .nw) :
    s.putF q (F.PAGE_CTRL_DRAIN_REQ g) 1 = s.drainPage g := by
  rw [putF_ctrl 2 1 h hg, pageCtrl_keep (ctrl_hi _ 2 1 8 (by decide) (by decide) (by decide)) (keep_quiesce 2 1 (by decide) (by decide))
    (keep_en 2 1 (by decide) (by decide))]
  simp [ctrl_same _ 2 1 (by decide), ctrl_hi _ 2 1 3 (by decide) (by decide) (by decide)]

/-- PAGE_RESUME. -/
theorem putF_resume {s : Dev} {q : Requester} {g : Page} (h : s.admits q g) (hg : g ≠ .nw) :
    s.putF q (F.PAGE_CTRL_RESUME g) 1 = s.resumePage g := by
  rw [putF_ctrl 3 1 h hg, pageCtrl_keep (ctrl_hi _ 3 1 8 (by decide) (by decide) (by decide)) (keep_quiesce 3 1 (by decide) (by decide))
    (keep_en 3 1 (by decide) (by decide))]
  simp [ctrl_same _ 3 1 (by decide), ctrl_lo _ 3 1 2 (by decide) (by decide) (by decide)]

/-- PAGE_QUIESCE. -/
theorem putF_quiesce {s : Dev} {q : Requester} {g : Page} (h : s.admits q g) (hg : g ≠ .nw) :
    s.putF q (F.PAGE_CTRL_QUIESCE g) 1 = s.quiescePage g := by
  rw [putF_ctrl 1 1 h hg]
  unfold Dev.pageCtrl
  simp only [ctrl_hi _ 1 1 8 (by decide) (by decide) (by decide), ctrl_hi _ 1 1 2 (by decide) (by decide) (by decide),
    ctrl_hi _ 1 1 3 (by decide) (by decide) (by decide), ctrl_same _ 1 1 (by decide), keep_en 1 1 (by decide) (by decide),
    Bool.false_eq_true, if_false, beq_self_eq_true, if_true]

/-- PAGE_RESET with its KEY, of any page but NW (R58). -/
theorem regWrite_reset {s : Dev} {q : Requester} {g : Page} (key : BitVec 8) (en : Bool) (h : s.admits q g) (hg : g ≠ .nw) :
    s.cmdPageReset g q key en = s.resetCtrl g key.toNat en := by
  unfold Dev.cmdPageReset
  rw [regWrite_header _ h (show 0x0C < 0x40 by decide)]
  have hk : key.toNat < 256 := key.isLt
  have e : (BitVec.ofNat 32 (key.toNat * 2^24 + 0x100 + b2n en)).toNat = key.toNat * 2^24 + 0x100 + b2n en := by
    cases en <;> simp [b2n] <;> omega
  have h8 : bit (key.toNat * 2^24 + 0x100 + b2n en) 8 = true := by cases en <;> simp [bit, b2n] <;> omega
  have h0 : bit (key.toNat * 2^24 + 0x100 + b2n en) 0 = en := by cases en <;> simp [bit, b2n] <;> omega
  have hd : (key.toNat * 2^24 + 0x100 + b2n en) / 2^24 = key.toNat := by cases en <;> simp [b2n] <;> omega
  simp only [Dev.headerWrite, if_neg hg, Dev.pageCtrl, e, h8, h0, hd, if_true]

end Sys2Proof.Machine
end

