-- ==== Sys2Proof/Laws/Tasks.lean ====
section
/-! SUPPORT. The CTRL register of a task slot, and what GO leaves. -/
namespace Sys2Proof.Machine

theorem regRow_taskCtrl (i : Fin 16) : (regRow .task (0x110 + 0x20 * i.val)).any (fun r => !r.readOnly) = true := by revert i; decide

theorem shadowed_taskCtrl (i : Fin 16) : shadowedReg .task (0x110 + 0x20 * i.val) = false := by revert i; decide

theorem rwMask_taskCtrl (i : Fin 16) : rwMask .task (0x110 + 0x20 * i.val) = 0 := by revert i; decide

/-- A command that writes one bit of CTRL. -/
theorem putF_taskCtrl {s : Dev} {q : Requester} (i : Fin 16) (lo : Nat) (h : s.takes q .task) :
    s.putF q ⟨.task, 0x110 + 0x20 * i.val, lo, 1⟩ 1 = s.taskWrite q (0x110 + 0x20 * i.val) (setBits 0#32 lo 1 1) :=
  putF_wo (f := ⟨.task, 0x110 + 0x20 * i.val, lo, 1⟩) 1 h (by simp; omega) (regRow_taskCtrl i) (shadowed_taskCtrl i) rfl (rwMask_taskCtrl i)

theorem taskWrite_ctrl (s : Dev) (q : Requester) (i : Fin 16) (w : Word) :
    s.taskWrite q (0x110 + 0x20 * i.val) w =
      (let s := if bits w 0 1 = 1 then s.taskGo i.val q else s
       let s := if bits w 1 1 = 1 then s.taskCancelCore i.val else s
       if bits w 2 1 = 1 then s.taskReleaseCore i.val else s) := by
  unfold Dev.taskWrite
  rw [if_pos (by omega)]
  have : (0x110 + 0x20 * i.val - 0x100) / 0x20 = i.val := by omega
  simp only [this]

theorem putF_taskGo {s : Dev} {q : Requester} (i : Fin 16) (h : s.takes q .task) :
    s.putF q (F.TASK_CTRL_GO i.val) 1 = s.taskGo i.val q := by
  rw [putF_taskCtrl i 0 h, taskWrite_ctrl]; rfl

theorem putF_taskCancel {s : Dev} {q : Requester} (i : Fin 16) (h : s.takes q .task) :
    s.putF q (F.TASK_CTRL_CANCEL i.val) 1 = s.taskCancelCore i.val := by
  rw [putF_taskCtrl i 1 h, taskWrite_ctrl]; rfl

theorem putF_taskRelease {s : Dev} {q : Requester} (i : Fin 16) (h : s.takes q .task) :
    s.putF q (F.TASK_CTRL_RELEASE i.val) 1 = s.taskReleaseCore i.val := by
  rw [putF_taskCtrl i 2 h, taskWrite_ctrl]; rfl

end Sys2Proof.Machine
end

