-- ==== Sys2Proof/Laws/Wit.lean ====
section
/-! SUPPORT. A small block for the witnesses of the tests: the reset block with some fields set, in the RUNNING stage. -/
namespace Sys2Proof.Machine

/-- The reset block with fields set; STAGE RUNNING lets every requester through (R604). -/
def wit (l : List (Fld × Nat)) : Dev := l.foldl (fun (s : Dev) e => s.sf e.1 e.2) (Dev.reset.sf F.CHIP_BOOT_STATUS_STAGE 2)

/-- A block whose port 0 may fire in column 0 of frame 0: Nightwatch in PERMIT with the cells of port 0 open, the scanner RUNNING. -/
def witFire : Dev :=
  let d := wit [(F.EMIT_PORT_CFG_EN 0, 1), (F.EMIT_PORT_CURRENT_BASE_CODE 0, 100), (F.PAGE_STATE_POWER (.bay 0), 2),
    (F.NW_STATUS_STATE, 3), (F.SCAN_STATUS_STATE, 3), (F.EMIT_CTRL_PROOF_EN, 1), (F.SCAN_CTRL_FAST_EN, 1)]
  let d := d.wr R.EMIT_TEMP_SRC 0xFFFFFFFF#32
  { d with
    running := true, emit := { d.emit with schedEn := true }, bays := [(0, { tdcEn := true })],
    ledger := { open_ := (List.range 128).map (fun x => (x, true)) },
    column := some { frame := 0, col := 0, start := 0, dur := 1000, line := 0, reverse := false, fastPos := 0, slowPos := 0 } }

/-- A histogram of bay 0, channel 0, column 0 of frame 0, waiting for 2 chunks. -/
def witHist : HistX :=
  { bay := 0, ch := 0, frame := 0, col := 0, cls := 0, binW := 0, nbins := 128, gOpen := 0, gClose := 8000, depth := 0,
    fesEn := false, voteUnval := true, pset := 0, need := 2, reqAt := 0, refLast := 1000 }

/-- A frame that starts at 100 us, of 8 columns and 50 us. -/
def witFrame : FrameX := { num := 0, start := 100000, columns := 8, active := 50 }

/-- Column 0 of it. -/
def witCol : ColumnX := { frame := 0, col := 0, start := 110000, dur := 1000, line := 0, reverse := false, fastPos := 0, slowPos := 0 }

end Sys2Proof.Machine
end

