-- ==== Sys2Proof/Laws/All.lean ====
section
/-! SUPPORT. The lemmas over the model, in one import. -/
end

