-- ==== Sys2Proof/Tests/Slice0.lean ====
section
/-! SUPPORT. Small checks of the model's own, and for each statement with hypotheses states and operands that meet them. -/
namespace Sys2Proof.Tests
open Sys2Proof.Machine
set_option Elab.async false

/-! ## Well-formed commands: each check refuses an ill-formed one -/

theorem test_wf_page_number : Instr.wf (.pageEnable (.bay 48) .pcie) = false ∧ Instr.wf (.pageEnable (.bay 47) .pcie) = true := by decide
theorem test_wf_clu : Instr.wf (.wakeComplete (.clu 32)) = false ∧ Instr.wf (.wakeComplete (.clu 31)) = true := by decide
theorem test_wf_lane : Instr.wf (.errStatusClear (.lane 12) .pcie 1#32) = false := by decide
theorem test_wf_net_qtr_pool : Instr.wf (.pageReset (.net 2) .pcie 0xC3#8 true) = false ∧ Instr.wf (.pageQuiesce (.qtr 4) .pcie) = false
    ∧ Instr.wf (.shadowArm (.pool 4) .pcie 0#2) = false := by decide
theorem test_wf_found_fault : Instr.wf (.faultReport (some ⟨.bay 0, 30, 0⟩)) = false ∧ Instr.wf (.faultReport (some ⟨.bay 48, 0, 0⟩)) = false := by decide
theorem test_wf_protected_write : Instr.wf (.protectedWrite .pcie 0x61#12 0#32) = false := by decide
theorem test_wf_cal_run : Instr.wf (.calRunDone 0 0 (List.replicate 255 1)) = false := by decide +kernel
theorem test_wf_scrub : Instr.wf (.scrubPeriodEnd 0 (List.replicate 32 0)) = false := by decide
theorem test_wf_post_record : Instr.wf (.postRecord 0 0 [0#32, 0#32, 0#32]) = false := by decide
theorem test_wf_age : Instr.wf (.ageSample [1, 2, 3]) = false := by decide
theorem test_wf_ptp : Instr.wf (.ptpSync ⟨0, 0, [1, 2, 3]⟩) = false ∧ Instr.wf (.announce ⟨0, 0, []⟩) = false
    ∧ Instr.wf (.pdelayReq ⟨0, 0, [1]⟩) = false ∧ Instr.wf (.pdelayResp ⟨0, 0, [1, 2, 3, 4]⟩) = false := by decide
theorem test_wf_init : Instr.wf (.firmwareInitDone { fails := [176] }) = false := by decide

/-! ## The block's own small checks -/

/-- The table gives no row bits, so no word spells a command. -/
theorem test_no_word : decodeTableWord 32 0 = none ∧ decodeTableWord 0 5 = none := by decide

/-- R15, R616: the address map at its corners. -/
theorem test_address_map : decodeAddr 0 = some (.chip, 0) ∧ decodeAddr 0x1F0000 = none := by decide

/-- The CRC-32 of IEEE 802.3 of the nine digits 1 to 9 is 0xCBF43926 (its published check value). -/
theorem test_crc32 : crc32 [0x31, 0x32, 0x33, 0x34, 0x35, 0x36, 0x37, 0x38, 0x39] = 0xCBF43926 := by decide +kernel

/-- R103's worked example: an EDGE of channel 5 with a validating crossing, TOT 0x0680 and TIME 0x1003_E8F6. -/
theorem test_event_word : ({ type := .edge, ch := 5, val := true, tot := 0x0680, time := 0x1003E8F6 } : EvWord).word
    = 0x2A0006801003E8F6#64 := by decide +kernel

/-- R416: the descrambler takes back what the scrambler made once it has the same 58 bits behind it. -/
theorem test_scramble_descramble : (descramble 0x155#58 (scramble 0x155#58 0x0123456789ABCDEF#64).1).1 = 0x0123456789ABCDEF#64 := by
  decide +kernel

/-! ## Witnesses -/

/-! ### StepRunsFront -/

theorem wit_StepRunsFront : (({ State.reset with pending := [.coldReset, .ctrlLockstep] } : State).pending = .coldReset :: [.ctrlLockstep] ∧ State.reset.pending = []) := by
  decide +kernel

/-! ### RegisterFile -/

theorem wit_RegisterFile : (Page.present (.clu 31) ∧ Page.present (.bay 47) ∧ ((.clu 31, 4095) : Page × Nat) ≠ (.bay 47, 4095) ∧ fwf regDefault (wit []).regs = true)
    ∧ (inStore 0x400 = true ∧ inStore 0x70 = true ∧ inStore 0x40 = false ∧ inStore 0x100 = false)
    ∧ (F.PAGE_STATE_POWER (.bay 0) ≠ F.PAGE_STATE_RUN (.bay 0) ∧ (F.PAGE_STATE_POWER (.bay 0)).lo + (F.PAGE_STATE_POWER (.bay 0)).len ≤ 32 ∧ ((F.PAGE_STATE_RUN (.bay 0)).lo + (F.PAGE_STATE_RUN (.bay 0)).len ≤ (F.PAGE_STATE_POWER (.bay 0)).lo ∨ (F.PAGE_STATE_POWER (.bay 0)).lo + (F.PAGE_STATE_POWER (.bay 0)).len ≤ (F.PAGE_STATE_RUN (.bay 0)).lo)) := by
  refine ⟨?_, ?_, ?_⟩ <;> decide +kernel

/-! ### AddressMap -/

theorem wit_AddressMap : (Page.present .chip ∧ Page.present (.bay 47) ∧ decodeAddr ((Page.bay 47).base * 4096 + 4095) = some (.bay 47, 4095) ∧ decodeAddr 0 = some (.chip, 0)) := by
  decide +kernel

/-! ### NoPage -/

theorem wit_NoPage : ((wit []).debugLocked .pcie = false ∧ decodeAddr (0xFFFFFFFF#32).toNat = none ∧ (0x16041#32).toNat % 4 ≠ 0 ∧ decodeAddr (0x1F0000#32).toNat = none)
    ∧ (decodeAddr (0x16FFC#32).toNat = some (.res, 0xFFC) ∧ regRow .res 0xFFC = none ∧ (wit []).responds .pcie .res = true) := by
  refine ⟨?_, ?_⟩ <;> decide +kernel

/-! ### PagePower -/

def wPp : Dev := wit [(F.PAGE_CTRL_EN (.bay 0), 0), (F.PAGE_STATE_POWER (.bay 0), 0), (F.PAGE_STATE_POWER (.qtr 0), 2)]
def wPpD : Dev := wit [(F.PAGE_CTRL_EN (.bay 0), 0), (F.PAGE_STATE_POWER (.bay 0), 3), (F.PAGE_STATE_POWER (.qtr 0), 0)]
def wPpO : Dev := wit [(F.PAGE_CTRL_EN (.bay 0), 1), (F.PAGE_STATE_POWER (.bay 0), 2), (F.PAGE_CTRL_EN (.qtr 3), 1), (F.PAGE_STATE_POWER (.qtr 3), 2)]
theorem wit_PagePower1 : ((Page.bay 0).ok = true ∧ (domainOf (.bay 0)).isSome = true ∧ wPp.admits .pcie (.bay 0) ∧ wPp.on (F.PAGE_CTRL_EN (.bay 0)) = false ∧ wPp.power (.bay 0) = pOff ∧ qfOf (.bay 0) = some 0 ∧ wPp.isOn (.qtr 0) = true)
    ∧ (wPpD.admits .pcie (.bay 0) ∧ wPpD.on (F.PAGE_CTRL_EN (.bay 0)) = false ∧ wPpD.power (.bay 0) = pDraining)
    ∧ ((wPpD.sf (F.PAGE_STATE_POWER (.bay 0)) 0).power (.bay 0) = pOff ∧ (wPpD.sf (F.PAGE_STATE_POWER (.bay 0)) 0).isOn (.qtr 0) = false ∧ (wPpD.sf (F.PAGE_STATE_POWER (.bay 0)) 0).admits .net0 (.bay 0))
    ∧ ((Page.bay 0).switchable = true ∧ wPpO.admits .pcie (.bay 0) ∧ wPpO.on (F.PAGE_CTRL_EN (.bay 0)) = true ∧ wPpO.power (.bay 0) = pOn ∧ (Page.qtr 3).switchable = true ∧ wPpO.admits .pcie (.qtr 3) ∧ wPpO.on (F.PAGE_CTRL_EN (.qtr 3)) = true ∧ wPpO.power (.qtr 3) = pOn)
    ∧ (Page.nw.switchable = false ∧ (wit []).admits .pcie .nw ∧ (wit []).on (F.PAGE_CTRL_EN .nw) = true)
    ∧ ((wPpD.sf (F.PAGE_STATE_POWER (.bay 0)) 1).power (.bay 0) = pWaking ∧ (wPpD.px (.bay 0)).resetPend = none) := by
  refine ⟨?_, ?_, ?_, ?_, ?_, ?_⟩ <;> decide +kernel
theorem wit_PagePower2 : (((wPpD.sf (F.PAGE_STATE_POWER (.bay 0)) 1).wakeOn (.bay 0)).on (F.PAGE_CTRL_EN (.bay 0)) = false)
    ∧ ((((wPpD.sf (F.PAGE_STATE_POWER (.scan)) 1).sf (F.PAGE_CTRL_EN .scan) 1).wakeOn .scan).on (F.PAGE_CTRL_EN .scan) = true ∧ ((wPpD.sf (F.PAGE_STATE_POWER (.scan)) 1).sf (F.PAGE_CTRL_EN .scan) 1).power .scan = pWaking)
    ∧ ((wPpO.sf (F.PAGE_STATE_POWER (.bay 0)) 0).power (.bay 0) = pOff ∧ (wPpO.sf (F.PAGE_STATE_POWER (.bay 0)) 0).on (F.PAGE_CTRL_EN (.bay 0)) = true)
    ∧ ((((wPpO.sf (F.PAGE_STATE_POWER (.bay 0)) 3).setPx (.bay 0) { drainHold := true }).px (.bay 0)).drainHold = true ∧ (wPpO.sf (F.PAGE_STATE_POWER (.bay 0)) 3).run (.bay 0) ≠ rPaused)
    ∧ ((wPpD.px (.bay 0)).drainAt = none ∧ wPpD.power (.bay 0) = pDraining ∧ wPpD.drained (.bay 0) = true ∧ (wPpD.px (.bay 0)).drainHold = false) := by
  refine ⟨?_, ?_, ?_, ?_, ?_⟩ <;> decide +kernel

/-! ### PageRun -/

def wPrQ : Dev := wit [(F.PAGE_STATE_RUN (.bay 0), 1), (F.PAGE_STATE_POWER (.bay 0), 2)]
def wPrS : Dev := wit [(F.PAGE_STATE_RUN (.bay 0), 3), (F.PAGE_STATE_POWER (.bay 0), 2), (F.ERR_STATUS_CAUSE (.bay 0), 2^27 - 1)]
theorem wit_PageRun1 : ((wit []).admits .pcie (.bay 47) ∧ (Page.bay 47).quiesces = true ∧ (wit []).on (F.PAGE_CTRL_QUIESCE (.bay 47)) = false)
    ∧ ((wit []).admits .pcie .res ∧ Page.res.quiesces = false ∧ Page.res ≠ .nw ∧ (wit []).on (F.PAGE_CTRL_QUIESCE .res) = false)
    ∧ (wPrQ.admits .chain (.bay 0) ∧ (Page.bay 0).quiesces = true ∧ wPrQ.isOn (.bay 0) = true)
    ∧ ((wit [(F.PAGE_STATE_RUN (.bay 0), 2)]).run (.bay 0) = rHeld ∧ (wit [(F.PAGE_STATE_RUN (.bay 0), 3)]).run (.bay 0) = rPaused ∧ (wit [(F.PAGE_STATE_RUN (.bay 0), 3)]).severeErrors (.bay 0) = false ∧ (wit [(F.PAGE_STATE_RUN (.bay 0), 3)]).admits .net1 (.bay 0))
    ∧ (wPrS.run (.bay 0) = rPaused ∧ wPrS.severeErrors (.bay 0) = true ∧ wPrS.admits .pcie (.bay 0))
    ∧ ((wit []).admits .pcie .nw ∧ (0xC2#8 ≠ 0xC3#8)) := by
  refine ⟨?_, ?_, ?_, ?_, ?_, ?_⟩ <;> decide +kernel
theorem wit_PageRun2 : (wPrQ.run (.bay 0) = rQuiescing ∧ wPrQ.quietNow (.bay 0) = true) := by
  decide +kernel

/-! ### PageResetFields -/

theorem wit_PageResetFields : (keyPage (R.PAGE_CTRL (.bay 47)).key = some (.bay 47)) := by
  decide +kernel

/-! ### HeaderClears -/

theorem wit_HeaderClears : ((wit []).admits .chain (.lane 11) ∧ (wit []).admits .pcie .nw) := by
  decide +kernel

/-! ### ErrorRecorded -/

theorem wit_ErrorRecorded : (Page.present (.clu 31) ∧ Page.present .chip ∧ (wit []).on (F.ERR_FIRST_VALID .chip) = false ∧ (wit [(F.ERR_FIRST_VALID (.clu 31), 1)]).on (F.ERR_FIRST_VALID (.clu 31)) = true ∧ 2 ≤ Severity.dataLost.val ∧ ¬ 2 ≤ Severity.degraded.val) := by
  decide +kernel

/-! ### ShadowSets -/

def wSh : Dev := wit [(F.PAGE_STATE_POWER .emit, 2)]
def wShA : Dev := (wit [(F.SHADOW_CTRL_ARMED .cal, 1), (F.SHADOW_CTRL_OWNER .cal, 1)]).sf (F.SHADOW_CTRL_MODE .cal) 0
def wShP : Dev := (wit [(F.SHADOW_CTRL_PENDING .cal, 1)]).sf (F.SHADOW_CTRL_MODE .cal) 0
theorem wit_ShadowSets : (Page.shadowed .cal = true ∧ (wit []).admits .chain .cal ∧ (wit []).transferring = false ∧ Page.shadowed .emit = true ∧ wSh.admits .pcie .emit)
    ∧ ((0#2 ≠ 3#2) ∧ ((wit []).sf (F.SHADOW_CTRL_MODE .cal) 0).on (F.SHADOW_CTRL_PENDING .cal) = false ∧ ((wit []).sf (F.SHADOW_CTRL_MODE .cal) 0).on (F.SHADOW_CTRL_ARMED .cal) = false)
    ∧ (wShP.on (F.SHADOW_CTRL_PENDING .cal) = true ∧ wShA.on (F.SHADOW_CTRL_ARMED .cal) = true ∧ wShA.gf (F.SHADOW_CTRL_OWNER .cal) ≠ Requester.chain.code)
    ∧ (wShA.holdsSet .cal .pcie = true ∧ wShA.gf (F.SHADOW_CTRL_MODE .cal) ≠ 2 ∧ wShA.on (F.SHADOW_CTRL_PENDING .cal) = false)
    ∧ ((wShA.sf (F.SHADOW_CTRL_MODE .cal) 2).gf (F.SHADOW_CTRL_MODE .cal) = 2) := by
  refine ⟨?_, ?_, ?_, ?_, ?_⟩ <;> decide +kernel

/-! ### Fences -/

def wFe : Dev := { wit [] with reqs := [(4, { fences := [{ token := some 65535 }] })] }
def wFe8 : Dev := { wit [] with reqs := [(4, { fences := List.replicate 8 { token := some 65535 } })] }
theorem wit_Fences : ((wit []).takes .chain .res ∧ decodeAddr 0x16040 = some (.res, 0x40) ∧ (regRow .res 0x40).isSome = true)
    ∧ ((wit []).admits .pcie (.bay 47) ∧ (wit []).isOn (.bay 47) = false ∧ decodeAddr ((Page.bay 47).base * 4096 + 0x100) = some (.bay 47, 0x100) ∧ ((regRow (.bay 47) 0x100).map (fun r => decide (r.rw ≠ 0) && r.wo == 0)) = some true)
    ∧ ((wit []).takes .net0 .chip ∧ ((wit []).req .net0).fences.length < 8 ∧ wFe8.takes .chain .chip ∧ 8 ≤ (wFe8.req .chain).fences.length)
    ∧ ((wFe.req .chain).fences = [{ token := some 65535 }] ∧ wFe.armBlocked .chain = false) := by
  refine ⟨?_, ?_, ?_, ?_⟩ <;> decide +kernel

/-! ### DebugLocked -/

theorem wit_DebugLocked : (Dev.reset.gf F.SEC_STATUS_DEBUG_LEVEL = 0 ∧ (Instr.almFlush .debug).accessOf = some .debug) := by
  decide +kernel

/-! ### TaskSubmit -/

def wTk (k target a0 a1 a2 : Nat) : Dev :=
  { wit [(F.TASK_OP_CODE 15, k), (F.TASK_OP_TARGET 15, target), (F.TASK_ARG0_ARG 15, a0), (F.TASK_ARG1_ARG 15, a1), (F.TASK_ARG2_ARG 15, a2),
      (F.STREAM_STATUS_STATE, 1)] with sec := { bundleRollback := some 0, bundleLen := 64 } }
def wTkB : Dev := { (wTk 0x10 (Page.clu 31).base 0 0 0).sf (F.TASK_STATUS_STATE 0) 2 with tasks := [(0, { code := 0x30, target := (Page.clu 31).base })] }
theorem wit_TaskSubmit1 : ((wTk 0x01 (Page.bay 0).base 1 0 0).takes .pcie .task ∧ (wTk 0x01 (Page.bay 0).base 1 0 0).slotState 15 = 0 ∧ (wTk 0x01 (Page.bay 0).base 1 0 0).gf (F.TASK_OP_CODE 15) = 0x01 ∧ (wTk 0x01 (Page.bay 0).base 1 0 0).slotArgsOk 15 = true ∧ (wTk 0x01 (Page.bay 0).base 1 0 0).slotConflict 15 = false)
    ∧ ((wTk 0x02 (Page.bay 0).base 31 14 0).takes .pcie .task ∧ (wTk 0x02 (Page.bay 0).base 31 14 0).slotState 15 = 0 ∧ (wTk 0x02 (Page.bay 0).base 31 14 0).gf (F.TASK_OP_CODE 15) = 0x02 ∧ (wTk 0x02 (Page.bay 0).base 31 14 0).slotArgsOk 15 = true ∧ (wTk 0x02 (Page.bay 0).base 31 14 0).slotConflict 15 = false)
    ∧ ((wTk 0x10 (Page.clu 31).base 0 0 0).takes .pcie .task ∧ (wTk 0x10 (Page.clu 31).base 0 0 0).slotState 15 = 0 ∧ (wTk 0x10 (Page.clu 31).base 0 0 0).gf (F.TASK_OP_CODE 15) = 0x10 ∧ (wTk 0x10 (Page.clu 31).base 0 0 0).slotArgsOk 15 = true ∧ (wTk 0x10 (Page.clu 31).base 0 0 0).slotConflict 15 = false)
    ∧ ((wTk 0x20 Page.sec.base 0 0x200000 16).takes .pcie .task ∧ (wTk 0x20 Page.sec.base 0 0x200000 16).slotState 15 = 0 ∧ (wTk 0x20 Page.sec.base 0 0x200000 16).gf (F.TASK_OP_CODE 15) = 0x20 ∧ (wTk 0x20 Page.sec.base 0 0x200000 16).slotArgsOk 15 = true ∧ (wTk 0x20 Page.sec.base 0 0x200000 16).slotConflict 15 = false)
    ∧ ((wTk 0x21 (Page.clu 0).base 0x1000 1 0).takes .pcie .task ∧ (wTk 0x21 (Page.clu 0).base 0x1000 1 0).slotState 15 = 0 ∧ (wTk 0x21 (Page.clu 0).base 0x1000 1 0).gf (F.TASK_OP_CODE 15) = 0x21 ∧ (wTk 0x21 (Page.clu 0).base 0x1000 1 0).slotArgsOk 15 = true ∧ (wTk 0x21 (Page.clu 0).base 0x1000 1 0).slotConflict 15 = false)
    ∧ ((wTk 0x30 (Page.lane 6).base 4 0 0).takes .pcie .task ∧ (wTk 0x30 (Page.lane 6).base 4 0 0).slotState 15 = 0 ∧ (wTk 0x30 (Page.lane 6).base 4 0 0).gf (F.TASK_OP_CODE 15) = 0x30 ∧ (wTk 0x30 (Page.lane 6).base 4 0 0).slotArgsOk 15 = true ∧ (wTk 0x30 (Page.lane 6).base 4 0 0).slotConflict 15 = false) := by
  refine ⟨?_, ?_, ?_, ?_, ?_, ?_⟩ <;> decide +kernel
theorem wit_TaskSubmit2 : ((wTk 0x40 Page.stream.base 0x10000000 0 1).takes .pcie .task ∧ (wTk 0x40 Page.stream.base 0x10000000 0 1).slotState 15 = 0 ∧ (wTk 0x40 Page.stream.base 0x10000000 0 1).gf (F.TASK_OP_CODE 15) = 0x40 ∧ (wTk 0x40 Page.stream.base 0x10000000 0 1).slotArgsOk 15 = true ∧ (wTk 0x40 Page.stream.base 0x10000000 0 1).slotConflict 15 = false)
    ∧ ((wTk 0x01 0 0 0 0).takes .net0 .task ∧ (wTk 0x01 0 0 0 0).slotState 15 = 0 ∧ (wTk 0x01 0 0 0 0).slotArgsOk 15 = false)
    ∧ (wTkB.takes .pcie .task ∧ wTkB.slotState 15 = 0 ∧ wTkB.slotArgsOk 15 = true ∧ wTkB.slotConflict 15 = true)
    ∧ (taskCodes.contains ((wTk 0xFF 0 0 0 0).gf (F.TASK_OP_CODE 15)) = false) := by
  refine ⟨?_, ?_, ?_, ?_⟩ <;> decide +kernel

/-! ### TaskEnds -/

def wTe : Dev := { wit [(F.TASK_STATUS_STATE 3, 1), (F.PAGE_STATE_POWER (.clu 31), 2)] with tasks := [(3, { code := 0x20, target := Page.res.base, args := [0, 0, 4096] })], taskQueue := [3] }
def wTeR : Dev := { wit [(F.TASK_STATUS_STATE 3, 2), (F.PAGE_STATE_POWER (.clu 31), 2)] with tasks := [(3, { code := 0x10, target := (Page.clu 31).base })], taskRun := [3] }
theorem wit_TaskEnds : (wTe.slotState 3 = 1 ∧ wTeR.slotState 3 = 2 ∧ wTeR.nextStep = some 3 ∧ (wTeR.sf (F.TASK_STATUS_STATE 3) 3).slotState 3 = 3 ∧ wTe.slotState 15 = 0)
    ∧ (wTe.takes .net1 .task ∧ wTe.nextStart = some 3 ∧ wTe.taskRun.length < 4 ∧ wTe.targetUp (wTe.task 3) = true ∧ (wTe.startX 3).code ≠ 0x21 ∧ wTe.stepsOf (wTe.startX 3) ≠ 0)
    ∧ (({ wTe with tasks := [(3, { code := 0x10, target := (Page.clu 0).base })] } : Dev).nextStart = some 3 ∧ ({ wTe with tasks := [(3, { code := 0x10, target := (Page.clu 0).base })] } : Dev).targetUp { code := 0x10, target := (Page.clu 0).base } = false)
    ∧ (wTeR.nextStep = some 3 ∧ targetPage (wTeR.task 3).target = some (.clu 31) ∧ (wTeR.task 3).code = 0x10 ∧ wTeR.targetUp (wTeR.task 3) = true)
    ∧ (({ wTe.sf (F.TASK_STATUS_STATE 3) 2 with taskRun := [3] } : Dev).nextStep = some 3 ∧ targetPage (wTe.task 3).target = some .res ∧ (wTe.task 3).code = 0x20 ∧ wTe.targetUp (wTe.task 3) = true)
    ∧ ((wTeR.sf (F.PAGE_STATE_POWER (.clu 31)) 0).nextStep = some 3 ∧ (wTeR.sf (F.PAGE_STATE_POWER (.clu 31)) 0).targetUp (wTeR.task 3) = false) := by
  refine ⟨?_, ?_, ?_, ?_, ?_, ?_⟩ <;> decide +kernel

/-! ### TimeReference -/

def wRf : Dev := wit [(F.TIME_STATUS_REF_PRESENT, 1), (F.TIME_STATUS_PLL_LOCKED, 1), (F.TIME_STATUS_SLEWING, 1)]
theorem wit_TimeReference : (wRf.on F.TIME_STATUS_REF_PRESENT = true )
    ∧ (wRf.on F.TIME_STATUS_REF_PRESENT = true ∧ (wRf.sf F.TIME_STATUS_PLL_LOCKED 0).on F.TIME_STATUS_PLL_LOCKED = false ∧ (wRf.sf F.TIME_STATUS_PLL_LOCKED 0).on F.TIME_STATUS_REF_PRESENT = true ∧ (wRf.sf F.TIME_STATUS_PLL_LOCKED 0).on F.TIME_STATUS_HOLDOVER = false)
    ∧ (((wRf.sf F.TIME_STATUS_PLL_LOCKED 0).sf F.TIME_STATUS_HOLDOVER 1).on F.TIME_STATUS_PLL_LOCKED = false ∧ ((wRf.sf F.TIME_STATUS_PLL_LOCKED 0).sf F.TIME_STATUS_HOLDOVER 1).on F.TIME_STATUS_REF_PRESENT = true ∧ ((wRf.sf F.TIME_STATUS_PLL_LOCKED 0).sf F.TIME_STATUS_HOLDOVER 1).on F.TIME_STATUS_HOLDOVER = true)
    ∧ (wRf.on F.TIME_STATUS_PLL_LOCKED = true ∧ wRf.on F.TIME_STATUS_SLEWING = true ∧ wRf.time.first = true ∧ (roundDiv ((((2565120000 : Nat) : Int) - 2560000000) * 1000000000) 2560000000).natAbs ≤ 2000000) := by
  refine ⟨?_, ?_, ?_, ?_⟩ <;> decide +kernel

/-! ### TimeActions -/

def wTa : Dev := { wit [(F.TIME_ACT_STATUS_STATE 15, 1), (F.TIME_ACT_STATUS_STATE 14, 2)] with running := true }
theorem wit_TimeActions : (wTa.debugLocked .pcie = false ∧ wTa.responds .pcie .time = true ∧ wTa.isOn .time = true ∧ wTa.takes .pcie .time)
    ∧ (wTa.actState 0 = 0 ∧ wTa.tick ≤ wTa.actT 0 ∧ wTa.actState 15 ≠ 0 ∧ wTa.actState 15 = 1 ∧ 2 ≤ wTa.actState 14)
    ∧ (wTa.nextAct = some 15 ∧ wTa.running = true ∧ wTa.gf (F.TIME_ACT_CFG_KIND 15) = 0)
    ∧ (wTa.on F.EMIT_STARLINE_STATUS_PRELOAD_BUSY = false)
    ∧ ((wTa.sf (F.TIME_ACT_CFG_KIND 15) 1).nextAct = some 15 ∧ (wTa.sf (F.TIME_ACT_CFG_KIND 15) 1).gf (F.TIME_ACT_CFG_KIND 15) = 1 ∧ (wTa.sf (F.TIME_ACT_CFG_KIND 15) 2).nextAct = some 15 ∧ (wTa.sf (F.TIME_ACT_CFG_KIND 15) 2).gf (F.TIME_ACT_CFG_KIND 15) = 2) := by
  refine ⟨?_, ?_, ?_, ?_, ?_⟩ <;> decide +kernel

/-! ### PtpPorts -/

def wPt (st : Nat) : Dev := wit [(F.NET_STATUS_LINK_UP 0, 1), (F.PTP_CFG_EN, 1), (F.PTP_CFG_PORT, 0), (F.PTP_CFG_DOMAIN, 5), (F.PTP_STATUS_STATE, st), (F.PTP_STATUS_SLAVE_PORT, 0), (F.CHAIN_CTRL_POLE, 0)]
def wPtH : Dev := { wPt 4 with ptp := { holdAt := some 9 } }
theorem wit_PtpPorts1 : ((wPt 2).on (F.NET_STATUS_LINK_UP 0) = true ∧ ((wPt 2).rxFrame 0).ptpPort 0 = true ∧ 5 = ((wPt 2).rxFrame 0).gf F.PTP_CFG_DOMAIN ∧ ((wPt 2).rxFrame 0).gf F.PTP_STATUS_SLAVE_PORT = 0)
    ∧ (((wPt 2).rxFrame 0).ptpState = 2 ∧ ((wPt 2).rxFrame 0).ptpSource = false ∧ ((wPt 2).rxFrame 0).ptp.good = 0)
    ∧ ((wPt 3).on (F.NET_STATUS_LINK_UP 0) = true ∧ ((wPt 3).rxFrame 0).ptpState = 3 ∧ ((wPt 3).rxFrame 0).ptpPort 0 = true)
    ∧ ((({ wPt 4 with ptp := { good := 7 } } : Dev).rxFrame 0).ptp.good = 7 ∧ (({ wPt 4 with ptp := { good := 7 } } : Dev).rxFrame 0).ptpState = 4)
    ∧ ((4 * max 1 ((wPt 3).gf F.PTP_THRESH_LOCK_NS) : Nat) < (10^9 : Int).natAbs ∧ (0 : Int).natAbs ≤ max 1 ((wPt 3).gf F.PTP_THRESH_LOCK_NS))
    ∧ ((wPt 1).on F.PTP_CFG_EN = true ∧ (wPt 3).ptpState = 3) := by
  refine ⟨?_, ?_, ?_, ?_, ?_, ?_⟩ <;> decide +kernel
theorem wit_PtpPorts2 : (wPtH.ptp.holdAt = some 9 ∧ (wPtH.advanceTo (9 + wPtH.gf F.TIME_HOLD_CFG_HOLD_S * 1000000000)).ptpSource = false)
    ∧ ((((wPtH.sf F.CHAIN_CTRL_POLE 1).sf F.TIME_CAL_CTRL_SRC 1).advanceTo (9 + ((wPtH.sf F.CHAIN_CTRL_POLE 1).sf F.TIME_CAL_CTRL_SRC 1).gf F.TIME_HOLD_CFG_HOLD_S * 1000000000)).ptpSource = true) := by
  refine ⟨?_, ?_⟩ <;> decide +kernel

/-! ### ChannelEdges -/

def wEd : Dev := { wit [(F.BAY_TDC_TIMING_VAL_MODE 0, 1), (F.PAGE_STATE_POWER (.bay 0), 2), (F.BAY_CH_STATUS_STATE 0 7, 0)] with bays := [(0, { tdcEn := true })] }
def wEdO : Dev := { wEd with chans := [(7, { open_ := some { lead := 1000, validated := false }, armHigh := some 1000 })] }
theorem wit_ChannelEdges : ((wEd.chan 0 7).armHigh = none ∧ (wEd.chan 0 7).valHigh = none ∧ (wEd.advanceTo 4).forms 0 7 = true ∧ dead (wEd.chan 0 7).lastLead 1024 = false ∧ beyondScale (wEd.gf (F.BAY_CH_THRESH_ARM 0 7)) = false)
    ∧ (dead (some 1000) 2023 = true ∧ ({ wEd with chans := [(7, { lastLead := some 1000 })] } : Dev).forms 0 7 = true ∧ (wEd.chan 0 7).missed < 65535 ∧ beyondScale ((wEd.sf (F.BAY_CH_THRESH_ARM 0 7) 1001).gf (F.BAY_CH_THRESH_ARM 0 7)) = true)
    ∧ ((wEdO.chan 0 7).open_ = some { lead := 1000, validated := false } ∧ 1000 + 16 < 1017 ∧ 1017 + 16 < 1000 + wEdO.valWin 0 ∧ (wEdO.port 0).bursts = [] ∧ beyondScale (wEdO.gf (F.BAY_CH_THRESH_VAL 0 7)) = false)
    ∧ ((wEdO.chan 0 7).armHigh.isSome ∧ 1001 < 1000 + wEdO.totMax 0 ∧ dead (wEdO.chan 0 7).lastTrail 1001 = false ∧ wEdO.gf (F.BAY_TDC_TIMING_VAL_MODE 0) ≠ 0 ∧ (wEdO.sf (F.BAY_TDC_TIMING_VAL_MODE 0) 0).gf (F.BAY_TDC_TIMING_VAL_MODE 0) = 0) := by
  refine ⟨?_, ?_, ?_, ?_⟩ <;> decide +kernel

/-! ### ChannelWords -/

def wCw : Dev := { wit [(F.PAGE_STATE_POWER (.bay 0), 2), (F.BAY_CH_STATUS_STATE 0 0, 0), (F.BAY_FAULT_CTRL_STORM_COUNT 0, 1)] with chans := [(0, { closed := [{ lead := 0, trail := some 500, validated := true }], starts := [{ ref := 0 }], missed := 65535, armHigh := some 0, valHigh := some 0 })] }
def wCwN : Dev := { wCw with chans := [(0, { closed := [{ lead := 0, trail := none, validated := true }], starts := [{ ref := 0, asserted := true }], missed := 1, lastMissedAt := some 5 })] }
theorem wit_ChannelWords : ((wCw.chan 0 0).closed = [{ lead := 0, trail := some 500, validated := true }] ∧ (wCwN.chan 0 0).closed = [{ lead := 0, trail := none, validated := true }])
    ∧ ((wCw.chan 0 0).starts = [{ ref := 0 }] ∧ (wCw.chan 0 0).missed ≠ 0 ∧ (wCw.chan 0 0).lastMissedAt = none)
    ∧ ((wCwN.chan 0 0).starts = [{ ref := 0, asserted := true }] ∧ max 1 (wCwN.gf (F.BAY_FAULT_CTRL_STORM_COUNT 0)) ≤ (wCwN.chan 0 0).storm + 1 ∧ (wCwN.chan 0 0).missed ≠ 0 ∧ (wCwN.chan 0 0).lastMissedAt = some 5)
    ∧ ((wCw.chan 0 0).armHigh = some 0 ∧ (wCw.chan 0 0).valHigh = some 0 ∧ wCw.chActive 0 0 = true)
    ∧ (wCw.takes .pcie (.bay 0)) := by
  refine ⟨?_, ?_, ?_, ?_, ?_⟩ <;> decide +kernel

/-! ### CalTables -/

def wCal : Dev := { wit [(F.CAL_AUTO_CFG_INTERVAL, 1), (F.CAL_CTRL_AUTO_EN, 1), (F.PAGE_STATE_POWER (.bay 0), 2), (F.CAL_CTRL_WAVE_AUTO, 1), (F.BAY_WAVE_EST_EN 0, 1), (F.BAY_WAVE_STATUS_STATE 0, 2)] with now := 1000000000, convs := [(0, { running := true, hits := 16 }), (2, { running := true, hits := 16, runs := [[65536]] })], slices := [(3, { lastEst := some {} })] }
theorem wit_CalTables1 : (ringInLock 63 16644 = true ∧ ringInLock 64 16384 = true ∧ ringInLock 63 16000 = false ∧ (wCal.conv 0 0).slowUnlock = false ∧ (wCal.conv 0 0).fastUnlock = false)
    ∧ ((wCal.conv 0 0).running = true ∧ (wCal.conv 0 0).runs = [] ∧ (List.replicate 256 256).length = 256 ∧ (List.replicate 256 256).foldl (· + ·) 0 = 2^(wCal.conv 0 0).hits)
    ∧ ((wCal.conv 0 2).running = true ∧ (wCal.conv 0 2).runs = [[65536]] ∧ (List.replicate 256 256).foldl (· + ·) 0 = 2^(wCal.conv 0 2).hits)
    ∧ ((maskBits 17 (0x10001#17).toNat).filter (wCal.calDue 0) ≠ [] ∧ wCal.on F.CAL_CTRL_AUTO_EN = true ∧ wCal.isOn (.bay 0) = true ∧ wCal.on (F.BAY_SPARE_STATUS_IN_USE 0) = false ∧ wCal.inConflict 0x01 (Page.bay 0).base = false ∧ wCal.ownSlot (fun _ => true) = some 0 ∧ ((List.range 16).filter (fun i => wCal.slotState i != 0 && wCal.gf (F.TASK_STATUS_REQ i) == 0 && (wCal.task i).code == 0x01)).length = 0)
    ∧ ((maskBits 17 (0x10001#17).toNat).filter ((wCal.sf (F.BAY_SPARE_STATUS_IN_USE 0) 1).calDue 0) ≠ [] ∧ (wCal.sf (F.BAY_SPARE_STATUS_IN_USE 0) 1).on F.CAL_CTRL_AUTO_EN = true ∧ (wCal.sf (F.BAY_SPARE_STATUS_IN_USE 0) 1).isOn (.bay 0) = true ∧ (wCal.sf (F.BAY_SPARE_STATUS_IN_USE 0) 1).on (F.BAY_SPARE_STATUS_IN_USE 0) = true)
    ∧ ((wit []).takes .pcie .cal) := by
  refine ⟨?_, ?_, ?_, ?_, ?_, ?_⟩ <;> decide +kernel
theorem wit_CalTables2 : (inRange { offset := 6400, gain := -5000, skew := 1024 } = true ∧ (wCal.slice 0 0).lastEst = none ∧ wCal.on (F.BAY_WAVE_EST_EN 0) = true ∧ wCal.waveState 0 = 2)
    ∧ ((wCal.slice 0 3).lastEst = some {} ∧ wCal.sliceAgree {} { offset := 1, gain := 0, skew := 0 } = true ∧ inRange { offset := 1, gain := 0, skew := 0 } = true ∧ wCal.on F.CAL_CTRL_WAVE_AUTO = true)
    ∧ ((wCal.slice 0 1).outRun < 2 ∧ inRange { offset := 6401, gain := 0, skew := 0 } = false) := by
  refine ⟨?_, ?_, ?_⟩ <;> decide +kernel

/-! ### EmitBursts -/

def wEmitPlan : Dev := { witFire with ports := [(0, { plan := [{ idx := 0, t := 1000, codeIdx := 0, frame := 0, col := 0, dwell := false }] })] }
def wEmitPlan2 : Dev := { witFire with now := 900, ports := [(0, { plan := [{ idx := 0, t := 1000, codeIdx := 0, frame := 0, col := 0, dwell := false }], needResume := false, lastRef := some 1000 })] }
def wEmitU : Dev := { witFire with ports := [(0, { bursts := [{ ref := 256, frame := 0, col := 0, idx := 0, slots := [0], width := 4, launched := 1, current := 100, seen := true }] })] }
def wEmitV : Dev := { witFire with ports := [(0, { bursts := [{ ref := 256, frame := 0, col := 0, idx := 0, slots := [0], width := 4, launched := 1, current := 100 }] })] }
def wEmitP : Dev := witFire.advanceTo 12500000
def wEmitPd : Dev := (wEmitP.setPort 0 { wEmitP.port 0 with lastProofTry := wEmitP.now }).syncInh 0 none
def wEmitR : Dev := { witFire with ports := [(0, { needResume := false, lastRef := some 1000 })] }.advanceTo 12500000
def wEmitRd : Dev := (wEmitR.setPort 0 { wEmitR.port 0 with lastProofTry := wEmitR.now }).syncInh 0 none
def wEmitH : Dev := ({ witFire with ports := [(0, { resumeOn := true })] } : Dev).advanceTo 100000
theorem wit_EmitBursts1 : ((wEmitPlan.port 0).plan.length = 1 ∧ (wEmitPlan.column.map (fun c => (c.frame, c.col))) = some (0, 0))
    ∧ (((wEmitPlan.sf (F.NW_STATUS_STATE) 4).setPort 0 { plan := [] }).mayFire 0 (some 0) = false)
    ∧ (((((wEmitPlan.setPort 0 { wEmitPlan.port 0 with plan := [] }).advanceTo 1000).portSync 0).syncInh 0 (some 0)).mayFire 0 (some 0) = true)
    ∧ (((((wEmitPlan.setPort 0 { wEmitPlan.port 0 with plan := [] }).advanceTo 1000).portSync 0).syncInh 0 (some 0)).resumeDue 0 = true)
    ∧ (((((wEmitPlan2.setPort 0 { wEmitPlan2.port 0 with plan := [] }).advanceTo 1000).portSync 0).syncInh 0 (some 0)).mayFire 0 (some 0) = true ∧ ((((wEmitPlan2.setPort 0 { wEmitPlan2.port 0 with plan := [] }).advanceTo 1000).portSync 0).syncInh 0 (some 0)).resumeDue 0 = false)
    ∧ ((((wEmitU.port 0).bursts.filter (fun u => !u.windowClosed)).getLast?).map (fun u => (u.ref, u.seen)) = some (256, true) ∧ (wEmitU.port 0).resumeOn = false) := by
  refine ⟨?_, ?_, ?_, ?_, ?_, ?_⟩ <;> decide +kernel
theorem wit_EmitBursts2 : ((((wEmitV.port 0).bursts.filter (fun u => !u.windowClosed)).getLast?).map (fun u => (u.ref, u.seen)) = some (256, false) ∧ wEmitV.gf (F.EMIT_PORT_STATUS_MISSES 0) < 7 ∧ (wEmitV.sf (F.EMIT_PORT_STATUS_MISSES 0) 7).gf (F.EMIT_PORT_STATUS_MISSES 0) = 7)
    ∧ ((((wEmitU.port 0).bursts.filter (fun u => !u.charged)).getLast?).map (·.ref) = some 256)
    ∧ (witFire.on F.EMIT_CTRL_PROOF_EN = true ∧ witFire.on (F.EMIT_PORT_CFG_EN 0) = true ∧ witFire.emit.schedEn = true ∧ witFire.gf F.SCAN_STATUS_STATE = 3 ∧ (witFire.port 0).resumeOn = false ∧ max ((witFire.port 0).lastCountedAt.getD 0) (witFire.port 0).lastProofTry + witFire.diagInterval / 8 = 12500000)
    ∧ (wEmitP.proofWaits 0 = false ∧ wEmitPd.proofHeadroom 0 = true ∧ wEmitPd.mayFire 0 none = true ∧ wEmitPd.resumeDue 0 = true)
    ∧ (wEmitR.proofWaits 0 = false ∧ wEmitRd.proofHeadroom 0 = true ∧ wEmitRd.mayFire 0 none = true ∧ wEmitRd.resumeDue 0 = false)
    ∧ ((wEmitPd.sf (F.NW_STATUS_STATE) 4).mayFire 0 none = false ∧ (wEmitPd.sf (F.NW_STATUS_STATE) 4).proofHeadroom 0 = true ∧ ({ wEmitPd with ledger := { sums := (List.range 512).map (fun x => (x, [1000])) } } : Dev).proofHeadroom 0 = false) := by
  refine ⟨?_, ?_, ?_, ?_, ?_, ?_⟩ <;> decide +kernel
theorem wit_EmitBursts3 : ((({ witFire with ports := [(0, { resumeOn := true })] } : Dev).port 0).resumeOn = true ∧ wEmitH.proofWaits 0 = false ∧ wEmitH.proofHeadroom 0 = true ∧ wEmitH.mayFire 0 none = true)
    ∧ (({ witFire with emit := { dwellFlight := [(511, { bay := 0, first := 1, count := 1, extra := 1, frame := 0 })] } } : Dev).emit.dwellFlight.find? (fun d => d.1 == 511) ≠ none) := by
  refine ⟨?_, ?_⟩ <;> decide +kernel

/-! ### EmitPorts -/

def wApply : Dev := { wit [(F.EMIT_STARLINE_STATUS_APPLY_PENDING, 1)] with emit := { stagedKind := 2 } }
def wStarA : Dev := { wit [] with emit := { star := [(2, { busy := true }), (3, { busy := true })] } }
def wStarB : Dev := { wit [] with emit := { star := [(3, { busy := true })], again := 2 } }
def wStarC : Dev := { wit [] with emit := { star := [(3, { busy := true })] } }
theorem wit_EmitPorts1 : ((wit []).takes .pcie .emit)
    ∧ ((({ wit [(F.EMIT_PORT_STATUS_STATE 47, 1)] with ports := [(47, { lastCounted := some (5, true) })] } : Dev).port 47).lastCounted = some (5, true) ∧ (wit [(F.EMIT_PORT_STATUS_STATE 47, 1)]).gf (F.EMIT_PORT_STATUS_STATE 47) = 1)
    ∧ ((wStarA.wire 3).busy = true ∧ wStarA.emit.armWait = [] ∧ (List.range 4).any (fun w => (((wStarA.advanceTo (wStarA.wire 3).doneAt).setWire 3 { wStarA.wire 3 with busy := false, staged := (wStarA.wire 3).words }).wire w).busy) = true)
    ∧ ((wStarB.wire 3).busy = true ∧ wStarB.emit.armWait = [] ∧ (List.range 4).any (fun w => (((wStarB.advanceTo (wStarB.wire 3).doneAt).setWire 3 { wStarB.wire 3 with busy := false, staged := (wStarB.wire 3).words }).wire w).busy) = false ∧ wStarB.emit.again ≠ 0)
    ∧ ((wStarC.wire 3).busy = true ∧ wStarC.emit.armWait = [] ∧ (List.range 4).any (fun w => (((wStarC.advanceTo (wStarC.wire 3).doneAt).setWire 3 { wStarC.wire 3 with busy := false, staged := (wStarC.wire 3).words }).wire w).busy) = false ∧ wStarC.emit.again = 0)
    ∧ (wApply.on F.EMIT_STARLINE_STATUS_APPLY_PENDING = true ∧ wApply.transferring = false ∧ wApply.frameOver = true ∧ wApply.pulseFits 0 = true) := by
  refine ⟨?_, ?_, ?_, ?_, ?_, ?_⟩ <;> decide +kernel
theorem wit_EmitPorts2 : (((wit []).wr R.EMIT_TEMP_SRC 0x03020100#32).tempSrc 3 ≠ 255 ∧ bit (wit []).emit.tempDead 3 = false)
    ∧ ((wit [(F.CODE_CODE_STATUS_GEN_BUSY, 1)]).on F.CODE_CODE_STATUS_GEN_BUSY = true) := by
  refine ⟨?_, ?_⟩ <;> decide +kernel

/-! ### ScanAxes -/

def wScan0 : Dev := wit [(F.PAGE_STATE_POWER .scan, 2), (F.SCAN_CTRL_FAST_EN, 1), (F.SCAN_STATUS_STATE, 1), (F.MON_CTRL_PAIR_RUN, 1), (F.MON_CH_RAW_VALID 0, 1), (F.MON_CH_RAW_VALID 1, 1)]
def wScan1 : Dev := wit [(F.PAGE_STATE_POWER .scan, 2), (F.SCAN_CTRL_FAST_EN, 1), (F.SCAN_STATUS_STATE, 1), (F.SCAN_CTRL_FAST_MODE, 1)]
theorem wit_ScanAxes1 : ((wit []).isOn .scan = false)
    ∧ (wScan0.isOn .scan = true ∧ wScan0.on F.SCAN_CTRL_FAST_MODE = false ∧ wScan0.on F.SCAN_CTRL_FAST_EN = true ∧ wScan0.senseOk 0 = true ∧ wScan0.senseOk 1 = true)
    ∧ (wScan0.fastRuns = true ∧ wScan0.on F.SCAN_CTRL_FAST_MODE = false ∧ wScan0.scan.sweeping = false)
    ∧ (wScan1.fastRuns = true ∧ wScan1.on F.SCAN_CTRL_FAST_MODE = true)
    ∧ (wScan1.isOn .scan = true ∧ wScan1.on F.SCAN_CTRL_FAST_MODE = true ∧ 17 ≠ wScan1.gf F.SCAN_POLY_CFG_COUNTS * wScan1.gf F.SCAN_POLY_CFG_FACETS)
    ∧ (wScan0.gf F.SCAN_STATUS_STATE = 1 ∧ wScan0.scan.rampAt = none ∧ ({ wScan0 with scan := { wScan0.scan with sweeping := true } } : Dev).scan.sweeping = true) := by
  refine ⟨?_, ?_, ?_, ?_, ?_, ?_⟩ <;> decide +kernel
theorem wit_ScanAxes2 : ((wScan1.sf F.MON_CTRL_PAIR_RUN 1).senseOk 1 = false ∧ ((wScan1.sf F.MON_CTRL_PAIR_RUN 1).sf (F.MON_CH_RAW_VALID 1) 1).senseOk 1 = true ∧ wScan1.on F.SCAN_CTRL_FAST_EN = true)
    ∧ ((wScan1.inc F.SCAN_ENC_STATUS_ERRORS).senseChecked = true ∧ ((wScan1.sf F.SCAN_STATUS_STATE 5).inc F.SCAN_ENC_STATUS_ERRORS).senseChecked = false)
    ∧ (4 * (0 : Int) ≤ (wScan0.gf F.SCAN_FAST_TARGET_AMPLITUDE : Nat) ∧ ((wScan0.gf F.SCAN_FAST_TARGET_AMPLITUDE : Nat) : Int) < 4 * 32767) := by
  refine ⟨?_, ?_, ?_⟩ <;> decide +kernel

/-! ### ScanEnables -/

def wSc (st fast frame busy : Nat) : Dev :=
  wit [(F.PAGE_STATE_POWER .scan, 2), (F.SCAN_STATUS_STATE, st), (F.SCAN_CTRL_FAST_EN, fast), (F.SCAN_CTRL_FRAME_EN, frame), (F.SCAN_STATUS_MOTION_BUSY, busy)]
def wScRun : Dev := { wSc 3 1 1 0 with frames := [witFrame] }
theorem wit_ScanEnables1 : ((wSc 0 0 0 0).takes .pcie .scan ∧ (wSc 0 0 0 0).on F.SCAN_CTRL_FAST_EN = false ∧ (wSc 0 0 0 0).gf F.SCAN_STATUS_STATE = 0)
    ∧ ((wSc 5 0 0 0).takes .chain .scan ∧ (wSc 5 0 0 0).on F.SCAN_CTRL_FAST_EN = false ∧ (wSc 5 0 0 0).gf F.SCAN_STATUS_STATE = 5 ∧ (wSc 5 0 0 0).on F.SCAN_STATUS_MOTION_BUSY = false)
    ∧ ((wSc 1 1 0 0).takes .net1 .scan ∧ (wSc 1 1 0 0).on F.SCAN_CTRL_FAST_EN = true ∧ (wSc 1 1 0 0).gf F.SCAN_STATUS_STATE = 1 ∧ (wSc 2 1 0 0).gf F.SCAN_STATUS_STATE = 2)
    ∧ (wScRun.takes .pcie .scan ∧ wScRun.on F.SCAN_CTRL_FAST_EN = true ∧ wScRun.gf F.SCAN_STATUS_STATE = 3 ∧ wScRun.openFrame.isSome = true ∧ wScRun.on F.SCAN_CTRL_FRAME_EN = true)
    ∧ ((wSc 3 1 1 0).takes .pcie .scan ∧ (wSc 3 1 1 0).openFrame.isNone = true ∧ (wSc 3 1 1 0).on F.SCAN_CTRL_FRAME_EN = true)
    ∧ ((wSc 0 0 0 0).on F.SCAN_CTRL_FRAME_EN = false ∧ (wSc 0 0 0 0).gf F.SCAN_STATUS_STATE ≠ 3 ∧ (wSc 3 1 0 0).on F.SCAN_CTRL_FRAME_EN = false ∧ (wSc 3 1 0 0).takes .pcie .scan) := by
  refine ⟨?_, ?_, ?_, ?_, ?_, ?_⟩ <;> decide +kernel
theorem wit_ScanEnables2 : ((wSc 5 1 0 1).on F.SCAN_STATUS_MOTION_BUSY = true ∧ (wSc 5 1 0 1).takes .pcie .scan ∧ (wSc 5 1 0 0).on F.SCAN_CTRL_FAST_EN = true ∧ (wSc 5 1 0 0).takes .pcie .scan)
    ∧ ((wSc 4 0 0 1).on F.SCAN_STATUS_MOTION_BUSY = true ∧ (wSc 4 0 0 1).gf F.SCAN_STATUS_STATE = 4 ∧ (wSc 4 0 0 1).on F.SCAN_CTRL_FAST_EN = false ∧ (wSc 4 1 0 1).on F.SCAN_CTRL_FAST_EN = true) := by
  refine ⟨?_, ?_⟩ <;> decide +kernel

/-! ### ScanFrames -/

def wFr : Dev := { wit [(F.PAGE_STATE_POWER .scan, 2), (F.SCAN_CTRL_FRAME_EN, 1), (F.SCAN_STATUS_STATE, 2)] with running := true }
def wFrSync : Dev := { wFr.sf F.SCAN_CTRL_FRAME_SRC 1 with scan := { syncAt := some 777 } }
def wFrLast : Dev := { wFr with scan := { lastSched := some 5, src := true } }
theorem wit_ScanFrames1 : (wFr.on F.SCAN_CTRL_FRAME_EN = true ∧ wFr.isOn .scan = true ∧ wFr.gf F.SCAN_STATUS_STATE = 2 ∧ wFr.openFrame = none ∧ wFr.running = true ∧ wFr.frameSync = false ∧ wFr.freeStart = wFr.freeStart)
    ∧ (wFrSync.on F.SCAN_CTRL_FRAME_EN = true ∧ wFrSync.isOn .scan = true ∧ wFrSync.gf F.SCAN_STATUS_STATE = 2 ∧ wFrSync.openFrame = none ∧ wFrSync.running = true ∧ wFrSync.frameSync = true ∧ wFrSync.scan.syncAt = some 777)
    ∧ ((wFrSync.advanceTo 900).frameSync = true ∧ (wFrSync.advanceTo 900).isOn .scan = true ∧ (wFrSync.advanceTo 900).gf F.SCAN_STATUS_STATE = 2)
    ∧ (wFrLast.frameSync = true ∧ wFrLast.isOn .scan = true ∧ wFrLast.on F.SCAN_CTRL_FRAME_EN = true ∧ wFrLast.gf F.SCAN_STATUS_STATE = 2 ∧ wFrLast.scan.syncAt = none ∧ wFrLast.expected = some (5 + 1000 * wFrLast.framePeriod))
    ∧ (({ wFr with frames := [witFrame] } : Dev).openFrame = some witFrame ∧ witFrame.long = false ∧ witFrame.nb < witFrame.columns)
    ∧ (({ wFr with frames := [{ witFrame with nb := 8 }] } : Dev).openFrame = some { witFrame with nb := 8 } ∧ ({ witFrame with nb := 8 } : FrameX).columns ≤ 8) := by
  refine ⟨?_, ?_, ?_, ?_, ?_, ?_⟩ <;> decide +kernel
theorem wit_ScanFrames2 : ((wFr.advanceTo wFr.freeStart).axesReady = false ∧ ((wFr.sf F.SCAN_STATUS_FAST_LOCKED 1).advanceTo 3).axesReady = true)
    ∧ ((wFrSync.advanceTo 900).edgeSets 900 = false ∧ ({ wFrSync with scan := {} }.advanceTo 1000000000).edgeSets 1000000000 = true) := by
  refine ⟨?_, ?_⟩ <;> decide +kernel

/-! ### Columns -/

def wCoP : Dev := { wit [(F.PAGE_STATE_POWER .scan, 2), (F.SCAN_CTRL_FAST_MODE, 1), (F.SCAN_POLY_CFG_COUNTS, 100), (F.SCAN_FAST_ACTIVE_EDGE_LO, 0), (F.SCAN_FAST_ACTIVE_EDGE_HI, 64), (F.SCAN_FAST_CFG_COLS_PER_LINE, 64)] with running := true, now := 108500, frames := [witFrame], scan := { encStep := 1000, encAt := 100000 } }
def wCo : Dev := { wit [(F.PAGE_STATE_POWER .scan, 2)] with running := true, frames := [witFrame] }
def wCoX : Dev := { wCo with scan := { cross := some { k := 0, rev := false, t := 110000, dur := 1000, begins := true, frame := 0, col := 0 } } }
def wCoY : Dev := { wCo with scan := { cross := some { k := 0, rev := false, t := 110000, dur := 1000, begins := false, frame := 0, col := 0 }, begun := 8 } }
def wCoY2 : Dev := { wCo.advanceTo 110000 with scan := { wCoY.scan with cross := none } }
theorem wit_Columns : (wCoP.scan.cross = none ∧ wCoP.nextCrossing 9 false wCoP.now = some (109000, 1000) ∧ wCoP.isOn .scan = true ∧ 9 < wCoP.colsPerLine ∧ (wCoP.advanceTo 108000).openFrame = some witFrame ∧ witFrame.start + 2000 ≤ 109000 ∧ 109000 < witFrame.start + witFrame.active * 1000 ∧ (wCoP.advanceTo 108000).scan.noMore = false ∧ (wCoP.advanceTo 108000).scan.begun < witFrame.columns)
    ∧ ((({ wCoP with frames := [] } : Dev).advanceTo 108000).openFrame = none ∧ ({ wCoP with frames := [] } : Dev).nextCrossing 9 false wCoP.now = some (109000, 1000))
    ∧ (wCoX.scan.cross.map (·.begins) = some true)
    ∧ (wCoY.scan.cross.map (·.begins) = some false ∧ (wCoY2.endColumn 110000).openFrame = some witFrame ∧ witFrame.columns ≤ (wCoY2.endColumn 110000).scan.begun)
    ∧ (({ wCoY with frames := [] } : Dev).scan.cross.map (·.begins) = some false ∧ (({ wCoY2 with frames := [] } : Dev).endColumn 110000).openFrame = none)
    ∧ (({ wCo with column := some witCol } : Dev).column = some witCol ∧ wCo.scan.cross = none) := by
  refine ⟨?_, ?_, ?_, ?_, ?_, ?_⟩ <;> decide +kernel

/-! ### Votes -/

def wVo : Dev := { wit [(F.BAY_GATE_CLOSE_CLOSE 0, 8000)] with bays := [(0, { events := [(1, { type := .edge, ch := 0, val := true, time := 1500 })] })], hists := [(3, { witHist with st := .granted })], ports := [(0, { bursts := [{ ref := 1000, frame := 0, col := 0, idx := 0, slots := [0], width := 4, launched := 1 }] })] }
def wVoP : Dev := { wVo with bays := [(0, {})], ports := [(0, { bursts := [{ ref := 1000, frame := 0, col := 0, idx := 0, slots := [0], width := 4, launched := 1, proof := true }] })] }
def wVoQ : Dev := { wVo with bays := [(0, {})] }
def wVoC : Dev := { wVoQ with hists := [(3, { witHist with st := .granted, cls := 2 })] }
def wVoD (sky : Bool) : Dev := { wit [(F.PAGE_STATE_POWER (.clu 0), 2), (F.CLU_CTRL_DISPATCH_EN 0, 1), (F.CLU_ENG_STATUS_STATE 0 5, 1), (F.CLU_ENG_MASKS_SERVICE 0, 0xFFFF)] with running := true, bays := [(0, { dq := [{ sky := sky, id := 3, cls := 0, closedAt := 0, enq := 0, lateAt := 100 }] })], hists := [(3, { witHist with st := .queued })], ambs := [(3, { bay := 0, frame := 0, first := 0, epoch := 0, chunk := none })] }
def wVoB (sky : Bool) : Dev := { wVoD sky with regions := [(0, { blocked := [0, 1, 2, 3, 4, 5, 6, 7, 8, 9] })] }
def wVoT (v : EvType) : Dev := { wit [] with bays := [(47, { events := [(5, { type := v, ch := 7, time := 0 })] })] }
theorem wit_Votes1 : (((wVo.bay 0).nextEvent.map (fun e => (e.2.type, e.2.time)) = some (EvType.edge, 1500)))
    ∧ (wVoQ.votesOf 0 { type := .edge, ch := 0, val := true, time := 900 } = [] ∧ wVoQ.proofExcluded 0 900 = false)
    ∧ (wVoP.votesOf 0 { type := .edge, ch := 0, val := true, time := 1500 } = [] ∧ wVoP.proofExcluded 0 1500 = true)
    ∧ (wVoQ.votesOf 0 { type := .edge, ch := 0, val := true, time := 1500 } ≠ [] ∧ (wVoQ.drainVotes 0).gf (F.BAY_VOTE_STATUS_LEVEL 0) = 0)
    ∧ ((wVoQ.drainVotes 0).gf (F.BAY_VOTE_STATUS_QUEUE 0) + 1 ≤ 4096 ∧ (wVoQ.drainVotes 0).eventClass (wVoQ.votesOf 0 { type := .edge, ch := 0, val := true, time := 1500 }) = 0)
    ∧ (4096 < ((wVoQ.sf (F.BAY_VOTE_STATUS_QUEUE 0) 4096).drainVotes 0).gf (F.BAY_VOTE_STATUS_QUEUE 0) + ((wVoQ.sf (F.BAY_VOTE_STATUS_QUEUE 0) 4096).votesOf 0 { type := .edge, ch := 0, val := true, time := 1500 }).length) := by
  refine ⟨?_, ?_, ?_, ?_, ?_, ?_⟩ <;> decide +kernel
theorem wit_Votes2 : (((wVoC.sf (F.BAY_VOTE_STATUS_LEVEL 0) 1).drainVotes 0).gf (F.BAY_VOTE_STATUS_LEVEL 0) = 1 ∧ ((wVoC.sf (F.BAY_VOTE_STATUS_LEVEL 0) 1).drainVotes 0).eventClass ((wVoC.sf (F.BAY_VOTE_STATUS_LEVEL 0) 1).votesOf 0 { type := .edge, ch := 0, val := true, time := 1500 }) = 2)
    ∧ ((((wVoQ.sf (F.BAY_VOTE_STATUS_LEVEL 0) 2).sf (F.BAY_VOTE_STATUS_KEEP 0) 3).drainVotes 0).gf (F.BAY_VOTE_STATUS_LEVEL 0) = 2 ∧ 3 < 16)
    ∧ ((((wVoQ.sf (F.BAY_VOTE_STATUS_LEVEL 0) 2).sf (F.BAY_VOTE_STATUS_KEEP 0) 16).drainVotes 0).gf (F.BAY_VOTE_STATUS_KEEP 0) = 16)
    ∧ (((wVoT .test).bay 47).nextEvent.map (fun e => e.2.type) = some EvType.test ∧ ((wVoT .timeout).bay 47).nextEvent.map (fun e => e.2.type) = some EvType.timeout)
    ∧ (((wVoT .missed).bay 47).nextEvent.map (fun e => e.2.type) = some EvType.missed)
    ∧ ((((wit []).advanceTo 1000).drainVotes 47).gf (F.BAY_VOTE_STATUS_LEVEL 47) = 0 ∧ voteLevel (((wit []).advanceTo 1000).drainVotes 47).now 4000 = 0) := by
  refine ⟨?_, ?_, ?_, ?_, ?_, ?_⟩ <;> decide +kernel
theorem wit_Votes3 : (voteLevel ((((wit []).advanceTo 1000).drainVotes 47).bay 47).demand ((((wit []).advanceTo 1000).drainVotes 47).bay 47).demandAB = 0)
    ∧ (voteLevel 4001 4000 = 1 ∧ ((({ wit [] with bays := [(47, { demand := 5000, demandAB := 4001 })] } : Dev).advanceTo 1000).drainVotes 47).gf (F.BAY_VOTE_STATUS_LEVEL 47) = 0)
    ∧ (voteLevel (((({ wit [] with bays := [(47, { demand := 5000, demandAB := 4001 })] } : Dev).advanceTo 1000).drainVotes 47).bay 47).demand (((({ wit [] with bays := [(47, { demand := 5000, demandAB := 4001 })] } : Dev).advanceTo 1000).drainVotes 47).bay 47).demandAB = 2)
    ∧ ((wVoD false).nextEngine 0 = some 0 ∧ ((wVoD false).nextDesc 0).map (·.1) = some 0)
    ∧ (((wVoD false).dequeue 0 { sky := false, id := 3, cls := 0, closedAt := 0, enq := 0, lateAt := 100 }).blockedKernel 0 { sky := false, id := 3, cls := 0, closedAt := 0, enq := 0, lateAt := 100 } = none ∧ ((wVoD false).hist? 3).isSome = true)
    ∧ ((wVoB false).nextEngine 0 = some 0 ∧ ((wVoB false).dequeue 0 { sky := false, id := 3, cls := 0, closedAt := 0, enq := 0, lateAt := 100 }).blockedKernel 0 { sky := false, id := 3, cls := 0, closedAt := 0, enq := 0, lateAt := 100 } ≠ none) := by
  refine ⟨?_, ?_, ?_, ?_, ?_, ?_⟩ <;> decide +kernel
theorem wit_Votes4 : ((wVoB true).nextEngine 0 = some 0 ∧ ((wVoB true).dequeue 0 { sky := true, id := 3, cls := 0, closedAt := 0, enq := 0, lateAt := 100 }).blockedKernel 0 { sky := true, id := 3, cls := 0, closedAt := 0, enq := 0, lateAt := 100 } = some 8)
    ∧ ((wVoD true).nextEngine 0 = some 0 ∧ ((wVoD true).nextDesc 0).map (·.2.sky) = some true)
    ∧ (((wVoD true).dequeue 0 { sky := true, id := 3, cls := 0, closedAt := 0, enq := 0, lateAt := 100 }).blockedKernel 0 { sky := true, id := 3, cls := 0, closedAt := 0, enq := 0, lateAt := 100 } = none ∧ ((wVoD true).amb? 3).isSome = true)
    ∧ ((((wVoD false).advanceTo 100).hist? 3).isSome = true ∧ 100 ≤ ((wVoD false).advanceTo 100).now ∧ 100 ≤ ((wVoD true).advanceTo 100).now) := by
  refine ⟨?_, ?_, ?_, ?_⟩ <;> decide +kernel

/-! ### HistPool -/

def wHi : Dev := { wit [(F.POOL_WAIT_LIMIT_LIMIT 0, 10)] with hists := [(3, witHist)] }
def wHiL : Dev := { wHi with now := 5 }
def wHiG : Dev := { wit [] with hists := [(3, { witHist with bay := 47, st := .granted })] }
def wHiQ : Dev := { wit [] with hists := [(3, { witHist with bay := 47, st := .granted, launched := 2, voted := 1 })] }
def wHiD : Dev := { wit [] with bays := [(47, { heldDesc := [{ sky := false, id := 3, cls := 0, closedAt := 0, enq := 0, lateAt := 100 }] })] }
theorem wit_HistPool1 : (sortBy (fun (e : Nat × HistX) => e.2.order) (wHi.waiting 0) = [(3, witHist)])
    ∧ (wHi.canShare 0 witHist.cls witHist.need = true ∧ wHi.burstToCome witHist = true)
    ∧ (∀ e ∈ wHi.waiting 0, wHi.cycleBefore (wHi.waitUntil e.2) = true)
    ∧ (sortBy (fun (e : Nat × HistX) => e.2.order) (wHiL.waiting 0) = [(3, witHist)])
    ∧ (wHiL.canShare 0 witHist.cls witHist.need = true ∧ wHiL.burstToCome witHist = false)
    ∧ (∀ e ∈ wHiL.waiting 0, wHiL.cycleBefore (wHiL.waitUntil e.2) = true) := by
  refine ⟨?_, ?_, ?_, ?_, ?_, ?_⟩ <;> decide +kernel
theorem wit_HistPool2 : (minBy (fun e => wHi.waitUntil e.2) (wHi.waiting 0) = some (3, witHist))
    ∧ ((minBy (fun e => e.2.closeKey) (wHiG.hists.filter (fun e => e.2.bay == 47 && e.2.st == .granted))).map (·.1) = some 3)
    ∧ ((((wHiG.advanceTo ((witHist.closeTick + 255) / 256)).lateCaptures 3 witHist).hist? 3).map (fun g => (g.cross, g.launched)) = some (none, 0))
    ∧ ((((wHiQ.advanceTo ((witHist.closeTick + 255) / 256)).lateCaptures 3 witHist).hist? 3).map (fun g => (g.cross, g.launched)) = some (none, 2))
    ∧ ((wHiD.bay 47).heldDesc.length = 1 ∧ (wHiD.bay 47).dq.length < min 32 (max 1 (wHiD.gf (F.QTR_QUEUE_DEPTH_DEPTH (47 / 12)))))
    ∧ ((wit [(F.POOL_ECC_STATUS_SPARE_IN_USE 3, 1)]).on (F.POOL_ECC_STATUS_SPARE_IN_USE 3) = true) := by
  refine ⟨?_, ?_, ?_, ?_, ?_, ?_⟩ <;> decide +kernel
theorem wit_HistPool3 : ((wit []).on (F.POOL_ECC_STATUS_SPARE_IN_USE 3) = false ∧ (wit []).hists = [])
    ∧ (((((((({ wit [] with hists := [(3, { witHist with bay := 47, chunks := [4095] })] } : Dev).raise (C.POOL_ECC_UNCORRECTED 3) 32).raise (C.POOL_SPARE_NEEDED 3) 32).wear 3 131).event (E.POOL_SPARE_NEEDED 3)).incSat (F.POOL_ECC_STATUS_UNCORRECTED 3)).hists.find? (fun e => e.2.region == 3 && e.2.chunks.contains 4095)).map (·.1) = some 3) := by
  refine ⟨?_, ?_⟩ <;> decide +kernel

/-! ### EnginePosts -/

def wPeak (t c s : Nat) : Peak := { time := t, count := c, snr := s, width := 1000, plateau := 0, tot16 := 10, entries := 0, subShare := 0, burstShare := 0 }
def wKern (ch rs : List Nat) : Dev := { wit [] with hists := [(3, witHist)], engs := [(511, { run := some { sky := false, id := 3, frame := 0, chain := ch, takenAt := 0, records := rs, kern := { peaks := [wPeak 640 100 100, wPeak 700 50 60] } } })] }
def wRunOwn : Dev := { wit [] with engs := [(0, { run := some { sky := false, id := 3, frame := 0, chain := [200], takenAt := 0 } })] }
def wRunFull : Dev := { wit [] with engs := [(0, { run := some { sky := false, id := 3, frame := 0, chain := [200], takenAt := 0, records := [1, 2, 3, 4], consumed := true } })] }
theorem wit_EnginePosts1 : (((wRunOwn.atStage 0 0).running? 0).map (fun r => (r.sky, r.kern.recs, r.kern.dwells, r.kern.caps)) = some (false, [], [], []))
    ∧ (((wRunOwn.atStage 0 0).running? 0).map (fun r => (r.stage, decide (0 < r.chain.length), decide (r.records.length < 4), r.consumed)) = some (0, true, true, false))
    ∧ (((wRunFull.atStage 0 0).running? 0).map (fun r => (r.sky, r.kern.recs, r.kern.dwells, r.kern.caps)) = some (false, [], [], []))
    ∧ (((wRunFull.atStage 0 0).running? 0).map (fun r => (r.stage, decide (4 ≤ r.records.length), r.consumed)) = some (0, true, true))
    ∧ ((((wKern [6] []).atStage 511 0).running? 511).map (fun r => (r.kern.recs.length, r.records.length)) = some (2, 0) ∧ (((wKern [6] [1, 2, 3, 4]).atStage 511 0).running? 511).map (fun r => (r.kern.recs.length, r.records.length)) = some (2, 4))
    ∧ ((((wKern [7] []).atStage 511 0).running? 511).map (fun r => r.kern.dwells.length) = some 1 ∧ (((wKern [2] []).atStage 511 0).running? 511).map (fun r => r.kern.caps.length) = some 1) := by
  refine ⟨?_, ?_, ?_, ?_, ?_, ?_⟩ <;> decide +kernel
theorem wit_EnginePosts2 : (999 < max 1000 (wRunOwn.gf (F.CLU_CYCLE_LIMIT_LIMIT 0)) ∧ wRunOwn.running? 0 ≠ none) := by
  decide +kernel

/-! ### EngineTraps -/

def wTrap : Dev := { wit [(F.PAGE_STATE_POWER (.clu 0), 2), (F.PAGE_STATE_POWER (.clu 31), 2), (F.CLU_ENG_STATUS_STATE 0 15, 5), (F.CLU_CTRL_AUTO_RELEASE 31, 1), (F.CLU_CTRL_AUTO_RELEASE 0, 0)] with engs := [(511, { run := some { sky := false, id := 3, frame := 0, chain := [200], takenAt := 0 } }), (7, { run := some { sky := false, id := 4, frame := 0, chain := [200], takenAt := 0 } })] }
def wTrapD (e cause : Nat) : Dev :=
  let b := (wTrap.runTo e 0).postRest e
  let c := (b.countCycles (cluOf e) 0).trapLog e cause 0 200
  (((c.endRun e ((c.eng e).trapMem 0)).setEngState e 3).histGap 3 2 e).countTrap e 200
theorem wit_EngineTraps1 : ((((wTrap.runTo 511 0).postRest 511).running? 511).map (·.sky) = some false ∧ (((wTrap.runTo 7 0).postRest 7).running? 7).map (·.sky) = some false)
    ∧ ((wTrapD 511 0).on (F.CLU_CTRL_AUTO_RELEASE 31) = true ∧ (wTrapD 7 0).on (F.CLU_CTRL_AUTO_RELEASE 0) = false ∧ 5 ≤ (6 : Fin 7).val)
    ∧ (wTrap.takes .pcie (.clu (wTrap.regionPage 0)) ∧ wTrap.takes .chain (.clu (wTrap.regionPage 3)) ∧ (255#8 : BitVec 8) ≠ 0#8)
    ∧ (wTrap.takes .pcie (.clu 31) ∧ wTrap.engState 15 = 5 ∧ wTrap.takes .pcie (.clu 0))
    ∧ ((wit [(F.PAGE_STATE_RUN (.clu 31), 2)]).run (.clu 31) = rHeld ∧ (wit []).on F.SEC_STATUS_BAR2_CLOSED = false ∧ (0x3E00000#26 : BitVec 26).toNat = 31 * 0x200000 + 4 * 0)
    ∧ ((0x3E3FFFC#26 : BitVec 26).toNat = 31 * 0x200000 + 4 * 0xFFFF ∧ fget mem0 ([(0xFFFF, some 5#32)] : FMap (Option Word)) 0xFFFF = some 5#32) := by
  refine ⟨?_, ?_, ?_, ?_, ?_, ?_⟩ <;> decide +kernel
theorem wit_EngineTraps2 : ((wit [(F.SEC_STATUS_BAR2_CLOSED, 1)]).on F.SEC_STATUS_BAR2_CLOSED = true) := by
  decide +kernel

/-! ### WaveCaptures -/

def wCapI (src : Nat) : Dev := { wit [] with bays := [(47, { wave := { inFlight := [{ source := src, ch := 0, start := 0, len := 8 }] } })] }
def wCapB : Dev := wit [(F.PAGE_STATE_POWER (.bay 47), 2), (F.BAY_WAVE_STATUS_STATE 47, 2), (F.BAY_WAVE_STATUS_CAL_BUSY 47, 1), (F.BAY_CH_STATUS_STATE 47 7, 0)]
def wCapD : Dev := { wCapB with bays := [(47, { wave := { hostCap := some { source := srcHost, ch := 0, start := 0, len := 8 } } })] }
theorem wit_WaveCaptures1 : (((wCapI srcHalo).wave 47).inFlight.map (fun c => (c.lost, c.source)) = [(false, srcHalo)] ∧ ((wCapI srcHost).wave 47).inFlight.map (fun c => (c.lost, c.source)) = [(false, srcHost)])
    ∧ (((wCapI srcCal).wave 47).inFlight.map (fun c => (c.lost, c.source)) = [(false, srcCal)] ∧ ((wCapI srcEngine).wave 47).inFlight.map (fun c => (c.lost, c.source)) = [(false, srcEngine)])
    ∧ (wCapB.waveState 47 = 2 ∧ wCapB.on (F.BAY_WAVE_STATUS_CAL_BUSY 47) = true ∧ (wCapB.wave 47).inFlight = [])
    ∧ (wCapB.takes .pcie (.bay 47) ∧ (wCapB.wave 47).hostBusy = false ∧ wCapB.streamState ≠ 1)
    ∧ ((wCapB.sf F.STREAM_STATUS_STATE 1).streamState = 1 ∧ (wCapB.sf F.STREAM_STATUS_STATE 1).takes .pcie (.bay 47) ∧ (wCapB.sf F.STREAM_STATUS_STATE 1).waveState 47 = 2)
    ∧ ((wCapB.wave 47).urgent.length < 4 ∧ (wCapB.sf F.STREAM_STATUS_STATE 1).chActive 47 (bits (0xB8000000#32) 27 3) = true ∧ bits (0xB8000000#32) 30 1 = 0) := by
  refine ⟨?_, ?_, ?_, ?_, ?_, ?_⟩ <;> decide +kernel
theorem wit_WaveCaptures2 : (wCapD.takes .pcie (.bay 47) ∧ wCapD.waveState 47 = 2 ∧ (wCapD.wave 47).hostBusy = true)
    ∧ ((wCapD.wave 47).hostCap.map (fun c => wCapD.stream.hasRoom kSnapshot ((wCapD.hostSlices 47 c).foldl (fun n p => n + 32 + (p.2.length + 15) / 16 * 16) 0)) = some true)
    ∧ (({ buf := [], wait := [{ kind := kSnapshot, source := 4, seq := 0, frame := 0, unit := 0, payload := [] }] } : StreamX).hasRoom kSnapshot 48 = false) := by
  refine ⟨?_, ?_, ?_⟩ <;> decide +kernel

/-! ### WavePower -/

def wWp (st en : Nat) : Dev := wit [(F.PAGE_STATE_POWER (.bay 0), 2), (F.BAY_WAVE_STATUS_STATE 0, st), (F.BAY_WAVE_CTRL_EN 0, en)]
theorem wit_WavePower : ((wWp 2 1).takes .pcie (.bay 0) ∧ (wWp 2 1).waveState 0 = 2 ∧ (wWp 2 1).on (F.BAY_WAVE_CTRL_EN 0) = true ∧ ((wWp 2 1).wave 0).held = [])
    ∧ ((wWp 0 0).takes .pcie (.bay 0) ∧ (wWp 0 0).waveState 0 = 0 ∧ (wWp 0 0).run (.bay 0) ≠ rPaused ∧ (wWp 0 0).on (F.BAY_WAVE_CTRL_EN 0) = false)
    ∧ ((wWp 3 0).waveState 0 = 3 ∧ ((wWp 3 0).wave 0).inFlight = [] ∧ (wWp 3 0).on (F.BAY_WAVE_STATUS_REENABLE_PENDING 0) = false)
    ∧ (((wWp 3 1).sf (F.BAY_WAVE_STATUS_REENABLE_PENDING 0) 1).waveState 0 = 3 ∧ ((wWp 3 1).sf (F.BAY_WAVE_STATUS_REENABLE_PENDING 0) 1).on (F.BAY_WAVE_STATUS_REENABLE_PENDING 0) = true)
    ∧ ((wWp 1 1).waveState 0 = 1 ∧ ((wWp 1 1).wave 0).offPend = false) := by
  refine ⟨?_, ?_, ?_, ?_, ?_⟩ <;> decide +kernel

/-! ### SkyFrames -/

def wSky : Dev := { wit [(F.PAGE_STATE_POWER .sky, 2)] with frames := [{ witFrame with scanClosed := true, regs := (wit [(F.SKY_CTRL_EN, 1)]).regs }] }
def wSkyC : Dev := { wit [(F.PAGE_STATE_POWER .sky, 2), (F.SHADOW_CTRL_ARMED .sky, 1), (F.SHADOW_CTRL_OWNER .sky, 1)] with stream := { blocks := [{ source := 4, frame := 0, recs := [], firstAt := 0 }], signPend := [⟨0, 9, 1, true⟩] } }
def wSkyX : Dev := { wit [(F.SKY_CTRL_EN, 0)] with frames := [{ witFrame with scanClosed := true, skyPublished := true }] }
theorem wit_SkyFrames1 : ((wSky.frames.find? (fun f => Dev.unpublished f && wSky.skyDone f)).map (·.num) = some 0)
    ∧ (wSkyC.takes .pcie .sky)
    ∧ (expoPages.filter (fun g => wSkyC.holdsSet g .pcie) = [.sky] ∧ wSkyC.gf (F.SHADOW_CTRL_MODE .sky) ≠ 2 ∧ wSkyC.on F.EMIT_STARLINE_STATUS_PRELOAD_BUSY = false)
    ∧ ((wSkyC.stream.blocks.find? (fun b => b.source == 4 && b.frame == 0)).map (·.source) = some 4 ∧ wSkyC.stream.signPend = [⟨0, 9, 1, true⟩])
    ∧ ((wSkyX.frames.find? (fun f => !f.closed)).map (fun f => (f.num, f.scanClosed, Dev.unpublished f, wSkyX.frameDone f)) = some (0, true, false, true))
    ∧ (((wSkyX.advanceTo 0).frame? 0).map (fun f => Dev.unpublished f) = some false ∧ wSkyX.hists = [] ∧ wSkyX.ambs = []) := by
  refine ⟨?_, ?_, ?_, ?_, ?_, ?_⟩ <;> decide +kernel
theorem wit_SkyFrames2 : ((({ wSkyX with hists := [(3, witHist)] } : Dev).hists.any (fun h => h.2.frame == 0)) = true)
    ∧ (((wSky.advanceTo 0).frame? 0).map (fun f => Dev.unpublished f) = some true ∧ (wSky.frames.find? (fun f => !f.closed)).map (fun f => f.scanClosed) = some true) := by
  refine ⟨?_, ?_⟩ <;> decide +kernel

/-! ### StreamFlow -/

def wStrF (k st : Nat) : Dev :=
  { wit [(F.PAGE_STATE_POWER .stream, 2), (F.STREAM_STATUS_STATE, st)] with reqs := [(1, { sFences := List.replicate k ⟨5, 0, none, 0⟩ })] }
def wStrR : Dev := { wit [(F.STREAM_RING_SIZE_LOG2, 16), (F.HOST_LINK_STATUS_DL_UP, 1), (F.STREAM_COALESCE_COUNT, 3)] with stream := { buf := [{ kind := 0, source := 0, seq := 0, frame := 0, unit := 0, payload := [1#32] }], unsignalled := 1 } }
def wStrD : Dev := { wit [] with stream := { dgram := [(1, [{ kind := 0, source := 0, seq := 0, frame := 0, unit := 0, payload := [1#32] }])] } }
def wStrPad : Packet := { kind := kPad, source := srcChip, seq := 0, frame := 0, unit := wStrR.unit, payload := [] }
theorem wit_StreamFlow1 : ((wStrF 1 1).takes .pcie .stream ∧ ((wStrF 1 1).req .pcie).sFences = [⟨5, 0, none, 0⟩] ∧ (wStrF 1 1).fenceReady ⟨5, 0, none, 0⟩ = true ∧ (wStrF 1 1).streamState = 1)
    ∧ ((wStrF 4 1).takes .pcie .stream ∧ ((wStrF 4 1).req .pcie).sFences.length = 4)
    ∧ ((wStrF 0 0).takes .net0 .stream ∧ (wStrF 0 0).streamState = 0)
    ∧ ((wStrF 0 0).on F.STREAM_CTRL_EN = false ∧ ((wStrF 0 1).sf F.STREAM_CTRL_EN 1).on F.STREAM_CTRL_EN = true ∧ ((wStrF 0 1).sf F.STREAM_CTRL_EN 1).takes .net0 .stream ∧ ((wStrF 0 1).sf F.STREAM_CTRL_EN 1).streamState = 1)
    ∧ (((wStrF 0 0).sf F.STREAM_CTRL_EN 1).on F.STREAM_CTRL_EN = true ∧ ((wStrF 0 0).sf F.STREAM_CTRL_EN 1).takes .net0 .stream ∧ ((wStrF 0 0).sf F.STREAM_CTRL_EN 1).streamState = 0)
    ∧ ((wStrF 0 2).streamState = 2 ∧ (wStrF 0 2).frames = [] ∧ (wStrF 0 2).stream.buf = [] ∧ (wStrF 0 2).stream.wait = [] ∧ (wStrF 0 2).stream.signPend = [] ∧ (wStrF 0 2).stream.dgram = []) := by
  refine ⟨?_, ?_, ?_, ?_, ?_, ?_⟩ <;> decide +kernel
theorem wit_StreamFlow2 : (wStrR.stream.buf.map (·.bytes) = [16] ∧ wStrR.stream.dead = false ∧ wStrR.gf F.STREAM_CTRL_TRANSPORT ≠ 1 ∧ wStrR.gf F.STREAM_CTRL_TRANSPORT ≠ 2 ∧ wStrR.on F.HOST_LINK_STATUS_DL_UP = true)
    ∧ (wStrR.ringUsed + 32 ≤ wStrR.ringSize ∧ wStrR.gf F.STREAM_RING_WPTR_PTR + 16 ≤ wStrR.ringSize ∧ wStrR.stream.unsignalled + 1 < max 1 (wStrR.gf F.STREAM_COALESCE_COUNT))
    ∧ (max 1 ((wStrR.sf F.STREAM_COALESCE_COUNT 2).gf F.STREAM_COALESCE_COUNT) = wStrR.stream.unsignalled + 1)
    ∧ (((wStrR.sf F.STREAM_RING_WPTR_PTR 65535).sf F.STREAM_RING_RPTR_PTR 65535).ringUsed = 0 ∧ (wStrR.sf F.STREAM_RING_WPTR_PTR 65535).ringSize < 65535 + 16 ∧ (((wStrR.sf F.STREAM_RING_RPTR_PTR 65535).send (.dma 0 wStrPad.header)).sf F.STREAM_RING_WPTR_PTR 0).ringUsed + 32 ≤ 65536)
    ∧ ((wStrR.sf F.STREAM_RING_RPTR_PTR 1).ringSize < (wStrR.sf F.STREAM_RING_RPTR_PTR 1).ringUsed + 32)
    ∧ ((wStrF 0 0).ringSize ≤ (0x80000000#32).toNat ∧ ((wStrF 0 0).sf F.STREAM_RING_SIZE_LOG2 16).ringSize = 65536 ∧ 65535 < ((wStrF 0 0).sf F.STREAM_RING_SIZE_LOG2 16).ringSize) := by
  refine ⟨?_, ?_, ?_, ?_, ?_, ?_⟩ <;> decide +kernel
theorem wit_StreamFlow3 : (wStrR.stream.unsignalled ≠ 0 ∧ (fget dgram0 wStrD.stream.dgram 1).isEmpty = false) := by
  decide +kernel

/-! ### HostLinks -/

def wHl : Dev := wit [(F.HOST_LINK_STATUS_DL_UP, 1), (F.PAGE_STATE_POWER .host, 2), (F.NET_STATUS_LINK_UP 1, 1), (F.NET_CTRL_EN 1, 1), (F.NET_CTRL_PAUSE_EN 1, 1), (F.PAGE_STATE_POWER (.lane 4), 2)]
def wHlU : Dev := (wHl.sf F.STREAM_CTRL_TRANSPORT 1)
theorem wit_HostLinks1 : (wHl.on F.HOST_LINK_STATUS_DL_UP = true ∧ wHl.on F.HOST_LINK_CTRL_TEST = false ∧ wHl.takes .pcie .host)
    ∧ (({ wHlU with host := {} }.raise C.HOST_FLR).gf F.STREAM_CTRL_TRANSPORT = 1)
    ∧ (({ wHl with host := {} }.raise C.HOST_FLR).gf F.STREAM_CTRL_TRANSPORT ≠ 1 ∧ ({ wHl with host := {} }.raise C.HOST_FLR).gf F.STREAM_CTRL_TRANSPORT ≠ 2 ∧ ({ wHl with host := {} }.raise C.HOST_FLR).streamState = 0)
    ∧ (({ wHl.sf F.STREAM_STATUS_STATE 1 with host := {} }.raise C.HOST_FLR).gf F.STREAM_CTRL_TRANSPORT ≠ 1 ∧ ({ wHl.sf F.STREAM_STATUS_STATE 1 with host := {} }.raise C.HOST_FLR).gf F.STREAM_CTRL_TRANSPORT ≠ 2 ∧ ({ wHl.sf F.STREAM_STATUS_STATE 1 with host := {} }.raise C.HOST_FLR).streamState = 1)
    ∧ (wHl.on (F.NET_STATUS_LINK_UP 1) = true ∧ wHl.on (F.NET_CTRL_EN 1) = true ∧ wHl.on (F.NET_CTRL_PAUSE_EN 1) = true)
    ∧ (wHl.on (F.NET_STATUS_LINK_UP 0) = false ∧ wHl.laneState (4 + 0) ≠ 7 ∧ wHl.isOn (.lane (4 + 0)) = true) := by
  refine ⟨?_, ?_, ?_, ?_, ?_, ?_⟩ <;> decide +kernel
theorem wit_HostLinks2 : ([] ≠ (wHl.inc (F.NET_RX_FRAMES_COUNT 1)).ownIp 1) := by
  decide +kernel

/-! ### RaPackets -/

def wRa : Dev := { wit [(F.NET_STATUS_LINK_UP 1, 1), (F.NET_CTRL_EN 1, 1), (F.NET_CTRL_RA_EN 1, 1), (F.NET_RA_PORT_PORT 1, 700), (F.NET_RA_SRC_EN_EN 1, 1)] with answered := [{ src := 0, seq := 9, op := 3, answer := some (0, []) }] }
def wRaB : Dev := wRa.rxFrame 1
theorem wit_RaPackets_read : ∀ e ∈ ((wRaB.noteRequest { port := 1, op := 1, unit := 0, seq := 5, src := 0 }).readAll .net1 [0x40#32]).1,
    e.2.isSome = true := by
  have h : (wRaB.noteRequest { port := 1, op := 1, unit := 0, seq := 5, src := 0 }).armBlocked .net1 = false := by decide +kernel
  simp [Dev.readAll, h]
theorem wit_RaPackets1 : (wRa.on (F.NET_STATUS_LINK_UP 1) = true ∧ wRa.on (F.NET_CTRL_EN 1) = true)
    ∧ (wRaB.on (F.NET_CTRL_RA_EN 1) = true ∧ 700 = wRaB.gf (F.NET_RA_PORT_PORT 1) ∧ wRaB.raSource 1 0 = true)
    ∧ (wRaB.answered.find? (fun a => a.src == 0 && a.seq == 5) = none ∧ wRaB.raSource 1 77 = false)
    ∧ ((wRaB.answered.find? (fun a => a.src == 0 && a.seq == 9)).map (·.answer) = some (some (0, [])))
    ∧ (((wRaB.noteRequest { port := 1, op := 3, unit := 0, seq := 5, src := 0 }).req .net1).fences.length < 8)
    ∧ (((((wRaB.sf F.CHAIN_CTRL_POLE 1).sf F.CHAIN_STATUS_ADDR 1).sf F.CHAIN_UNITS_N 2).sf F.CHAIN_UNITS_A_LAST 2).hopOf 2 = some 1) := by
  refine ⟨?_, ?_, ?_, ?_, ?_, ?_⟩ <;> decide +kernel
theorem wit_RaPackets2 : (((((wRaB.sf F.CHAIN_CTRL_POLE 1).sf F.CHAIN_STATUS_ADDR 1).sf F.CHAIN_UNITS_N 2).sf F.CHAIN_UNITS_A_LAST 2).pole = true)
    ∧ (((((wRaB.sf F.CHAIN_CTRL_POLE 1).sf F.CHAIN_STATUS_ADDR 1).sf F.CHAIN_UNITS_N 2).sf F.CHAIN_UNITS_A_LAST 2).unit ≠ 2)
    ∧ (({ wit [] with reports := [{ origin := .res, bit := 0, word := 0, sev := .info, at_ := .res }] } : Dev).reports.length = 1)
    ∧ (Report.next { origin := .res, bit := 0, word := 0, sev := .info, at_ := .res } = some .chip)
    ∧ ((C.CLU_PARAM_MISMATCH 31).bit ≠ 29 ∧ Page.ok (.clu 31) = true) := by
  refine ⟨?_, ?_, ?_, ?_, ?_⟩ <;> decide +kernel

/-! ### LaneAlign -/

def wLa : Dev := wit [(F.PAGE_STATE_POWER (.lane 6), 2), (F.PAGE_STATE_POWER (.lane 11), 2)]
def wLaD : Dev := { wit [(F.LANE_LINK_STATUS_STATE 6, 4), (F.LANE_LINK_STATUS_STATE 7, 4), (F.LANE_LINK_STATUS_ROLE 6, 0), (F.LANE_LINK_STATUS_ROLE 7, 1)] with lanes := [(7, { mark := some (9, 500) })] }
theorem wit_LaneAlign1 : (wLa.isOn (.lane 6) = true ∧ ((wLa.sf (F.LANE_LINK_STATUS_LOS 6) 0).sf (F.LANE_LINK_STATUS_STATE 6) 4).on (F.LANE_LINK_STATUS_LOS 6) = false ∧ wLa.on (F.LANE_LINK_STATUS_RX_ASLEEP 6) = false ∧ (wLa.laneX 6).notice = false ∧ (wLa.sf (F.LANE_LINK_STATUS_STATE 6) 4).laneState 6 = 4)
    ∧ (wLa.isOn (.lane 11) = true ∧ ((wLa.sf (F.LANE_LINK_STATUS_LOS 11) 1).sf (F.LANE_LINK_STATUS_STATE 11) 1).on (F.LANE_LINK_STATUS_LOS 11) = true ∧ (((wLa.sf (F.LANE_LINK_STATUS_LOS 11) 1).sf (F.LANE_LINK_STATUS_STATE 11) 1).sf (F.LANE_LINK_STATUS_RX_ASLEEP 11) 0).on (F.LANE_LINK_STATUS_RX_ASLEEP 11) = false ∧ wLa.on (F.LANE_LINK_STATUS_REMOTE_SLEEP 11) = false ∧ (wLa.laneX 11).attempt = none)
    ∧ ((wLa.sf (F.LANE_LINK_STATUS_STATE 11) 2).laneState 11 = 2 ∧ (wLa.sf (F.LANE_LINK_STATUS_STATE 11) 2).on (F.LANE_LANE_CTRL_MANUAL_ALIGN 11) = false)
    ∧ ((wLa.sf (F.LANE_LANE_CTRL_MANUAL_ALIGN 11) 1).on (F.LANE_LANE_CTRL_MANUAL_ALIGN 11) = true ∧ ((wLa.sf (F.LANE_LANE_CTRL_MANUAL_ALIGN 11) 1).sf (F.LANE_LINK_STATUS_STATE 11) 2).laneState 11 = 2)
    ∧ ((((((wLa.sf (F.LANE_LINK_STATUS_BLOCK_LOCK 6) 1).sf (F.LANE_LINK_STATUS_STATE 6) 4).sf (F.LANE_LINK_STATUS_LOS 6) 1).sf (F.LANE_LINK_STATUS_BLOCK_LOCK 6) 0).inc (F.LANE_SYNC_HDR_ERR_COUNT 6) 16).on (F.LANE_LINK_STATUS_LOS 6) = true)
    ∧ ((((((wLa.sf (F.LANE_LINK_STATUS_BLOCK_LOCK 6) 1).sf (F.LANE_LINK_STATUS_STATE 6) 3).sf (F.LANE_LINK_STATUS_LOS 6) 0).sf (F.LANE_LINK_STATUS_BLOCK_LOCK 6) 0).inc (F.LANE_SYNC_HDR_ERR_COUNT 6) 16).on (F.LANE_LINK_STATUS_LOS 6) = false) := by
  refine ⟨?_, ?_, ?_, ?_, ?_, ?_⟩ <;> decide +kernel
theorem wit_LaneAlign2 : (min 16 ((({ wLa with lanes := [(6, { ackRx := 15 })] } : Dev).laneX 6).ackRx + 1) = 16 ∧ min 16 ((wLa.laneX 6).ackRx + 1) ≠ 16 ∧ (wLa.role 6 + 1) ≠ wLa.role 6)
    ∧ ((((wLa.sf (F.LANE_LINK_STATUS_BLOCK_LOCK 6) 1).sf (F.LANE_LINK_STATUS_BLOCK_LOCK 6) 0).sf (F.LANE_LINK_STATUS_STATE 6) 4).laneState 6 = 4 ∧ (wLa.sf (F.LANE_LINK_STATUS_BLOCK_LOCK 6) 1).on (F.LANE_LINK_STATUS_BLOCK_LOCK 6) = true)
    ∧ ((wLa.sf (F.LANE_LINK_STATUS_STATE 6) 3).laneState 6 = 3 ∧ (wLa.link (portOf 6)).names = none ∧ ((wLa.sf (F.LANE_LINK_STATUS_ROLE 6) 2).role 6 == 2) = true ∧ wLa.role 6 = wLa.role 6)
    ∧ (wLaD.laneUp 6 = true ∧ ((portLanes (portOf 6)).filter (fun k => decide (k ≠ 6) && (wLaD.setLaneX 6 { wLaD.laneX 6 with mark := some (9, 800) }).laneUp k)).head? = some 7 ∧ ((wLaD.setLaneX 6 { wLaD.laneX 6 with mark := some (9, 800) }).laneX 7).mark = some (9, 500) ∧ max 800 500 - min 800 500 ≤ 300) := by
  refine ⟨?_, ?_, ?_, ?_⟩ <;> decide +kernel

/-! ### LaneAttempts -/

def wLt : Dev := { wit [(F.PAGE_STATE_POWER (.lane 8), 2), (F.LANE_LINK_STATUS_ROLE 8, 2), (F.LANE_LINK_STATUS_STATE 11, 1), (F.LANE_LINK_TIMING_WAIT_NOW 11, 128)] with lanes := [(6, { attempt := some 0, wakeTx := true, wakeRx := true })] }
theorem wit_LaneAttempts1 : ((wLt.laneX 6).attempt = some 0 ∧ min 15 (wLt.gf (F.LANE_LINK_STATUS_ATTEMPTS 6) + 1) < 3 ∧ 3 < min 15 ((wLt.sf (F.LANE_LINK_STATUS_ATTEMPTS 6) 15).gf (F.LANE_LINK_STATUS_ATTEMPTS 6) + 1))
    ∧ (3 < min 15 ((wLt.sf (F.LANE_LINK_STATUS_ATTEMPTS 6) 15).gf (F.LANE_LINK_STATUS_ATTEMPTS 6) + 1) ∧ ((wLt.sf (F.LANE_LINK_STATUS_ATTEMPTS 6) 15).laneX 6).attempt = some 0)
    ∧ ((wLt.sf (F.LANE_LINK_STATUS_ATTEMPTS 6) 2).gf (F.LANE_LINK_STATUS_ATTEMPTS 6) = 2 ∧ ((portLanes (portOf 6)).filter (fun m => decide (m ≠ 6) && wLt.laneUp m)) = [])
    ∧ ((wLt.laneX 11).attempt = none ∧ wLt.gf (F.LANE_LINK_TIMING_WAIT_NOW 11) = 128 ∧ wLt.laneState 11 = 1)
    ∧ ((wLt.laneX 6).wakeTx = true ∧ (wLt.laneX 6).wakeRx = true)
    ∧ (((wLt.setLaneX 6 { wLt.laneX 6 with wakeTx := false }).sf (F.LANE_LINK_STATUS_TX_ASLEEP 6) 0).on (F.LANE_LINK_STATUS_BLOCK_LOCK 6) = false) := by
  refine ⟨?_, ?_, ?_, ?_, ?_, ?_⟩ <;> decide +kernel
theorem wit_LaneAttempts2 : ((((wLt.sf (F.LANE_LINK_STATUS_BLOCK_LOCK 6) 1).setLaneX 6 { (wLt.sf (F.LANE_LINK_STATUS_BLOCK_LOCK 6) 1).laneX 6 with wakeTx := false }).sf (F.LANE_LINK_STATUS_TX_ASLEEP 6) 0).on (F.LANE_LINK_STATUS_BLOCK_LOCK 6) = true)
    ∧ (((({ (wLt.sf (F.LANE_LINK_STATUS_TX_ASLEEP 6) 0) with lanes := [(6, { wakeRx := true })] } : Dev)).laneX 6).wakeRx = true ∧ (wLt.sf (F.LANE_LINK_STATUS_TX_ASLEEP 6) 0).on (F.LANE_LINK_STATUS_TX_ASLEEP 6) = false ∧ (wLt.sf (F.LANE_LINK_STATUS_TX_ASLEEP 6) 1).on (F.LANE_LINK_STATUS_TX_ASLEEP 6) = true)
    ∧ ((wLt.sf (F.LANE_LINK_STATUS_STATE 0) 4).laneState 0 = 4 ∧ wLt.gf (F.LANE_MARGIN_MIN_WIDTH 0) ≤ 255 ∧ 0 < (wLt.sf (F.LANE_MARGIN_MIN_WIDTH 0) 1).gf (F.LANE_MARGIN_MIN_WIDTH 0))
    ∧ ((wLt.laneX 0).lowRun + 1 ≠ max 1 (wLt.gf F.RES_WEAR_CFG_MARGIN_SECS))
    ∧ ((wit [(F.LANE_LINK_STATUS_STATE 0, 7), (F.LANE_LANE_CTRL_LOOPBACK 0, 2)]).laneState 0 = 7 ∧ (wit [(F.LANE_LINK_STATUS_STATE 0, 7), (F.LANE_LANE_CTRL_LOOPBACK 0, 2)]).gf (F.LANE_LANE_CTRL_LOOPBACK 0) = 2 ∧ (wit [(F.LANE_LINK_STATUS_STATE 0, 7)]).on (F.LANE_PRBS_CTRL_CHK_EN 0) = false)
    ∧ ((wit [(F.LANE_LINK_STATUS_STATE 0, 7), (F.LANE_PRBS_CTRL_CHK_EN 0, 1)]).gf (F.LANE_LANE_CTRL_LOOPBACK 0) % 3 = 0) := by
  refine ⟨?_, ?_, ?_, ?_, ?_, ?_⟩ <;> decide +kernel
theorem wit_LaneAttempts3 : ((portLanes 0).find? (fun n => wLt.role n == 2) = some 8 ∧ wLt.isOn (.lane 8) = true)
    ∧ (((wit [(F.LANE_LINK_STATUS_STATE 6, 4), (F.LANE_LINK_STATUS_ROLE 6, 0)]).laneUp 6) = true)
    ∧ ((wit [(F.LANE_LINK_STATUS_STATE 0, 7), (F.LANE_PRBS_CTRL_CHK_EN 0, 1)]).laneState 0 = 7 ∧ (wit [(F.LANE_LINK_STATUS_STATE 0, 7), (F.LANE_PRBS_CTRL_CHK_EN 0, 1)]).on (F.LANE_PRBS_CTRL_CHK_EN 0) = true ∧ ((wit [(F.LANE_LINK_STATUS_STATE 0, 7), (F.LANE_PRBS_CTRL_CHK_EN 0, 1)]).prbsSync 0).on (F.LANE_PRBS_STATUS_LOCK 0) = false ∧ ((wit [(F.LANE_LINK_STATUS_STATE 0, 7), (F.LANE_PRBS_CTRL_CHK_EN 0, 1), (F.LANE_PRBS_STATUS_LOCK 0, 1)]).prbsSync 0).on (F.LANE_PRBS_STATUS_LOCK 0) = true) := by
  refine ⟨?_, ?_, ?_⟩ <;> decide +kernel

/-! ### LaneControls -/

def wLc : Dev := wit [(F.PAGE_STATE_POWER (.lane 6), 2), (F.PAGE_STATE_POWER (.lane 11), 2), (F.LANE_LINK_STATUS_TX_ASLEEP 6, 0), (F.LANE_LANE_CTRL_TX_SLEEP 6, 0), (F.LANE_LANE_CTRL_RX_SLEEP 6, 0)]
def wLcS : Dev := wit [(F.PAGE_STATE_POWER (.lane 6), 2), (F.LANE_LINK_STATUS_TX_ASLEEP 6, 1), (F.LANE_LANE_CTRL_TX_SLEEP 6, 1), (F.LANE_LINK_STATUS_STATE 6, 6), (F.LANE_LANE_CTRL_RX_SLEEP 6, 1), (F.LANE_LINK_STATUS_RX_ASLEEP 6, 1), (F.LANE_LANE_CTRL_TEST 6, 1)]
def wLcU : Dev := wit [(F.PAGE_STATE_POWER (.lane 6), 2), (F.LANE_LINK_STATUS_STATE 6, 4), (F.LANE_LINK_STATUS_ROLE 6, 0)]
def wLcT (l : Nat) : Dev := wit [(F.PAGE_STATE_POWER (.lane 11), 2), (F.LANE_LINK_STATUS_STATE 11, 7), (F.LANE_PRBS_CTRL_GEN_EN 11, 1), (F.LANE_LANE_CTRL_LOOPBACK 11, l)]
theorem wit_LaneControls1 : (wLc.takes .pcie (.lane 6) ∧ wLc.takes .net1 (.lane 11))
    ∧ (wLc.on (F.LANE_LANE_CTRL_TX_SLEEP 6) = false ∧ wLc.on (F.LANE_LINK_STATUS_TX_ASLEEP 6) = false ∧ wLc.on (F.LANE_LANE_CTRL_RX_SLEEP 6) = false)
    ∧ ((wLc.sf (F.LANE_LINK_STATUS_STATE 6) 0).laneState 6 ≠ 6 ∧ (wLc.sf (F.LANE_LINK_STATUS_STATE 6) 0).laneState 6 ≠ 7)
    ∧ (wLcS.takes .pcie (.lane 6) ∧ wLcS.on (F.LANE_LANE_CTRL_TX_SLEEP 6) = true ∧ wLcS.on (F.LANE_LINK_STATUS_TX_ASLEEP 6) = true ∧ wLcS.laneState 6 = 6)
    ∧ (wLcS.on (F.LANE_LANE_CTRL_RX_SLEEP 6) = true ∧ wLcS.on (F.LANE_LINK_STATUS_RX_ASLEEP 6) = true ∧ wLcS.on (F.LANE_LANE_CTRL_TEST 6) = true)
    ∧ ((wLc.sf (F.LANE_LANE_CTRL_MANUAL_ALIGN 11) 1).takes .pcie (.lane 11) ∧ (wLc.sf (F.LANE_LANE_CTRL_MANUAL_ALIGN 11) 1).on (F.LANE_LANE_CTRL_MANUAL_ALIGN 11) = true) := by
  refine ⟨?_, ?_, ?_, ?_, ?_, ?_⟩ <;> decide +kernel
theorem wit_LaneControls2 : (wLc.on (F.LANE_LANE_CTRL_TEST 6) = false ∧ ¬ (wLc.laneUp 6 = true ∧ ((portLanes (portOf 6)).filter wLc.laneUp).length = 1))
    ∧ (wLcU.takes .pcie (.lane 6) ∧ wLcU.on (F.LANE_LANE_CTRL_TEST 6) = false ∧ wLcU.laneUp 6 = true ∧ ((portLanes (portOf 6)).filter wLcU.laneUp).length = 1)
    ∧ ((wLcT 3).takes .pcie (.lane 11) ∧ (wLcT 3).laneState 11 = 7 ∧ (wLcT 3).on (F.LANE_PRBS_CTRL_GEN_EN 11) = true ∧ (wLcT 3).gf (F.LANE_LANE_CTRL_LOOPBACK 11) % 3 = 0)
    ∧ ((wLcT 1).takes .pcie (.lane 11) ∧ (wLcT 1).laneState 11 = 7 ∧ (wLcT 1).on (F.LANE_PRBS_CTRL_GEN_EN 11) = true ∧ (wLcT 1).gf (F.LANE_LANE_CTRL_LOOPBACK 11) % 3 = 1) := by
  refine ⟨?_, ?_, ?_, ?_⟩ <;> decide +kernel

/-! ### ChainRound -/

def wCr : Dev := wit [(F.PAGE_STATE_POWER .chain, 2), (F.CHAIN_CTRL_POLE, 1), (F.CHAIN_STATUS_ADDR, 1)]
def wCrU : Dev := wit [(F.CHAIN_CTRL_POLE, 0), (F.CHAIN_STATUS_ADDR, 0)]
def wCrD : Dev := { wCrU with chain := { enumPort := some 0 } }
theorem wit_ChainRound1 : (wCr.takes .pcie .chain ∧ wCr.pole = true ∧ (wCr.sf (F.LANE_LINK_STATUS_PORT_WIDTH 6) 1).takes .pcie .chain ∧ (wCr.sf (F.LANE_LINK_STATUS_PORT_WIDTH 6) 1).carries 0 = true)
    ∧ (wCr.carries 0 = false ∧ (wCr.sf (F.LANE_LINK_STATUS_PORT_WIDTH 9) 1).carries 0 = false ∧ (wCr.sf (F.LANE_LINK_STATUS_PORT_WIDTH 9) 1).carries 1 = true ∧ (wCr.sf (F.LANE_LINK_STATUS_PORT_WIDTH 9) 1).takes .net0 .chain)
    ∧ (wCrU.takes .net1 .chain ∧ wCrU.pole = false ∧ wCrU.unit = 0 ∧ 2047 ≤ 2047 ∧ 2047 < 2048)
    ∧ (({ src := 2, dst := 1, args := [wCr.gf F.CHAIN_ROUND_ROUND, 2, 0] } : ChainMsg).args.getD 0 0 = wCr.gf F.CHAIN_ROUND_ROUND ∧ wCr.pole = true ∧ ({ src := 2, dst := 1, args := [wCr.gf F.CHAIN_ROUND_ROUND, 2, 0] } : ChainMsg).args.getD 2 0 % 2 = 0 ∧ ({ wCr with chain := { step := 1 } } : Dev).chain.step = 1 ∧ ({ wCr with chain := { step := 2 } } : Dev).chain.step = 2)
    ∧ (wCrD.pole = false ∧ wCrD.chain.enumPort = some 0 ∧ 0 ≠ (1 : Fin 2).val ∧ wCrD.gf F.CHAIN_ROUND_ROUND = 0)
    ∧ ((wCrU.sf F.CHAIN_STATUS_ADDR 3).pole = false ∧ 1 ≠ (wCrU.sf F.CHAIN_STATUS_ADDR 3).unit ∧ (wCrU.sf F.CHAIN_STATUS_ADDR 3).unit ≠ 0 ∧ (wCrU.sf F.CHAIN_STATUS_ADDR 3).gf F.CHAIN_ROUND_ROUND = 0) := by
  refine ⟨?_, ?_, ?_, ?_, ?_, ?_⟩ <;> decide +kernel
theorem wit_ChainRound2 : (wCr.unit ≠ 0 ∧ ({ src := 2, dst := 1, args := [0] } : ChainMsg).dst = wCr.unit ∧ ({ src := 1, dst := 7, args := [0, 1] } : ChainMsg).dst ≠ wCr.unit) := by
  decide +kernel

/-! ### ChainTime -/

def wCt : Dev := { wit [(F.CHAIN_CTRL_POLE, 0), (F.CHAIN_STATUS_ADDR, 2), (F.CHAIN_UNITS_N, 2), (F.CHAIN_UNITS_A_LAST, 2), (F.CHAIN_CTRL_ALIGN_EN, 1), (F.CHAIN_ALIGN_STATUS_STATE, 3), (F.TIME_STATUS_HOLDOVER, 0), (F.LANE_LINK_STATUS_PORT_WIDTH 6, 1), (F.TIME_CAL_CTRL_TAI_VALID, 1)] with chain := { enumPort := some 0, links := [(0, { t1 := some 1000, seq := 4, lane := 6 })] } }
def wCtP : Dev := wit [(F.CHAIN_CTRL_POLE, 1), (F.CHAIN_STATUS_ADDR, 1), (F.PAGE_STATE_POWER .time, 2), (F.TIME_CAL_CTRL_SRC, 0)]
def wCtB : Dev := ((wCt.setLink 0 { wCt.link 0 with t1 := none, missed := 0 }).si F.CHAIN_OFFSET_O (sat32 (wCt.exchange 0 1000 2000 2100 3100).1)).si F.CHAIN_DELAY_D (wCt.exchange 0 1000 2000 2100 3100).2
theorem wit_ChainTime : (wCt.carries 0 = true)
    ∧ ((wCt.link 0).t1 = some 1000 ∧ (wCt.link 0).seq = 4 ∧ (wCt.link 0).lane = wCt.timingLane 0 ∧ wCt.upstream = some 0 ∧ wCt.pole = false ∧ wCt.on F.CHAIN_CTRL_ALIGN_EN = true ∧ wCt.on F.TIME_STATUS_HOLDOVER = false ∧ wCt.gf F.CHAIN_ALIGN_STATUS_STATE = 3 ∧ (wCtB.discipline (wCt.exchange 0 1000 2000 2100 3100).1).now = wCt.now)
    ∧ (wCtP.pole = true ∧ wCtP.unit ≠ 0 ∧ wCtP.takes .pcie .time ∧ wCtP.on F.TIME_CAL_CTRL_SRC = false)
    ∧ (wCt.pole = false ∧ 1 ≠ wCt.unit ∧ wCt.on F.TIME_CAL_CTRL_TAI_VALID = true ∧ wCt.takes .net1 .time) := by
  refine ⟨?_, ?_, ?_, ?_⟩ <;> decide +kernel

/-! ### ChainAccess -/

def wCa : Dev := wit [(F.PAGE_STATE_POWER .chain, 2), (F.CHAIN_CTRL_POLE, 1), (F.CHAIN_STATUS_ADDR, 1), (F.CHAIN_UNITS_N, 2), (F.CHAIN_UNITS_A_LAST, 2)]
def wCaB : Dev := wCa.sfQ .pcie F.CHAIN_RA_CTRL_OP 1
theorem wit_ChainAccess1 : (wCa.takes .pcie .chain ∧ wCa.pole = true ∧ bits (3#32 : Word) 0 1 = 1 ∧ bits (3#32 : Word) 1 1 = 1 ∧ wCa.gfQ .pcie F.CHAIN_RA_STATUS_BUSY = 0 ∧ wCaB.hopOf (wCaB.gfQ .pcie F.CHAIN_RA_UNIT_UNIT) = none)
    ∧ ((wCa.sfQ .pcie F.CHAIN_RA_STATUS_BUSY 1).gfQ .pcie F.CHAIN_RA_STATUS_BUSY = 1 ∧ (wCa.sfQ .pcie F.CHAIN_RA_STATUS_BUSY 1).takes .pcie .chain)
    ∧ (wCa.gfQ .pcie F.CHAIN_RA_STATUS_BUSY = 0 ∧ bits (1#32 : Word) 0 1 = 1 ∧ bits (1#32 : Word) 1 1 = 0)
    ∧ (((wCa.sfQ .pcie F.CHAIN_RA_UNIT_UNIT 2).sfQ .pcie F.CHAIN_RA_CTRL_OP 1).hopOf (((wCa.sfQ .pcie F.CHAIN_RA_UNIT_UNIT 2).sfQ .pcie F.CHAIN_RA_CTRL_OP 1).gfQ .pcie F.CHAIN_RA_UNIT_UNIT) = some 1 ∧ (wCa.sfQ .pcie F.CHAIN_RA_UNIT_UNIT 2).gfQ .pcie F.CHAIN_RA_STATUS_BUSY = 0 ∧ (wCa.sfQ .pcie F.CHAIN_RA_UNIT_UNIT 2).takes .pcie .chain)
    ∧ ((wCa.sf F.CHAIN_CTRL_POLE 0).pole = false ∧ 2 ≠ wCa.unit ∧ 1 = wCa.unit)
    ∧ (raFormed 1 1 1 (raEntries [0x16040#32, 0#32]) = true ∧ raFormed 2 1 1 (raEntries [0x16040#32, 0#32]) = false ∧ (bits (0x01010001#32 : Word) 24 8 = 1 ∧ bits (0x01010001#32 : Word) 16 8 = 1)) := by
  refine ⟨?_, ?_, ?_, ?_, ?_, ?_⟩ <;> decide +kernel
theorem wit_ChainAccess2 : (({ wCa with chain := { remote := [{ req := .pcie, reply := none, unit := 2, seq := 7, op := 1, limit := 100 }] } } : Dev).chain.remote.find? (fun x => x.unit == 2 && x.seq == (([0#32, 7#32] : List Word).getD 1 0#32).toNat) ≠ none ∧ ({ wCa with chain := { remote := [{ req := .pcie, reply := none, unit := 2, seq := 7, op := 1, limit := 100 }] } } : Dev).chain.remote.find? (fun x => x.req == .pcie) ≠ none)
    ∧ (((wCa.sf F.CHAIN_CONFIG_AT_LO_NS 100000000).alignSync.calSource).pole = true ∧ (wCa.alignSync.calSource).now + 10000 + 2000 * (wCa.alignSync.calSource).maxHop ≤ ((wCa.sf F.CHAIN_CONFIG_AT_LO_NS 100000000).alignSync.calSource).g64 F.CHAIN_CONFIG_AT_LO_NS F.CHAIN_CONFIG_AT_HI_NS) := by
  refine ⟨?_, ?_⟩ <;> decide +kernel

/-! ### NwInputs -/

def wNi : Dev := { wit [(F.NW_STATUS_STATE, 1)] with nw := { discAt := [(7, 1)], oscRun := true } }
theorem wit_NwInputs : (fget code0 wNi.nw.discAt 7 = 0 + 1 ∧ bit wNi.nw.discDone 7 = false ∧ wNi.nw.tested = none ∧ wNi.nw.oscRun = true ∧ wNi.nwState ≠ 5) := by
  decide +kernel

/-! ### NwEdges -/

def wNe : Dev := wit [(F.TIME_STATUS_PLL_LOCKED, 1), (F.NW_STATUS_STATE, 1), (F.NW_STATUS_SEALED, 1), (F.SCAN_STATUS_STATE, 3), (F.NW_CFG_OUT_EN, 3), (F.NW_PERMIT_STATUS_FEEDBACK, 0)]
def wNeB : Dev := { wNe with nw := { wNe.nw with stuck := false } }.clearLatches.nwSync
def wNeU : Dev := { wit [(F.NW_STATUS_STATE, 1)] with nw := { unlock := [(1, 2)] } }
theorem wit_NwEdges : (wNe.nw.stuck = false ∧ wNeB.edgeOk = true ∧ wNeB.fbOff = true)
    ∧ (({ wNe.sf F.NW_PERMIT_STATUS_FEEDBACK 8 with nw := {} }.clearLatches.nwSync).edgeOk = true ∧ ({ wNe.sf F.NW_PERMIT_STATUS_FEEDBACK 8 with nw := {} }.clearLatches.nwSync).fbOff = false ∧ ({ wNe.sf F.NW_STATUS_SEALED 0 with nw := {} }.clearLatches.nwSync).edgeOk = false)
    ∧ (wNeU.takes .pcie .nw ∧ wNeU.unlockStep .pcie = 2 ∧ wNeU.nwNow ≤ fget code0 wNeU.nw.unlockAt Requester.pcie.code + 100000 ∧ wNeU.releasing = false)
    ∧ (((wNeU.setUnlock .pcie 0).record 0x0034 .info Page.nw.base 0x54 2 Requester.pcie.code).on F.NW_CFG_SW_RESET_EN = false ∧ (((wNeU.sf F.NW_CFG_SW_RESET_EN 1).setUnlock .pcie 0).record 0x0034 .info Page.nw.base 0x54 2 Requester.pcie.code).on F.NW_CFG_SW_RESET_EN = true ∧ (wNeU.sf F.NW_CFG_SW_RESET_EN 1).takes .pcie .nw)
    ∧ (({ wNe with nw := { edgeAt := some 0 } } : Dev).nw.edgeAt = some 0 ∧ (({ wNe with nw := { edgeAt := some 0 } } : Dev).sf F.NW_PERMIT_STATUS_FEEDBACK (setBit (wNe.gf F.NW_PERMIT_STATUS_FEEDBACK) 3 false)).fbOff = true ∧ (({ wNe with nw := { edgeAt := some 0 } } : Dev).sf F.NW_PERMIT_STATUS_FEEDBACK (setBit (wNe.gf F.NW_PERMIT_STATUS_FEEDBACK) 3 false)).edgeOk = true)
    ∧ ((wNe.sf F.NW_STATUS_STATE 2).nwState = 2 ∧ (List.range 4).find? (fun k => bit ((wNe.sf F.NW_STATUS_STATE 2).advanceNw 5).permitMask k && !(bit (((wNe.sf F.NW_STATUS_STATE 2).advanceNw 5).gf F.NW_PERMIT_STATUS_FEEDBACK) k)) = some 0) := by
  refine ⟨?_, ?_, ?_, ?_, ?_, ?_⟩ <;> decide +kernel

/-! ### NwTests -/

def wNt : Dev := wit [(F.NW_STATUS_STATE, 3), (F.NW_CFG_OUT_EN, 3), (F.NW_PERMIT_STATUS_DRIVE, 0)]
theorem wit_NwTests : (wNt.nwState = 3 ∧ wNt.nw.test = none ∧ wNt.nextTest = some 0 ∧ bit (wNt.gf F.NW_PERMIT_STATUS_DRIVE) 3 = false)
    ∧ (({ wNt with nw := { test := some (3, 100) } } : Dev).nw.test = some (3, 100))
    ∧ (wNt.nwState ≠ 2 ∧ bit wNt.permitMask 3 = true ∧ wNt.on F.NW_STATUS_TEST_ACTIVE = false ∧ (wNt.sf F.NW_STATUS_STATE 4).nwState ≠ 2)
    ∧ (wNt.takes .firmware .nw ∧ (0x5555#32).toNat ≠ (wNt.nwOtherWrite .firmware).nw.wdLast ∧ wNt.takes .pcie .nw ∧ (0x5556#32).toNat ≠ 0x5555 ∧ (0x5556#32).toNat ≠ 0xAAAA) := by
  refine ⟨?_, ?_, ?_, ?_⟩ <;> decide +kernel

/-! ### NwWrites -/

def wNw : Dev := { wit [(F.NW_STATUS_STATE, 1)] with nw := { unlock := [(1, 2), (4, 1)], sealedOnce := true } }
theorem wit_NwWrites_seal_other : ∃ w : Word, w.toNat ≠ (wNw.setUnlock .pcie 0).cfgCrc := by
  by_contra h
  push Not at h
  have h2 := (h 0#32).trans (h 1#32).symm
  simp at h2
theorem wit_NwWrites_seal : (BitVec.ofNat 32 (wNw.setUnlock .pcie 0).cfgCrc).toNat = (wNw.setUnlock .pcie 0).cfgCrc :=
  toNat_cfgCrc _
theorem wit_NwWrites : (wNw.takes .net0 .nw ∧ wNw.unlockStep .net0 = 0 ∧ wNw.takes .chain .nw ∧ wNw.unlockStep .chain = 1 ∧ wNw.unlockStep .net1 ≠ 2)
    ∧ (wNw.takes .pcie .nw ∧ wNw.unlockStep .pcie = 2 ∧ wNw.nwNow ≤ fget code0 wNw.nw.unlockAt Requester.pcie.code + 100000 ∧ (wNw.setUnlock .pcie 0).releasing = false ∧ (0x1BC#12).toNat ∈ cfgOffsets)
    ∧ (((wNw.sf F.NW_STATUS_STATE 3).setUnlock .pcie 0).releasing = true ∧ ((wNw.sf F.NW_STATUS_STATE 3).setUnlock .pcie 0).onlyReduces 0x74 0xFFFFFFFF#32 = false ∧ (wNw.sf F.NW_STATUS_STATE 3).takes .pcie .nw)
    ∧ ((wNw.setUnlock .pcie 0).nw.sealedOnce = true)
    ∧ ((({ wNw with nw := { wNw.nw with sealedOnce := false } } : Dev).setUnlock .pcie 0).nw.sealedOnce = false ∧ ({ wNw with nw := { wNw.nw with sealedOnce := false } } : Dev).takes .pcie .nw) := by
  refine ⟨?_, ?_, ?_, ?_, ?_⟩ <;> decide +kernel

/-! ### NwProtected -/

theorem wit_NwProtected : ((wit []).unlockStep .pcie ≠ 2 ∧ 0x1BC ∈ cfgOffsets ∧ 0x40 ≤ 0x1BC) := by
  decide +kernel

/-! ### MonRun -/

def wMo : Dev := wit [(F.PAGE_STATE_POWER .mon, 2)]
def wMoP : Dev := { wit [(F.PAGE_STATE_POWER .mon, 2), (F.MON_CTRL_PAIR_RUN, 1), (F.MON_CTRL_SEQ_RUN, 1), (F.MON_CTRL_SYNC_PIN_EN, 1), (F.MON_CTRL_IMP_EN, 1), (F.MON_CH_CFG_IMP 23, 1), (F.MON_CH_CFG_PRESET 23, 3)] with mon := { dwell := some 23, three := true } }
def wMoI : Dev := { wMoP with mon := { wMoP.mon with impAt := [(23, 1)] } }
def wMoD : Dev := (wMoI.advanceTo (cycleNs 4096)).sb (F.MON_CH_IMP_DONE 23) true
theorem wit_MonRun1 : (wMo.takes .pcie .mon ∧ wMo.on F.MON_CTRL_SEQ_RUN = !true ∧ wMo.on F.MON_CTRL_PAIR_RUN = false)
    ∧ (wMoP.takes .net0 .mon ∧ wMoP.on F.MON_CTRL_SEQ_RUN = !false ∧ wMoP.on F.MON_CTRL_PAIR_RUN = true)
    ∧ (wMoP.on F.SCAN_CTRL_FAST_EN = false ∧ wMoP.on F.SCAN_CTRL_SLOW_EN = false)
    ∧ ((wMoP.sf F.SCAN_CTRL_SLOW_EN 1).takes .pcie .mon ∧ (wMoP.sf F.SCAN_CTRL_SLOW_EN 1).on F.MON_CTRL_PAIR_RUN = true ∧ (wMoP.sf F.SCAN_CTRL_SLOW_EN 1).on F.SCAN_CTRL_SLOW_EN = true)
    ∧ (wMoP.gf F.SCAN_STATUS_STATE = 0 ∧ wMoP.on F.MON_CTRL_SYNC_PIN_EN = true)
    ∧ ((wMoP.sf F.SCAN_STATUS_STATE 3).gf F.SCAN_STATUS_STATE ≠ 0 ∧ (wMoP.sf F.SCAN_STATUS_STATE 3).gf F.SCAN_STATUS_STATE ≠ 5) := by
  refine ⟨?_, ?_, ?_, ?_, ?_, ?_⟩ <;> decide +kernel
theorem wit_MonRun2 : ((wMoP.sf F.SCAN_STATUS_STATE 3).on F.MON_CTRL_PAIR_RUN = true ∧ (wMoP.sf F.SCAN_STATUS_STATE 3).on F.MON_CTRL_SYNC_PIN_EN = true ∧ (wMoP.sf F.SCAN_STATUS_STATE 3).takes .pcie .mon)
    ∧ (wMoP.debugLocked .pcie = false ∧ wMoP.responds .pcie .mon = true ∧ wMoP.isOn .mon = true)
    ∧ (wMoP.mon.dwell = some 23 ∧ (wMoP.advanceTo (cycleNs (wMoP.phaseEnd 23))).mon.three = true ∧ (wMoP.advanceTo (cycleNs (wMoP.phaseEnd 23))).mon.comp = false)
    ∧ (({ wMoP with mon := { wMoP.mon with comp := true } }.advanceTo 5).mon.comp = true)
    ∧ (wMoP.converting 0 = true ∧ bit ((wMoP.advanceTo (cycleNs (wMoP.nextSample 0))).decimate 0 []).2.mon.openM 0 = false)
    ∧ (({ wMoP with mon := { wMoP.mon with three := false } } : Dev).converting 23 = true ∧ ({ wMoP with mon := { wMoP.mon with three := false } } : Dev).nextSample 23 ≤ ({ wMoP with mon := { wMoP.mon with three := false } } : Dev).phaseEnd 23) := by
  refine ⟨?_, ?_, ?_, ?_, ?_, ?_⟩ <;> decide +kernel
theorem wit_MonRun3 : (wMoP.on (F.MON_CH_CFG_IMP 23) = true ∧ wMoP.converting 23 = true ∧ wMoP.preset 23 ≠ 0 ∧ wMoP.on F.MON_CTRL_IMP_EN = true)
    ∧ (wMoP.impDue 23 = true ∧ bit wMoD.mon.highZ 23 = false ∧ 0 ≤ wMoD.gf (F.MON_CH_ZLIM_OHMS 23) * wMoD.toneNa) := by
  refine ⟨?_, ?_⟩ <;> decide +kernel

/-! ### SyncRefused -/

def wSy : Dev := { wit [(F.PAGE_STATE_POWER .mon, 2), (F.MON_CTRL_PAIR_RUN, 1), (F.SCAN_STATUS_STATE, 3), (F.MON_CTRL_SYNC_PIN_EN, 1), (F.TIME_ACT_STATUS_STATE 0, 1), (F.TIME_ACT_CFG_KIND 0, 2)] with running := true }
def wSyP : Dev := wSy.sf F.MON_CTRL_PAIR_RUN 0
theorem wit_SyncRefused : (wSy.takes .pcie .mon ∧ wSy.on F.MON_CTRL_SYNC_PIN_EN = true ∧ wSy.nextAct = some 0 ∧ wSy.running = true ∧ wSy.gf (F.TIME_ACT_CFG_KIND 0) = 2)
    ∧ (((wSy.sf F.MON_CTRL_IMP_EN (wSy.gf F.MON_CTRL_IMP_EN)).sf F.MON_CTRL_SYNC_PIN_EN (wSy.gf F.MON_CTRL_SYNC_PIN_EN)).on F.MON_CTRL_PAIR_RUN = true ∧ ((wSy.sf F.MON_CTRL_IMP_EN (wSy.gf F.MON_CTRL_IMP_EN)).sf F.MON_CTRL_SYNC_PIN_EN (wSy.gf F.MON_CTRL_SYNC_PIN_EN)).gf F.SCAN_STATUS_STATE ≠ 0 ∧ ((wSy.sf F.MON_CTRL_IMP_EN (wSy.gf F.MON_CTRL_IMP_EN)).sf F.MON_CTRL_SYNC_PIN_EN (wSy.gf F.MON_CTRL_SYNC_PIN_EN)).gf F.SCAN_STATUS_STATE ≠ 5)
    ∧ (wSyP.on F.MON_CTRL_PAIR_RUN = false ∧ wSyP.on F.MON_CTRL_SYNC_PIN_EN = true) := by
  refine ⟨?_, ?_, ?_⟩ <;> decide +kernel

/-! ### ThermSamples -/

def wTh : Dev := { wit [(F.THERM_STATUS_LEVEL_REQ, 9)] with running := true, therm := { graceEnd := some 50, graceFor := 2^24 } }
theorem wit_ThermSamples : (wTh.running = true ∧ wTh.therm.graceEnd = some 50 ∧ Nat.land ((wTh.advanceTo 50).endGrace).exceeding wTh.therm.graceFor = 0)
    ∧ (Nat.land (({ wTh with therm := { graceEnd := some 50, graceFor := 2^24, power := { on := true } } } : Dev).advanceTo 50).endGrace.exceeding (2^24) ≠ 0)
    ∧ ((List.replicate 24 (none : Option Int)).all (fun r => r.isNone) = true ∧ (List.replicate 24 (-32768 : Int)).getD 23 0 = -32768) := by
  refine ⟨?_, ?_, ?_⟩ <;> decide +kernel

/-! ### SecKeys -/

def wSe : Dev := wit [(F.PAGE_STATE_POWER .sec, 2)]
def wSeP : Dev := { wSe with sec := { quotePend := some [7], fkPend := true, fwRollback := 64 } }
theorem wit_SecKeys : (wSe.takes .pcie .sec ∧ wSe.on F.SEC_STATUS_QUOTE_BUSY = false ∧ wSe.sec.keyFault = false ∧ wSe.gf F.SEC_STATUS_DEBUG_LEVEL = 0)
    ∧ ((wSe.sf F.SEC_STATUS_QUOTE_BUSY 1).takes .net1 .sec ∧ (wSe.sf F.SEC_STATUS_QUOTE_BUSY 1).on F.SEC_STATUS_QUOTE_BUSY = true)
    ∧ ((wSe.sf F.SEC_STATUS_DEBUG_LEVEL 2).gf F.SEC_STATUS_DEBUG_LEVEL ≠ 0 ∧ (wSe.sf F.SEC_STATUS_DEBUG_LEVEL 2).takes .net1 .sec)
    ∧ (wSeP.takes .pcie .sec ∧ wSeP.gf (counterFld 0) < (64#7).toNat ∧ (64#7).toNat ≤ wSeP.rollbackInUse 0 ∧ wSe.rollbackInUse 3 < (64#7).toNat)
    ∧ (wSeP.sec.quotePend = some [7] ∧ wSeP.sec.fkPend = true ∧ wSeP.sec.keyFault = false)
    ∧ (wSe.debugLocked .pcie = false ∧ wSe.responds .pcie .sec = true ∧ wSe.isOn .sec = true) := by
  refine ⟨?_, ?_, ?_, ?_, ?_, ?_⟩ <;> decide +kernel

/-! ### AlmFlash -/

def wAf : Dev := { wit [(F.PAGE_STATE_POWER .alm, 2), (F.PAGE_STATE_POWER .flash, 2), (F.ALM_STATUS_FLUSHING, 0)] with alm := { scanned := true } }
def wAfS : Dev := { wAf with staging := [{ seq := 0, code := 1, sev := .info, meridian := false, source := 0, time := 0, p0 := 0, p1 := 0, p2 := 0 }] }
def wAfO (op : Nat) : Dev := { wAf with flash := { op := some (op, 0x1200000, []) } }
theorem wit_AlmFlash1 : (wAf.takes .pcie .alm ∧ wAf.on F.ALM_STATUS_FLUSHING = false ∧ wAf.alm.scanned = true ∧ wAf.staging = [] ∧ wAf.on F.ALM_STATUS_PFW = false ∧ wAf.nextStep = none)
    ∧ ((wAf.sf (F.TASK_STATUS_STATE 3) 2).on F.ALM_STATUS_PFW = false ∧ (wAf.sf (F.TASK_STATUS_STATE 3) 2).nextStep = some 3)
    ∧ (wAfS.takes .pcie .alm ∧ wAfS.on F.ALM_STATUS_FLUSHING = false ∧ wAfS.alm.scanned = true ∧ wAfS.staging ≠ [])
    ∧ ((wAfS.sf F.ALM_STATUS_FLUSHING 1).on F.ALM_STATUS_FLUSHING = true ∧ (wAfS.sf F.ALM_STATUS_FLUSHING 1).takes .net0 .alm ∧ (wAfS.sf F.ALM_STATUS_FLUSHING 1).staging ≠ [])
    ∧ (wAf.takes .firmware .flash ∧ wAf.on F.FLASH_STATUS_BUSY = false ∧ (wAf.sf F.FLASH_STATUS_BUSY 1).on F.FLASH_STATUS_BUSY = true ∧ (wAf.sf F.FLASH_STATUS_BUSY 1).takes .firmware .flash)
    ∧ (((wAf.sf F.FLASH_CMD_OP 0).sb F.FLASH_STATUS_PROTECTED false).flashProtected 0 0 = true) := by
  refine ⟨?_, ?_, ?_, ?_, ?_, ?_⟩ <;> decide +kernel
theorem wit_AlmFlash2 : (((wAf.sf F.FLASH_CMD_OP 1).sb F.FLASH_STATUS_PROTECTED false).flashProtected 1 0x1200000 = false ∧ ((wAf.sf F.FLASH_CMD_OP 2).sb F.FLASH_STATUS_PROTECTED false).flashProtected 2 0x1200000 = false)
    ∧ ((wAfO 3).flash.op = some (3, 0x1200000, []) ∧ (wAfO 2).flash.op = some (2, 0x1200000, []) ∧ (wAfO 1).flash.op = some (1, 0x1200000, []) ∧ (1#2 : BitVec 2) ≠ 0#2) := by
  refine ⟨?_, ?_⟩ <;> decide +kernel

/-! ### Reserves -/

def wRe : Dev := { wit [(F.RES_CTRL_AUTO_EN, 63)] with res := { due := [(0, 16), (4, 6)] }, mram := { swaps := [(0, 3)] } }
theorem wit_Reserves : (wRe.res.due.contains ((4#3).toNat, 6) = true ∧ isReserve (4#3).toNat 6 = false ∧ wRe.retired (4#3).toNat 6 = false ∧ wRe.noReserve (4#3).toNat 6 = false ∧ bit (wRe.gf F.RES_CTRL_AUTO_EN) (4#3).toNat = true ∧ wRe.ownSlot (fun _ => true) = some 0)
    ∧ ((wRe.sf F.RES_CTRL_AUTO_EN 0).res.due.contains ((4#3).toNat, 6) = true ∧ bit ((wRe.sf F.RES_CTRL_AUTO_EN 0).gf F.RES_CTRL_AUTO_EN) (4#3).toNat = false ∧ (wRe.sf F.RES_CTRL_AUTO_EN 0).noReserve (4#3).toNat 6 = false ∧ ((5#3).toNat = 5 ∧ 8191 < 8192))
    ∧ (wRe.res.due.contains ((0#3).toNat, 16) = true ∧ (wRe.swapOf (0#3).toNat 16).isSome = true ∧ wRe.noReserve (0#3).toNat 16 = true)
    ∧ (isReserve (0#3).toNat 16 = true ∧ ({ wRe with mram := {} } : Dev).swapOf (0#3).toNat 16 = none ∧ ({ wRe with mram := {} } : Dev).res.due.contains ((0#3).toNat, 16) = true)
    ∧ ((∀ i : Fin 6, ([0, 0, 0, 0, 0, 0] : List Nat).getD i 0 ≤ wRe.gf F.RES_AGE_CFG_LIMIT) ∧ (wRe.sf F.RES_BIST_CFG_PERIOD 0).gf F.RES_BIST_CFG_PERIOD = 0 ∧ (wRe.sf F.RES_BIST_CFG_PERIOD 1).gf F.RES_BIST_CFG_PERIOD ≠ 0) := by
  refine ⟨?_, ?_, ?_, ?_, ?_⟩ <;> decide +kernel

/-! ### BootSteps -/

def wBo : Dev := { Dev.reset with boot := { released := true, measured := true } }
def wBr : Dev := { Dev.reset with boot := { released := true } }
theorem wit_BootSteps : (Dev.reset.boot.released = false ∧ Dev.reset.on F.ALM_STATUS_FLUSHING = false ∧ Dev.reset.flash.op = none ∧ Dev.reset.aq1 = false)
    ∧ ((Dev.reset.sf F.CHIP_PART_ID_GRADE 1).aq1 = true ∧ R.CHIP_READY.key ≠ R.PWR_P_CEIL.key)
    ∧ (wBr.stageNow = 0 ∧ wBr.boot.released = true ∧ wBr.boot.warm = false ∧ wBr.boot.measured = false ∧ nominalOf 24000 = some 1 ∧ nominalOf 30000 = none)
    ∧ (wBo.stageNow = 0 ∧ wBo.boot.released = true ∧ wBo.boot.measured = true ∧ wBo.mram.preferB = false ∧ wBo.romCheck false ≠ 0 ∧ wBo.romCheck true ≠ 0)
    ∧ ((wBo.sf F.CHIP_BOOT_STATUS_STAGE 1).stageNow = 1) := by
  refine ⟨?_, ?_, ?_, ?_, ?_⟩ <;> decide +kernel

/-! ### WarmResets -/

def wWr : Dev := { wit [] with boot := { released := true } }
theorem wit_WarmResets : (wWr.takes .firmware .chip ∧ wWr.boot.released = true ∧ (0x5B#8 : BitVec 8) ≠ 0x5A#8 ∧ wWr.stageNow = 2 ∧ (wWr.sf F.CHIP_BOOT_STATUS_STAGE 3).stageNow = 3 ∧ (wWr.sf F.CHIP_BOOT_STATUS_STAGE 1).stageNow = 1) := by
  decide +kernel

/-! ### SettledAfterStep -/

theorem wit_SettledAfterStep : ∃ t, step { State.reset with pending := [.refPresent] } = .next t := ⟨_, rfl⟩

/-! ### NwSafeStep -/

theorem wit_NwSafeStep : ∃ t, step State.reset = .next t := ⟨_, rfl⟩

end Sys2Proof.Tests
end

/-! ## The address map (R15, R16, R616) and the keys of the register file (R43, R307) -/
namespace Sys2Proof.Machine

/-! ### Pages and their numbers -/

theorem pageOfNum_net : ∀ i < 2, pageOfNum (0x12 + i) = some (.net i) := by decide
theorem pageOfNum_lane : ∀ n < 12, pageOfNum (0x20 + n) = some (.lane n) := by decide
theorem pageOfNum_qtr : ∀ q < 4, pageOfNum (64 + q) = some (.qtr q) := by decide
theorem pageOfNum_pool : ∀ q < 4, pageOfNum (68 + q) = some (.pool q) := by decide
theorem pageOfNum_clu : ∀ k < 32, pageOfNum (96 + k) = some (.clu k) := by decide
theorem pageOfNum_bay : ∀ b < 48, pageOfNum (128 + b) = some (.bay b) := by decide

/-- A page exists exactly where its index is one of its kind's (R618). -/
theorem present_iff_ok (g : Page) : g.present ↔ g.ok = true := by
  cases g with
  | net i => simp [Page.present, Page.num, Page.ok, pageOfNum_net _ (Nat.mod_lt i (by decide))]
  | lane n => simp [Page.present, Page.num, Page.ok, pageOfNum_lane _ (Nat.mod_lt n (by decide))]
  | qtr q => simp [Page.present, Page.num, Page.ok, pageOfNum_qtr _ (Nat.mod_lt q (by decide))]
  | pool q => simp [Page.present, Page.num, Page.ok, pageOfNum_pool _ (Nat.mod_lt q (by decide))]
  | clu k => simp [Page.present, Page.num, Page.ok, pageOfNum_clu _ (Nat.mod_lt k (by decide))]
  | bay b => simp [Page.present, Page.num, Page.ok, pageOfNum_bay _ (Nat.mod_lt b (by decide))]
  | _ => simp [Page.present, Page.num, Page.ok, pageOfNum]

/-- Two pages that exist have different numbers. -/
theorem num_inj {g h : Page} (hg : g.present) (hh : h.present) (e : g.num = h.num) : g = h := by
  unfold Page.present at hg hh
  rw [e, hh] at hg
  exact (Option.some.inj hg).symm

theorem num_lt (g : Page) : g.num < 176 := by
  cases g <;> simp only [Page.num] <;> omega

/-! ### The address map -/

/-- The address of a page below the regions decodes by the page's number. -/
theorem decodeAddr_chip {n o : Nat} (hn : n < 0x18 ∨ (0x20 ≤ n ∧ n < 0x2C)) (ho : o < 4096) :
    decodeAddr (n * 4096 + o) = (pageOfNum n).map (fun g => (g, o)) := by
  have e1 : (n * 4096 + o) % 4096 = o := by omega
  have e2 : (n * 4096 + o) / 4096 = n := by omega
  simp only [decodeAddr, e1, e2, if_pos hn]

/-- The address of a page of region `q` decodes by the page's place `w` in the region. -/
theorem decodeAddr_region {q w o : Nat} (hq : q < 4) (hw : w < 0x20) (ho : o < 4096) :
    decodeAddr ((0x100 + 0x20 * q + w) * 4096 + o) =
      if w = 0 then some (.qtr q, o)
      else if w = 1 then some (.pool q, o)
      else if w < 10 then some (.clu (8 * q + (w - 2)), o)
      else if 0x10 ≤ w ∧ w < 0x1C then some (.bay (12 * q + (w - 0x10)), o)
      else none := by
  have e1 : ((0x100 + 0x20 * q + w) * 4096 + o) % 4096 = o := by omega
  have e2 : ((0x100 + 0x20 * q + w) * 4096 + o) / 4096 = 0x100 + 0x20 * q + w := by omega
  have e3 : (0x100 + 0x20 * q + w - 0x100) / 0x20 = q := by omega
  have e4 : (0x100 + 0x20 * q + w - 0x100) % 0x20 = w := by omega
  simp only [decodeAddr, e1, e2, e3, e4]
  rw [if_neg (by omega), if_pos (by omega)]

/-- Every page that exists answers at its base (R616). -/
theorem decodeAddr_base {g : Page} {o : Nat} (hg : g.present) (ho : o < 4096) :
    decodeAddr (g.base * 4096 + o) = some (g, o) := by
  have hok := (present_iff_ok g).1 hg
  have chip : g.base = g.num → (g.num < 0x18 ∨ (0x20 ≤ g.num ∧ g.num < 0x2C)) →
      decodeAddr (g.base * 4096 + o) = some (g, o) := by
    intro hb hn
    rw [hb, decodeAddr_chip hn ho, hg, Option.map_some]
  cases g with
  | qtr q =>
    have hq : q < 4 := by simpa [Page.ok] using hok
    simpa [Page.base] using decodeAddr_region hq (show 0 < 0x20 by decide) ho
  | pool q =>
    have hq : q < 4 := by simpa [Page.ok] using hok
    have e : (Page.pool q).base = 0x100 + 0x20 * q + 1 := by simp only [Page.base]; omega
    rw [e, decodeAddr_region hq (by decide) ho]
    rfl
  | clu k =>
    have hk : k < 32 := by simpa [Page.ok] using hok
    have e : (Page.clu k).base = 0x100 + 0x20 * (k / 8) + (2 + k % 8) := by simp only [Page.base]; omega
    rw [e, decodeAddr_region (by omega) (by omega) ho, if_neg (by omega), if_neg (by omega), if_pos (by omega)]
    simp only [Option.some.injEq, Prod.mk.injEq, Page.clu.injEq, and_true]
    omega
  | bay b =>
    have hb : b < 48 := by simpa [Page.ok] using hok
    have e : (Page.bay b).base = 0x100 + 0x20 * (b / 12) + (16 + b % 12) := by simp only [Page.base]; omega
    rw [e, decodeAddr_region (by omega) (by omega) ho, if_neg (by omega), if_neg (by omega), if_neg (by omega),
      if_pos (by omega)]
    simp only [Option.some.injEq, Prod.mk.injEq, Page.bay.injEq, and_true]
    omega
  | lane n => exact chip rfl (by simp only [Page.num]; omega)
  | net i => exact chip rfl (by simp only [Page.num]; omega)
  | _ => exact chip rfl (Or.inl (by decide))

/-- The number of a page below the regions is its base, and the page exists. -/
theorem pageOfNum_chip : ∀ n < 0x2C, ∀ g ∈ pageOfNum n, g.base = n ∧ pageOfNum g.num = some g := by decide

/-- An address that decodes is its page's base with the offset (R616). -/
theorem eq_of_decodeAddr {a o : Nat} {g : Page} (h : decodeAddr a = some (g, o)) :
    g.present ∧ o < 4096 ∧ a = g.base * 4096 + o := by
  simp only [decodeAddr] at h
  split at h
  case isTrue hn =>
    obtain ⟨g', hg, e⟩ := Option.map_eq_some_iff.1 h
    obtain ⟨rfl, rfl⟩ := Prod.mk.inj e
    obtain ⟨hb, hp⟩ := pageOfNum_chip (a / 4096) (by omega) g' hg
    exact ⟨hp, by omega, by omega⟩
  case isFalse =>
    split at h
    case isFalse => cases h
    case isTrue hn =>
      have close : ∀ p : Page, some (p, a % 4096) = some (g, o) → p.ok = true → p.base = a / 4096 →
          g.present ∧ o < 4096 ∧ a = g.base * 4096 + o := by
        intro p e hok hb
        obtain ⟨rfl, rfl⟩ := Prod.mk.inj (Option.some.inj e)
        exact ⟨(present_iff_ok p).2 hok, by omega, by omega⟩
      split_ifs at h
      all_goals exact close _ h (by simp only [Page.ok, decide_eq_true_eq]; omega) (by simp only [Page.base]; omega)

/-- Settles O5: an address and the page and offset it names determine each other. -/
theorem addressMap : Obligations.AddressMap := by
  unfold Obligations.AddressMap
  exact ⟨fun _ _ => decodeAddr_base, fun _ _ _ => eq_of_decodeAddr⟩

/-! ### Keys of registers -/

/-- The page that stores a register exists. -/
theorem home_present {g : Page} (hg : g.present) (off : Nat) : (home g off).present := by
  cases g with
  | clu k =>
    have hk : k < 32 := by simpa [Page.ok] using (present_iff_ok _).1 hg
    simp only [present_iff_ok, home]
    split_ifs <;> simp only [Page.ok, decide_eq_true_eq] <;> omega
  | _ => exact hg

/-- Only the registers of a region's parameter store and KBANK have one home for several pages (R307). -/
theorem home_inj {g h : Page} {off : Nat} (e : home g off = home h off) :
    g = h ∨ ∃ k j, g = .clu k ∧ h = .clu j ∧ (inStore off = true ∨ off = 0x6C) := by
  cases g with
  | clu k =>
    cases h with
    | clu j =>
      by_cases hs : inStore off = true ∨ off = 0x6C
      · exact Or.inr ⟨k, j, rfl, rfl, hs⟩
      · obtain ⟨h1, h2⟩ := not_or.1 hs
        exact Or.inl (by simpa only [home, if_neg h1, if_neg h2] using e)
    | _ => simp only [home] at e; split_ifs at e
  | _ =>
    cases h with
    | clu j => simp only [home] at e; split_ifs at e
    | _ => exact Or.inl e

/-- The CLU pages of a region share a register of the parameter store (R307). -/
theorem home_store {k j off : Nat} (hkj : k / 8 = j / 8) (hs : inStore off = true) (hb : off ≠ 0x6C) :
    home (.clu k) off = home (.clu j) off := by
  simp only [home, if_neg hb, if_pos hs, hkj]

/-- Registers of one key have one home and one offset. -/
theorem home_of_key_eq {g h : Page} {o p : Nat} (hg : g.present) (hh : h.present) (ho : o < 4096) (hp : p < 4096)
    (e : Reg.key ⟨g, o⟩ = Reg.key ⟨h, p⟩) : o = p ∧ home g o = home h p := by
  simp only [Reg.key, regKey] at e
  have hop : o = p := by omega
  exact ⟨hop, num_inj (home_present hg o) (home_present hh p) (by omega)⟩

/-- The shared copies of the registers lie below 2^20, the requesters' own above (R43). -/
theorem key_lt (r : Reg) (ho : r.off < 4096) : r.key < 2^20 := by
  have := num_lt (home r.pg r.off)
  simp only [Reg.key, regKey]
  omega

/-- The requesters in the order of their codes (R43). -/
def requesters : List Requester := [.firmware, .pcie, .net0, .net1, .chain, .debug]

theorem requesters_code (q : Requester) : requesters[q.code]? = some q := by cases q <;> rfl

theorem code_inj {q q' : Requester} (h : q.code = q'.code) : q = q' := by
  have e := requesters_code q
  rw [h, requesters_code q'] at e
  exact (Option.some.inj e).symm

/-- A requester's own copy is no shared register. -/
theorem key_ne_keyOf {r r' : Reg} (q : Requester) (ho : r'.off < 4096) : r'.key ≠ r.keyOf q := by
  have := key_lt r' ho
  simp only [Reg.keyOf]
  omega

/-- A requester's own copy is no other requester's. -/
theorem keyOf_ne_keyOf {q q' : Requester} {r r' : Reg} (hq : q' ≠ q) (ho : r.off < 4096) (ho' : r'.off < 4096) :
    r'.keyOf q' ≠ r.keyOf q := by
  have hr := key_lt r ho
  have hr' := key_lt r' ho'
  have hc : q'.code ≠ q.code := fun h => hq (code_inj h)
  simp only [Reg.keyOf]
  omega

/-- Registers at different pages or offsets have different keys but where R307 has them shared. -/
theorem key_ne_of_ne {g h : Page} {o p : Nat} (hg : g.present) (hh : h.present) (ho : o < 4096) (hp : p < 4096)
    (hne : (g, o) ≠ (h, p))
    (hs : ∀ k j, g = .clu k → h = .clu j → o = p → inStore o = false ∧ o ≠ 0x6C) :
    Reg.key ⟨h, p⟩ ≠ Reg.key ⟨g, o⟩ := by
  intro e
  obtain ⟨rfl, ehome⟩ := home_of_key_eq hg hh ho hp e.symm
  rcases home_inj ehome with rfl | ⟨k, j, hk, hj, h1⟩
  · exact hne rfl
  · obtain ⟨h2, h3⟩ := hs k j hk hj rfl
    rcases h1 with h1 | h1
    · rw [h1] at h2; cases h2
    · exact h3 h1

/-- Settles O4: registers read by their keys, which keep apart what R16, R43 and R307 keep apart. -/
theorem registerFile : Obligations.RegisterFile := by
  unfold Obligations.RegisterFile
  refine ⟨rd_wr_same, ?apart, ?store, ?own, ?field, fun s r w h => fset_fwf _ _ _ _ h⟩
  case apart =>
    intro s g h o p w hg hh ho hp hne hs
    exact rd_wr_ne s w (key_ne_of_ne hg hh ho hp hne hs)
  case store =>
    intro s k j o w hkj hs hb
    refine rd_wr_key s w ?_
    simp only [Reg.key, home_store hkj hs hb]
  case own =>
    intro s q r w _ ho
    refine ⟨rdQ_wrQ_same s q r w, fun r' _ ho' => ⟨rd_wrQ_ne s w (key_ne_keyOf q ho'), fun q' hq => ?_⟩⟩
    exact rdQ_wrQ_ne s w (keyOf_ne_keyOf hq ho ho')
  case field =>
    intro s f f' v hf _
    refine ⟨gf_sf_same s f v hf, fun h => gf_sf_of_apart s v ?_⟩
    rcases h with h | h | h
    · exact Or.inl h.symm
    · exact Or.inr ⟨hf, Or.inr h⟩
    · exact Or.inr ⟨hf, Or.inl h⟩

end Sys2Proof.Machine

/-! ## The block after a cold reset, and the step (R17, R23, R43) -/
namespace Sys2Proof.Machine

/-- Settles O1: the queue's front decides the step. -/
theorem stepRunsFront : Obligations.StepRunsFront := by
  unfold Obligations.StepRunsFront
  refine ⟨fun s c l h => ?front, fun s h => ?idle⟩
  case front => simp only [step, h, State.tail, List.tail_cons]
  case idle => simp only [step, h]; rfl

/-! ### Registers at reset -/

/-- A header register but SHADOW_CTRL reads its page's reset word after reset (R23). -/
theorem reset_rd_header {g : Page} (hg : g.present) {off : Nat} (h : off < 0x40) (h2 : off ≠ 0x2C) :
    Dev.reset.rd ⟨g, off⟩ = resetWord g off := by
  have hn := num_lt g
  have e1 : (g.num * 4096 + off) % 2^20 / 4096 = g.num := by omega
  have e2 : (g.num * 4096 + off) % 2^20 % 4096 = off := by omega
  show regDefault (Reg.key ⟨g, off⟩) = resetWord g off
  unfold Page.present at hg
  simp only [key_header g h h2, regDefault, e1, e2, hg]

/-- PAGE_STATE at reset: a page without a switchable domain reads ON (R46, log 3). -/
theorem resetWord_state (g : Page) : resetWord g 0x08 = if g.switchable then 0#32 else 2#32 := rfl

/-- PAGE_CTRL at reset: a page without a switchable domain is enabled (R47, log 3). -/
theorem resetWord_ctrl (g : Page) : resetWord g 0x0C = if g.switchable then 0#32 else 1#32 := rfl

/-- POWER and EN of a page after reset (R46, R47, log 3). -/
theorem reset_power {g : Page} (hg : g.present) :
    Dev.reset.isOn g = !g.switchable ∧ Dev.reset.on (F.PAGE_CTRL_EN g) = !g.switchable := by
  have hs := reset_rd_header hg (off := 0x08) (by decide) (by decide)
  have hc := reset_rd_header hg (off := 0x0C) (by decide) (by decide)
  rw [resetWord_state] at hs
  rw [resetWord_ctrl] at hc
  simp only [Dev.isOn, Dev.power, Dev.on, Dev.gf, Fld.reg, hs, hc]
  cases g.switchable <;> decide

/-- Settles O3: the register file is empty, so that every register reads its reset word. -/
theorem resetFacts : Obligations.ResetFacts := by
  unfold Obligations.ResetFacts
  refine ⟨fun _ => rfl, rfl, by decide, by decide, by decide, by decide, by decide, fun _ => rfl, by decide,
    fun _ hg => reset_power hg, ?safe, ?lines⟩
  case safe =>
    have h : State.reset.dev.nwState = 0 := by decide
    intro hs
    omega
  case lines => exact ⟨by decide, by decide, by decide⟩

end Sys2Proof.Machine

/-! ## From reset to RUNNING (R23, R24, R564, R603 to R605, R610) -/
namespace Sys2Proof.Machine

/-! ### Fields by their bits -/

theorem Fld.ok_of_le {f : Fld} (h : f.lo + f.len ≤ 32) : f.ok := h

/-- Two fields whose bits are apart, in one register or not. -/
theorem Fld.apart_of_bits {f f' : Fld} (h : f.lo + f.len ≤ 32 ∧ (f'.lo + f'.len ≤ f.lo ∨ f.lo + f.len ≤ f'.lo)) : f.apart f' :=
  Or.inr h

/-- Two fields of different registers. -/
theorem Fld.apart_of_key {f f' : Fld} (h : f'.reg.key ≠ f.reg.key) : f.apart f' := Or.inl h

/-! ### What a cold reset finds of a flush or a flash operation in progress -/

theorem toRing_rd (s : Dev) (x : RingSlot) (q : Nat) (r : Reg) : (s.toRing x q).rd r = s.rd r := rfl

theorem free_rd (s : Dev) (r : Reg) : s.free.2.rd r = s.rd r := rfl

/-- The registers of the Almanac that a flush moves on. -/
def flushRegs : List Reg :=
  [R.ALM_FLUSHED_SEQ, R.ALM_OLDEST_SEQ, R.ALM_WRAPS, R.ALM_STATUS]

/-- A flush that moves on writes no register but its own. -/
theorem flushN_rd (s : Dev) (n : Nat) {r : Reg} (h : ∀ x ∈ flushRegs, r.key ≠ x.key) : (s.flushN n).rd r = s.rd r := by
  unfold Dev.flushN
  split
  · rfl
  · obtain ⟨al, e⟩ := foldl_toRing_form (s.staging.take n) s
    dsimp only [Dev.setFlushed]
    rw [rd_sf_ne (f := F.ALM_STATUS_STAGED) _ _ (h R.ALM_STATUS (by decide)),
      rd_sf_ne (f := F.ALM_WRAPS_COUNT) _ _ (h R.ALM_WRAPS (by decide)),
      rd_sf_ne (f := F.ALM_OLDEST_SEQ_SEQ) _ _ (h R.ALM_OLDEST_SEQ (by decide)),
      rd_sf_ne (f := F.ALM_FLUSHED_SEQ_SEQ) _ _ (h R.ALM_FLUSHED_SEQ (by decide)), e]
    exact rd_regs rfl r

/-- A torn flush changes its registers, the buffer, the ring and the counter of free values. -/
theorem tearFlush_form (s : Dev) : ∃ m st al c, s.tearFlush = { s with regs := m, staging := st, alm := al, freeCtr := c } := by
  unfold Dev.tearFlush
  split
  · exact ⟨_, _, _, _, rfl⟩
  · obtain ⟨m, st, al, e⟩ := flushN_form s (min s.flushReady s.staging.length)
    dsimp only
    rw [e]
    split <;> exact ⟨_, _, _, _, rfl⟩

theorem tearFlush_rd (s : Dev) {r : Reg} (h : ∀ x ∈ flushRegs, r.key ≠ x.key) : s.tearFlush.rd r = s.rd r := by
  have hn := flushN_rd s (min s.flushReady s.staging.length) h
  unfold Dev.tearFlush
  dsimp only
  split
  · rfl
  · split
    · exact hn
    · rw [toRing_rd, free_rd, hn]

theorem tearFlush_idle {s : Dev} (h : s.on F.ALM_STATUS_FLUSHING = false) : s.tearFlush = s := by
  simp only [Dev.tearFlush, h, Bool.not_false, if_true]

/-- A write of flash bytes changes the flash alone. -/
theorem setFlash_form (s : Dev) (a n : Nat) (f : Nat → Nat) : ∃ fl, s.setFlash a n f = { s with flash := fl } := by
  unfold Dev.setFlash
  induction n with
  | zero => exact ⟨_, rfl⟩
  | succ n ih =>
    obtain ⟨fl, e⟩ := ih
    simp only [forN, e]
    exact ⟨_, rfl⟩

/-- A flash operation cut off changes the flash and the counter of free values. -/
theorem tearFlash_form (s : Dev) : ∃ fl c, s.tearFlash = { s with flash := fl, freeCtr := c } := by
  unfold Dev.tearFlash
  split
  · exact ⟨_, _, rfl⟩
  · dsimp only
    split
    · exact ⟨_, _, rfl⟩
    · obtain ⟨fl, e⟩ := setFlash_form (Dev.free { s with flash := { s.flash with op := none } }).2 (flashRange _ _).1 (flashRange _ _).2
        (fun b => Config.freeByte (Dev.free { s with flash := { s.flash with op := none } }).1 b % 256)
      exact ⟨fl, _, e⟩

theorem tearFlash_idle {s : Dev} (h : s.flash.op = none) : s.tearFlash = s := by
  simp only [Dev.tearFlash, h]

/-! ### The registers that the part's grade sets (R9, R557, R558) -/

theorem gradePwr_form (s : Dev) : ∃ m, s.gradePwr = { s with regs := m } := by
  unfold Dev.gradePwr
  split <;> exact ⟨_, rfl⟩

theorem gradePwr_rd (s : Dev) {r : Reg} (h : s.aq1 = true → r.key ≠ R.PWR_P_CEIL.key) : s.gradePwr.rd r = s.rd r := by
  unfold Dev.gradePwr
  split
  · exact rd_sf_ne _ _ (h ‹_›)
  · rfl

theorem gradePwr_aq1 (s : Dev) : s.gradePwr.aq1 = s.aq1 := by
  simp only [Dev.aq1, Dev.gf]
  rw [gradePwr_rd s fun _ => by decide]

theorem nodeLimits_form (s : Dev) (w : Word) (n : Nat) :
    ∃ m, forN n (fun k (s : Dev) => s.wr (R.THERM_NODE_LIMIT k) w) s = { s with regs := m } := by
  induction n with
  | zero => exact ⟨_, rfl⟩
  | succ n ih =>
    obtain ⟨m, e⟩ := ih
    simp only [forN, e]
    exact ⟨_, rfl⟩

theorem nodeLimits_rd (s : Dev) (w : Word) {r : Reg} {n : Nat} (h : ∀ k < n, r.key ≠ (R.THERM_NODE_LIMIT k).key) :
    (forN n (fun k (s : Dev) => s.wr (R.THERM_NODE_LIMIT k) w) s).rd r = s.rd r := by
  induction n with
  | zero => rfl
  | succ n ih => exact (rd_wr_ne _ _ (h n n.lt_succ_self)).trans (ih fun k hk => h k (Nat.lt_succ_of_lt hk))

theorem gradeTherm_form (s : Dev) : ∃ m, s.gradeTherm = { s with regs := m } := by
  unfold Dev.gradeTherm
  split
  · exact nodeLimits_form s _ 24
  · exact ⟨_, rfl⟩

theorem gradeTherm_rd (s : Dev) {r : Reg} (h : s.aq1 = true → ∀ k < 24, r.key ≠ (R.THERM_NODE_LIMIT k).key) :
    s.gradeTherm.rd r = s.rd r := by
  unfold Dev.gradeTherm
  split
  · exact nodeLimits_rd s _ (h ‹_›)
  · rfl

/-- What the grade sets at a cold reset. -/
theorem grade_form (s : Dev) : ∃ m, s.gradePwr.gradeTherm = { s with regs := m } := by
  obtain ⟨m, e⟩ := gradePwr_form s
  rw [e]
  exact gradeTherm_form { s with regs := m }

theorem grade_rd (s : Dev) {r : Reg}
    (h : s.aq1 = true → r.key ≠ R.PWR_P_CEIL.key ∧ ∀ k < 24, r.key ≠ (R.THERM_NODE_LIMIT k).key) :
    s.gradePwr.gradeTherm.rd r = s.rd r := by
  rw [gradeTherm_rd _ fun ha => (h (gradePwr_aq1 s ▸ ha)).2, gradePwr_rd _ fun ha => (h ha).1]

/-! ### COLD_RESET -/

/-- The block that a cold reset finds: a flush torn, a flash operation cut off. -/
def Dev.torn (s : Dev) : Dev := s.tearFlush.tearFlash

theorem torn_rd (s : Dev) {r : Reg} (h : ∀ x ∈ flushRegs, r.key ≠ x.key) : s.torn.rd r = s.rd r := by
  obtain ⟨fl, c, e⟩ := tearFlash_form s.tearFlush
  rw [Dev.torn, e, ← tearFlush_rd s h]
  rfl

theorem torn_gf (s : Dev) {f : Fld} (h : ∀ x ∈ flushRegs, f.reg.key ≠ x.key) : s.torn.gf f = s.gf f := by
  unfold Dev.gf
  rw [torn_rd s h]

theorem torn_mram (s : Dev) : s.torn.mram = s.mram := by
  obtain ⟨fl, c, e⟩ := tearFlash_form s.tearFlush
  obtain ⟨m, st, al, c', e'⟩ := tearFlush_form s
  rw [Dev.torn, e, e']

theorem torn_ring {s : Dev} (h : s.on F.ALM_STATUS_FLUSHING = false) : s.torn.alm.ring = s.alm.ring := by
  obtain ⟨fl, c, e⟩ := tearFlash_form s
  rw [Dev.torn, tearFlush_idle h, e]

theorem torn_flash {s : Dev} (h : s.flash.op = none) : s.torn.flash = s.flash := by
  obtain ⟨m, st, al, c, e⟩ := tearFlush_form s
  have hf : s.tearFlush.flash = s.flash := by rw [e]
  rw [Dev.torn, tearFlash_idle (hf ▸ h), hf]

/-- The reset block with what a cold reset keeps beside OTP's registers (R24, R26). -/
def Dev.coldKept (s : Dev) : Dev :=
  { mram := s.mram, flash := s.flash, alm := { ring := s.alm.ring }, sec := { ownerHash := s.sec.ownerHash },
    freeCtr := s.freeCtr, out := s.out }

/-- That block with OTP's registers and fields. -/
def Dev.coldOtp (s : Dev) : Dev :=
  ((((s.coldKept.wr R.SEC_ROLLBACK (s.rd R.SEC_ROLLBACK)).sf F.SEC_STATUS_OWNER_SLOTS (s.gf F.SEC_STATUS_OWNER_SLOTS)).sb
    F.SEC_STATUS_OWNER_COUNTERSIGN (s.on F.SEC_STATUS_OWNER_COUNTERSIGN)).sb
    F.SEC_STATUS_MOALITH0_REVOKED (s.on F.SEC_STATUS_MOALITH0_REVOKED)).wr R.CHIP_PART_ID (s.rd R.CHIP_PART_ID)

theorem coldReset_eq (s : Dev) : s.coldReset = s.torn.coldOtp.gradePwr.gradeTherm := rfl

theorem coldOtp_part (s : Dev) : s.coldOtp.rd R.CHIP_PART_ID = s.rd R.CHIP_PART_ID := rd_wr_same _ _ _

theorem coldOtp_aq1 (s : Dev) : s.coldOtp.aq1 = s.aq1 := by
  simp only [Dev.aq1, Dev.gf]
  exact congrArg (fun w => bits w 12 4 == 1) (coldOtp_part s)

theorem coldOtp_rd (s : Dev) {r : Reg} (h1 : r.key ≠ R.SEC_STATUS.key) (h2 : r.key ≠ R.SEC_ROLLBACK.key)
    (h3 : r.key ≠ R.CHIP_PART_ID.key) : s.coldOtp.rd r = Dev.reset.rd r := by
  unfold Dev.coldOtp Dev.sb
  rw [rd_wr_ne _ _ h3, rd_sf_ne (f := F.SEC_STATUS_MOALITH0_REVOKED) _ _ h1,
    rd_sf_ne (f := F.SEC_STATUS_OWNER_COUNTERSIGN) _ _ h1, rd_sf_ne (f := F.SEC_STATUS_OWNER_SLOTS) _ _ h1, rd_wr_ne _ _ h2]
  rfl

theorem coldOtp_rollback (s : Dev) : s.coldOtp.rd R.SEC_ROLLBACK = s.rd R.SEC_ROLLBACK := by
  unfold Dev.coldOtp Dev.sb
  rw [rd_wr_ne _ _ (by decide), rd_sf_ne _ _ (by decide), rd_sf_ne _ _ (by decide), rd_sf_ne _ _ (by decide), rd_wr_same]

theorem coldOtp_revoked (s : Dev) : s.coldOtp.on F.SEC_STATUS_MOALITH0_REVOKED = s.on F.SEC_STATUS_MOALITH0_REVOKED := by
  unfold Dev.coldOtp
  rw [Dev.on, gf_wr_ne _ _ (by decide)]
  exact on_sb_same _ _ _ (Fld.ok_of_le (by decide)) rfl

theorem coldOtp_countersign (s : Dev) : s.coldOtp.on F.SEC_STATUS_OWNER_COUNTERSIGN = s.on F.SEC_STATUS_OWNER_COUNTERSIGN := by
  unfold Dev.coldOtp
  rw [Dev.on, gf_wr_ne _ _ (by decide), Dev.sb, gf_sf_of_apart _ _ (Fld.apart_of_bits (by decide))]
  exact on_sb_same _ _ _ (Fld.ok_of_le (by decide)) rfl

theorem coldOtp_owners (s : Dev) : s.coldOtp.gf F.SEC_STATUS_OWNER_SLOTS = s.gf F.SEC_STATUS_OWNER_SLOTS := by
  unfold Dev.coldOtp Dev.sb
  rw [gf_wr_ne _ _ (by decide), gf_sf_of_apart _ _ (Fld.apart_of_bits (by decide)),
    gf_sf_of_apart _ _ (Fld.apart_of_bits (by decide)), gf_sf_same _ _ _ (Fld.ok_of_le (by decide))]
  exact Nat.mod_eq_of_lt (bits_lt _ _ _)

/-- A register that the part's grade does not set is the one under OTP. -/
theorem coldReset_rd (s : Dev) {r : Reg}
    (h : s.aq1 = true → r.key ≠ R.PWR_P_CEIL.key ∧ ∀ k < 24, r.key ≠ (R.THERM_NODE_LIMIT k).key) :
    s.coldReset.rd r = s.torn.coldOtp.rd r := by
  have ha : s.torn.aq1 = s.aq1 := by
    unfold Dev.aq1
    rw [torn_gf s (by decide)]
  rw [coldReset_eq]
  exact grade_rd _ fun h' => h (by rw [← ha, ← coldOtp_aq1, h'])

theorem coldReset_form (s : Dev) : ∃ m, s.coldReset = { s.torn.coldKept with regs := m } := by
  obtain ⟨m, e⟩ := grade_form s.torn.coldOtp
  exact ⟨m, by rw [coldReset_eq, e]; rfl⟩

end Sys2Proof.Machine

/-! ## The boot ROM and the end of initialisation (R564, R569, R603 to R605, R610) -/
namespace Sys2Proof.Machine

/-! ### REF_MEASURE_DONE -/

theorem nominalOf_lt {f i : Nat} (h : nominalOf f = some i) : i < 4 :=
  List.mem_range.1 (List.mem_of_find?_eq_some h)

theorem refMeasureDone_eq {s : Dev} (f : Nat) (h0 : s.stageNow = 0) (hr : s.boot.released = true) (hw : s.boot.warm = false)
    (hm : s.boot.measured = false) :
    s.refMeasureDone f =
      (let d := (nominalOf f).elim s (fun i => s.sf F.TIME_REF_CFG_FREQ i)
       { d with time := { d.time with freq := d.gf F.TIME_REF_CFG_FREQ }, boot := { d.boot with measured := true } }) := by
  unfold Dev.refMeasureDone
  rw [if_neg (by simp [h0, hr, hw, hm])]
  cases nominalOf f <;> rfl

/-! ### What a measurement of the boot changes (R569) -/

theorem extend_form (s : Dev) (i ty v d : Nat) : ∃ m x, s.extend i ty v d = { s with regs := m, sec := x } := by
  unfold Dev.extend
  dsimp only
  split <;> exact ⟨_, _, rfl⟩

theorem extend_rd (s : Dev) (i ty v d : Nat) {r : Reg} (h : r.key ≠ R.SEC_STATUS.key) : (s.extend i ty v d).rd r = s.rd r := by
  unfold Dev.extend
  dsimp only
  split
  · exact rd_regs rfl r
  · exact rd_sf_ne (f := F.SEC_STATUS_LOG_OVERFLOW) _ _ h

theorem extend_gf (s : Dev) (i ty v d : Nat) {f : Fld} (h : F.SEC_STATUS_LOG_OVERFLOW.apart f) :
    (s.extend i ty v d).gf f = s.gf f := by
  unfold Dev.extend
  dsimp only
  split
  · exact gf_regs rfl f
  · exact gf_sf_of_apart _ _ h

/-- The measurements of the sections accepted, before those of the owner slots. -/
def Dev.measureSections (s : Dev) (b : Bool) (version : Nat) : Dev :=
  let x := s.secAt (slotBase b)
  let s := (s.extend 0 0 0 (Config.romDigest % 2^256)).extend 0 1 version x.digest
  if s.on F.SEC_STATUS_OWNER_COUNTERSIGN then
    let y := s.secAt x.next
    s.extend 0 2 y.version y.digest
  else s

theorem measureBoot_eq (s : Dev) (b : Bool) (version : Nat) :
    s.measureBoot b version =
      (let f := (s.measureSections b version).free
       { f.2 with sec := { f.2.sec with fwRollback := (s.secAt (slotBase b)).rollback } }.extend 3 0 0 (f.1 % 2^256)) := rfl

theorem measureSections_rd (s : Dev) (b : Bool) (v : Nat) {r : Reg} (h : r.key ≠ R.SEC_STATUS.key) :
    (s.measureSections b v).rd r = s.rd r := by
  unfold Dev.measureSections
  dsimp only
  split <;> simp only [extend_rd _ _ _ _ _ h]

theorem measureSections_gf (s : Dev) (b : Bool) (v : Nat) {f : Fld} (h : F.SEC_STATUS_LOG_OVERFLOW.apart f) :
    (s.measureSections b v).gf f = s.gf f := by
  unfold Dev.measureSections
  dsimp only
  split <;> simp only [extend_gf _ _ _ _ _ h]

theorem measureSections_mram (s : Dev) (b : Bool) (v : Nat) : (s.measureSections b v).mram = s.mram := by
  have he : ∀ (d : Dev) (i ty v x : Nat), (d.extend i ty v x).mram = d.mram := fun d i ty v x => by
    obtain ⟨m, y, e⟩ := extend_form d i ty v x
    rw [e]
  unfold Dev.measureSections
  dsimp only
  split <;> simp only [he]

theorem measureBoot_rd (s : Dev) (b : Bool) (v : Nat) {r : Reg} (h : r.key ≠ R.SEC_STATUS.key) :
    (s.measureBoot b v).rd r = s.rd r := by
  rw [measureBoot_eq, extend_rd _ _ _ _ _ h, ← measureSections_rd s b v h]
  rfl

theorem measureBoot_gf (s : Dev) (b : Bool) (v : Nat) {f : Fld} (h : F.SEC_STATUS_LOG_OVERFLOW.apart f) :
    (s.measureBoot b v).gf f = s.gf f := by
  rw [measureBoot_eq, extend_gf _ _ _ _ _ h, ← measureSections_gf s b v h]
  rfl

theorem measureBoot_mram (s : Dev) (b : Bool) (v : Nat) : (s.measureBoot b v).mram = s.mram := by
  rw [measureBoot_eq, ← measureSections_mram s b v]
  dsimp only
  obtain ⟨m, x, e⟩ := extend_form _ 3 0 0 _
  rw [e]
  rfl

/-! ### The checks of a slot's image (R562, R564) -/

/-- A section's checks are numbered to 6 (R562). -/
theorem checkSection_le (s : Dev) (x : Section) (ty : Nat) : s.checkSection x ty ≤ 6 := by
  unfold Dev.checkSection
  dsimp only
  split_ifs <;> decide

theorem romCheck_lt (s : Dev) (b : Bool) : s.romCheck b < 2^4 := by
  have h := checkSection_le s
  unfold Dev.romCheck
  dsimp only
  split_ifs
  · exact Nat.lt_of_le_of_lt (h _ _) (by decide)
  · exact Nat.lt_of_le_of_lt (h _ _) (by decide)
  · decide
  · decide

theorem slotCheck_reg (b : Bool) : (slotCheckFld b).reg = R.CHIP_BOOT_STATUS := by cases b <;> rfl

theorem slotCheck_ok (b : Bool) : (slotCheckFld b).ok := by cases b <;> exact Fld.ok_of_le (by decide)

theorem slotCheck_len (b : Bool) : (slotCheckFld b).len = 4 := by cases b <;> rfl

theorem stage_apart_slotCheck (b : Bool) : F.CHIP_BOOT_STATUS_STAGE.apart (slotCheckFld b) := by
  cases b <;> exact Fld.apart_of_bits (by decide)

/-! ### BOOT_HANDOVER -/

/-- The block with SLOT_x_CHECK as a hand-over to a slot sets them. -/
def Dev.noteChecks (s : Dev) (slot : Bool) : Dev :=
  let d := if s.boot.recovered then s else (s.sf F.CHIP_BOOT_STATUS_SLOT_A_CHECK 0).sf F.CHIP_BOOT_STATUS_SLOT_B_CHECK 0
  if slot = s.mram.preferB then d else d.sf (slotCheckFld s.mram.preferB) (s.romCheck s.mram.preferB)

/-- The number of the boot, and the frame key due unless the boot is warm and debug is open. -/
def Dev.countBoot (s : Dev) : Dev :=
  { s with
    mram := { s.mram with boots := (s.mram.boots + 1) % 2^32 },
    sec := { s.sec with fkPend := !s.boot.warm || s.gf F.SEC_STATUS_DEBUG_LEVEL == 0 } }

/-- The registers that name the firmware accepted and the boot. -/
def Dev.nameBoot (s : Dev) (slot : Bool) (v : Nat) : Dev :=
  ((s.wr R.CHIP_FW_VERSION (BitVec.ofNat 32 v)).sb F.SEC_STATUS_BOOT_SLOT slot).sf F.SEC_BOOT_COUNT_COUNT s.mram.boots

/-- The block handed over to a slot. -/
def Dev.handOver (s : Dev) (slot : Bool) : Dev :=
  let v := (s.secAt (slotBase slot)).version
  ((s.countBoot.nameBoot slot v).measureBoot slot v).sf F.CHIP_BOOT_STATUS_STAGE 1

/-- A hand-over to a slot whose image fails a check changes nothing. -/
theorem bootHandover_fail {s : Dev} {slot : Bool} (h : s.romCheck slot ≠ 0) : s.bootHandover slot = s := by
  unfold Dev.bootHandover
  dsimp only
  by_cases e : slot = s.mram.preferB
  · subst e
    simp [h]
  · simp [e, h]

/-- A hand-over to the preferred slot, or to the other where that one fails a check (R564). -/
theorem bootHandover_pass {s : Dev} {slot : Bool} (h0 : s.stageNow = 0) (hr : s.boot.released = true)
    (hm : s.boot.measured = true ∨ s.boot.warm = true) (hc : s.romCheck slot = 0)
    (hp : slot = s.mram.preferB ∨ s.romCheck s.mram.preferB ≠ 0) :
    s.bootHandover slot = (s.noteChecks slot).handOver slot := by
  unfold Dev.bootHandover
  dsimp only
  rw [if_neg, if_neg]
  · rfl
  · rintro (⟨e, h⟩ | ⟨e, h⟩)
    · exact h (e ▸ hc)
    · rcases hp with hp | hp
      · exact e hp
      · exact h.elim hp (fun h => h hc)
  · rcases hm with hm | hm <;> simp [h0, hr, hm]

theorem noteChecks_form (s : Dev) (slot : Bool) : ∃ m, s.noteChecks slot = { s with regs := m } := by
  unfold Dev.noteChecks
  dsimp only
  split_ifs <;> exact ⟨_, rfl⟩

/-- A slot that was passed over shows the check it failed. -/
theorem noteChecks_check {s : Dev} {slot : Bool} (h : slot ≠ s.mram.preferB) :
    (s.noteChecks slot).gf (slotCheckFld s.mram.preferB) = s.romCheck s.mram.preferB := by
  unfold Dev.noteChecks
  rw [if_neg h, gf_sf_same _ _ _ (slotCheck_ok _), slotCheck_len]
  exact Nat.mod_eq_of_lt (romCheck_lt s _)

theorem handOver_stage (s : Dev) (slot : Bool) : (s.handOver slot).stageNow = 1 :=
  gf_sf_same _ _ _ (Fld.ok_of_le (by decide))

theorem handOver_mram (s : Dev) (slot : Bool) :
    (s.handOver slot).mram = { s.mram with boots := (s.mram.boots + 1) % 2^32 } :=
  measureBoot_mram (s.countBoot.nameBoot slot _) slot _

theorem handOver_version (s : Dev) (slot : Bool) :
    (s.handOver slot).rd R.CHIP_FW_VERSION = BitVec.ofNat 32 (s.secAt (slotBase slot)).version := by
  unfold Dev.handOver
  dsimp only
  rw [rd_sf_ne _ _ (by decide), measureBoot_rd _ _ _ (by decide), Dev.nameBoot, rd_sf_ne _ _ (by decide), Dev.sb,
    rd_sf_ne _ _ (by decide), rd_wr_same]

/-- A field of no register that a hand-over writes but its own. -/
theorem handOver_gf (s : Dev) (slot : Bool) {f : Fld} (h : F.CHIP_BOOT_STATUS_STAGE.apart f)
    (h' : F.SEC_STATUS_LOG_OVERFLOW.apart f) :
    (s.handOver slot).gf f = (s.countBoot.nameBoot slot (s.secAt (slotBase slot)).version).gf f := by
  unfold Dev.handOver
  rw [gf_sf_of_apart _ _ h, measureBoot_gf _ _ _ h']

theorem handOver_slot (s : Dev) (slot : Bool) : (s.handOver slot).on F.SEC_STATUS_BOOT_SLOT = slot := by
  rw [Dev.on, handOver_gf s slot (Fld.apart_of_key (by decide)) (Fld.apart_of_bits (by decide)), Dev.nameBoot,
    gf_sf_of_apart _ _ (Fld.apart_of_key (by decide))]
  exact on_sb_same _ _ _ (Fld.ok_of_le (by decide)) rfl

theorem handOver_count (s : Dev) (slot : Bool) :
    (s.handOver slot).gf F.SEC_BOOT_COUNT_COUNT = (s.handOver slot).mram.boots := by
  rw [handOver_gf s slot (Fld.apart_of_key (by decide)) (Fld.apart_of_key (by decide)), handOver_mram, Dev.nameBoot,
    gf_sf_same _ _ _ (Fld.ok_of_le (by decide))]
  exact Nat.mod_mod _ _

theorem handOver_check (s : Dev) (slot b : Bool) : (s.handOver slot).gf (slotCheckFld b) = s.gf (slotCheckFld b) := by
  have hcount : (slotCheckFld b).reg.key ≠ R.SEC_BOOT_COUNT.key := by rw [slotCheck_reg]; decide
  have hstatus : (slotCheckFld b).reg.key ≠ R.SEC_STATUS.key := by rw [slotCheck_reg]; decide
  have hver : (slotCheckFld b).reg.key ≠ R.CHIP_FW_VERSION.key := by rw [slotCheck_reg]; decide
  rw [handOver_gf s slot (stage_apart_slotCheck b) (Fld.apart_of_key hstatus), Dev.nameBoot,
    gf_sf_key (f := F.SEC_BOOT_COUNT_COUNT) _ _ hcount, Dev.sb, gf_sf_key (f := F.SEC_STATUS_BOOT_SLOT) _ _ hstatus,
    gf_wr_ne _ _ hver]
  exact gf_regs rfl _

/-- What a hand-over to a slot leaves where the slot passes every check (R8, R564, R571, R604). -/
theorem bootHandover_spec {s : Dev} {slot : Bool} (h0 : s.stageNow = 0) (hr : s.boot.released = true)
    (hm : s.boot.measured = true ∨ s.boot.warm = true) (hc : s.romCheck slot = 0)
    (hp : slot = s.mram.preferB ∨ s.romCheck s.mram.preferB ≠ 0) :
    (s.bootHandover slot).stageNow = 1
      ∧ (s.bootHandover slot).rd R.CHIP_FW_VERSION = BitVec.ofNat 32 (s.secAt (slotBase slot)).version
      ∧ (s.bootHandover slot).on F.SEC_STATUS_BOOT_SLOT = slot
      ∧ (s.bootHandover slot).mram.boots = (s.mram.boots + 1) % 2^32
      ∧ (s.bootHandover slot).gf F.SEC_BOOT_COUNT_COUNT = (s.bootHandover slot).mram.boots
      ∧ (slot ≠ s.mram.preferB →
          (s.bootHandover slot).gf (slotCheckFld s.mram.preferB) = s.romCheck s.mram.preferB) := by
  have hcheck := noteChecks_check (s := s) (slot := slot)
  obtain ⟨m, e⟩ := noteChecks_form s slot
  rw [bootHandover_pass h0 hr hm hc hp]
  rw [e] at hcheck ⊢
  refine ⟨handOver_stage _ _, handOver_version _ _, handOver_slot _ _, ?_, handOver_count _ _, fun h => ?_⟩
  · rw [handOver_mram]
  · rw [handOver_check, hcheck h]

/-! ### RECOVERY -/

/-- With both slots failed the block waits in RECOVERY and shows both checks (R610). -/
theorem recovery_spec {s : Dev} (h0 : s.stageNow = 0) (hr : s.boot.released = true) (ha : s.romCheck false ≠ 0)
    (hb : s.romCheck true ≠ 0) :
    s.recovery.stageNow = 3 ∧ s.recovery.boot.recovered = true
      ∧ s.recovery.gf F.CHIP_BOOT_STATUS_SLOT_A_CHECK = s.romCheck false
      ∧ s.recovery.gf F.CHIP_BOOT_STATUS_SLOT_B_CHECK = s.romCheck true
      ∧ s.recovery.rd R.CHIP_FW_VERSION = 0#32 := by
  unfold Dev.recovery
  dsimp only
  rw [if_neg (by simp [h0, hr, ha, hb])]
  refine ⟨gf_sf_same _ _ _ (Fld.ok_of_le (by decide)), rfl, ?_, ?_, ?_⟩
  · rw [gf_sf_of_apart _ _ (Fld.apart_of_bits (by decide)), gf_sf_of_apart _ _ (Fld.apart_of_bits (by decide)),
      gf_sf_same _ _ _ (Fld.ok_of_le (by decide))]
    exact Nat.mod_eq_of_lt (romCheck_lt s false)
  · rw [gf_sf_of_apart _ _ (Fld.apart_of_bits (by decide)), gf_sf_same _ _ _ (Fld.ok_of_le (by decide))]
    exact Nat.mod_eq_of_lt (romCheck_lt s true)
  · rw [rd_sf_ne _ _ (by decide), rd_sf_ne _ _ (by decide), rd_sf_ne _ _ (by decide), rd_wr_same]

/-! ### FIRMWARE_INIT_DONE -/

/-- The initialisation ends in RUNNING and shows its time (R605). -/
theorem firmwareInitDone_spec {s : Dev} (env : InitEnv) (h : s.stageNow = 1) :
    (s.firmwareInitDone env).stageNow = 2
      ∧ (s.firmwareInitDone env).gf F.CHIP_BOOT_STATUS_INIT_MS = min 65535 env.ms := by
  unfold Dev.firmwareInitDone
  rw [if_neg (by simp [h])]
  refine ⟨gf_sf_same _ _ _ (Fld.ok_of_le (by decide)), ?_⟩
  dsimp only
  rw [gf_sf_of_apart _ _ (Fld.apart_of_bits (by decide)), gf_sf_same _ _ _ (Fld.ok_of_le (by decide))]
  exact Nat.mod_eq_of_lt (Nat.lt_of_le_of_lt (Nat.min_le_left _ _) (by decide))

/-! ### The statement -/

/-- COLD_RESET: registers at their reset words but OTP's and the grade's, and what stays (R9, R23, R24, R26). -/
theorem coldReset_spec (s : Dev) :
    (∀ r : Reg, r.key ≠ R.SEC_STATUS.key → r.key ≠ R.SEC_ROLLBACK.key → r.key ≠ R.CHIP_PART_ID.key →
        (s.aq1 = true → r.key ≠ R.PWR_P_CEIL.key ∧ ∀ k, r.key ≠ (R.THERM_NODE_LIMIT k).key) →
        s.coldReset.rd r = Dev.reset.rd r)
    ∧ s.coldReset.rd R.CHIP_PART_ID = s.rd R.CHIP_PART_ID
    ∧ s.coldReset.gf F.SEC_STATUS_OWNER_SLOTS = s.gf F.SEC_STATUS_OWNER_SLOTS
    ∧ s.coldReset.on F.SEC_STATUS_OWNER_COUNTERSIGN = s.on F.SEC_STATUS_OWNER_COUNTERSIGN
    ∧ s.coldReset.on F.SEC_STATUS_MOALITH0_REVOKED = s.on F.SEC_STATUS_MOALITH0_REVOKED
    ∧ s.coldReset.rd R.SEC_ROLLBACK = s.rd R.SEC_ROLLBACK := by
  have hstatus : s.coldReset.rd R.SEC_STATUS = s.torn.coldOtp.rd R.SEC_STATUS := coldReset_rd s fun _ => by decide
  have hgf : ∀ f : Fld, f.reg = R.SEC_STATUS → s.coldReset.gf f = s.torn.coldOtp.gf f := fun f hf => by
    unfold Dev.gf
    rw [hf, hstatus]
  refine ⟨fun r h1 h2 h3 hg => ?_, ?_, ?_, ?_, ?_, ?_⟩
  · rw [coldReset_rd s fun ha => ⟨(hg ha).1, fun k _ => (hg ha).2 k⟩, coldOtp_rd _ h1 h2 h3]
  · rw [coldReset_rd s fun _ => by decide, coldOtp_part, torn_rd s (by decide)]
  · rw [hgf _ rfl, coldOtp_owners, torn_gf s (by decide)]
  · rw [Dev.on, hgf _ rfl, ← Dev.on, coldOtp_countersign, Dev.on, torn_gf s (by decide), ← Dev.on]
  · rw [Dev.on, hgf _ rfl, ← Dev.on, coldOtp_revoked, Dev.on, torn_gf s (by decide), ← Dev.on]
  · rw [coldReset_rd s fun _ => by decide, coldOtp_rollback, torn_rd s (by decide)]

/-- What a cold reset leaves beside the registers (R24, R579, R587). -/
theorem coldReset_keeps (s : Dev) :
    s.coldReset.mram = s.mram ∧ s.coldReset.now = 0 ∧ s.coldReset.staging = [] ∧ s.coldReset.boot.released = false
      ∧ (s.on F.ALM_STATUS_FLUSHING = false → s.coldReset.alm.ring = s.alm.ring)
      ∧ (s.flash.op = none → s.coldReset.flash = s.flash) := by
  obtain ⟨m, e⟩ := coldReset_form s
  rw [e]
  exact ⟨torn_mram s, rfl, rfl, rfl, torn_ring, torn_flash⟩

/-- Settles O56: each command of the boot by what its operation leaves. -/
theorem bootSteps : Obligations.BootSteps := by
  unfold Obligations.BootSteps
  refine ⟨fun s => ⟨s.dev.coldReset, rfl, ?cold⟩, ?release, ?nominal, ?other, ?preferred, ?fallback, ?recovery, ?done⟩
  case cold =>
    obtain ⟨hregs, hpart, hown, hctr, hrev, hroll⟩ := coldReset_spec s.dev
    exact ⟨hregs, hpart, hown, hctr, hrev, hroll, coldReset_keeps s.dev⟩
  case release =>
    rintro s env d h rfl
    refine done_eq (d := s.dev.porRelease env) ?_
    simp only [Dev.porRelease, h, Bool.false_eq_true, if_false]
  case nominal =>
    intro s f i h0 hr hw hm hf
    have e := refMeasureDone_eq f h0 hr hw hm
    have hfreq : (s.dev.sf F.TIME_REF_CFG_FREQ i).gf F.TIME_REF_CFG_FREQ = i :=
      (gf_sf_same s.dev _ i (Fld.ok_of_le (by decide))).trans (Nat.mod_eq_of_lt (nominalOf_lt hf))
    simp only [hf, Option.elim, hfreq] at e
    refine ⟨_, done_eq e, rfl, rfl, fun r h => ?_, hfreq⟩
    exact rd_sf_ne (f := F.TIME_REF_CFG_FREQ) s.dev i (h R.TIME_REF_CFG (List.mem_singleton.2 rfl))
  case other =>
    intro s f h0 hr hw hm hf
    have e := refMeasureDone_eq f h0 hr hw hm
    simp only [hf, Option.elim] at e
    exact ⟨_, done_eq e, rfl, rfl, rfl⟩
  case preferred =>
    intro s x h0 hr hm hx
    refine ⟨s.dev.bootHandover x, rfl, bootHandover_fail, fun hc => ?_⟩
    obtain ⟨hstage, hver, hslot, hboots, hcount, _⟩ := bootHandover_spec h0 hr hm hc (Or.inl hx)
    exact ⟨hstage, hver, hslot, hboots, hcount⟩
  case fallback =>
    intro s x h0 hr hm hx hp
    refine ⟨s.dev.bootHandover x, rfl, bootHandover_fail, fun hc => ?_⟩
    obtain ⟨hstage, hver, hslot, hboots, hcount, hcheck⟩ := bootHandover_spec h0 hr hm hc (Or.inr hp)
    exact ⟨hstage, hver, hslot, hboots, hcount, hcheck hx⟩
  case recovery =>
    exact fun s h0 hr ha hb => ⟨s.dev.recovery, rfl, recovery_spec h0 hr ha hb⟩
  case done =>
    exact fun s env h => ⟨s.dev.firmwareInitDone env, rfl, firmwareInitDone_spec env h⟩

end Sys2Proof.Machine

/-! ## The time reference (R28, R29, R126 to R131) -/
namespace Sys2Proof.Machine

/-- HOLDOVER and its event are registers: nothing else changes (R127, R162). -/
theorem setHoldover_form (s : Dev) (v : Bool) : ∃ m, s.setHoldover v = { s with regs := m } := by
  unfold Dev.setHoldover
  split
  · exact ⟨_, rfl⟩
  · exact ⟨_, rfl⟩

/-- The reference period in force rests on the PLL's ratio alone (R125). -/
theorem setHoldover_refPeriod (s : Dev) (v : Bool) : (s.setHoldover v).refPeriod = s.refPeriod := by
  obtain ⟨m, e⟩ := setHoldover_form s v
  rw [e]
  rfl

theorem refLost_present {s : Dev} (h : s.on F.TIME_STATUS_REF_PRESENT = true) :
    s.refLost = (s.sf F.TIME_STATUS_REF_PRESENT 0).holdover C.TIME_REF_LOST := if_pos h

theorem pllUnlock_locked {s : Dev} (h : s.on F.TIME_STATUS_PLL_LOCKED = true) :
    s.pllUnlock = s.holdover C.TIME_PLL_UNLOCK := if_pos h

theorem slewEnd_slewing {s : Dev} (h : s.on F.TIME_STATUS_SLEWING = true) :
    s.slewEnd = (s.advanceTo s.time.slewEnd).sf F.TIME_STATUS_SLEWING 0 := if_pos h

/-- A reference that comes back sets REF_PRESENT and takes the qualifier out of its idle state (R126). -/
theorem refPresent_eq (s : Dev) :
    s.refPresent = if s.gf F.TIME_STATUS_QUAL_STATE = 0 then (s.sf F.TIME_STATUS_REF_PRESENT 1).sf F.TIME_STATUS_QUAL_STATE 1
      else s.sf F.TIME_STATUS_REF_PRESENT 1 := by
  have h : (s.sf F.TIME_STATUS_REF_PRESENT 1).gf F.TIME_STATUS_QUAL_STATE = s.gf F.TIME_STATUS_QUAL_STATE :=
    gf_sf_of_apart s 1 (Fld.apart_of_bits (by decide))
  rw [← h]
  rfl

/-- A reference that comes back changes nothing but TIME.STATUS. -/
theorem refPresent_frame (s : Dev) : s.regsBut s.refPresent [R.TIME_STATUS] ∧ s.onlyRegs s.refPresent := by
  rw [refPresent_eq]
  split
  · refine ⟨fun r hr => ?_, _, rfl⟩
    have hk := hr _ (List.mem_singleton_self _)
    rw [rd_sf_ne (f := F.TIME_STATUS_QUAL_STATE) _ _ hk, rd_sf_ne (f := F.TIME_STATUS_REF_PRESENT) _ _ hk]
  · exact ⟨fun r hr => rd_sf_ne (f := F.TIME_STATUS_REF_PRESENT) _ _ (hr _ (List.mem_singleton_self _)), _, rfl⟩

theorem refPresent_on (s : Dev) : s.refPresent.on F.TIME_STATUS_REF_PRESENT = true := by
  have h : (s.sf F.TIME_STATUS_REF_PRESENT 1).on F.TIME_STATUS_REF_PRESENT = true :=
    on_sb_same s F.TIME_STATUS_REF_PRESENT true (Fld.ok_of_le (by decide)) rfl
  rw [refPresent_eq]
  split
  · rw [Dev.on, gf_sf_of_apart _ 1 (Fld.apart_of_bits (by decide)), ← Dev.on, h]
  · exact h

theorem refPresent_qualState (s : Dev) : s.refPresent.gf F.TIME_STATUS_QUAL_STATE
    = if s.gf F.TIME_STATUS_QUAL_STATE = 0 then 1 else s.gf F.TIME_STATUS_QUAL_STATE := by
  rw [refPresent_eq]
  split
  · exact gf_sf_same _ _ 1 (Fld.ok_of_le (by decide))
  · exact gf_sf_of_apart s 1 (Fld.apart_of_bits (by decide))

/-- A relock that ends holdover slews over the phase error (R127). -/
theorem pllLocked_held {s : Dev} (err : Int) (hr : s.on F.TIME_STATUS_REF_PRESENT = true)
    (hl : s.on F.TIME_STATUS_PLL_LOCKED = false) (hh : s.on F.TIME_STATUS_HOLDOVER = true) :
    s.pllLocked err = (
      let d := ({ s with running := true }.sf F.TIME_STATUS_PLL_LOCKED 1).setHoldover false
      ({ d.sf F.TIME_STATUS_SLEWING 1 with
          time := { d.time with slewEnd := d.now + slewTicks err s.refPeriod * 1000000 / 256 } }).qualRestart 2) := by
  simp only [Dev.pllLocked, hr, hl, hh, setHoldover_refPeriod]
  rfl

/-- A lock out of no holdover, as the first one is, has nothing to slew (R127). -/
theorem pllLocked_first {s : Dev} (err : Int) (hr : s.on F.TIME_STATUS_REF_PRESENT = true)
    (hl : s.on F.TIME_STATUS_PLL_LOCKED = false) (hh : s.on F.TIME_STATUS_HOLDOVER = false) :
    s.pllLocked err = ((({ s with running := true }.sf F.TIME_STATUS_PLL_LOCKED 1).setHoldover false).qualRestart 2) := by
  simp only [Dev.pllLocked, hr, hl, hh]
  rfl

/-- A value within the bounds of its field is not cut. -/
theorem satSigned_of_le {f : Int} (h : f.natAbs ≤ 2000000) : satSigned 32 f = f := by
  unfold satSigned
  omega

/-- The first gate after a restart, in range, notes its offset and compares it with no other (R128, R129). -/
theorem qualGate_first {s : Dev} {cycles nom : Nat} {f : Int} (hnom : nom = max 10 (s.gf F.TIME_QUAL_CFG_GATE) * 256000000)
    (hf : f = roundDiv (((cycles : Int) - nom) * 1000000000) nom) (hr : f.natAbs ≤ 2000000)
    (hl : s.on F.TIME_STATUS_PLL_LOCKED = true) (h1 : s.time.first = true) :
    s.qualGate cycles = (
      let d := ((s.advanceTo (s.time.gateAt + cycles / 256)).si F.TIME_QUAL_OFFSET_OFFSET f).sf F.TIME_STATUS_OUT_OF_RANGE 0
      { d with time := { s.time with first := false, gateAt := d.now, bad := 0 } }) := by
  have hout : decide (2000000 < f.natAbs) = false := decide_eq_false (Nat.not_lt.2 hr)
  simp only [Dev.qualGate, ← hnom, ← hf, hl, h1, hout, satSigned_of_le hr]
  rfl

/-- Settles O17: each command of the reference by its operation's case. -/
theorem timeReference : Obligations.TimeReference := by
  unfold Obligations.TimeReference
  refine ⟨?lost, ?present, ?relock, ?lock, ?unlock, ?slew, ?gate⟩
  case lost => exact fun s h => done_eq (refLost_present h)
  case present =>
    exact fun s => ⟨_, rfl, refPresent_on s.dev, refPresent_qualState s.dev, refPresent_frame s.dev⟩
  case relock => exact fun s err hr hl hh => done_eq (pllLocked_held err hr hl hh)
  case lock => exact fun s err hr hl hh => done_eq (pllLocked_first err hr hl hh)
  case unlock => exact fun s h => done_eq (pllUnlock_locked h)
  case slew => exact fun s h => done_eq (slewEnd_slewing h)
  case gate => exact fun s cycles nom f hnom hf hr hl h1 => done_eq (qualGate_first hnom hf hr hl h1)

end Sys2Proof.Machine

/-! ## Register-access packets and faults found (R28, R48, R78, R86, R87, R413, R472) -/
namespace Sys2Proof.Machine

/-! ### A packet at its port -/

/-- What a packet with this header asks for, and where its answer goes (R86). -/
def requestOf (h : RaHeader) (p op : Nat) : ReplyX :=
  { port := p, op := op, unit := h.unit, seq := h.seq, src := h.srcIp, srcPort := h.srcPort }

/-- A packet of this header is one that the port, in the block `b` with its frame counted, accepts (R413). -/
structure PortTakes (s b : Dev) (p : Nat) (h : RaHeader) : Prop where
  up : s.on (F.NET_STATUS_LINK_UP p) = true
  en : s.on (F.NET_CTRL_EN p) = true
  counted : b = s.rxFrame p
  raEn : b.on (F.NET_CTRL_RA_EN p) = true
  port : h.dstPort = b.gf (F.NET_RA_PORT_PORT p)
  source : b.raSource p h.srcIp = true

/-- A packet for another UDP port or from another source is counted and raised (R413). -/
theorem raPacket_rejected {s b : Dev} {p : Nat} {h : RaHeader} (op : Nat) (es : List (Word × Word))
    (up : s.on (F.NET_STATUS_LINK_UP p) = true) (en : s.on (F.NET_CTRL_EN p) = true) (hb : b = s.rxFrame p)
    (hr : b.on (F.NET_CTRL_RA_EN p) = false ∨ h.dstPort ≠ b.gf (F.NET_RA_PORT_PORT p) ∨ b.raSource p h.srcIp = false) :
    s.raPacket p h op es = (b.inc (F.NET_RA_REJECTED_COUNT p)).raise (C.NET_RA_REJECTED p) := by
  subst hb
  have hr' : (!((s.rxFrame p).on (F.NET_CTRL_RA_EN p))) = true ∨ h.dstPort ≠ (s.rxFrame p).gf (F.NET_RA_PORT_PORT p)
      ∨ (!((s.rxFrame p).raSource p h.srcIp)) = true := by simpa using hr
  simp only [Dev.raPacket, up, en, if_pos hr', Bool.and_self, Bool.not_true, Bool.false_eq_true, if_false]

section
variable {s b : Dev} {p : Nat} {h : RaHeader} {op : Nat} {es : List (Word × Word)} (t : PortTakes s b p h)
include t

/-- A packet that is not well formed is answered MALFORMED (R86). -/
theorem raPacket_malformed (hf : raFormed h.version op h.count es = false) :
    s.raPacket p h op es = b.answer (requestOf h p op) 3 [] := by
  obtain ⟨up, en, rfl, ra, port, source⟩ := t
  simp only [Dev.raPacket, up, en, ra, port, source, hf, requestOf, Bool.and_self, Bool.not_true, Bool.not_false,
    Bool.false_eq_true, ne_eq, not_true_eq_false, or_self, if_false, if_true]

/-- A repeat of the last request of its source gets its answer again (R87). -/
theorem raPacket_repeat {a : AnsX} {st : Nat} {l : List (Word × Word)} (hf : raFormed h.version op h.count es = true)
    (ha : b.answered.find? (fun a => a.src == h.srcIp && a.seq == h.seq) = some a) (hl : a.answer = some (st, l)) :
    s.raPacket p h op es = b.respond p (b.raOut p h.srcIp h.srcPort a.op h.unit h.seq st l) := by
  obtain ⟨up, en, rfl, ra, port, source⟩ := t
  simp only [Dev.raPacket, up, en, ra, port, source, hf, ha, hl, Bool.and_self, Bool.not_true,
    Bool.false_eq_true, ne_eq, not_true_eq_false, or_self, if_false]

/-- A request that is new goes to the unit it names (R86, R472). -/
theorem raPacket_new (hf : raFormed h.version op h.count es = true)
    (ha : b.answered.find? (fun a => a.src == h.srcIp && a.seq == h.seq) = none) :
    s.raPacket p h op es = b.routeRequest (netReq p) (requestOf h p op) es := by
  obtain ⟨up, en, rfl, ra, port, source⟩ := t
  simp only [Dev.raPacket, up, en, ra, port, source, hf, ha, requestOf, Bool.and_self, Bool.not_true,
    Bool.false_eq_true, ne_eq, not_true_eq_false, or_self, if_false]

end

/-! ### The form of a request (R86) -/

theorem raFormed_version {v op n : Nat} {es : List (Word × Word)} (h : v ≠ 1) : raFormed v op n es = false := by
  simp [raFormed, h]

theorem raFormed_read {v n : Nat} {l : List Word} (hv : v = 1) (hn : n = l.length) (h1 : 1 ≤ l.length) (h64 : l.length ≤ 64) :
    raFormed v 1 n (l.map (fun a => (a, 0#32))) = true := by
  simp [raFormed, hv, hn, h64]
  omega

theorem raFormed_write {v n : Nat} {l : List (Word × Word)} (hv : v = 1) (hn : n = l.length) (h1 : 1 ≤ l.length)
    (h64 : l.length ≤ 64) : raFormed v 2 n l = true := by
  simp [raFormed, hv, hn, h1, h64]

theorem raFormed_fence {v n : Nat} (hv : v = 1) (hn : n = 0) : raFormed v 3 n [] = true := by
  simp [raFormed, hv, hn]

/-! ### Where a request is executed (R472) -/

/-- A request for this unit is noted and executed here. -/
theorem routeRequest_here {s : Dev} {q : Requester} {r : ReplyX} (es : List (Word × Word))
    (hu : r.unit = 0 ∨ r.unit = s.unit ∨ (s.pole = true ∧ r.unit = 1)) (hm : s.mayExecute q r.op = true) :
    s.routeRequest q r es = (s.noteRequest r).execRequest q r es := by
  simp only [Dev.routeRequest, if_pos hu, hm, if_true]

/-- The Pole unit notes a request for another unit and sends it there. -/
theorem routeRequest_away {s : Dev} {q : Requester} {r : ReplyX} (es : List (Word × Word)) (h0 : r.unit ≠ 0)
    (hu : r.unit ≠ s.unit) (h1 : r.unit ≠ 1) (hp : s.pole = true) (hh : (s.hopOf r.unit).isSome = true) :
    s.routeRequest q r es = (s.noteRequest r).sendReq q (some r) r.unit r.op r.seq es := by
  have hn : (s.hopOf r.unit).isNone = false := by rw [Option.isNone_eq_false_iff, hh]
  simp only [Dev.routeRequest, h0, hu, h1, hp, hn, and_false, or_self, if_false, Bool.not_true, Bool.false_eq_true]

/-! ### What a request does (R66, R86, R87, R197) -/

/-- A READ none of whose reads stays open is answered at once. -/
theorem execRequest_read {s : Dev} {q : Requester} {r : ReplyX} (l : List Word) (ho : r.op = 1)
    (hv : ∀ e ∈ (s.readAll q l).1, e.2.isSome = true) :
    s.execRequest q r (l.map (fun a => (a, 0#32))) = (
      let w := (s.readAll q l).2.readOpen q (s.readAll q l).1
      w.2.answer r 0 w.1) := by
  have hl : (l.map (fun a => (a, 0#32))).map (fun e => e.1) = l := by
    rw [List.map_map]
    exact List.map_id l
  have hn : ((s.readAll q l).1.any fun e => e.2.isNone) = false := by
    refine List.any_eq_false.2 fun e he => ?_
    simp [Option.isSome_iff_ne_none.1 (hv e he)]
  simp only [Dev.execRequest, ho, hl, Dev.answerRead, hn, Bool.false_eq_true, false_and, if_false]

/-- The entries of a WRITE are written in order and answered OK. -/
theorem execRequest_write {s : Dev} {q : Requester} {r : ReplyX} (l : List (Word × Word)) (ho : r.op = 2) :
    s.execRequest q r l = (l.foldl (fun (d : Dev) e => (d.access q e.1 e.2).settle) s).answer r 0 l := by
  simp only [Dev.execRequest, ho]

/-- A FENCE for which there is room is placed and answered when it completes. -/
theorem execRequest_fence {s : Dev} {q : Requester} {r : ReplyX} (ho : r.op = 3) (hf : (s.req q).fences.length < 8) :
    s.execRequest q r [] = (s.setReq q { s.req q with
      fences := (s.req q).fences ++ [{ token := none, pages := s.holders q, waits := s.armBlocked q, reply := some r }] }).sfQ
        q F.CHIP_FENCE_DONE_BUSY 1 := by
  simp only [Dev.execRequest, ho, Dev.placeFence, if_neg (Nat.not_le.2 hf), if_true]

/-- Noting a request leaves the requesters' fences. -/
theorem noteRequest_req (s : Dev) (r : ReplyX) (q : Requester) : (s.noteRequest r).req q = s.req q := rfl

/-! ### Reports and faults found (R28, R48, R78) -/

theorem deliverReport_cons {s : Dev} {r : Report} {rest : List Report} {g : Page} (hs : s.reports = r :: rest)
    (hg : r.next = some g) : s.deliverReport = { s with reports := rest }.receiveReport g r := by
  simp only [Dev.deliverReport, hs, hg]

theorem foundFault_parity (s : Dev) (g : Page) (u : Nat) : s.foundFault ⟨g, 29, u⟩ = s.raiseBit g 29 (paritySev g) 0 := rfl

section
variable (s : Dev) (i : Nat) {bit : Nat} (u : Nat) (h : bit ≠ 29)
include h

/-- A fault of another bit is for the operation of its kind of page. -/
theorem foundFault_bay : s.foundFault ⟨.bay i, bit, u⟩ = s.bayFault i bit u := if_neg h

theorem foundFault_clu : s.foundFault ⟨.clu i, bit, u⟩ = s.cluFault i bit u := if_neg h

theorem foundFault_qtr : s.foundFault ⟨.qtr i, bit, u⟩ = s.qtrFault i bit u := if_neg h

end

/-! ### The packets and the reports together -/

/-- Settles O38: a packet is rejected, malformed, a repeat or new; a new one is executed here or sent on. A fault found goes to the
operation of its page. -/
theorem raPackets : Obligations.RaPackets := by
  unfold Obligations.RaPackets
  refine ⟨?rejectRead, ?rejectWrite, ?rejectFence, ?readHere, ?writeHere, ?fenceHere, ?readAway, ?writeAway, ?fenceAway,
    ?badRead, ?badWrite, ?badFence, ?againRead, ?againWrite, ?againFence, ?report, ?parity, ?builder, ?mismatch, ?path, ?corrected,
    ?uncorrected, ?fabric, ?dispatch, ?pool, ?bank, ?key, ?mram⟩
  case rejectRead => exact fun s p h b l up en hb hr => done_eq (raPacket_rejected 1 _ up en hb hr)
  case rejectWrite => exact fun s p h b l up en hb hr => done_eq (raPacket_rejected 2 l up en hb hr)
  case rejectFence => exact fun s p h b up en hb hr => done_eq (raPacket_rejected 3 [] up en hb hr)
  case readHere =>
    rintro s p h b l r v up en hb ra port src hv ha hn h1 h64 hu rfl rfl hs
    exact done_eq <| (raPacket_new ⟨up, en, hb, ra, port, src⟩ (raFormed_read hv hn h1 h64) ha).trans <|
      (routeRequest_here _ hu rfl).trans (execRequest_read l rfl hs)
  case writeHere =>
    rintro s p h b l r up en hb ra port src hv ha hn h1 h64 hu rfl
    exact done_eq <| (raPacket_new ⟨up, en, hb, ra, port, src⟩ (raFormed_write hv hn h1 h64) ha).trans <|
      (routeRequest_here _ hu rfl).trans (execRequest_write l rfl)
  case fenceHere =>
    rintro s p h b r d up en hb ra port src hv ha hn hu rfl rfl hf
    have hm : b.mayExecute (netReq p) 3 = true := decide_eq_true hf
    exact done_eq <| (raPacket_new ⟨up, en, hb, ra, port, src⟩ (raFormed_fence hv hn) ha).trans <|
      (routeRequest_here _ hu hm).trans (execRequest_fence rfl hf)
  case readAway =>
    rintro s p h b l r up en hb ra port src hv ha hn h1 h64 u0 uo u1 hp hh rfl
    exact done_eq <| (raPacket_new ⟨up, en, hb, ra, port, src⟩ (raFormed_read hv hn h1 h64) ha).trans <|
      routeRequest_away _ u0 uo u1 hp hh
  case writeAway =>
    rintro s p h b l r up en hb ra port src hv ha hn h1 h64 u0 uo u1 hp hh rfl
    exact done_eq <| (raPacket_new ⟨up, en, hb, ra, port, src⟩ (raFormed_write hv hn h1 h64) ha).trans <|
      routeRequest_away _ u0 uo u1 hp hh
  case fenceAway =>
    rintro s p h b r up en hb ra port src hv ha hn u0 uo u1 hp hh rfl
    exact done_eq <| (raPacket_new ⟨up, en, hb, ra, port, src⟩ (raFormed_fence hv hn) ha).trans <|
      routeRequest_away _ u0 uo u1 hp hh
  case badRead =>
    exact fun s p h b l up en hb ra port src hv =>
      done_eq (raPacket_malformed ⟨up, en, hb, ra, port, src⟩ (raFormed_version hv))
  case badWrite =>
    exact fun s p h b l up en hb ra port src hv =>
      done_eq (raPacket_malformed ⟨up, en, hb, ra, port, src⟩ (raFormed_version hv))
  case badFence =>
    exact fun s p h b up en hb ra port src hv =>
      done_eq (raPacket_malformed ⟨up, en, hb, ra, port, src⟩ (raFormed_version hv))
  case againRead =>
    exact fun s p h b l a st es up en hb ra port src hv ha hl hn h1 h64 =>
      done_eq (raPacket_repeat ⟨up, en, hb, ra, port, src⟩ (raFormed_read hv hn h1 h64) ha hl)
  case againWrite =>
    exact fun s p h b l a st es up en hb ra port src hv ha hl hn h1 h64 =>
      done_eq (raPacket_repeat ⟨up, en, hb, ra, port, src⟩ (raFormed_write hv hn h1 h64) ha hl)
  case againFence =>
    exact fun s p h b a st es up en hb ra port src hv ha hl hn =>
      done_eq (raPacket_repeat ⟨up, en, hb, ra, port, src⟩ (raFormed_fence hv hn) ha hl)
  case report => exact fun s r rest g hs hg => done_eq (deliverReport_cons hs hg)
  case parity =>
    rintro s ⟨g, _, u⟩ rfl
    exact done_eq (foundFault_parity s.dev g u)
  case builder =>
    rintro s ⟨_, _, u⟩ i rfl rfl
    exact done_eq (foundFault_bay s.dev i u (by simp))
  case mismatch =>
    rintro s ⟨_, _, u⟩ i rfl rfl
    exact done_eq (foundFault_clu s.dev i u (by simp))
  case path =>
    rintro s ⟨_, _, u⟩ i rfl rfl
    exact done_eq (foundFault_clu s.dev i u (by simp))
  case corrected =>
    rintro s ⟨_, _, u⟩ i rfl rfl
    exact done_eq (foundFault_clu s.dev i u (by simp))
  case uncorrected =>
    rintro s ⟨_, _, u⟩ i rfl rfl
    exact done_eq (foundFault_clu s.dev i u (by simp))
  case fabric =>
    rintro s ⟨_, _, u⟩ i rfl rfl
    exact done_eq (foundFault_qtr s.dev i u (by simp))
  case dispatch =>
    rintro s ⟨_, _, u⟩ i rfl rfl
    exact done_eq (foundFault_qtr s.dev i u (by simp))
  case pool => rintro s ⟨_, _, u⟩ i rfl rfl; rfl
  case bank => rintro s ⟨_, _, u⟩ i rfl rfl; rfl
  case key => rintro s ⟨_, _, u⟩ rfl rfl; rfl
  case mram => rintro s ⟨_, _, u⟩ rfl rfl; rfl

end Sys2Proof.Machine

/-! ## Votes, dispatch and the dispatch limit (R242, R246, R260 to R263, R271, R272, R288, R301) -/
namespace Sys2Proof.Machine

/-! ### The event that reaches a builder (R27, R246, R259) -/

section
variable {s b : Dev} {bay : Fin 48} {t : Nat} {ev : EvWord} (h : (s.bay bay).nextEvent = some (t, ev))
  (hb : b = s.setBay bay { s.bay bay with events := removeFirst (· == (t, ev)) (s.bay bay).events, lastCh := ev.ch })
include h hb

/-- An EDGE word is for attribution. -/
theorem eventArrival_edge (ht : ev.type = .edge) : s.eventArrival bay = b.edgeArrives bay ev := by
  subst hb
  simp only [Dev.eventArrival, h, ht]

/-- A MISSED word counts the edges lost in each open histogram of its channel. -/
theorem eventArrival_missed (ht : ev.type = .missed) : s.eventArrival bay = { b with hists := b.hists.map (fun h =>
    if h.2.bay = bay.val ∧ h.2.ch = ev.ch ∧ h.2.st = .granted then (h.1, { h.2 with edgesLost := h.2.edgesLost + ev.tot })
    else h) } := by
  subst hb
  simp only [Dev.eventArrival, h, ht, Bool.and_eq_true, beq_iff_eq, and_assoc]

/-- A TIMEOUT or TEST word casts no vote. -/
theorem eventArrival_other (ht : ev.type = .timeout ∨ ev.type = .test) : s.eventArrival bay = b := by
  subst hb
  rcases ht with ht | ht
  · simp only [Dev.eventArrival, h, ht]
  · simp only [Dev.eventArrival, h, ht]

end

/-! ### An event with votes by the vote level (R260 to R263) -/

/-- An event without votes counts as ambient. -/
theorem edgeArrives_ambient {s : Dev} {b : Nat} {ev : EvWord} (hv : s.votesOf b ev = []) (hp : s.proofExcluded b ev.time = false) :
    s.edgeArrives b ev = (s.inc (F.BAY_AMBIENT_COUNT b)).ambient b ev.ch ev.time := by
  simp only [Dev.edgeArrives, hv, hp, List.length_nil, if_true, Bool.false_eq_true, if_false]

/-- After a proof burst an event without votes counts as nothing (R188). -/
theorem edgeArrives_excluded {s : Dev} {b : Nat} {ev : EvWord} (hv : s.votesOf b ev = []) (hp : s.proofExcluded b ev.time = true) :
    s.edgeArrives b ev = s := by
  simp only [Dev.edgeArrives, hv, hp, List.length_nil, if_true]

/-- What the vote level makes of an event of class `cls` once its demand is counted. -/
def Dev.judgeEvent (e : Dev) (b cls : Nat) (ev : EvWord) (vs : List VoteX) : Dev :=
  if e.gf (F.BAY_VOTE_STATUS_LEVEL b) ≠ 0 ∧ cls = 2 then e.dropEvent b cls vs
  else
    let t := thinStep (e.bay b).thinAcc (e.gf (F.BAY_VOTE_STATUS_KEEP b))
    let d := if e.gf (F.BAY_VOTE_STATUS_LEVEL b) = 2 then e.setBay b { e.bay b with thinAcc := t.2 } else e
    if (e.gf (F.BAY_VOTE_STATUS_LEVEL b) = 2 ∧ !t.1) ∨ 4096 < e.gf (F.BAY_VOTE_STATUS_QUEUE b) + vs.length then
      d.dropEvent b cls vs
    else d.castVotes b ev vs

/-- An event with votes counts its demand and is judged. -/
theorem edgeArrives_votes {s d e : Dev} {b : Nat} {ev : EvWord} {vs : List VoteX} {cls : Nat} (hv : vs = s.votesOf b ev)
    (hne : vs ≠ []) (hd : d = s.drainVotes b) (hc : cls = d.eventClass vs)
    (he : e = d.setBay b { d.bay b with
      demand := (d.bay b).demand + vs.length,
      demandAB := if cls = 2 then (d.bay b).demandAB else (d.bay b).demandAB + vs.length }) :
    s.edgeArrives b ev = e.judgeEvent b cls ev vs := by
  have hacc : (e.bay b).thinAcc = (d.bay b).thinAcc := by rw [he, setBay_same]
  have hn : vs.length ≠ 0 := fun h => hne (List.length_eq_zero_iff.1 h)
  unfold Dev.judgeEvent
  rw [hacc]
  simp only [Dev.edgeArrives, ← hv, ← hd, ← hc, ← he, if_neg hn]
  split
  · rfl
  · split <;> rfl

section
variable {e : Dev} {b cls : Nat} {vs : List VoteX}

/-- Above level 0 an event of class C is dropped. -/
theorem judgeEvent_classC (ev : EvWord) (hl : e.gf (F.BAY_VOTE_STATUS_LEVEL b) ≠ 0) (hc : cls = 2) :
    e.judgeEvent b cls ev vs = e.dropEvent b cls vs := if_pos ⟨hl, hc⟩

/-- Below level 2 an event that fits the queue is cast. -/
theorem judgeEvent_cast (ev : EvWord) (hl : e.gf (F.BAY_VOTE_STATUS_LEVEL b) ≠ 2)
    (hc : e.gf (F.BAY_VOTE_STATUS_LEVEL b) = 0 ∨ cls ≠ 2) (hq : e.gf (F.BAY_VOTE_STATUS_QUEUE b) + vs.length ≤ 4096) :
    e.judgeEvent b cls ev vs = e.castVotes b ev vs := by
  have hn : ¬(e.gf (F.BAY_VOTE_STATUS_LEVEL b) ≠ 0 ∧ cls = 2) := by tauto
  simp only [Dev.judgeEvent, if_neg hn, hl, Nat.not_lt.2 hq, false_and, or_self, if_false]

/-- Below level 2 an event that does not fit the queue is dropped. -/
theorem judgeEvent_full (ev : EvWord) (hl : e.gf (F.BAY_VOTE_STATUS_LEVEL b) ≠ 2)
    (hc : e.gf (F.BAY_VOTE_STATUS_LEVEL b) = 0 ∨ cls ≠ 2) (hq : 4096 < e.gf (F.BAY_VOTE_STATUS_QUEUE b) + vs.length) :
    e.judgeEvent b cls ev vs = e.dropEvent b cls vs := by
  have hn : ¬(e.gf (F.BAY_VOTE_STATUS_LEVEL b) ≠ 0 ∧ cls = 2) := by tauto
  simp only [Dev.judgeEvent, if_neg hn, hl, hq, or_true, if_true, if_false]

/-- At level 2 an event that the accumulator does not keep is dropped (R261). -/
theorem judgeEvent_thinned (ev : EvWord) (hl : e.gf (F.BAY_VOTE_STATUS_LEVEL b) = 2) (hc : cls ≠ 2)
    (hk : (e.bay b).thinAcc + e.gf (F.BAY_VOTE_STATUS_KEEP b) < 16) :
    e.judgeEvent b cls ev vs = (e.setBay b { e.bay b with
      thinAcc := (e.bay b).thinAcc + e.gf (F.BAY_VOTE_STATUS_KEEP b) }).dropEvent b cls vs := by
  simp only [Dev.judgeEvent, thinStep, hl, hc, if_neg (Nat.not_le.2 hk), and_false, if_false, if_true, Bool.not_false,
    and_self, true_or]

/-- At level 2 an event that the accumulator keeps is cast where it fits the queue (R261). -/
theorem judgeEvent_kept (ev : EvWord) (hl : e.gf (F.BAY_VOTE_STATUS_LEVEL b) = 2) (hc : cls ≠ 2)
    (hk : 16 ≤ (e.bay b).thinAcc + e.gf (F.BAY_VOTE_STATUS_KEEP b)) (hq : e.gf (F.BAY_VOTE_STATUS_QUEUE b) + vs.length ≤ 4096) :
    e.judgeEvent b cls ev vs = (e.setBay b { e.bay b with
      thinAcc := (e.bay b).thinAcc + e.gf (F.BAY_VOTE_STATUS_KEEP b) - 16 }).castVotes b ev vs := by
  simp only [Dev.judgeEvent, thinStep, hl, hc, if_pos hk, Nat.not_lt.2 hq, and_false, if_false, if_true, Bool.not_true,
    Bool.false_eq_true, or_self]

end

/-! ### The end of a thinning interval (R260, R263) -/

/-- A bay's register is not the frame number's: they lie at different offsets. -/
theorem gf_frameNum_sf_bay (s : Dev) {f : Fld} {b : Nat} (v : Nat) (hp : f.pg = .bay b) (ho : f.off = 0x210 ∨ f.off = 0x214) :
    (s.sf f v).gf F.SCAN_FRAME_NUM_FRAME = s.gf F.SCAN_FRAME_NUM_FRAME := by
  refine gf_sf_key s v ?_
  obtain ⟨pg, off, lo, len⟩ := f
  simp only [Fld.reg, Reg.key, regKey] at hp ho ⊢
  omega

/-- The demand of the interval that ends, and the level and KEEP of the next, as a bay shows them. -/
def Dev.showDemand (d : Dev) (b l k : Nat) : Dev :=
  (((d.sf (F.BAY_VOTE_DEMAND_DEMAND b) (min 65535 (d.bay b).demand)).sf (F.BAY_VOTE_DEMAND_DEMAND_AB b)
    (min 65535 (d.bay b).demandAB)).sf (F.BAY_VOTE_STATUS_LEVEL b) l).sf (F.BAY_VOTE_STATUS_KEEP b) k

theorem showDemand_frameNum (d : Dev) (b l k : Nat) :
    (d.showDemand b l k).gf F.SCAN_FRAME_NUM_FRAME = d.gf F.SCAN_FRAME_NUM_FRAME := by
  unfold Dev.showDemand
  iterate 4 rw [gf_frameNum_sf_bay (b := b) _ _ rfl (by simp)]

section
variable {s d : Dev} {bay : Fin 48} {n : Nat}
  (hn : n = (if s.now % 1000 = 0 ∧ (s.bay bay).thinEnd < s.now then s.now else (s.now / 1000 + 1) * 1000))
  (hd : d = (s.advanceTo n).drainVotes bay) (h0 : d.gf (F.BAY_VOTE_STATUS_LEVEL bay) = 0)
include hn hd h0

/-- Demand within the limit leaves level 0. -/
theorem thinningIntervalEnd_idle (hl : voteLevel (d.bay bay).demand (d.bay bay).demandAB = 0) :
    s.thinningIntervalEnd bay = (d.showDemand bay 0 16).setBay bay { d.bay bay with thinEnd := d.now, demand := 0, demandAB := 0 } := by
  simp only [Dev.thinningIntervalEnd, Dev.showDemand, ← hn, ← hd, h0, ne_eq, not_true_eq_false, if_false, hl, false_and,
    decide_false, Bool.false_eq_true, OfNat.zero_ne_ofNat]

/-- The first interval of a frame whose demand raises the level raises VOTE_THIN. -/
theorem thinningIntervalEnd_rise {l k : Nat} (hl : l = voteLevel (d.bay bay).demand (d.bay bay).demandAB) (hl0 : l ≠ 0)
    (hk : k = (if l = 2 then max 1 (16 * 4000 / (d.bay bay).demandAB) else 16))
    (hf : (d.bay bay).thinFrame ≠ d.gf F.SCAN_FRAME_NUM_FRAME + 1) :
    s.thinningIntervalEnd bay = (((d.showDemand bay l k).setBay bay
      { d.bay bay with
        thinEnd := d.now, demand := 0, demandAB := 0, thinAcc := if l = 2 then 0 else (d.bay bay).thinAcc,
        thinFrame := d.gf F.SCAN_FRAME_NUM_FRAME + 1 }).raise (C.BAY_VOTE_THIN bay)).event (E.BAY_OVERLOAD bay) := by
  have hfn := showDemand_frameNum d bay l k
  unfold Dev.showDemand at hfn
  simp only [Dev.thinningIntervalEnd, Dev.showDemand, ← hn, ← hd, h0, ne_eq, not_true_eq_false, if_false, ← hl, ← hk, hfn, hl0, hf,
    not_false_eq_true, and_self, and_true, decide_true, if_true, OfNat.zero_ne_ofNat]

end

/-! ### Dispatch (R271, R288, R301) -/

section
variable {s : Dev} {q : Fin 4} {e b : Nat} {d : DescX} (he : s.nextEngine q = some e) (hd : s.nextDesc q = some (b, d))
include he hd

/-- A histogram that needs a blocked kernel leaves as a gap. -/
theorem dispatch_blockedHist {i : Nat} (hk : (s.dequeue b d).blockedKernel q d = some i) (hs : d.sky = false) :
    s.dispatch q = ((s.dequeue b d).raise (C.CLU_KERNEL_BLOCKED (8 * q.val))).histGap d.id 12 i := by
  simp only [Dev.dispatch, he, hd, hk, hs, Bool.false_eq_true, if_false]

/-- A batch whose kernel is blocked ends. -/
theorem dispatch_blockedBatch {i : Nat} (hk : (s.dequeue b d).blockedKernel q d = some i) (hs : d.sky = true) :
    s.dispatch q = ((s.dequeue b d).raise (C.CLU_KERNEL_BLOCKED (8 * q.val))).endBatch d.id false := by
  simp only [Dev.dispatch, he, hd, hk, hs, if_true]

variable {c : Dev} (hk : (s.dequeue b d).blockedKernel q d = none)
  (hc : c = ((((s.dequeue b d).inc (F.QTR_DISPATCHED_COUNT q)).inc (F.CLU_DISPATCHES_COUNT (cluOf e))).inc
      (F.BAY_HIST_DISPATCHED_COUNT b)).setEngState e 2)
include hk hc

/-- An engine starts a histogram's chain; one with a kernel outside the standard set loses the cluster's kernel area. -/
theorem dispatch_hist {h : HistX} {d0 : Dev} (hs : d.sky = false) (hh : c.hist? d.id = some h)
    (hd0 : d0 = (if (c.chainOf h).all stdKernel then c else c.loseKernelArea (cluOf e))) :
    s.dispatch q = (
      let r := (d0.modHist d.id (fun h => { h with st := .taken })).startRun d.id h
      r.2.setEng e { r.2.eng e with run := some r.1, mem := memWrite [] 0 (h.descriptor ++ List.replicate 76 0#32) }) := by
  have hown : d0 = if (c.chainOf h).any (fun i => !(stdKernel i)) = true then c.loseKernelArea (cluOf e) else c := by
    rw [hd0, List.all_eq_not_any_not]
    cases (c.chainOf h).any fun i => !(stdKernel i)
    · rfl
    · rfl
  have hh0 : d0.hist? d.id = some h := by
    rw [hd0, ← hh]
    split <;> rfl
  simp only [Dev.dispatch, he, hd, hk, ← hc, hs, hh, Bool.not_false, Bool.true_and, ← hown, hh0, Bool.false_eq_true, if_false]

/-- An engine starts the ambient kernel on a batch. -/
theorem dispatch_batch {a : AmbBlock} (hs : d.sky = true) (ha : c.amb? d.id = some a) :
    s.dispatch q = (c.modAmb d.id (fun a => { a with st := .taken })).setEng e
      { c.eng e with
        run := some { sky := true, id := d.id, frame := a.frame, chain := [8], takenAt := c.now },
        mem := memWrite [] 0 (a.descriptor d.closedAt ++ List.replicate 76 0#32) } := by
  simp only [Dev.dispatch, he, hd, hk, ← hc, hs, ha, Bool.not_true, Bool.false_and, Bool.false_eq_true, if_false, if_true]
  rfl

end

/-! ### The dispatch limit (R272) -/

/-- Raising an error takes no time. -/
theorem raise_tick (s : Dev) (x : Cause) (src : Nat) : (s.raise x src).tick = s.tick := by
  obtain ⟨m, f, r, e, st, l, al, h⟩ := raiseBit_form s x.pg x.bit x.sev src
  rw [Dev.raise, h, Dev.tick, Dev.tick]

/-- Writing a field takes no time. -/
theorem sf_tick (s : Dev) (f : Fld) (v : Nat) : (s.sf f v).tick = s.tick := by
  rw [Dev.tick, Dev.tick, (sf_keeps s f v).1]

section
variable {s c : Dev} {q : Fin 4} {b : Nat} {d : DescX}
  (hm : minBy (fun d => d.2.lateAt) ((List.range 12).flatMap (fun l =>
    ((s.bay (12 * q.val + l)).dq ++ (s.bay (12 * q.val + l)).heldDesc).map (fun d => (12 * q.val + l, d)))) = some (b, d))
  (hc : c = s.advanceTo d.lateAt) (hl : d.lateAt ≤ c.now)
include hm hc hl

/-- A histogram past its limit leaves as ENGINE_LATE with the wait of its descriptor. -/
theorem engineLate_hist {h : HistX} (hs : d.sky = false) (hh : c.hist? d.id = some h) :
    s.engineLate q = ((((c.inc (F.BAY_ENGINE_LATE_COUNT b)).inc (F.QTR_LATE_COUNT q)).raise (C.BAY_ENGINE_LATE b) h.ch).event
      (E.QTR_LATE q)).histGap d.id 11 (min 65535 ((c.tick - d.closedAt) / 256000)) := by
  have ht : ((((c.inc (F.BAY_ENGINE_LATE_COUNT b)).inc (F.QTR_LATE_COUNT q)).raise (C.BAY_ENGINE_LATE b) h.ch).event
      (E.QTR_LATE q)).tick = c.tick := by
    rw [Dev.event, sf_tick, raise_tick, Dev.inc, sf_tick, Dev.inc, sf_tick]
  simp only [Dev.engineLate, hm, ← hc, if_neg (Nat.not_lt.2 hl), hs, hh, ht, Bool.false_eq_true, if_false]

/-- A batch past its limit ends as SKY_LATE. -/
theorem engineLate_batch (hs : d.sky = true) :
    s.engineLate q = ((c.inc F.SKY_SKY_LATE_COUNT).raise C.SKY_SKY_LATE b).endBatch d.id false := by
  simp only [Dev.engineLate, hm, ← hc, if_neg (Nat.not_lt.2 hl), hs, if_true]

end

/-! ### The commands together -/

/-- Settles O29: an event by its type and the vote level, an interval by its demand, a descriptor by its kind and its kernels. -/
theorem votes : Obligations.Votes := by
  unfold Obligations.Votes
  refine ⟨?ambient, ?excluded, ?classC, ?cast, ?full, ?thinned, ?kept, ?missed, ?other, ?idle, ?rise, ?blockedHist, ?blockedBatch,
    ?hist, ?batch, ?lateHist, ?lateBatch⟩
  case ambient =>
    exact fun s bay t ev b h ht hb hv hp => done_eq ((eventArrival_edge h hb ht).trans (edgeArrives_ambient hv hp))
  case excluded =>
    exact fun s bay t ev b h ht hb hv hp => done_eq ((eventArrival_edge h hb ht).trans (edgeArrives_excluded hv hp))
  case classC =>
    exact fun s bay t ev b d e vs cls h ht hb hv hne hd hc he hl h2 => done_eq <| (eventArrival_edge h hb ht).trans <|
      (edgeArrives_votes hv hne hd hc he).trans (judgeEvent_classC ev hl h2)
  case cast =>
    exact fun s bay t ev b d e vs cls h ht hb hv hne hd hc he hl h2 hq => done_eq <| (eventArrival_edge h hb ht).trans <|
      (edgeArrives_votes hv hne hd hc he).trans (judgeEvent_cast ev hl h2 hq)
  case full =>
    exact fun s bay t ev b d e vs cls h ht hb hv hne hd hc he hl h2 hq => done_eq <| (eventArrival_edge h hb ht).trans <|
      (edgeArrives_votes hv hne hd hc he).trans (judgeEvent_full ev hl h2 hq)
  case thinned =>
    exact fun s bay t ev b d e vs cls h ht hb hv hne hd hc he hl h2 hk => done_eq <| (eventArrival_edge h hb ht).trans <|
      (edgeArrives_votes hv hne hd hc he).trans (judgeEvent_thinned ev hl h2 hk)
  case kept =>
    exact fun s bay t ev b d e vs cls h ht hb hv hne hd hc he hl h2 hk hq => done_eq <| (eventArrival_edge h hb ht).trans <|
      (edgeArrives_votes hv hne hd hc he).trans (judgeEvent_kept ev hl h2 hk hq)
  case missed => exact fun s bay t ev b h ht hb => done_eq (eventArrival_missed h hb ht)
  case other => exact fun s bay t ev b h ht hb => done_eq (eventArrival_other h hb ht)
  case idle =>
    rintro s bay n d l k x rfl hn hd h0 rfl rfl hl
    exact done_eq (thinningIntervalEnd_idle hn hd h0 hl)
  case rise =>
    rintro s bay n d l k x rfl hn hd h0 hl hl0 hk hf
    exact done_eq (thinningIntervalEnd_rise hn hd h0 hl hl0 hk hf)
  case blockedHist => exact fun s q e b d i he hd hk hs => done_eq (dispatch_blockedHist he hd hk hs)
  case blockedBatch => exact fun s q e b d i he hd hk hs => done_eq (dispatch_blockedBatch he hd hk hs)
  case hist => exact fun s q e b d h c d0 he hd hk hs hc hh hd0 => done_eq (dispatch_hist he hd hk hc hs hh hd0)
  case batch => exact fun s q e b d a c he hd hk hs hc ha => done_eq (dispatch_batch he hd hk hc hs ha)
  case lateHist => exact fun s q b d h c hm hc hl hs hh => done_eq (engineLate_hist hm hc hl hs hh)
  case lateBatch => exact fun s q b d c hm hc hl hs => done_eq (engineLate_batch hm hc hl hs)

end Sys2Proof.Machine

/-! ## What every command leaves: lines, pins and READY (R51, R81 to R83, R614) -/
namespace Sys2Proof.Machine

/-! ### Folds and stores -/

/-- What holds at the start of a fold over numbers and is kept by each of them holds at its end. -/
theorem forN_ind {α : Type} {P : α → Prop} {f : Nat → α → α} {a : α} (n : Nat) (h0 : P a) (h : ∀ i a, i < n → P a → P (f i a)) :
    P (forN n f a) := by
  induction n with
  | zero => exact h0
  | succ n ih => exact h n _ n.lt_succ_self (ih fun i a hi => h i a (Nat.lt_succ_of_lt hi))

theorem all_congr_of_mem {α : Type} {l : List α} {p q : α → Bool} (h : ∀ a ∈ l, p a = q a) : l.all p = l.all q := by
  rw [Bool.eq_iff_iff, List.all_eq_true, List.all_eq_true]
  exact forall₂_congr fun a ha => by rw [h a ha]

section
variable {ν β : Type} {f : Nat × ν → Option β} {k : Nat} (h : ∀ v, f (k, v) = none)
include h

/-- A selection of entries that takes none of key `k` does not see an erasure of that key. -/
theorem filterMap_ferase (m : FMap ν) : (ferase m k).filterMap f = m.filterMap f := by
  induction m with
  | nil => rfl
  | cons e m ih =>
    obtain ⟨k', v⟩ := e
    by_cases hk : k' = k
    · subst hk
      simpa [ferase, h] using ih
    · have : ferase ((k', v) :: m) k = (k', v) :: ferase m k := by simp [ferase, hk]
      rw [this, List.filterMap_cons, List.filterMap_cons, ih]

/-- Nor an insertion there. -/
theorem filterMap_finsert (m : FMap ν) (v : ν) : (finsert m k v).filterMap f = m.filterMap f := by
  induction m with
  | nil => simp [finsert, h]
  | cons e m ih =>
    obtain ⟨k', v'⟩ := e
    simp only [finsert]
    split
    · rw [List.filterMap_cons, h]
    · split
      next hk => subst hk; simp [h]
      next => rw [List.filterMap_cons, List.filterMap_cons, ih]

/-- Nor a write there. -/
theorem filterMap_fset [DecidableEq ν] (d : Nat → ν) (m : FMap ν) (v : ν) : (fset d m k v).filterMap f = m.filterMap f := by
  rw [fset_eq]
  split
  · exact filterMap_ferase h m
  · exact filterMap_finsert h m v

end

/-! ### Registers but those listed -/

theorem regsBut_refl (s : Dev) (l : List Reg) : s.regsBut s l := fun _ _ => rfl

theorem regsBut_trans {s d e : Dev} {l : List Reg} (h : s.regsBut d l) (h' : d.regsBut e l) : s.regsBut e l :=
  fun r hr => (h' r hr).trans (h r hr)

/-- More registers may be listed. -/
theorem regsBut_mono {s d : Dev} {l l' : List Reg} (h : s.regsBut d l) (hl : ∀ x ∈ l, x ∈ l') : s.regsBut d l' :=
  fun r hr => h r fun x hx => hr x (hl x hx)

/-- A write of a register leaves the others. -/
theorem regsBut_wr {s d : Dev} {l : List Reg} (h : s.regsBut d l) {r : Reg} (w : Word) (hr : r ∈ l) : s.regsBut (d.wr r w) l :=
  fun x hx => (rd_wr_ne d w (hx r hr)).trans (h x hx)

theorem regsBut_sf {s d : Dev} {l : List Reg} (h : s.regsBut d l) {f : Fld} (v : Nat) (hf : f.reg ∈ l) : s.regsBut (d.sf f v) l :=
  regsBut_wr h _ hf

theorem regsBut_gf {s d : Dev} {l : List Reg} (h : s.regsBut d l) {f : Fld} (hf : ∀ x ∈ l, f.reg.key ≠ x.key) : d.gf f = s.gf f := by
  unfold Dev.gf
  rw [h _ hf]

theorem regsBut_on {s d : Dev} {l : List Reg} (h : s.regsBut d l) {f : Fld} (hf : ∀ x ∈ l, f.reg.key ≠ x.key) : d.on f = s.on f := by
  unfold Dev.on
  rw [regsBut_gf h hf]

/-! ### What messages of the interrupt lines change (R83, R408, R414) -/

/-- The counters of frames sent, which notifications move. -/
def txRegs : List Reg := [R.NET_TX_FRAMES 0, R.NET_TX_FRAMES 1]

/-- The counter of a port that exists. -/
theorem tx_mem {p : Nat} (h : p < 2) : (F.NET_TX_FRAMES_COUNT p).reg ∈ txRegs := by
  interval_cases p
  · exact List.mem_cons_self
  · exact List.mem_cons_of_mem _ List.mem_cons_self

/-- The key of such a counter. -/
theorem tx_key {x : Reg} (h : x ∈ txRegs) : x.key = 0x120D0 ∨ x.key = 0x130D0 := by
  simp only [txRegs, List.mem_cons, List.not_mem_nil, or_false] at h
  rcases h with rfl | rfl
  · exact Or.inl rfl
  · exact Or.inr rfl

/-- The block `d` is the block `s` but for messages sent or kept pending, with the frames that carry them counted. -/
structure Dev.Notified (s d : Dev) : Prop where
  regs : s.regsBut d txRegs
  routes : d.routes = s.routes
  vectors : d.vectors = s.vectors
  form : ∃ m n h o, d = { s with regs := m, nets := n, host := h, out := o }

theorem notified_refl (s : Dev) : s.Notified s := ⟨regsBut_refl s _, rfl, rfl, _, _, _, _, rfl⟩

theorem Dev.Notified.trans {s d e : Dev} (h : s.Notified d) (h' : d.Notified e) : s.Notified e := by
  obtain ⟨m, n, x, o, hf⟩ := h.form
  obtain ⟨m', n', x', o', hf'⟩ := h'.form
  exact ⟨regsBut_trans h.regs h'.regs, h'.routes.trans h.routes, h'.vectors.trans h.vectors, m', n', x', o', by rw [hf', hf]⟩

/-- What a ROUTE register lets through is not read from another register. -/
theorem routes_wr (s : Dev) {r : Reg} (w : Word) (h : ¬ (0x2400 ≤ r.key ∧ r.key < 0x2400 + 176 * 4)) : (s.wr r w).routes = s.routes :=
  filterMap_fset (fun _ => if_neg h) regDefault s.regs w

/-- A frame of a port is counted. -/
theorem notified_tx (s : Dev) {p : Nat} (h : p < 2) : s.Notified (s.inc (F.NET_TX_FRAMES_COUNT p)) := by
  refine ⟨regsBut_sf (regsBut_refl s _) _ (tx_mem h), routes_wr s _ ?_, rfl, _, _, _, _, rfl⟩
  rcases tx_key (tx_mem h) with e | e <;> rw [e] <;> decide

theorem notifyVector_notified (s : Dev) (v : Nat) : s.Notified (s.notifyVector v) := by
  unfold Dev.notifyVector
  refine List.foldlRecOn _ _ (motive := s.Notified) (notified_refl s) fun d hd e _ => ?_
  refine forN_ind 2 hd fun p d hp hd => ?_
  split
  · refine hd.trans (Dev.Notified.trans (d := d.setNet p { d.net p with notifySeq := (d.net p).notifySeq + 1 }) ?_ ?_)
    · exact ⟨regsBut_refl d _, rfl, rfl, _, _, _, _, rfl⟩
    · exact (notified_tx _ hp).trans ⟨regsBut_refl _ _, rfl, rfl, _, _, _, _, rfl⟩
  · exact hd

theorem sendVector_notified (s : Dev) (v : Nat) : s.Notified (s.sendVector v) := by
  unfold Dev.sendVector
  refine (notifyVector_notified s v).trans ?_
  dsimp only
  split
  · exact ⟨regsBut_refl _ _, rfl, rfl, _, _, _, _, rfl⟩
  · exact ⟨regsBut_refl _ _, rfl, rfl, _, _, _, _, rfl⟩

theorem pbaSync_notified (s : Dev) : s.Notified s.pbaSync := by
  unfold Dev.pbaSync
  split
  · exact notified_refl s
  · refine forN_ind 64 (notified_refl s) fun v d _ hd => ?_
    split
    · exact hd.trans ⟨regsBut_refl _ _, rfl, rfl, _, _, _, _, rfl⟩
    · exact hd

/-! ### Lines, vectors and pins (R81 to R83) -/

/-- A header register is no counter of frames sent. -/
theorem header_ne_tx (g : Page) {off : Nat} (h : off < 0x40) (h2 : off ≠ 0x2C) : ∀ x ∈ txRegs, Reg.key ⟨g, off⟩ ≠ x.key := by
  intro x hx
  rw [key_header g h h2]
  rcases tx_key hx with e | e <;> omega

section
variable {s d : Dev} (h : s.Notified d)
include h

theorem line_notified (g : Page) : d.line g = s.line g := by
  have rd : ∀ off, off < 0x40 → off ≠ 0x2C → d.rd ⟨g, off⟩ = s.rd ⟨g, off⟩ := fun off ho h2 => h.regs _ (header_ne_tx g ho h2)
  unfold Dev.line Dev.irqStatus
  rw [rd 0x20 (by decide) (by decide), rd 0x10 (by decide) (by decide), rd 0x14 (by decide) (by decide), rd 0x24 (by decide) (by decide)]

theorem asserted_notified : d.asserted = s.asserted := by
  unfold Dev.asserted
  rw [h.routes]
  refine List.filter_congr fun e _ => ?_
  cases pageOfNum e.1 with
  | none => rfl
  | some g => simp only [line_notified h g]

theorem vectorMask_notified : d.vectorMask = s.vectorMask := by
  unfold Dev.vectorMask
  rw [asserted_notified h]

theorem pinLevel_notified (n : Nat) : d.pinLevel n = s.pinLevel n := by
  unfold Dev.pinLevel
  rw [asserted_notified h]

theorem linesRight_notified (hl : s.linesRight) : d.linesRight := by
  obtain ⟨m, n, x, o, e⟩ := h.form
  obtain ⟨hv, h0, h1⟩ := hl
  refine ⟨?_, ?_, ?_⟩
  · rw [h.vectors, hv, vectorMask_notified h]
  · rw [pinLevel_notified h, ← h0, e]
  · rw [pinLevel_notified h, ← h1, e]

end

/-- The vectors as they follow their lines, each that rises with its message. -/
def Dev.driveVectors (s : Dev) : Dev :=
  if s.vectorMask = s.vectors then s
  else forN 64 (fun v (d : Dev) => if bit s.vectorMask v ∧ !(bit s.vectors v) then d.sendVector v else d) { s with vectors := s.vectorMask }

theorem irqSync_eq (s : Dev) : s.irqSync = ({ s.driveVectors with
    int0 := s.driveVectors.pinLevel 0, int1 := s.driveVectors.pinLevel 1 } : Dev).pbaSync := rfl

theorem driveVectors_notified (s : Dev) : ({ s with vectors := s.vectorMask } : Dev).Notified s.driveVectors := by
  unfold Dev.driveVectors
  split
  next h => rw [h]; exact notified_refl s
  next =>
    refine forN_ind 64 (notified_refl _) fun v d _ hd => ?_
    split
    · exact hd.trans (sendVector_notified d v)
    · exact hd

/-- The last of a settling leaves the registers but the counters of frames sent. -/
theorem irqSync_regsBut (s : Dev) : s.regsBut s.irqSync txRegs := by
  rw [irqSync_eq]
  exact regsBut_trans (driveVectors_notified s).regs (pbaSync_notified _).regs

/-- The vectors and pins show the routed lines. -/
theorem irqSync_linesRight (s : Dev) : s.irqSync.linesRight := by
  rw [irqSync_eq]
  refine linesRight_notified (pbaSync_notified _) ⟨?_, rfl, rfl⟩
  have h := driveVectors_notified s
  exact h.vectors.trans (vectorMask_notified h).symm

/-! ### CHIP.READY (R614) -/

/-- Registers that are not among the sources of READY: READY, the events of its page, and the counters of frames sent. -/
def readyRegs : List Reg := R.CHIP_READY :: R.IRQ_STATUS .chip :: txRegs

theorem readyRegs_key {x : Reg} (h : x ∈ readyRegs) : x.key = 0x5C ∨ x.key = 0x20 ∨ x.key = 0x120D0 ∨ x.key = 0x130D0 := by
  simp only [readyRegs, List.mem_cons] at h
  rcases h with rfl | rfl | h
  · exact Or.inl rfl
  · exact Or.inr (Or.inl rfl)
  · exact Or.inr (Or.inr (tx_key h))

/-- A register whose key is none of theirs. -/
theorem ne_readyRegs {k : Nat} (h : k ≠ 0x5C ∧ k ≠ 0x20 ∧ k ≠ 0x120D0 ∧ k ≠ 0x130D0) : ∀ x ∈ readyRegs, k ≠ x.key := by
  intro x hx
  rcases readyRegs_key hx with e | e | e | e <;> omega

section
variable {s d : Dev} (h : s.regsBut d readyRegs)
include h

theorem calValid_regsBut : d.calValid = s.calValid := by
  have bay : ∀ b off lo len, ∀ x ∈ readyRegs, (Fld.mk (.bay b) off lo len).reg.key ≠ x.key := by
    intro b off lo len
    rw [show (Fld.mk (.bay b) off lo len).reg.key = (128 + b % 48) * 4096 + off from rfl]
    exact ne_readyRegs (by omega)
  unfold Dev.calValid
  simp only [regsBut_on h (bay _ _ _ _), regsBut_gf h (bay _ _ _ _)]

theorem portsOk_regsBut : d.portsOk = s.portsOk := by
  have port : ∀ off lo len, off < 0x400 → ∀ x ∈ readyRegs, (Fld.mk .emit off lo len).reg.key ≠ x.key := by
    intro off lo len ho
    rw [show (Fld.mk .emit off lo len).reg.key = 0x0B * 4096 + off from rfl]
    exact ne_readyRegs (by omega)
  refine all_congr_of_mem fun p hp => ?_
  have hp : p < 48 := List.mem_range.1 hp
  rw [regsBut_on h (port _ _ _ (by omega)), regsBut_gf h (port _ _ _ (by omega))]

/-- The sources of READY do not lie in those registers. -/
theorem readyBits_regsBut : d.readyBits = s.readyBits := by
  unfold Dev.readyBits
  rw [calValid_regsBut h, portsOk_regsBut h,
    regsBut_gf h (f := F.CHIP_BOOT_STATUS_STAGE) (ne_readyRegs (by decide)), regsBut_on h (f := F.NW_STATUS_SEALED) (ne_readyRegs (by decide)),
    regsBut_on h (f := F.TIME_STATUS_PLL_LOCKED) (ne_readyRegs (by decide)), regsBut_on h (f := F.TIME_STATUS_HOLDOVER) (ne_readyRegs (by decide)),
    regsBut_on h (f := F.TIME_STATUS_REF_SETTLED) (ne_readyRegs (by decide)), regsBut_gf h (f := F.SCAN_STATUS_STATE) (ne_readyRegs (by decide)),
    regsBut_gf h (f := F.STREAM_STATUS_STATE) (ne_readyRegs (by decide)), regsBut_gf h (f := F.NW_STATUS_STATE) (ne_readyRegs (by decide)),
    regsBut_gf h (f := F.CLU_KBANK_VERSION 0) (ne_readyRegs (by decide))]

end

theorem readySync_regsBut (s : Dev) : s.regsBut s.readySync [R.CHIP_READY, R.IRQ_STATUS .chip] := by
  unfold Dev.readySync
  dsimp only
  split
  · exact regsBut_refl s _
  · exact regsBut_sf (regsBut_wr (regsBut_refl s _) _ List.mem_cons_self) _ (List.mem_cons_of_mem _ List.mem_cons_self)

theorem readySync_rd_ready (s : Dev) : s.readySync.rd R.CHIP_READY = BitVec.ofNat 32 s.readyBits := by
  unfold Dev.readySync
  dsimp only
  split
  next h => exact h
  next => exact (event_rd_ne _ E.CHIP_READY_CHANGE (by decide)).trans (rd_wr_same _ _ _)

/-- READY shows its sources once it has followed them, and the lines after it leave it so. -/
theorem irqSync_readyRight (s : Dev) : s.readySync.irqSync.readyRight := by
  have hr : s.readySync.regsBut s.readySync.irqSync txRegs := irqSync_regsBut _
  have hb : s.readySync.irqSync.readyBits = s.readyBits :=
    readyBits_regsBut (regsBut_trans (regsBut_mono (readySync_regsBut s) (by decide)) (regsBut_mono hr (by decide)))
  rw [Dev.readyRight, hb, hr R.CHIP_READY (by decide), readySync_rd_ready]

/-! ### The step -/

/-- What a settling makes of a block before READY and the lines follow. -/
def Dev.presettle (s : Dev) : Dev :=
  let s := ((((s.idleSync.lateDrains.clusterDrains.quietSync).configDue s.now).bistPump).modeSync).alignSync
  (s.dropClosed.pfwSync.lostSync).nwSync

theorem settle_eq (s : Dev) : s.settle = s.presettle.readySync.irqSync := rfl

theorem settle_right (s : Dev) : s.settle.linesRight ∧ s.settle.readyRight := ⟨irqSync_linesRight _, irqSync_readyRight _⟩

/-- Every command has an effect on the block, after which the block settles. -/
theorem exec_done (c : Instr) (s : State) : ∃ d, exec c s = State.done s d := by
  cases c <;> exact ⟨_, rfl⟩

/-- So has a step, with or without a command. -/
theorem step_settles {s t : State} (h : step s = .next t) : ∃ d : Dev, t.dev = d.settle := by
  have done : ∀ (u : State) (d : Dev), State.done u d = .next t → t.dev = d.settle := by
    intro u d e
    rw [State.done] at e
    exact congrArg State.dev (Host.Outcome.next.inj e).symm
  unfold step at h
  split at h
  next => exact ⟨s.dev.elapse, done s _ h⟩
  next c _ _ =>
    obtain ⟨d, hd⟩ := exec_done c s.tail
    exact ⟨d, done s.tail d (hd ▸ h)⟩

/-- Settles O58: what a step leaves has settled, READY second to last and the lines last. -/
theorem settledAfterStep : Obligations.SettledAfterStep := by
  unfold Obligations.SettledAfterStep
  intro s t h
  obtain ⟨d, hd⟩ := step_settles h
  rw [hd]
  exact settle_right d

/-- Settles O2: a command is its effect on the block, settled; the queue is no part of it. -/
theorem commandsAnswer : Obligations.CommandsAnswer := by
  unfold Obligations.CommandsAnswer
  intro c s
  obtain ⟨d, h⟩ := exec_done c s
  exact ⟨d.settle, h⟩

end Sys2Proof.Machine

/-! ## Recording and reporting an error (R48 to R50, R78 to R80, R633) -/
namespace Sys2Proof.Machine

/-! ### The registers that an Almanac record writes (R577 to R579) -/

/-- The registers of the Almanac that a record moves on. -/
def recordRegs : List Reg := [R.ALM_NEXT_SEQ, R.ALM_FLUSHES, R.ALM_LOST, R.IRQ_STATUS .alm] ++ flushRegs

theorem flushN_regsBut (s : Dev) (n : Nat) : s.regsBut (s.flushN n) recordRegs :=
  fun _ h => flushN_rd s n fun x hx => h x (List.mem_append_right _ hx)

theorem startFlush_regsBut (s : Dev) : s.regsBut s.startFlush recordRegs := by
  unfold Dev.startFlush
  split
  · exact regsBut_refl s _
  · split
    · exact regsBut_sf (regsBut_sf (s := s) (regsBut_refl _ _) _ (by decide)) _ (by decide)
    · exact regsBut_sf (s := s) (regsBut_refl _ _) _ (by decide)

theorem enter_regsBut (s : Dev) (r : AlmRec) : s.regsBut (s.enter r) recordRegs := by
  have h : s.regsBut ((({ s with staging := s.staging ++ [{ r with seq := s.gf F.ALM_NEXT_SEQ_SEQ }] } : Dev).sf F.ALM_NEXT_SEQ_SEQ
      (s.gf F.ALM_NEXT_SEQ_SEQ + 1)).sf F.ALM_STATUS_STAGED (s.staging ++ [{ r with seq := s.gf F.ALM_NEXT_SEQ_SEQ }]).length) recordRegs :=
    regsBut_sf (regsBut_sf (s := s) (regsBut_refl _ _) _ (by decide)) _ (by decide)
  unfold Dev.enter
  dsimp only
  split
  · exact regsBut_trans h (startFlush_regsBut _)
  · exact h

/-- A record that finds room enters, another is counted. -/
theorem enterOrLose_regsBut (s : Dev) (r : AlmRec) : s.regsBut (if s.almRoom r.sev then s.enter r
    else { s.inc F.ALM_LOST_COUNT with lostSince := s.lostSince + 1 }) recordRegs := by
  split
  · exact enter_regsBut s r
  · exact regsBut_sf (regsBut_refl s _) _ (by decide)

theorem admitRec_regsBut (s : Dev) (r : AlmRec) : s.regsBut (s.admitRec r) recordRegs := by
  refine regsBut_trans (flushN_regsBut s (min s.flushReady (s.staging.length - 1))) ?_
  unfold Dev.admitRec
  rw [← Dev.flushSync]
  generalize s.flushSync = d
  dsimp only
  split
  · refine regsBut_trans (d := if d.lostSince > 0 ∧ d.almRoom .info = true then _ else _) ?_ (enterOrLose_regsBut _ r)
    split
    · exact enter_regsBut d _
    · exact regsBut_refl d _
  · exact regsBut_sf (regsBut_refl d _) _ (by decide)

theorem record_regsBut (s : Dev) (code : Nat) (sev : Severity) (a b c d : Nat) :
    s.regsBut (s.record code sev a b c d) recordRegs := by
  unfold Dev.record
  dsimp only
  split
  · split <;> exact regsBut_refl s _
  · split
    · exact regsBut_refl s _
    · exact admitRec_regsBut s _

theorem writeEscalated_regsBut (s : Dev) (r : Report) : s.regsBut (s.writeEscalated r) recordRegs := by
  unfold Dev.writeEscalated
  split
  · exact record_regsBut s _ _ _ _ _ _
  · exact regsBut_refl s _

theorem writeEscalated_reports (s : Dev) (r : Report) : (s.writeEscalated r).reports = s.reports := by
  unfold Dev.writeEscalated
  split
  · obtain ⟨m, st, l, al, h⟩ := record_form s 0x0010 r.sev r.origin.base r.origin.base r.bit r.word
    rw [h]
  · rfl

/-! ### The page's own registers (R48 to R50, R80) -/

/-- Header registers at different offsets are different registers, of one page or of two. -/
theorem header_key_ne (g h : Page) {o p : Nat} (ho : o < 0x2C) (hp : p < 0x2C) (hne : o ≠ p) : Reg.key ⟨g, o⟩ ≠ Reg.key ⟨h, p⟩ := by
  rw [key_header g (by omega) (by omega), key_header h (by omega) (by omega)]
  omega

/-- ERR_COUNT of an error (R50). -/
def Dev.countError (s : Dev) (g : Page) (sev : Severity) : Dev :=
  if 2 ≤ sev.val then (s.incSat (F.ERR_COUNT_ALL g)).incSat (F.ERR_COUNT_SEVERE g) else s.incSat (F.ERR_COUNT_ALL g)

theorem countError_regsBut (s : Dev) (g : Page) (sev : Severity) : s.regsBut (s.countError g sev) [R.ERR_COUNT g] := by
  have h : s.regsBut (s.incSat (F.ERR_COUNT_ALL g)) [R.ERR_COUNT g] := regsBut_sf (regsBut_refl s _) _ List.mem_cons_self
  unfold Dev.countError
  split
  · exact regsBut_sf h _ List.mem_cons_self
  · exact h

/-- A counter that saturates reads one more, up to its highest value. -/
theorem gf_incSat_same (s : Dev) {f : Fld} (h : f.ok) : (s.incSat f).gf f = min (s.gf f + 1) (2^f.len - 1) := by
  unfold Dev.incSat
  rw [gf_sf_same _ _ _ h]
  have : 0 < 2^f.len := by positivity
  exact Nat.mod_eq_of_lt (by omega)

theorem countFields_apart (g : Page) :
    (F.ERR_COUNT_ALL g).apart (F.ERR_COUNT_SEVERE g) ∧ (F.ERR_COUNT_SEVERE g).apart (F.ERR_COUNT_ALL g) :=
  ⟨Or.inr ⟨Nat.le_of_ble_eq_true rfl, Or.inr (Nat.le_of_ble_eq_true rfl)⟩,
    Or.inr ⟨Nat.le_of_ble_eq_true rfl, Or.inl (Nat.le_of_ble_eq_true rfl)⟩⟩

theorem countError_all (s : Dev) (g : Page) (sev : Severity) :
    (s.countError g sev).gf (F.ERR_COUNT_ALL g) = min (s.gf (F.ERR_COUNT_ALL g) + 1) (2^(F.ERR_COUNT_ALL g).len - 1) := by
  have h := gf_incSat_same s (f := F.ERR_COUNT_ALL g) (Nat.le_of_ble_eq_true rfl)
  unfold Dev.countError
  split
  · exact (gf_sf_of_apart _ _ (countFields_apart g).2).trans h
  · exact h

theorem countError_severe (s : Dev) (g : Page) (sev : Severity) :
    (s.countError g sev).gf (F.ERR_COUNT_SEVERE g) =
      if 2 ≤ sev.val then min (s.gf (F.ERR_COUNT_SEVERE g) + 1) (2^(F.ERR_COUNT_SEVERE g).len - 1) else s.gf (F.ERR_COUNT_SEVERE g) := by
  have h : (s.incSat (F.ERR_COUNT_ALL g)).gf (F.ERR_COUNT_SEVERE g) = s.gf (F.ERR_COUNT_SEVERE g) :=
    gf_sf_of_apart s _ (countFields_apart g).1
  unfold Dev.countError
  split
  · exact (gf_incSat_same _ (Nat.le_of_ble_eq_true rfl)).trans (by rw [h])
  · exact h

/-- When ERR_FIRST takes an error (R80). -/
theorem firstTakes_iff (s : Dev) (g : Page) (n : Nat) (sev : Severity) : s.firstTakes g n sev = true ↔
    s.on (F.ERR_FIRST_VALID g) = false ∨ (s.running = true ∧ fget (fun _ => 0) s.firstAt g.num = s.now
      ∧ (s.gf (F.ERR_FIRST_SEVERITY g) < sev.val ∨ s.gf (F.ERR_FIRST_SEVERITY g) = sev.val ∧ n < s.gf (F.ERR_FIRST_CODE g))) := by
  simp [Dev.firstTakes, and_assoc]

/-- ERR_STATUS and ERR_COUNT of an error. -/
def Dev.markError (s : Dev) (g : Page) (n : Nat) (sev : Severity) : Dev := (s.sf ⟨g, 0x10, n, 1⟩ 1).countError g sev

section
variable (s : Dev) (g : Page) (n : Nat) (sev : Severity) (src : Nat)

theorem markError_form : ∃ m, s.markError g n sev = { s with regs := m } := by
  unfold Dev.markError Dev.countError
  split <;> exact ⟨_, rfl⟩

theorem markError_regsBut : s.regsBut (s.markError g n sev) [R.ERR_STATUS g, R.ERR_COUNT g] :=
  regsBut_trans (regsBut_sf (regsBut_refl s _) _ List.mem_cons_self) (regsBut_mono (countError_regsBut _ g sev) (by simp))

/-- Another header register of the page reads as before an error is marked. -/
theorem markError_rd {o : Nat} (ho : o < 0x2C) (h1 : o ≠ 0x10) (h2 : o ≠ 0x1C) : (s.markError g n sev).rd ⟨g, o⟩ = s.rd ⟨g, o⟩ := by
  refine markError_regsBut s g n sev _ fun x hx => ?_
  simp only [List.mem_cons, List.not_mem_nil, or_false] at hx
  rcases hx with rfl | rfl
  · exact header_key_ne g g ho (by decide) h1
  · exact header_key_ne g g ho (by decide) h2

/-- An error is marked, and captured where ERR_FIRST takes it. -/
theorem recordError_eq : s.recordError g n sev src =
    if s.firstTakes g n sev then (s.markError g n sev).captureFirst g n sev src else s.markError g n sev := by
  have hf : (s.markError g n sev).firstTakes g n sev = s.firstTakes g n sev := by
    obtain ⟨m, e⟩ := markError_form s g n sev
    have rd := markError_rd s g n sev (o := 0x18) (by decide) (by decide) (by decide)
    have gf : ∀ lo len, (s.markError g n sev).gf ⟨g, 0x18, lo, len⟩ = s.gf ⟨g, 0x18, lo, len⟩ := fun lo len => by
      rw [Dev.gf, Dev.gf, Fld.reg, rd]
    unfold Dev.firstTakes Dev.on
    rw [gf, gf, gf, e]
  rw [← hf]
  rfl

/-- Capturing leaves the registers but ERR_FIRST. -/
theorem captureFirst_regsBut (d : Dev) : d.regsBut (d.captureFirst g n sev src) [R.ERR_FIRST g] :=
  regsBut_wr (regsBut_refl d _) _ List.mem_cons_self

/-- ERR_STATUS and ERR_COUNT read as marked, captured or not. -/
theorem recordError_rd_marked {o : Nat} (ho : o < 0x2C) (h : o ≠ 0x18) :
    (s.recordError g n sev src).rd ⟨g, o⟩ = (s.markError g n sev).rd ⟨g, o⟩ := by
  rw [recordError_eq]
  split
  · exact captureFirst_regsBut g n sev src _ _ (List.forall_mem_singleton.2 (header_key_ne g g ho (by decide) h))
  · rfl

theorem recordError_rd_first : (s.recordError g n sev src).rd (R.ERR_FIRST g) =
    if s.firstTakes g n sev then BitVec.ofNat 32 (errWord sev n src s.captureTime) else s.rd (R.ERR_FIRST g) := by
  rw [recordError_eq]
  split
  · obtain ⟨m, e⟩ := markError_form s g n sev
    exact (rd_wr_same _ _ _).trans (by rw [e]; rfl)
  · exact markError_rd s g n sev (by decide) (by decide) (by decide)

/-! ### The report to the page one level up (R78, R79) -/

/-- The report of an error. -/
def Dev.reportOf : Report := ⟨g, n, errWord sev n src s.captureTime, sev, g, s.escalationDue g n, none⟩

/-- An error recorded, with what it escalates noted (R633). -/
def Dev.noteError : Dev :=
  if pixelLoss g n ∧ s.escalationDue g n ∧ 2 ≤ sev.val then
    { s.recordError g n sev src with
      escalated := (g.num, n, s.gf F.SCAN_FRAME_NUM_FRAME) :: (s.recordError g n sev src).escalated.filter
        (fun e => e.2.2 == s.gf F.SCAN_FRAME_NUM_FRAME) }
  else s.recordError g n sev src

theorem noteError_form : ∃ l, s.noteError g n sev src = { s.recordError g n sev src with escalated := l } := by
  unfold Dev.noteError
  split <;> exact ⟨_, rfl⟩

theorem noteError_rd (r : Reg) : (s.noteError g n sev src).rd r = (s.recordError g n sev src).rd r := by
  obtain ⟨l, e⟩ := noteError_form s g n sev src
  rw [e]
  rfl

theorem noteError_reports : (s.noteError g n sev src).reports = s.reports := by
  obtain ⟨l, e⟩ := noteError_form s g n sev src
  obtain ⟨m, f, e'⟩ := recordError_form s g n sev src
  rw [e, e']

/-- The CHIP page writes an Almanac record. -/
theorem raiseBit_chip : s.raiseBit .chip n sev src = (s.noteError .chip n sev src).writeEscalated (s.reportOf .chip n sev src) := rfl

/-- Any other page reports where severity or ERR_ENABLE has it. -/
theorem raiseBit_below {g : Page} (h : g ≠ .chip) : s.raiseBit g n sev src =
    if (s.noteError g n sev src).escalates g n sev then
      { s.noteError g n sev src with reports := (s.noteError g n sev src).reports ++ [s.reportOf g n sev src] }
    else s.noteError g n sev src := by
  cases g with
  | chip => exact absurd rfl h
  | _ => rfl

/-- The page's registers are as the error was recorded. -/
theorem raiseBit_rd {o : Nat} (ho : o < 0x2C) : (s.raiseBit g n sev src).rd ⟨g, o⟩ = (s.recordError g n sev src).rd ⟨g, o⟩ := by
  rw [← noteError_rd]
  by_cases h : g = .chip
  · subst h
    rw [raiseBit_chip]
    refine writeEscalated_regsBut _ _ _ fun x hx => ?_
    rw [key_header _ (show o < 0x40 by omega) (by omega)]
    have hk : ∀ x ∈ recordRegs, 0x40 ≤ x.key := by decide
    have := hk x hx
    simp only [Page.num]
    omega
  · rw [raiseBit_below s n sev src h]
    split <;> rfl

theorem raiseBit_gf_marked {o lo len : Nat} (ho : o < 0x2C) (h : o ≠ 0x18) :
    (s.raiseBit g n sev src).gf ⟨g, o, lo, len⟩ = (s.markError g n sev).gf ⟨g, o, lo, len⟩ := by
  rw [Dev.gf, Dev.gf, Fld.reg, raiseBit_rd s g n sev src ho, recordError_rd_marked s g n sev src ho h]

theorem raiseBit_reports_chip : (s.raiseBit .chip n sev src).reports = s.reports := by
  rw [raiseBit_chip, writeEscalated_reports, noteError_reports]

theorem raiseBit_reports {g : Page} (h : g ≠ .chip) : (s.raiseBit g n sev src).reports =
    if 2 ≤ sev.val ∨ s.on ⟨g, 0x14, n, 1⟩ = true then s.reports ++ [s.reportOf g n sev src] else s.reports := by
  have he : (s.noteError g n sev src).escalates g n sev = true ↔ 2 ≤ sev.val ∨ s.on ⟨g, 0x14, n, 1⟩ = true := by
    have rd : (s.noteError g n sev src).rd ⟨g, 0x14⟩ = s.rd ⟨g, 0x14⟩ := by
      rw [noteError_rd, recordError_rd_marked s g n sev src (by decide) (by decide),
        markError_rd s g n sev (by decide) (by decide) (by decide)]
    simp only [Dev.escalates, Dev.on, Dev.gf, Fld.reg, rd, Bool.or_eq_true, decide_eq_true_eq, ge_iff_le]
  rw [raiseBit_below s n sev src h]
  simp only [he, apply_ite Dev.reports, noteError_reports]

end

/-! ### The bit of ERR_STATUS (R48) -/

section
variable (s : Dev) (g : Page) {n : Nat} (sev : Severity) (src : Nat)

/-- A bit of ERR_STATUS is no part of ERR_COUNT. -/
theorem status_gf_count {lo len : Nat} : (s.sf ⟨g, 0x10, n, 1⟩ 1).gf ⟨g, 0x1C, lo, len⟩ = s.gf ⟨g, 0x1C, lo, len⟩ :=
  gf_sf_key s 1 (header_key_ne g g (o := 0x1C) (p := 0x10) (by decide) (by decide) (by decide))

theorem markError_status (m : Nat) :
    (s.markError g n sev).gf ⟨g, 0x10, m, 1⟩ = (s.sf ⟨g, 0x10, n, 1⟩ 1).gf ⟨g, 0x10, m, 1⟩ :=
  regsBut_gf (countError_regsBut _ g sev) (List.forall_mem_singleton.2
    (header_key_ne g g (o := 0x10) (p := 0x1C) (by decide) (by decide) (by decide)))

theorem raiseBit_on_same (hn : n < 32) : (s.raiseBit g n sev src).on ⟨g, 0x10, n, 1⟩ = true := by
  rw [Dev.on, raiseBit_gf_marked s g n sev src (by decide) (by decide), markError_status s g sev,
    gf_sf_same s ⟨g, 0x10, n, 1⟩ 1 (show n + 1 ≤ 32 by omega)]
  rfl

theorem raiseBit_on_other (hn : n < 32) {m : Nat} (h : m ≠ n) :
    (s.raiseBit g n sev src).on ⟨g, 0x10, m, 1⟩ = s.on ⟨g, 0x10, m, 1⟩ := by
  rw [Dev.on, raiseBit_gf_marked s g n sev src (by decide) (by decide), markError_status s g sev,
    gf_sf_of_apart s (f := ⟨g, 0x10, n, 1⟩) (f' := ⟨g, 0x10, m, 1⟩) 1 (Or.inr ⟨hn, Nat.lt_or_gt_of_ne h⟩)]
  rfl

end

/-- Settles O11: an error is marked, captured where ERR_FIRST takes it, and reported. -/
theorem errorRecorded : Obligations.ErrorRecorded := by
  unfold Obligations.ErrorRecorded
  rintro s d g n src sev - hn rfl
  refine ⟨raiseBit_on_same s g sev src hn, fun m _ h => raiseBit_on_other s g sev src hn h, ?all, ?severe, ?first, ?below,
    fun h => by rw [h, raiseBit_reports_chip]⟩
  case all =>
    rw [raiseBit_gf_marked s g n sev src (by decide) (by decide), Dev.markError, countError_all, status_gf_count]
  case severe =>
    rw [raiseBit_gf_marked s g n sev src (by decide) (by decide), Dev.markError, countError_severe, status_gf_count]
  case first =>
    rw [raiseBit_rd s g n sev src (by decide), recordError_rd_first]
    simp only [firstTakes_iff]
  case below => exact raiseBit_reports s n sev src

end Sys2Proof.Machine

/-! ## PAGE_CTRL: power, quiesce, drain, resume and reset of a page (R45 to R59, R538 to R541, R559, R632) -/
namespace Sys2Proof.Machine

/-! ### Writes of the NW page's header (R506) -/

/-- The block that a write of a page's header finds: one of the NW page ends its requester's unlock sequence (R506). -/
def Dev.entered (s : Dev) (q : Requester) (g : Page) : Dev := if g = .nw then s.nwOtherWrite q else s

theorem entered_of_ne (s : Dev) (q : Requester) {g : Page} (h : g ≠ .nw) : s.entered q g = s := if_neg h

/-- An error leaves the header registers of its page but ERR_STATUS, ERR_FIRST and ERR_COUNT. -/
theorem raiseBit_rd_other (s : Dev) (g : Page) (n : Nat) (sev : Severity) (src : Nat) {o : Nat} (ho : o < 0x2C) (h1 : o ≠ 0x10)
    (h2 : o ≠ 0x18) (h3 : o ≠ 0x1C) : (s.raiseBit g n sev src).rd ⟨g, o⟩ = s.rd ⟨g, o⟩ := by
  rw [raiseBit_rd s g n sev src ho, recordError_rd_marked s g n sev src ho h2, markError_rd s g n sev ho h1 h3]

/-- Ending a sequence leaves PAGE_CTRL of the NW page. -/
theorem nwOtherWrite_ctrl (s : Dev) (q : Requester) : (s.nwOtherWrite q).rd (R.PAGE_CTRL .nw) = s.rd (R.PAGE_CTRL .nw) := by
  unfold Dev.nwOtherWrite
  split
  · rfl
  · exact raiseBit_rd_other (s.setUnlock q 0) .nw _ _ _ (o := 0x0C) (by decide) (by decide) (by decide) (by decide)

theorem entered_ctrl (s : Dev) (q : Requester) (g : Page) : (s.entered q g).rd (R.PAGE_CTRL g) = s.rd (R.PAGE_CTRL g) := by
  by_cases h : g = .nw
  · rw [h]
    exact nwOtherWrite_ctrl s q
  · rw [entered_of_ne s q h]

/-- A write of PAGE_CTRL of any page. -/
theorem regWrite_ctrl {s : Dev} {q : Requester} {g : Page} (w : Word) (h : s.admits q g) :
    s.regWrite q g 0x0C w = (s.entered q g).pageCtrl g w := regWrite_header w h (by decide)

/-- PAGE_DISABLE of any page that is enabled. -/
theorem cmdPageDisable_enabled {s : Dev} {q : Requester} {g : Page} (h : s.admits q g) (he : s.on (F.PAGE_CTRL_EN g) = true) :
    s.cmdPageDisable g q = (s.entered q g).disablePage g := by
  have on : ∀ lo, (s.entered q g).on ⟨g, 0x0C, lo, 1⟩ = s.on ⟨g, 0x0C, lo, 1⟩ := fun lo => by
    rw [Dev.on, Dev.on, Dev.gf, Dev.gf, Fld.reg, entered_ctrl]
  have hw : s.cmdPageDisable g q =
      (s.entered q g).pageCtrl g (setBits (s.rd (R.PAGE_CTRL g) &&& BitVec.ofNat 32 3) 0 1 0) := by
    rw [← regWrite_ctrl _ h, Dev.cmdPageDisable, Dev.putF, regRead_header (show 0x0C < 0x40 by decide), regRow_ctrl]
    rfl
  have hq : bit (setBits (s.rd (R.PAGE_CTRL g) &&& BitVec.ofNat 32 3) 0 1 0).toNat 1 = s.on (F.PAGE_CTRL_QUIESCE g) :=
    ctrl_keep _ 0 0 1 (by decide) (by decide) (by decide)
  rw [hw]
  unfold Dev.pageCtrl
  simp only [ctrl_hi _ 0 0 8 (by decide) (by decide) (by decide), ctrl_hi _ 0 0 2 (by decide) (by decide) (by decide),
    ctrl_hi _ 0 0 3 (by decide) (by decide) (by decide), ctrl_same _ 0 0 (by decide), hq, on, he, Bool.false_eq_true, if_false]
  cases hb : s.on (F.PAGE_CTRL_QUIESCE g) <;> simp [Dev.quiescePage, on, hb]

/-! ### EN (R47, R54, R539, R540) -/

theorem ne_nw_of_domain {g : Page} {n : Nat} (h : domainOf g = some n) : g ≠ .nw := by
  rintro rfl
  cases h

theorem ne_nw_of_switchable {g : Page} (h : g.switchable = true) : g ≠ .nw := by
  rintro rfl
  cases h

theorem ne_nw_of_quiesces {g : Page} (h : g.quiesces = true) : g ≠ .nw := by
  rintro rfl
  cases h

theorem domainOf_lt {g : Page} {n : Nat} (hg : g.ok = true) (h : domainOf g = some n) : n < 101 := by
  cases g <;> simp [domainOf, Page.ok] at h hg <;> omega

/-- The key of a field of the header. -/
theorem header_fld_key (g : Page) {off : Nat} (lo len : Nat) (h : off < 0x2C) :
    (Fld.mk g off lo len).reg.key = g.num * 4096 + off := key_header g (off := off) (by omega) (by omega)

/-- The key of SUPPLY_ON. -/
theorem supply_key (i : Nat) : (R.PWR_SUPPLY_ON i).key = 3 * 4096 + (0x40 + 0x4 * i) := rfl

/-- PAGE_CTRL is no part of any page's PAGE_STATE. -/
theorem power_sf_ctrl (s : Dev) (g h : Page) (lo len v : Nat) : (s.sf ⟨g, 0x0C, lo, len⟩ v).power h = s.power h :=
  gf_sf_key s v (header_key_ne h g (o := 0x08) (p := 0x0C) (by decide) (by decide) (by decide))

theorem isOn_sf_ctrl (s : Dev) (g h : Page) (lo len v : Nat) : (s.sf ⟨g, 0x0C, lo, len⟩ v).isOn h = s.isOn h := by
  rw [Dev.isOn, Dev.isOn, power_sf_ctrl]

/-- POWER is another field than REENABLE_PENDING of its register. -/
theorem power_sf_reenable (s : Dev) (g : Page) (v : Nat) : (s.sf (F.PAGE_STATE_REENABLE_PENDING g) v).power g = s.power g :=
  gf_sf_of_apart s v (Or.inr ⟨Nat.le_of_ble_eq_true rfl, Or.inl (Nat.le_of_ble_eq_true rfl)⟩)

/-- The registers that the wake of an OFF page writes: its own state and event, and PWR's (R54, R541, R559). -/
def wakeRegs (g : Page) (n : Nat) : List Reg :=
  [R.PAGE_STATE g, R.IRQ_STATUS g, R.IRQ_STATUS .pwr, R.PWR_SUPPLY_ON (n / 32)]

/-- WAKING starts on an OFF page. -/
theorem startWake_off {s : Dev} {g : Page} {n : Nat} (hd : domainOf g = some n) (hp : s.power g = pOff) :
    s.startWake g = ((((s.sf (F.PAGE_STATE_REENABLE_PENDING g) 0).sf (F.PAGE_STATE_POWER g) pWaking).stateEvent g).event
      E.PWR_DOMAIN_CHANGE).setSupply n true := by
  have hr : (s.sb (F.PAGE_STATE_REENABLE_PENDING g) false).power g = pOff := (power_sf_reenable s g _).trans hp
  have h1 : ¬ pOff = pWaking := by decide
  have h2 : ¬ pOff = pOn := by decide
  have h3 : ¬ pWaking = pOn := by decide
  simp only [Dev.startWake, Dev.domainPower, Dev.setPower, hr, hd, if_neg h1, if_neg h2, if_neg h3]
  rfl

theorem startWake_regsBut {s : Dev} {g : Page} {n : Nat} (hd : domainOf g = some n) (hp : s.power g = pOff) :
    s.regsBut (s.startWake g) (wakeRegs g n) := by
  rw [startWake_off hd hp]
  refine regsBut_sf (regsBut_sf (regsBut_sf (regsBut_sf (regsBut_sf (regsBut_refl s _) _ ?_) _ ?_) _ ?_) _ ?_) _ ?_
  all_goals simp [wakeRegs, Fld.reg]

theorem startWake_onlyRegs {s : Dev} {g : Page} {n : Nat} (hd : domainOf g = some n) (hp : s.power g = pOff) :
    s.onlyRegs (s.startWake g) := by
  rw [startWake_off hd hp]
  exact ⟨_, rfl⟩

theorem startWake_power {s : Dev} {g : Page} {n : Nat} (hg : g.ok = true) (hd : domainOf g = some n) (hp : s.power g = pOff) :
    (s.startWake g).power g = pWaking := by
  have hn := domainOf_lt hg hd
  have hs : (F.PAGE_STATE_POWER g).reg.key ≠ (F.PWR_SUPPLY_ON_ON (n / 32)).reg.key := by
    rw [header_fld_key g _ _ (by decide), Fld.reg, supply_key]
    omega
  have hc : (F.PAGE_STATE_POWER g).reg.key ≠ Reg.key ⟨.pwr, 0x20⟩ :=
    header_key_ne g .pwr (o := 0x08) (p := 0x20) (by decide) (by decide) (by decide)
  have hi : (F.PAGE_STATE_POWER g).reg.key ≠ Reg.key ⟨g, 0x20⟩ :=
    header_key_ne g g (o := 0x08) (p := 0x20) (by decide) (by decide) (by decide)
  rw [startWake_off hd hp]
  calc Dev.power _ g
    _ = Dev.gf _ (F.PAGE_STATE_POWER g) := gf_sf_key _ _ hs
    _ = Dev.gf _ (F.PAGE_STATE_POWER g) := gf_sf_key _ (f := ⟨.pwr, 0x20, 0, 1⟩) _ hc
    _ = Dev.gf _ (F.PAGE_STATE_POWER g) := gf_sf_key _ (f := ⟨g, 0x20, 30, 1⟩) _ hi
    _ = pWaking := gf_sf_same _ _ _ (Nat.le_of_ble_eq_true rfl)

/-- An OFF page whose quarter is ON wakes, another waits. -/
theorem tryWake_up {s : Dev} {g : Page} (h : ∀ r, qfOf g = some r → s.isOn (.qtr r) = true) : s.tryWake g = s.startWake g := by
  unfold Dev.tryWake
  split
  next r hr => rw [h r hr, if_pos rfl]
  next => rfl

theorem tryWake_waits {s : Dev} {g : Page} {r : Nat} (hr : qfOf g = some r) (h : s.isOn (.qtr r) = false) :
    s.tryWake g = s.sf (F.PAGE_STATE_REENABLE_PENDING g) 1 := by
  simp only [Dev.tryWake, hr, h, Bool.false_eq_true, if_false]
  rfl

section
variable {s : Dev} {g : Page} (he : s.on (F.PAGE_CTRL_EN g) = false)
include he

theorem enablePage_off (hp : s.power g = pOff) : s.enablePage g = (s.sf (F.PAGE_CTRL_EN g) 1).tryWake g := by
  have h : (s.sb (F.PAGE_CTRL_EN g) true).power g = pOff := (power_sf_ctrl s g g _ _ _).trans hp
  simp only [Dev.enablePage, he, h, show ¬ pOff = pDraining by decide, Bool.false_eq_true, if_false, if_true]
  rfl

theorem enablePage_draining (hp : s.power g = pDraining) :
    s.enablePage g = (s.sf (F.PAGE_CTRL_EN g) 1).sf (F.PAGE_STATE_REENABLE_PENDING g) 1 := by
  have h : (s.sb (F.PAGE_CTRL_EN g) true).power g = pDraining := (power_sf_ctrl s g g _ _ _).trans hp
  simp only [Dev.enablePage, he, h, Bool.false_eq_true, if_false, if_true]
  rfl

end

section
variable {s : Dev} {g : Page} (he : s.on (F.PAGE_CTRL_EN g) = true)
include he

theorem disablePage_fixed (hs : g.switchable = false) : s.disablePage g = s.refuse g := by
  simp only [Dev.disablePage, he, hs, Bool.not_true, Bool.not_false, Bool.false_eq_true, if_false, if_true]

/-- A page that reads ON drains; a quarter's drains what it carries. -/
theorem disablePage_on (hs : g.switchable = true) (hp : s.power g = pOn) :
    ((∀ r, g ≠ .qtr r) → s.disablePage g = (s.sf (F.PAGE_CTRL_EN g) 0).startDrain g)
      ∧ (∀ r, g = .qtr r → s.disablePage g = ((s.sf (F.PAGE_CTRL_EN g) 0).startDrain g).drainRegion r) := by
  have h : (s.sb (F.PAGE_CTRL_EN g) false).power g = pOn := (power_sf_ctrl s g g _ _ _).trans hp
  simp only [Dev.disablePage, he, hs, h, Bool.not_true, Bool.false_eq_true, if_false, if_true]
  constructor
  · intro hq
    split
    next r => exact absurd rfl (hq r)
    next => rfl
  · rintro r rfl
    rfl

theorem disablePage_off (hs : g.switchable = true) (hp : s.power g = pOff) :
    s.disablePage g = (s.sf (F.PAGE_CTRL_EN g) 0).sf (F.PAGE_STATE_REENABLE_PENDING g) 0 := by
  have h : (s.sb (F.PAGE_CTRL_EN g) false).power g = pOff := (power_sf_ctrl s g g _ _ _).trans hp
  simp only [Dev.disablePage, he, hs, h, show ¬ pOff = pOn by decide, show ¬ pOff = pDraining by decide, Bool.not_true,
    Bool.false_eq_true, if_false, or_true, if_true, false_and]
  split <;> rfl

end

/-! ### Ends of wakes and drains (R54, R55, R540, R541, R559) -/

section
variable {s : Dev} {g : Page} (hp : s.power g = pWaking)
include hp

theorem wakeComplete_enabled (hr : (s.px g).resetPend = none) (he : (s.wakeOn g).on (F.PAGE_CTRL_EN g) = true)
    (hb : ∀ b, g = .bay b → (s.wakeOn g).isOn (.qtr (b / 12)) = true) : s.wakeComplete g = s.wakeOn g := by
  simp only [Dev.wakeComplete, hp, hr, he, ne_eq, not_true_eq_false, Option.isSome_none, Bool.not_true, Bool.false_eq_true, if_false]
  split
  next b => rw [hb b rfl, if_pos rfl]
  next => rfl

theorem wakeComplete_disabled (hr : (s.px g).resetPend = none) (he : (s.wakeOn g).on (F.PAGE_CTRL_EN g) = false) :
    s.wakeComplete g = (s.wakeOn g).setPx g { (s.wakeOn g).px g with drainAt := some ((s.wakeOn g).now + 3) } := by
  simp only [Dev.wakeComplete, hp, hr, he, ne_eq, not_true_eq_false, Option.isSome_none, Bool.not_false, Bool.false_eq_true, if_false,
    if_true]

theorem wakeFail_waking : s.wakeFail g =
    ((s.domainPower g pOff).sf (F.PAGE_STATE_REENABLE_PENDING g) 1).raise C.PWR_WAKE_FAIL ((domainOf g).getD 0) := by
  simp only [Dev.wakeFail, hp, ne_eq, not_true_eq_false, if_false]
  rfl

end

section
variable {s : Dev} {g : Page} (hp : s.power g = pDraining) (hd : s.drained g = true) (hr : (s.px g).resetPend = none)
  (ha : (s.px g).drainAt = none)
include hp hd hr ha

/-- A drain that is done powers the page down, and wakes it again where it is enabled. -/
theorem drainComplete_off (hh : (s.px g).drainHold = false) : s.drainComplete g = (
    let d := (s.setPx g { s.px g with drainHold := false, regionDrain := false }).sf (F.PAGE_STATE_REENABLE_PENDING g) 0
    let d := (((d.latchStatus g).domainPower g pOff).domainOff g).freeze g
    let d := (if s.mayOpen g then d.openSupply g else d).regionSync g
    if s.on (F.PAGE_CTRL_EN g) then d.tryWake g else d) := by
  simp only [Dev.drainComplete, ha, hp, hd, hr, hh, ne_eq, not_true_eq_false, Bool.not_true, Bool.false_eq_true, or_self, false_and,
    if_false]
  rfl

/-- One that DRAIN_REQ started holds the page ON. -/
theorem drainComplete_held (hh : (s.px g).drainHold = true) (he : s.on (F.PAGE_CTRL_EN g) = true)
    (hn : s.on (F.PAGE_STATE_REENABLE_PENDING g) = false) : s.drainComplete g = (
    let d := (s.setPx g { s.px g with drainHold := false }).domainPower g pOn
    (if d.run g = rPaused then d else d.setRun g rHeld).regionSync g) := by
  simp only [Dev.drainComplete, ha, hp, hd, hr, hh, he, hn, ne_eq, not_true_eq_false, Bool.not_true, Bool.not_false, Bool.false_eq_true,
    or_self, and_self, if_false, if_true]

end

/-- Settles O7: EN, wakes and drains, each by the branch its page's state takes. -/
theorem pagePower : Obligations.PagePower := by
  unfold Obligations.PagePower
  refine ⟨?wakes, ?pends, ?drains, ?stays, ?fixed, ?woken, ?late, ?off, ?held, ?fails⟩
  case wakes =>
    intro s g q n hg hn ha he hp hq
    have hp' : (s.dev.sf (F.PAGE_CTRL_EN g) 1).power g = pOff := (power_sf_ctrl _ _ _ _ _ _).trans hp
    have hu : ∀ r, qfOf g = some r → (s.dev.sf (F.PAGE_CTRL_EN g) 1).isOn (.qtr r) = true :=
      fun r hr => (isOn_sf_ctrl _ _ _ _ _ _).trans (hq r hr)
    have hb := startWake_regsBut hn hp'
    refine ⟨_, done_eq ((putF_en 1 ha (ne_nw_of_domain hn)).trans ((enablePage_off he hp).trans (tryWake_up hu))), ?_,
      startWake_power hg hn hp', ?_, ?_⟩
    · have hk : ∀ x ∈ wakeRegs g n, (F.PAGE_CTRL_EN g).reg.key ≠ x.key := by
        have := domainOf_lt hg hn
        have hs : (F.PAGE_CTRL_EN g).reg.key ≠ (R.PWR_SUPPLY_ON (n / 32)).key := by
          rw [header_fld_key g _ _ (by decide), supply_key]
          omega
        simp only [wakeRegs, List.forall_mem_cons, List.not_mem_nil, false_imp_iff, implies_true, and_true]
        exact ⟨header_key_ne g g (o := 0x0C) (p := 0x08) (by decide) (by decide) (by decide),
          header_key_ne g g (o := 0x0C) (p := 0x20) (by decide) (by decide) (by decide),
          header_key_ne g .pwr (o := 0x0C) (p := 0x20) (by decide) (by decide) (by decide), hs⟩
      rw [regsBut_on hb hk, Dev.on, gf_sf_same _ _ _ (Nat.le_of_ble_eq_true rfl)]
      rfl
    · obtain ⟨m, e⟩ := startWake_onlyRegs hn hp'
      exact ⟨m, e⟩
    · exact regsBut_trans (regsBut_sf (regsBut_refl _ _) _ List.mem_cons_self)
        (regsBut_mono hb fun x hx => List.mem_cons_of_mem _ hx)
  case pends =>
    intro s g q n _ hn ha he hp
    refine done_eq ((putF_en 1 ha (ne_nw_of_domain hn)).trans ?_)
    rcases hp with hp | ⟨hp, r, hr, hq⟩
    · exact enablePage_draining he hp
    · exact (enablePage_off he hp).trans (tryWake_waits hr ((isOn_sf_ctrl _ _ _ _ _ _).trans hq))
  case drains =>
    intro s g q hs ha he hp
    have h : s.dev.cmdPageDisable g q = s.dev.disablePage g := putF_en 0 ha (ne_nw_of_switchable hs)
    obtain ⟨h1, h2⟩ := disablePage_on he hs hp
    exact ⟨fun hq => done_eq (h.trans (h1 hq)), fun r hr => done_eq (h.trans (h2 r hr))⟩
  case stays =>
    exact fun s g q hs ha he hp => done_eq ((putF_en 0 ha (ne_nw_of_switchable hs)).trans (disablePage_off he hs hp))
  case fixed =>
    rintro s g q b hs ha he rfl
    have he' : (s.dev.entered q g).on (F.PAGE_CTRL_EN g) = true := by
      rw [Dev.on, Dev.gf, Fld.reg, entered_ctrl]
      exact he
    exact done_eq ((cmdPageDisable_enabled ha he).trans (disablePage_fixed he' hs))
  case woken => exact fun s g hp hr he hb => done_eq (wakeComplete_enabled hp hr he hb)
  case late => exact fun s g hp hr he => done_eq (wakeComplete_disabled hp hr he)
  case off => exact fun s g hp hd hr hh ha => done_eq (drainComplete_off hp hd hr ha hh)
  case held => exact fun s g hp hd hr hh he hn _ ha => done_eq (drainComplete_held hp hd hr ha hh he hn)
  case fails => exact fun s g hp => done_eq (wakeFail_waking hp)

/-! ### QUIESCE, DRAIN_REQ, RESUME and PAGE_RESET (R47, R57 to R59, R632) -/

section
variable {s : Dev} {g : Page}

theorem quiescePage_set (hq : g.quiesces = true) (h : s.on (F.PAGE_CTRL_QUIESCE g) = false) :
    s.quiescePage g = (s.sf (F.PAGE_CTRL_QUIESCE g) 1).setPx g { s.px g with quiesceReq := true } := by
  simp only [Dev.quiescePage, h, hq, Bool.not_true, Bool.false_eq_true, if_false]
  rfl

theorem quiescePage_refused (hq : g.quiesces = false) (h : s.on (F.PAGE_CTRL_QUIESCE g) = false) :
    s.quiescePage g = s.refuse g := by
  simp only [Dev.quiescePage, h, hq, Bool.not_false, Bool.false_eq_true, if_false, if_true]

theorem drainPage_on (hq : g.quiesces = true) (h : s.isOn g = true) :
    s.drainPage g = (s.setPx g { s.px g with drainHold := true }).startDrain g := by
  simp only [Dev.drainPage, hq, h, Bool.not_true, Bool.false_eq_true, if_false, if_true]

theorem drainPage_refused (hq : g.quiesces = false) : s.drainPage g = s.refuse g := by
  simp only [Dev.drainPage, hq, Bool.not_false, if_true]

theorem resumePage_noted (h : s.run g = rHeld ∨ (s.run g = rPaused ∧ s.severeErrors g = false)) :
    s.resumePage g = s.setPx g { s.px g with resumeReq := true } := by
  rcases h with h | ⟨h, hs⟩
  · simp only [Dev.resumePage, h, show ¬ rHeld = rPaused by decide, false_and, false_or, if_false, if_true]
  · simp only [Dev.resumePage, h, hs, Bool.false_eq_true, and_false, true_or, if_false, if_true]

theorem resumePage_severe (h : s.run g = rPaused) (hs : s.severeErrors g = true) : s.resumePage g = s.refuse g := by
  simp only [Dev.resumePage, h, hs, and_self, if_true]

theorem resetCtrl_key (en : Bool) (hg : g ≠ .nw) : s.resetCtrl g 0xC3 en = (s.sf (F.PAGE_CTRL_EN g) (b2n en)).resetPage g := by
  simp only [Dev.resetCtrl, hg, ne_eq, not_true_eq_false, or_self, if_false]
  rfl

theorem resetCtrl_refused {key : Nat} (en : Bool) (h : key ≠ 0xC3 ∨ g = .nw) : s.resetCtrl g key en = s.refuse g := if_pos h

theorem quiesceDone_quiet (hr : s.run g = rQuiescing) (hq : s.quietNow g = true) :
    s.quiesceDone g = (s.setRun g rHeld).regionSync g := if_pos ⟨hr, hq⟩

end

/-- PAGE_RESET of the NW page is refused whatever its KEY (R58, log 18). -/
theorem cmdPageReset_nw {s : Dev} {q : Requester} (key : BitVec 8) (en : Bool) (h : s.admits q .nw) :
    s.cmdPageReset .nw q key en = (s.nwOtherWrite q).refuse .nw := by
  have hk : key.toNat < 256 := key.isLt
  have e : (BitVec.ofNat 32 (key.toNat * 2^24 + 0x100 + b2n en)).toNat = key.toNat * 2^24 + 0x100 + b2n en := by
    have := b2n_lt en
    rw [BitVec.toNat_ofNat, Nat.mod_eq_of_lt (by omega)]
  have h8 : bit (key.toNat * 2^24 + 0x100 + b2n en) 8 = true := by
    have := b2n_lt en
    have : (key.toNat * 2^24 + 0x100 + b2n en) / 2^8 % 2 = 1 := by omega
    rw [bit, this]
    rfl
  rw [Dev.cmdPageReset, regWrite_ctrl _ h, Dev.pageCtrl]
  simp only [e, h8, if_true]
  exact resetCtrl_refused _ (Or.inr rfl)

/-- Settles O8: each bit of PAGE_CTRL by its operation, and the end of a quiesce. -/
theorem pageRun : Obligations.PageRun := by
  unfold Obligations.PageRun
  refine ⟨?quiesce, ?noQuiesce, ?drain, ?noDrain, ?resume, ?severe, ?reset, ?wrongKey, ?nwReset, ?done⟩
  case quiesce => exact fun s g q ha hq h => done_eq ((putF_quiesce ha (ne_nw_of_quiesces hq)).trans (quiescePage_set hq h))
  case noQuiesce => exact fun s g q ha hq hg h => done_eq ((putF_quiesce ha hg).trans (quiescePage_refused hq h))
  case drain => exact fun s g q ha hq h => done_eq ((putF_drain ha (ne_nw_of_quiesces hq)).trans (drainPage_on hq h))
  case noDrain => exact fun s g q ha hq hg => done_eq ((putF_drain ha hg).trans (drainPage_refused hq))
  case resume => exact fun s g q ha hg h => done_eq ((putF_resume ha hg).trans (resumePage_noted h))
  case severe => exact fun s g q ha hg h hs => done_eq ((putF_resume ha hg).trans (resumePage_severe h hs))
  case reset => exact fun s g q en ha hg => done_eq ((regWrite_reset _ en ha hg).trans (resetCtrl_key en hg))
  case wrongKey =>
    intro s g q key en ha hg hk
    exact done_eq ((regWrite_reset key en ha hg).trans (resetCtrl_refused en (Or.inl fun h => hk (BitVec.eq_of_toNat_eq h))))
  case nwReset => exact fun s q key en ha => done_eq (cmdPageReset_nw key en ha)
  case done => exact fun s g hr hq => done_eq (quiesceDone_quiet hr hq)

end Sys2Proof.Machine

/-! ## The header's clears and acknowledgements (R48, R49, R51, R52, R67, R83, R506) -/
namespace Sys2Proof.Machine

section
variable {s : Dev} {q : Requester} {g : Page} (h : s.admits q g)
include h

theorem cmdErrStatusClear_eq (mask : Word) : s.cmdErrStatusClear g q mask = (s.entered q g).clearErr g mask :=
  regWrite_header mask h (by decide)

theorem cmdErrFirstClear_eq : s.cmdErrFirstClear g q = (s.entered q g).clearFirst g := regWrite_header _ h (by decide)

theorem cmdIrqStatusAck_eq (mask : Word) : s.cmdIrqStatusAck g q mask = (s.entered q g).ackIrq g mask :=
  regWrite_header mask h (by decide)

theorem cmdSeqAppliedTag_eq (tag : BitVec 28) : s.cmdSeqAppliedTag g q tag = (s.entered q g).putTag g q tag.toNat := by
  have ht : bits (BitVec.ofNat 32 tag.toNat) 0 28 = tag.toNat := by
    have := tag.isLt
    rw [bits_ofNat]
    omega
  refine (regWrite_header _ h (by decide)).trans ?_
  show (s.entered q g).putTag g q (bits (BitVec.ofNat 32 tag.toNat) 0 28) = _
  rw [ht]

end

/-! ### ERR_STATUS (R48, R631) -/

section
variable (s : Dev) (g : Page) (mask : Word)

/-- ERR_STATUS loses the bits of the mask; with LOWER what the page kept of it goes too. -/
theorem clearErr_form : ∃ p, s.clearErr g mask =
    { s.wr (R.ERR_STATUS g) (s.rd (R.ERR_STATUS g) &&& ~~~mask) with pages := p } := by
  unfold Dev.clearErr
  dsimp only
  split <;> exact ⟨_, rfl⟩

theorem clearErr_rd : (s.clearErr g mask).rd (R.ERR_STATUS g) = s.rd (R.ERR_STATUS g) &&& ~~~mask := by
  obtain ⟨p, e⟩ := clearErr_form s g mask
  rw [e]
  exact rd_wr_same s _ _

theorem clearErr_regsBut : s.regsBut (s.clearErr g mask) [R.ERR_STATUS g] := by
  obtain ⟨p, e⟩ := clearErr_form s g mask
  rw [e]
  exact regsBut_wr (regsBut_refl s _) _ List.mem_cons_self

end

/-! ### SEQ_APPLIED (R52, R67) -/

theorem code_lt (q : Requester) : q.code < 6 := by cases q <;> decide

section
variable (s : Dev) (g : Page) (q : Requester)

theorem putTag_tag {tag : Nat} (h : tag < 2^28) : (s.putTag g q tag).gf (F.SEQ_APPLIED_TAG g) = tag :=
  (gf_sf_same _ _ _ (Nat.le_of_ble_eq_true rfl)).trans (Nat.mod_eq_of_lt h)

theorem putTag_req (tag : Nat) : (s.putTag g q tag).gf (F.SEQ_APPLIED_REQ g) = q.code := by
  have h : (s.sf (F.SEQ_APPLIED_REQ g) q.code).gf (F.SEQ_APPLIED_REQ g) = q.code % 2^4 :=
    gf_sf_same _ _ _ (Nat.le_of_ble_eq_true rfl)
  have := code_lt q
  rw [Nat.mod_eq_of_lt (by omega)] at h
  exact (gf_sf_of_apart _ _ (Or.inr ⟨Nat.le_of_ble_eq_true rfl, Or.inr (Nat.le_of_ble_eq_true rfl)⟩)).trans h

theorem putTag_regsBut (tag : Nat) : s.regsBut (s.putTag g q tag) [R.SEQ_APPLIED g] :=
  regsBut_sf (regsBut_sf (regsBut_refl s _) _ List.mem_cons_self) _ List.mem_cons_self

end

/-- Settles O10: each write of the header by its operation, on the block that it finds. -/
theorem headerClears : Obligations.HeaderClears := by
  unfold Obligations.HeaderClears
  refine ⟨?status, ?first, ?ack, ?tag⟩
  case status =>
    rintro s g q b mask ha rfl
    obtain ⟨p, e⟩ := clearErr_form (s.dev.entered q g) g mask
    exact ⟨_, done_eq (cmdErrStatusClear_eq ha mask), clearErr_rd _ _ _, clearErr_regsBut _ _ _, _, p, e⟩
  case first =>
    rintro s g q b ha rfl
    exact ⟨_, done_eq (cmdErrFirstClear_eq ha), rd_wr_same _ _ _, regsBut_wr (regsBut_refl _ _) _ List.mem_cons_self, _, rfl⟩
  case ack =>
    rintro s g q b mask ha rfl
    exact ⟨_, done_eq (cmdIrqStatusAck_eq ha mask), rd_wr_same _ _ _, regsBut_wr (regsBut_refl _ _) _ List.mem_cons_self, _, rfl⟩
  case tag =>
    rintro s g q b tag ha rfl
    exact ⟨_, done_eq (cmdSeqAppliedTag_eq ha tag), putTag_tag _ _ _ tag.isLt, putTag_req _ _ _ _, putTag_regsBut _ _ _ _, _, rfl⟩

end Sys2Proof.Machine

/-! ## SHADOW_CTRL (R45, R53, R60, R61, R63, R197, R198) -/
namespace Sys2Proof.Machine

/-! ### The word of a MODE and one action -/

section
variable (mode : BitVec 2) {act : Nat} (h : act < 8)
include h

theorem actWord_toNat : (BitVec.ofNat 32 (mode.toNat * 2^28 + act)).toNat = mode.toNat * 2^28 + act := by
  have := mode.isLt
  rw [BitVec.toNat_ofNat, Nat.mod_eq_of_lt (by omega)]

theorem actWord_mode : (mode.toNat * 2^28 + act) / 2^28 % 4 = mode.toNat := by
  have := mode.isLt
  omega

end

/-- The action bits of the word are those of the action. -/
theorem actWord_bit (mode : BitVec 2) (act : Nat) {i : Nat} (hi : i < 3) : bit (mode.toNat * 2^28 + act) i = bit act i := by
  have : (mode.toNat * 2^28 + act) / 2^i % 2 = act / 2^i % 2 := by
    interval_cases i <;> omega
  rw [bit, bit, this]

/-! ### A write with one action -/

theorem ne_nw_of_shadowed {g : Page} (h : g.shadowed = true) : g ≠ .nw := by
  rintro rfl
  cases h

section
variable {s : Dev} {q : Requester} {g : Page} {mode : BitVec 2} (hg : g.shadowed = true) (h : s.admits q g) (hm : mode ≠ 3#2)
include hg h hm

/-- A SHADOW_CTRL write with one action stores MODE and acts, but for an ARM of the EMIT page that waits. -/
theorem shadowAct_eq {act : Nat} (ha : act = 1 ∨ act = 2 ∨ act = 4) : s.shadowAct g q mode act =
    if g = .emit ∧ bit act 0 = true ∧ s.transferring = true then
      { s with emit := { s.emit with armWait := s.emit.armWait ++ [(q, mode.toNat)] } }
    else if bit act 0 then (s.sf (F.SHADOW_CTRL_MODE g) mode.toNat).armSet g q
    else if bit act 1 then (s.sf (F.SHADOW_CTRL_MODE g) mode.toNat).commitSet g q
    else (s.sf (F.SHADOW_CTRL_MODE g) mode.toNat).discardSet g q := by
  have hlt : act < 8 := by omega
  have hmode : ¬ mode.toNat = 3 := fun e => hm (BitVec.eq_of_toNat_eq e)
  have hone : b2n (bit act 0) + b2n (bit act 1) + b2n (bit act 2) = 1 := by rcases ha with rfl | rfl | rfl <;> decide
  have hw : s.shadowAct g q mode act = s.shadowCtrl g q (BitVec.ofNat 32 (mode.toNat * 2^28 + act)) :=
    (regWrite_header _ h (by decide)).trans (by rw [Dev.headerWrite, if_neg (ne_nw_of_shadowed hg)])
  rw [hw, Dev.shadowCtrl]
  simp only [actWord_toNat mode hlt, actWord_mode mode hlt, actWord_bit mode act (show 0 < 3 by decide),
    actWord_bit mode act (show 1 < 3 by decide), actWord_bit mode act (show 2 < 3 by decide), hone, hmode, hg, Nat.lt_irrefl,
    or_self, if_false, Nat.one_ne_zero, Bool.not_true, Bool.false_eq_true]

theorem cmdShadowArm_eq (ht : ¬ (g = .emit ∧ s.transferring = true)) :
    s.cmdShadowArm g q mode = (s.sf (F.SHADOW_CTRL_MODE g) mode.toNat).armSet g q :=
  (shadowAct_eq hg h hm (Or.inl rfl)).trans (if_neg fun c => ht ⟨c.1, c.2.2⟩)

theorem cmdShadowCommit_eq : s.cmdShadowCommit g q mode = (s.sf (F.SHADOW_CTRL_MODE g) mode.toNat).commitSet g q :=
  (shadowAct_eq hg h hm (Or.inr (Or.inl rfl))).trans (if_neg fun c => absurd c.2.1 (by decide))

theorem cmdShadowDiscard_eq : s.cmdShadowDiscard g q mode = (s.sf (F.SHADOW_CTRL_MODE g) mode.toNat).discardSet g q :=
  (shadowAct_eq hg h hm (Or.inr (Or.inr rfl))).trans (if_neg fun c => absurd c.2.1 (by decide))

end

/-! ### ARM, COMMIT and DISCARD (R60, R61, R63, R198) -/

section
variable {b : Dev} {g : Page} {q : Requester}

theorem holdsSet_iff : b.holdsSet g q = true ↔ b.on (F.SHADOW_CTRL_ARMED g) = true ∧ b.gf (F.SHADOW_CTRL_OWNER g) = q.code := by
  simp only [Dev.holdsSet, Bool.and_eq_true, beq_iff_eq]

theorem armSet_opens (hp : b.on (F.SHADOW_CTRL_PENDING g) = false)
    (ha : b.on (F.SHADOW_CTRL_ARMED g) = false ∨ b.gf (F.SHADOW_CTRL_OWNER g) = q.code) :
    b.armSet g q = (
      let d := (b.sf (F.SHADOW_CTRL_ARMED g) 1).sf (F.SHADOW_CTRL_OWNER g) q.code
      let d := if g = .emit ∧ d.emit.stagedKind = 1 then { d with emit := { d.emit with stagedKind := 0 } } else d
      d.setPx (setHome g) { d.px (setHome g) with setOpen := [], setExpo := false }) := by
  refine if_neg ?_
  rintro (h | ⟨h, ho⟩)
  · rw [hp] at h
    cases h
  · rcases ha with ha | ha
    · rw [ha] at h
      cases h
    · exact ho ha

theorem armSet_refused (h : b.on (F.SHADOW_CTRL_PENDING g) = true
    ∨ b.on (F.SHADOW_CTRL_ARMED g) = true ∧ b.gf (F.SHADOW_CTRL_OWNER g) ≠ q.code) : b.armSet g q = b.refuse g := if_pos h

theorem commitSet_latches (h : b.holdsSet g q = true) (hm : b.gf (F.SHADOW_CTRL_MODE g) ≠ 2)
    (hp : ¬ (g = .emit ∧ b.on F.EMIT_STARLINE_STATUS_PRELOAD_BUSY = true)) :
    b.commitSet g q = (
      let d := b.newGroup
      let d := d.latchSet (setHome g) (d.gf (F.SHADOW_CTRL_OWNER g)) (d.px (setHome g)).setOpen d.now
      if g = .emit then d.emitLatched else d) := by
  refine if_neg ?_
  rintro (c | c | c)
  · rw [h] at c
    cases c
  · exact hm c
  · exact hp c

theorem commitSet_notHeld (h : b.holdsSet g q = false) : b.commitSet g q = b.refuse g := by
  refine if_pos (Or.inl ?_)
  rw [h]
  rfl

theorem commitSet_refused (h : b.gf (F.SHADOW_CTRL_OWNER g) ≠ q.code ∨ b.gf (F.SHADOW_CTRL_MODE g) = 2
    ∨ g = .emit ∧ b.on F.EMIT_STARLINE_STATUS_PRELOAD_BUSY = true) : b.commitSet g q = b.refuse g := by
  rcases h with h | h
  · refine commitSet_notHeld (Bool.eq_false_iff.2 fun c => h (holdsSet_iff.1 c).2)
  · exact if_pos (Or.inr h)

theorem discardSet_drops (hp : b.on (F.SHADOW_CTRL_PENDING g) = false) (h : b.holdsSet g q = true) :
    b.discardSet g q = (
      let d := b.sf (F.SHADOW_CTRL_ARMED g) 0
      let d := d.setPx (setHome g) { d.px (setHome g) with setOpen := [], setExpo := false }
      if g = .emit then d.restage else d) := by
  simp only [Dev.discardSet, hp, h, (holdsSet_iff.1 h).1, Bool.not_true, Bool.false_eq_true, if_false]
  rfl

theorem discardSet_refused (h : b.on (F.SHADOW_CTRL_PENDING g) = true
    ∨ b.on (F.SHADOW_CTRL_ARMED g) = true ∧ b.gf (F.SHADOW_CTRL_OWNER g) ≠ q.code) : b.discardSet g q = b.refuse g := by
  rcases h with h | ⟨h, ho⟩
  · exact if_pos h
  · have hh : b.holdsSet g q = false := Bool.eq_false_iff.2 fun c => ho (holdsSet_iff.1 c).2
    simp only [Dev.discardSet, h, hh, Bool.not_true, Bool.not_false, Bool.false_eq_true, if_false, if_true, ite_self]

theorem discardSet_nothing (hp : b.on (F.SHADOW_CTRL_PENDING g) = false) (ha : b.on (F.SHADOW_CTRL_ARMED g) = false) :
    b.discardSet g q = b := by
  simp only [Dev.discardSet, hp, ha, Bool.not_false, Bool.false_eq_true, if_false, if_true]

end

/-- Settles O12: MODE is stored, then the action by the set's state and its owner. -/
theorem shadowSets : Obligations.ShadowSets := by
  unfold Obligations.ShadowSets
  rintro s g q mode b hg ha hm rfl
  have commit := cmdShadowCommit_eq hg ha hm
  have discard := cmdShadowDiscard_eq hg ha hm
  refine ⟨?arm, ?noArm, ?commits, ?noCommit, ?discards, ?noDiscard, ?notOpen, ?nothing⟩
  case arm => exact fun ht hp ho => done_eq ((cmdShadowArm_eq hg ha hm ht).trans (armSet_opens hp ho))
  case noArm => exact fun ht h => done_eq ((cmdShadowArm_eq hg ha hm ht).trans (armSet_refused h))
  case commits => exact fun h hM hp => done_eq (commit.trans (commitSet_latches h hM hp))
  case noCommit => exact fun _ h => done_eq (commit.trans (commitSet_refused h))
  case discards => exact fun hp h => done_eq (discard.trans (discardSet_drops hp h))
  case noDiscard => exact fun h => done_eq (discard.trans (discardSet_refused h))
  case notOpen =>
    intro h
    refine done_eq (commit.trans (commitSet_notHeld (Bool.eq_false_iff.2 fun c => ?_)))
    exact Bool.eq_false_iff.1 h (holdsSet_iff.1 c).1
  case nothing => exact fun hp h => done_eq (discard.trans (discardSet_nothing hp h))

end Sys2Proof.Machine

/-! ## A task step at the quiesce start of its page (R71, R74, R143, R632) -/
namespace Sys2Proof.Machine

/-! ### Nightwatch before its self-test (R480, R482, R505) -/

/-- The comparison of the oscillator begins once the PLL is locked. -/
def Dev.senseOsc (s : Dev) : Dev :=
  if s.on F.TIME_STATUS_PLL_LOCKED ∧ !s.nw.oscRun then { s with nw := { s.nw with oscRun := true } } else s

/-- ACTIVE takes the sources that are asserted. -/
def Dev.senseSources (s : Dev) : Dev :=
  if s.tripSources = s.gf F.NW_TRIP_ACTIVE_SOURCES then s else s.sf F.NW_TRIP_ACTIVE_SOURCES s.tripSources

/-- The sources that are new have been seen. -/
def Dev.clearFresh (s : Dev) : Dev := if s.nw.fresh = 0 then s else { s with nw := { s.nw with fresh := 0 } }

/-- What Nightwatch senses before its state follows. -/
def Dev.sensed (s : Dev) : Dev := s.senseOsc.testSync.fbSync.senseSources.clearFresh

/-- The registers that sensing writes. -/
def sensedRegs : List Reg := [R.NW_STATUS, R.NW_TRIP_ACTIVE]

/-- The block `d` is the block `s` with Nightwatch's sensing done: its state, its self-test and its reset edge are as before. -/
structure Dev.Senses (s d : Dev) : Prop where
  regs : s.regsBut d sensedRegs
  state : d.nwState = s.nwState
  tested : d.nw.tested = s.nw.tested
  edge : d.nw.edgeAt = s.nw.edgeAt

theorem senses_refl (s : Dev) : s.Senses s := ⟨regsBut_refl s _, rfl, rfl, rfl⟩

theorem Dev.Senses.trans {s d e : Dev} (h : s.Senses d) (h' : d.Senses e) : s.Senses e :=
  ⟨regsBut_trans h.regs h'.regs, h'.state.trans h.state, h'.tested.trans h.tested, h'.edge.trans h.edge⟩

theorem senseOsc_senses (s : Dev) : s.Senses s.senseOsc := by
  unfold Dev.senseOsc
  split
  · exact ⟨regsBut_refl s _, rfl, rfl, rfl⟩
  · exact senses_refl s

theorem testSync_senses (s : Dev) : s.Senses s.testSync := by
  unfold Dev.testSync
  split
  · exact ⟨regsBut_sf (regsBut_refl s _) _ (by decide), gf_sf_of_apart s _ (Or.inr (by decide)), rfl, rfl⟩
  · exact senses_refl s

theorem fbSync_senses (s : Dev) : s.Senses s.fbSync := by
  unfold Dev.fbSync
  dsimp only
  split
  · exact senses_refl s
  · exact ⟨regsBut_refl s _, rfl, rfl, rfl⟩

theorem senseSources_senses (s : Dev) : s.Senses s.senseSources := by
  unfold Dev.senseSources
  split
  · exact senses_refl s
  · exact ⟨regsBut_sf (regsBut_refl s _) _ (by decide), gf_sf_key s _ (by decide), rfl, rfl⟩

theorem clearFresh_senses (s : Dev) : s.Senses s.clearFresh := by
  unfold Dev.clearFresh
  split
  · exact senses_refl s
  · exact ⟨regsBut_refl s _, rfl, rfl, rfl⟩

theorem sensed_senses (s : Dev) : s.Senses s.sensed :=
  ((((senseOsc_senses s).trans (testSync_senses _)).trans (fbSync_senses _)).trans (senseSources_senses _)).trans
    (clearFresh_senses _)

theorem edgeSync_none {s : Dev} (he : s.nw.edgeAt = none) : s.edgeSync = s := by
  rw [Dev.edgeSync, he]

/-- Before its self-test Nightwatch senses and does no more. -/
theorem nwSync_untested {s : Dev} (h0 : s.nwState = 0) (ht : s.nw.tested = none) (he : s.nw.edgeAt = none) : s.nwSync = s.sensed := by
  obtain ⟨-, hstate, htested, hedge⟩ := sensed_senses s
  have untested : ¬ (s.sensed.nw.tested = some true ∧ s.sensed.nw.sealedOnce = true) := by
    rw [htested, ht]
    exact fun h => nomatch h.1
  exact (congrArg Dev.edgeSync ((if_pos (hstate.trans h0)).trans (if_neg untested))).trans (edgeSync_none (hedge.trans he))

/-! ### The state of a task's slot as a settling leaves it -/

/-- What a settling makes of a block before Nightwatch. -/
def Dev.settleFirst (s : Dev) : Dev :=
  let s := ((((s.idleSync.lateDrains.clusterDrains.quietSync).configDue s.now).bistPump).modeSync).alignSync
  s.dropClosed.pfwSync.lostSync

/-- While Nightwatch is untested, what comes after leaves STATE of the slots. -/
theorem settle_slotState {s : Dev} {i : Nat} (hi : i < 16) (h0 : s.settleFirst.nwState = 0)
    (ht : s.settleFirst.nw.tested = none) (he : s.settleFirst.nw.edgeAt = none) : s.settle.slotState i = s.settleFirst.slotState i := by
  have hk : (F.TASK_STATUS_STATE i).reg.key = 0x01 * 4096 + (F.TASK_STATUS_STATE i).off := rfl
  have ho : (F.TASK_STATUS_STATE i).off = 0x114 + 0x20 * i := rfl
  have ready : ∀ x ∈ readyRegs, (F.TASK_STATUS_STATE i).reg.key ≠ x.key := by
    rw [hk, ho]
    exact ne_readyRegs (by omega)
  have nw : ∀ x ∈ sensedRegs, (F.TASK_STATUS_STATE i).reg.key ≠ x.key := by
    intro x hx
    have : ∀ x ∈ sensedRegs, 0x8000 ≤ x.key := by decide
    have := this x hx
    omega
  have hp : s.presettle = s.settleFirst.sensed := nwSync_untested h0 ht he
  have hr : s.presettle.regsBut s.settle readyRegs := by
    rw [settle_eq]
    exact regsBut_trans (regsBut_mono (readySync_regsBut _) (by decide)) (regsBut_mono (irqSync_regsBut _) (by decide))
  exact (regsBut_gf hr ready).trans (hp ▸ regsBut_gf (sensed_senses _).regs nw)

/-! ### The step in progress when the page quiesces -/

/-- A CAL_TDC of one converter of bay 0 whose first step was in progress at the quiesce start of the bay: the step goes on (R632), while
the bay, QUIESCING, takes no other (R143). -/
def quietStepDev : Dev :=
  { wit [(F.PAGE_STATE_POWER (.bay 0), 2), (F.PAGE_STATE_RUN (.bay 0), 1), (F.TASK_STATUS_STATE 0, 2)] with
    pages := [((Page.bay 0).num, { quietStep := some (0, 0) })],
    tasks := [(0, { code := 1, target := (Page.bay 0).base, args := [1, 0, 0], total := 4 })],
    taskRun := [0] }

/-- The step commits, and the task stays RUNNING. -/
theorem quietStep_commits : (quietStepDev.taskStep 0 {}).settle.slotState 0 = 2 :=
  (settle_slotState (by decide) (by decide) (by decide) (by decide)).trans (by decide)

/-- The block whose task ends in slot `i` as its target is not up. -/
def Dev.endedStep (s : Dev) (i : Fin 16) : Dev := { s with taskLast := i.val }.endTask i 4 4 (s.gf (F.TASK_RESULT_VALUE i))

/-- That task reads FAILED. -/
theorem endedStep_failed : (quietStepDev.endedStep 0).settle.slotState 0 = 4 :=
  (settle_slotState (by decide) (by decide) (by decide) (by decide)).trans (by decide)

theorem exec_taskStep (s : State) (i : Fin 16) (env : StepEnv) : exec (.taskStep i env) s = .next (s.after (s.dev.taskStep i env)) := rfl

/-- Two outcomes that are the same settle the same block. -/
theorem after_inj {s : State} {d e : Dev} (h : (.next (s.after d) : Res) = .next (s.after e)) : d.settle = e.settle := by
  generalize hd : d.settle = x at *
  generalize he : e.settle = y at *
  unfold State.after at h
  rw [hd, he] at h
  injection h with h
  injection h

/-- Refutes O16: a step in progress at the quiesce start of its page runs to its end though the target is not up (R632), where the last
clause has its task end FAILED. -/
theorem not_taskEnds : ¬ Obligations.TaskEnds := by
  unfold Obligations.TaskEnds
  rintro ⟨-, -, -, -, -, -, h⟩
  have ends : ∀ s : Dev, s.nextStep = some 0 → targetPage (s.task 0).target = some (.bay 0) → s.targetUp (s.task 0) = false →
      (s.taskStep 0 {}).settle = (s.endedStep 0).settle := fun s hnext hpage hdown => by
    have := h ⟨s, []⟩ 0 {} (.bay 0) hnext hpage hdown
    rw [exec_taskStep] at this
    exact after_inj this
  have e := ends quietStepDev (by decide) (by decide) (by decide)
  have hslot : 2 = 4 := by rw [← quietStep_commits, e, endedStep_failed]
  omega

end Sys2Proof.Machine

/-! ## CONFIG, remote accesses, port data, packets and credit on the chain (R85, R401, R443, R445, R468, R470 to R472) -/
namespace Sys2Proof.Machine

/-! ### CONFIG_PUSH (R468) -/

/-- A word written back with the bits it holds is the word. -/
theorem mergeBits_of_and {x w : Word} {m : Nat} (h : w &&& BitVec.ofNat 32 m = x &&& BitVec.ofNat 32 m) : mergeBits x w m = x := by
  rw [mergeBits, h]
  ext i hi
  cases hx : x[i] <;> simp [hx]

/-- A word masked to its low bits. -/
theorem and_mask_toNat (x : Word) {n : Nat} (hn : n ≤ 32) : (x &&& BitVec.ofNat 32 (2^n - 1)).toNat = bits x 0 n := by
  have hlt : 2^n - 1 < 2^32 := by
    have := Nat.pow_le_pow_right (show 0 < 2 by decide) hn
    omega
  rw [BitVec.toNat_and, BitVec.toNat_ofNat, Nat.mod_eq_of_lt hlt, Nat.and_two_pow_sub_one_eq_mod, bits, pow_zero, Nat.div_one]

/-- A field set above the bits of a mask leaves those bits. -/
theorem setBits_and_mask (x : Word) {n lo len : Nat} (v : Nat) (hn : n ≤ lo) (hlo : lo + len ≤ 32) :
    setBits (x &&& BitVec.ofNat 32 (2^n - 1)) lo len v &&& BitVec.ofNat 32 (2^n - 1) = x &&& BitVec.ofNat 32 (2^n - 1) := by
  have hn32 : n ≤ 32 := by omega
  apply BitVec.eq_of_toNat_eq
  rw [and_mask_toNat _ hn32, bits_setBits_below _ v hlo (by omega), bits, and_mask_toNat x hn32, bits]
  simp

/-- The word that CONFIG_PUSH writes to CTRL: the enables as they are, with CONFIG_PUSH set. -/
def pushWord (x : Word) : Word := setBits (x &&& BitVec.ofNat 32 3) 5 1 1

theorem pushWord_push (x : Word) : bits (pushWord x) 5 1 = 1 := bits_setBits_same _ 1 (by decide)

theorem pushWord_enum (x : Word) : bits (pushWord x) 4 1 = 0 :=
  (bits_setBits_below _ 1 (by decide) (by decide)).trans (bits_and_off x 3 4 1 (by decide))

theorem pushWord_enables (x : Word) : pushWord x &&& BitVec.ofNat 32 3 = x &&& BitVec.ofNat 32 3 :=
  setBits_and_mask (n := 2) x 1 (by decide) (by decide)

/-- The block once CONFIG_PUSH has stored CTRL. -/
def Dev.pushStored (s : Dev) : Dev := s.storeReg .chain 0x40 (pushWord (s.rd R.CHAIN_CTRL))

/-- It reads as before. -/
theorem pushStored_regsBut (s : Dev) : s.regsBut s.pushStored [] := by
  intro r _
  have same : mergeBits (s.rd R.CHAIN_CTRL) (pushWord (s.rd R.CHAIN_CTRL)) (rwMask .chain 0x40) = s.rd R.CHAIN_CTRL :=
    mergeBits_of_and (pushWord_enables _)
  have : s.pushStored = s.wr R.CHAIN_CTRL (s.rd R.CHAIN_CTRL) := congrArg (s.wr R.CHAIN_CTRL) same
  rw [this]
  by_cases hk : r.key = R.CHAIN_CTRL.key
  · exact (rd_wr_key s _ hk).trans (congrArg (fget regDefault s.regs) hk).symm
  · exact rd_wr_ne s _ hk

/-- A read of a CHAIN register that every requester shares returns what is stored. -/
theorem regRead_chain {s : Dev} {off : Nat} (q : Requester) (hon : s.isOn .chain = true) (ho : ¬off < 0x40)
    (hr : (regRow .chain off).isSome = true) (hc : ownCopy .chain off = false) : s.regRead q .chain off = (s.rd ⟨.chain, off⟩, s) := by
  obtain ⟨r, hr⟩ := Option.isSome_iff_exists.1 hr
  simp [Dev.regRead, ho, hr, hon, Dev.waveHeld, Dev.pageRead, Dev.view, hc]

/-- A write of CTRL stores the enables, then asks for an enumeration or a CONFIG. -/
theorem chainWrite_ctrl (s : Dev) (q : Requester) (w : Word) (he : bits w 4 1 = 0) (hp : bits w 5 1 = 1) :
    s.chainWrite q 0x40 w = (s.storeReg .chain 0x40 w).alignSync.calSource.configPushCore := by
  simp only [Dev.chainWrite, he, hp, if_true, Nat.zero_ne_one, if_false]

theorem cmdConfigPush_eq {s : Dev} {q : Requester} (h : s.takes q .chain) :
    s.cmdConfigPush q = s.pushStored.alignSync.calSource.configPushCore := by
  have hput := putF_effect (f := F.CHAIN_CTRL_CONFIG_PUSH) 1 h (by decide) (by decide) (by decide) rfl
  rw [regRead_chain q h.2 (by decide) (by decide) (by decide)] at hput
  exact hput.trans (chainWrite_ctrl s q _ (pushWord_enum _) (pushWord_push _))

section
variable {c : Dev}

theorem configPushCore_refused (h : c.pole = false ∨ c.g64 F.CHAIN_CONFIG_AT_LO_NS F.CHAIN_CONFIG_AT_HI_NS < c.now + 10000 + 2000 * c.maxHop) :
    c.configPushCore = c.refuse .chain :=
  if_pos (h.imp_left fun hp => by rw [hp]; rfl)

theorem configPushCore_sent {t : Nat} (hp : c.pole = true) (ht : t = c.g64 F.CHAIN_CONFIG_AT_LO_NS F.CHAIN_CONFIG_AT_HI_NS)
    (hle : c.now + 10000 + 2000 * c.maxHop ≤ t) :
    c.configPushCore = (c.broadcast mConfig (configBytes c.codeShadow (256 * t))).takeConfig (256 * t) c.codeShadow := by
  subst ht
  refine if_neg ?_
  rintro (h | h)
  · rw [hp] at h
    cases h
  · omega

end

/-! ### Messages -/

theorem config_taken {s : Dev} {m : ChainMsg} (p : Fin 2) (hs : m.src ≠ s.unit) (hp : s.pole = false) :
    s.config p m = (s.relay p mConfig m.src (configBytes m.args (m.args.getD 4 0))).takeConfig (m.args.getD 4 0) m.args :=
  if_neg (not_or.2 ⟨hs, by rw [hp]; exact Bool.false_ne_true⟩)

/-- A request for this unit is answered MALFORMED or executed as requester CHAIN. -/
theorem regReq_here {s : Dev} {m : ChainMsg} {w0 w1 w2 : Word} {rest : List Word} (p : Fin 2) (hw : m.words = w0 :: w1 :: w2 :: rest)
    (hd : m.dst = s.unit) :
    s.regReq p m =
      (let r : ReplyX := { port := 2, op := bits w0 16 8, unit := bits w0 0 16, seq := w1.toNat, src := m.src }
      if raFormed (bits w0 24 8) r.op (bits w2 24 8) (raEntries rest) then s.execRequest .chain r (raEntries rest)
      else s.answer r 3 []) := by
  rw [Dev.regReq, if_neg (not_not_intro hd), hw]
  rfl

theorem regResp_hit {s : Dev} {m : ChainMsg} {hit : RemoteX → Bool} {x : RemoteX} (p : Fin 2)
    (hh : hit = fun x => x.unit == m.src && x.seq == (m.words.getD 1 0#32).toNat) (hd : m.dst = s.unit)
    (hx : s.chain.remote.find? hit = some x) :
    s.regResp p m = { s with chain := { s.chain with remote := dropFirst hit s.chain.remote } }.remoteEnd x
      (bits (m.words.getD 2 0#32) 16 8) (raEntries (m.words.drop 3)) := by
  subst hh
  rw [Dev.regResp, if_neg (not_not_intro hd)]
  dsimp only
  rw [hx]

theorem portInfo_request {s : Dev} {m : ChainMsg} {k : Nat} (p : Fin 2) (hd : m.dst = s.unit) (ha : m.args = [k]) (hk : k < 48) :
    s.portInfo p m = s.sendTo mPortInfo m.src s.unit (payloadOf [(1, k), (1, s.gf (F.EMIT_PORT_CFG_PHASE k)),
      (2, s.gf (F.EMIT_PORT_CODE_BASE k)), (2, s.gf (F.EMIT_PORT_CODE_STEP k)), (1, b2n (s.coord k))]) := by
  rw [Dev.portInfo, if_neg (not_not_intro hd), ha]
  exact (if_pos rfl).trans (if_neg (Nat.not_le.2 hk))

/-! ### RA_CTRL.GO (R471) -/

theorem cmdRaGo_eq {s : Dev} {q : Requester} (w : Word) (h : s.takes q .chain) : s.cmdRaGo q w = s.raCtrl q w :=
  regWrite_effect w h (by decide) (by decide) (by decide) rfl

section
variable {s b : Dev} {q : Requester} {w : Word} (hgo : bits w 0 1 = 1) (hb : b = s.sfQ q F.CHAIN_RA_CTRL_OP (bits w 1 1))
include hgo

theorem raCtrl_busy (h : s.gfQ q F.CHAIN_RA_STATUS_BUSY = 1) : s.raCtrl q w = s.refuse .chain := if_pos ⟨hgo, h⟩

include hb

/-- With no access under way the unit named is absent, or the request goes out. -/
theorem raCtrl_idle (h : s.gfQ q F.CHAIN_RA_STATUS_BUSY = 0) :
    s.raCtrl q w = if (b.hopOf (b.gfQ q F.CHAIN_RA_UNIT_UNIT)).isNone then b.raDone q 4 none else
      (let d := { b with chain := { b.chain with nextSeq := (b.chain.nextSeq + 1) % 2^32 } }.sfQ q F.CHAIN_RA_STATUS_BUSY 1
      d.sendReq q none (b.gfQ q F.CHAIN_RA_UNIT_UNIT) (1 + bits w 1 1) b.chain.nextSeq
        [(d.rdQ q R.CHAIN_RA_ADDR, if 1 + bits w 1 1 = 2 then d.rdQ q R.CHAIN_RA_DATA else 0#32)]) := by
  subst hb
  have idle : ¬ (bits w 0 1 = 1 ∧ s.gfQ q F.CHAIN_RA_STATUS_BUSY = 1) := fun c => by omega
  have go : ¬ bits w 0 1 = 0 := by omega
  exact (if_neg idle).trans (if_neg go)

theorem raCtrl_absent (h : s.gfQ q F.CHAIN_RA_STATUS_BUSY = 0) (hn : b.hopOf (b.gfQ q F.CHAIN_RA_UNIT_UNIT) = none) :
    s.raCtrl q w = b.raDone q 4 none :=
  (raCtrl_idle hgo hb h).trans (if_pos (Option.isNone_iff_eq_none.2 hn))

theorem raCtrl_sent (h : s.gfQ q F.CHAIN_RA_STATUS_BUSY = 0) (hs : (b.hopOf (b.gfQ q F.CHAIN_RA_UNIT_UNIT)).isSome = true) :
    s.raCtrl q w =
      (let d := { b with chain := { b.chain with nextSeq := (b.chain.nextSeq + 1) % 2^32 } }.sfQ q F.CHAIN_RA_STATUS_BUSY 1
      d.sendReq q none (b.gfQ q F.CHAIN_RA_UNIT_UNIT) (1 + bits w 1 1) b.chain.nextSeq
        [(d.rdQ q R.CHAIN_RA_ADDR, if 1 + bits w 1 1 = 2 then d.rdQ q R.CHAIN_RA_DATA else 0#32)]) :=
  (raCtrl_idle hgo hb h).trans (if_neg (by rw [Option.isNone_iff_eq_none]; exact Option.isSome_iff_ne_none.1 hs))

end

theorem remoteAccessTimeout_some {s : Dev} {q : Requester} {x : RemoteX} (h : s.chain.remote.find? (fun x => x.req == q) = some x) :
    s.remoteAccessTimeout q =
      ({ s with chain := { s.chain with remote := dropFirst (fun y => y.req == q) s.chain.remote } }.advanceTo x.limit).remoteEnd x 1 [] := by
  rw [Dev.remoteAccessTimeout, h]

/-- Settles O44, command by command: the push's store of CTRL changes no register, and each message's effect is one branch of its
function. -/
theorem chainAccess : Obligations.ChainAccess := by
  unfold Obligations.ChainAccess
  refine ⟨fun s q h => ⟨s.dev.pushStored, s.dev.pushStored.alignSync.calSource, ⟨_, rfl⟩, pushStored_regsBut _, rfl, ?refused, ?late, ?push⟩,
    ?config, ?away, ?formed, ?malformed, ?respAway, ?respHit, ?portInfo, ?fwdPole, ?fwd, ?credit, ?busy, ?absent, ?read, ?write, ?timeout⟩
  case refused => exact fun hp => done_eq ((cmdConfigPush_eq h).trans (configPushCore_refused (.inl hp)))
  case late => exact fun ht => done_eq ((cmdConfigPush_eq h).trans (configPushCore_refused (.inr ht)))
  case push => exact fun t hp ht hle => done_eq ((cmdConfigPush_eq h).trans (configPushCore_sent hp ht hle))
  case config => exact fun s p m hs hp => done_eq (config_taken p hs hp)
  case away => exact fun s p m hd => done_eq (if_pos hd)
  case formed =>
    intro s p m w0 w1 w2 rest r hw hr hd hf
    subst hr
    exact done_eq ((regReq_here p hw hd).trans (if_pos hf))
  case malformed =>
    intro s p m w0 w1 w2 rest r hw hr hd hf
    subst hr
    exact done_eq ((regReq_here p hw hd).trans (if_neg (by rw [hf]; exact Bool.false_ne_true)))
  case respAway => exact fun s p m hd => done_eq (if_pos hd)
  case respHit => exact fun s p m hit x hh hd hx => done_eq (regResp_hit p hh hd hx)
  case portInfo => exact fun s p m k hd ha hk => done_eq (portInfo_request p hd ha hk)
  case fwdPole => exact fun s p m hp => done_eq (if_pos hp)
  case fwd => exact fun s p m hp => done_eq (if_neg (by rw [hp]; exact Bool.false_ne_true))
  case credit => exact fun s p m => rfl
  case busy => exact fun s q w b h hgo _ hbusy => done_eq ((cmdRaGo_eq w h).trans (raCtrl_busy hgo hbusy))
  case absent => exact fun s q w b h hgo hb hi hn => done_eq ((cmdRaGo_eq w h).trans (raCtrl_absent hgo hb hi hn))
  case read =>
    intro s q w b h hgo hb hi hs hop
    refine done_eq ((cmdRaGo_eq w h).trans ((raCtrl_sent hgo hb hi hs).trans ?_))
    rw [hop]
    rfl
  case write =>
    intro s q w b h hgo hb hi hs hop
    refine done_eq ((cmdRaGo_eq w h).trans ((raCtrl_sent hgo hb hi hs).trans ?_))
    rw [hop]
    rfl
  case timeout => exact fun s q x hx => done_eq (remoteAccessTimeout_some hx)

end Sys2Proof.Machine

/-! ## Edges, events and words of the return channels (R89, R92 to R95, R98 to R105, R108) -/
namespace Sys2Proof.Machine

/-! ### Time, counters and the channels -/

/-- A counter that wraps reads one more. -/
theorem gf_inc_same (s : Dev) {f : Fld} (h : f.ok) : (s.inc f).gf f = (s.gf f + 1) % 2^f.len := gf_sf_same _ _ _ h

theorem inc_regsBut (s : Dev) (f : Fld) : s.regsBut (s.inc f) [f.reg] := regsBut_sf (regsBut_refl s _) _ List.mem_cons_self

@[simp] theorem advanceTo_gf (s : Dev) (t : Nat) (f : Fld) : (s.advanceTo t).gf f = s.gf f := by
  obtain ⟨n, -, h⟩ := advanceTo_form s t
  rw [h]
  rfl

@[simp] theorem advanceTo_chan (s : Dev) (t i c : Nat) : (s.advanceTo t).chan i c = s.chan i c := by
  obtain ⟨n, -, h⟩ := advanceTo_form s t
  rw [h]
  rfl

/-- A channel is found as it was before time moved on. -/
theorem chan_of_advanceTo {s b : Dev} {x : ChanX} {t i c : Nat} (hb : b = s.advanceTo t) (hx : x = s.chan i c) : x = b.chan i c := by
  rw [hb, advanceTo_chan, hx]

/-! ### Lost edges and the ends of events (R94, R98, R105) -/

/-- A lost edge is counted and noted, with the starts during which it was lost. -/
theorem loseEdge_chan (s : Dev) (i c t : Nat) : ∃ l, (s.loseEdge i c t).chan i c =
    { s.chan i c with starts := l, missed := min 65535 ((s.chan i c).missed + 1), lastLost := t } :=
  ⟨_, setChan_same s i c _⟩

theorem loseEdge_regsBut (s : Dev) (i c t : Nat) : s.regsBut (s.loseEdge i c t) [R.BAY_CH_MISSED i c] :=
  regsBut_sf (s := s) (regsBut_refl _ _) _ List.mem_cons_self

/-- An event that VAL_MODE lets pass awaits its emission. -/
theorem endEvent_emits {s : Dev} {i c : Nat} {e : ChEvent} (h : s.gf (F.BAY_TDC_TIMING_VAL_MODE i) ≠ 0 ∨ e.validated = true) :
    (s.endEvent i c e).chan i c = { s.chan i c with open_ := none, closed := (s.chan i c).closed ++ [e] }
      ∧ ∃ m, s.endEvent i c e = { s with chans := m } := by
  have pass : ¬ (s.gf (F.BAY_TDC_TIMING_VAL_MODE i) = 0 ∧ !e.validated) := by
    rintro ⟨h0, hv⟩
    rcases h with h | h
    · exact h h0
    · rw [h] at hv
      cases hv
  rw [show s.endEvent i c e = _ from if_neg pass]
  exact ⟨setChan_same _ _ _ _, _, rfl⟩

/-- Under REQUIRE an unvalidated event is counted and discarded. -/
theorem endEvent_discards {s : Dev} {i c : Nat} {e : ChEvent} (h0 : s.gf (F.BAY_TDC_TIMING_VAL_MODE i) = 0) (hv : e.validated = false) :
    (s.endEvent i c e).chan i c = { s.chan i c with open_ := none } ∧ s.regsBut (s.endEvent i c e) [R.BAY_CH_ARMONLY i c]
      ∧ (s.endEvent i c e).gf (F.BAY_CH_ARMONLY_COUNT i c) = (s.gf (F.BAY_CH_ARMONLY_COUNT i c) + 1) % 2^32 := by
  have counted : s.endEvent i c e = (s.setChan i c { s.chan i c with open_ := none }).inc (F.BAY_CH_ARMONLY_COUNT i c) :=
    if_pos ⟨h0, by rw [hv]; rfl⟩
  rw [counted]
  exact ⟨setChan_same s _ _ _, inc_regsBut (s.setChan i c _) (F.BAY_CH_ARMONLY_COUNT i c),
    gf_inc_same (s.setChan i c _) (Fld.ok_of_le (Nat.le_refl 32))⟩

/-! ### LEADING_EDGE (R89, R92, R98) -/

/-- A channel whose arming comparator has asserted at `t`, as its outstanding starts note. -/
def Dev.armedAt (s : Dev) (i c t : Nat) : ChanX :=
  { s.chan i c with
    armHigh := some t
    starts := (s.chan i c).starts.map fun (u : StartX) => if u.ref ≤ t ∧ t < u.ref + s.timeoutTicks i then { u with asserted := true } else u }

section
variable {s b : Dev} {bay : Fin 48} {c : Fin 8} {t : Nat} (hb : b = s.advanceTo (t / 256))
include hb

theorem leadingEdge_beyondScale (hs : beyondScale (b.gf (F.BAY_CH_THRESH_ARM bay c)) = true) : s.leadingEdge bay c t = b := by
  subst hb
  exact if_pos (by rw [hs, Bool.or_true])

section
variable (hs : beyondScale (b.gf (F.BAY_CH_THRESH_ARM bay c)) = false) (ha : (b.chan bay c).armHigh = none) (hf : b.forms bay c = true)
include hs ha

omit hb in
/-- Neither a comparator that is high nor a threshold beyond full scale stops the assertion. -/
theorem comparator_asserts : ¬ ((b.chan bay c).armHigh.isSome || beyondScale (b.gf (F.BAY_CH_THRESH_ARM bay c))) = true := by
  rw [ha, hs]
  decide

include hf

/-- In the dead time the edge is lost. -/
theorem leadingEdge_lost (hd : dead (b.chan bay c).lastLead t = true) :
    s.leadingEdge bay c t = (b.setChan bay c (b.armedAt bay c t)).loseEdge bay c t := by
  subst hb
  exact (if_neg (comparator_asserts hs ha)).trans ((if_neg (by rw [hf]; decide)).trans (if_pos hd))

/-- Beyond it the edge opens an event, unvalidated with the validating comparator released. -/
theorem leadingEdge_opens (hv : (b.chan bay c).valHigh = none) (hd : dead (b.chan bay c).lastLead t = false) :
    s.leadingEdge bay c t =
      b.setChan bay c { b.armedAt bay c t with lastLead := some t, open_ := some { lead := t, validated := false } } := by
  subst hb
  refine (if_neg (comparator_asserts hs ha)).trans ((if_neg (by rw [hf]; decide)).trans ((if_neg (Bool.eq_false_iff.1 hd)).trans ?_))
  simp only [hv, Dev.armedAt]

end

end

/-! ### VALIDATING_ASSERT (R92, R93) -/

/-- More than 62.5 ps inside both bounds an instant is inside the window. -/
theorem inFreeWindow_inside (s : Dev) {a z t : Nat} (ha : a + 16 < t) (hz : t + 16 < z) : s.inFreeWindow a z t = (true, s) := by
  have h1 : ¬ t ≤ a + 16 := by omega
  have h2 : ¬ z ≤ t + 16 := by omega
  have h3 : a ≤ t := by omega
  have h4 : t < z := by omega
  simp [Dev.inFreeWindow, h1, h2, h3, h4]

/-- A port without a burst has no Eclipse window. -/
theorem eclipsePath_idle {s : Dev} {i : Nat} (c t : Nat) (h : (s.port i).bursts = []) : s.eclipsePath i c t = s := by
  rw [Dev.eclipsePath, h]

/-- An assertion inside the window validates the open event. -/
theorem validatingAssert_validates {s b : Dev} {bay : Fin 48} {c : Fin 8} {t : Nat} {e : ChEvent} (hb : b = s.advanceTo (t / 256))
    (hs : beyondScale (b.gf (F.BAY_CH_THRESH_VAL bay c)) = false) (ho : (b.chan bay c).open_ = some e) (hv : e.validated = false)
    (hlo : e.lead + 16 < t) (hhi : t + 16 < e.lead + b.valWin bay) (hp : (b.port bay).bursts = []) :
    s.validatingAssert bay c t = (b.setChan bay c { b.chan bay c with valHigh := some t }).setChan bay c
      { b.chan bay c with valHigh := some t, open_ := some { e with validated := true } } := by
  subst hb
  refine (if_neg (Bool.eq_false_iff.1 hs)).trans ?_
  generalize s.advanceTo (t / 256) = b at *
  have inside : ∀ y : ChanX, (b.setChan bay c y).inFreeWindow e.lead (e.lead + (b.setChan bay c y).valWin bay) t
      = (true, b.setChan bay c y) := fun _ => inFreeWindow_inside _ hlo hhi
  simp only [ho, hv, inside, Bool.false_eq_true, if_false]
  exact eclipsePath_idle _ _ hp

/-! ### TRAILING_EDGE and TOT_MAX_EXPIRY (R92, R94, R95, R98) -/

/-- The block once a channel's arming comparator has released. -/
def Dev.released (s : Dev) (i c : Nat) : Dev := s.setChan i c { s.chan i c with armHigh := none }

/-- The block once a channel's trailing converter has converted an edge at `t`. -/
def Dev.trailed (s : Dev) (i c t : Nat) : Dev := s.setChan i c { s.chan i c with lastTrail := some t }

@[simp] theorem released_chan (s : Dev) (i c : Nat) : (s.released i c).chan i c = { s.chan i c with armHigh := none } := setChan_same _ _ _ _

@[simp] theorem trailed_chan (s : Dev) (i c t : Nat) : (s.trailed i c t).chan i c = { s.chan i c with lastTrail := some t } :=
  setChan_same _ _ _ _

/-- A trailing edge before TOT_MAX and beyond the dead time is converted and ends the open event. -/
theorem trailingEdge_ends {s b : Dev} {bay : Fin 48} {c : Fin 8} {t : Nat} {e : ChEvent} (hb : b = s.advanceTo (t / 256))
    (ho : (b.chan bay c).open_ = some e) (ha : (b.chan bay c).armHigh.isSome = true) (ht : t < e.lead + b.totMax bay)
    (hd : dead (b.chan bay c).lastTrail t = false) :
    s.trailingEdge bay c t = ((b.released bay c).trailed bay c t).endEvent bay c { e with trail := some t } := by
  subst hb
  refine (if_neg ?_).trans ?_
  · rw [← Option.not_isSome, ha]
    decide
  · simp only [ho, Dev.released, Dev.trailed]
    exact (if_neg (Nat.not_le.2 ht)).trans (if_neg (Bool.eq_false_iff.1 hd))

theorem totMaxExpiry_ends {s : Dev} {bay : Fin 48} {c : Fin 8} {e : ChEvent} (ho : (s.chan bay c).open_ = some e) :
    s.totMaxExpiry bay c = (s.advanceTo ((e.lead + s.totMax bay + 255) / 256)).endEvent bay c e := by
  rw [Dev.totMaxExpiry, ho]

/-- Settles O20: each edge by its operation's case, and each event's end by VAL_MODE. -/
theorem channelEdges : Obligations.ChannelEdges := by
  unfold Obligations.ChannelEdges
  refine ⟨?opens, ?lost, ?beyond, ?validates, ?closes, ?discards, ?expires⟩
  case opens =>
    intro s bay c t b x hb hx hs ha hv hf hd
    have hx := chan_of_advanceTo hb hx
    subst hx
    refine ⟨_, done_eq (leadingEdge_opens hb hs ha hf hv hd), ?_⟩
    rw [setChan_same]
    exact ⟨rfl, rfl, rfl, rfl, fun n hn => fget_fset_ne _ _ _ hn, _, rfl⟩
  case lost =>
    intro s bay c t b x hb hx hs ha hf hd hm
    have hx := chan_of_advanceTo hb hx
    subst hx
    obtain ⟨l, hl⟩ := loseEdge_chan (b.setChan bay c (b.armedAt bay c t)) bay c t
    refine ⟨_, done_eq (leadingEdge_lost hb hs ha hf hd), ?_⟩
    rw [hl, setChan_same]
    exact ⟨Nat.min_eq_right hm, rfl, rfl, rfl, loseEdge_regsBut _ _ _ _⟩
  case beyond => exact fun s bay c t b hb hs => done_eq (leadingEdge_beyondScale hb hs)
  case validates =>
    intro s bay c t b x e hb hx hs ho hv hlo hhi hp
    have hx := chan_of_advanceTo hb hx
    subst hx
    refine ⟨_, done_eq (validatingAssert_validates hb hs ho hv hlo hhi hp), ?_⟩
    rw [setChan_same]
    exact ⟨rfl, rfl, rfl, _, rfl⟩
  case closes =>
    intro s bay c t b x e hb hx ho ha ht hd hv
    have hx := chan_of_advanceTo hb hx
    subst hx
    obtain ⟨hc, m, hm⟩ := endEvent_emits (s := (b.released bay c).trailed bay c t) (c := c) (e := { e with trail := some t }) hv
    refine ⟨_, done_eq (trailingEdge_ends hb ho ha ht hd), ?_⟩
    rw [hc, trailed_chan, released_chan]
    exact ⟨rfl, rfl, rfl, rfl, m, hm⟩
  case discards =>
    intro s bay c t b x e hb hx ho ha ht hd h0 hv
    have hx := chan_of_advanceTo hb hx
    subst hx
    obtain ⟨hc, hr, hg⟩ := endEvent_discards (s := (b.released bay c).trailed bay c t) (c := c) (e := { e with trail := some t }) h0 hv
    refine ⟨_, done_eq (trailingEdge_ends hb ho ha ht hd), ?_⟩
    rw [hc, trailed_chan, released_chan]
    exact ⟨rfl, rfl, rfl, hr, hg⟩
  case expires =>
    intro s bay c b x e hx ho hb hv
    have ho' : (s.dev.chan bay c).open_ = some e := hx ▸ ho
    have hx := chan_of_advanceTo hb hx
    subst hx
    have hgf : b.gf (F.BAY_TDC_TIMING_VAL_MODE bay) = s.dev.gf (F.BAY_TDC_TIMING_VAL_MODE bay) := by rw [hb, advanceTo_gf]
    obtain ⟨hc, m, hm⟩ := endEvent_emits (s := b) (c := c) (hgf ▸ hv)
    refine ⟨_, done_eq ((totMaxExpiry_ends ho').trans (by rw [← hb])), ?_⟩
    rw [hc]
    exact ⟨rfl, rfl, rfl, m, hm⟩

/-! ### EVENT_EMIT (R92, R95, R99, R103) -/

/-- A channel whose oldest closed event has left with TIME `time`, as its outstanding starts of `span` ticks note. -/
def ChanX.emitted (x : ChanX) (rest : List ChEvent) (time span : Nat) : ChanX :=
  { x with
    closed := rest
    starts := x.starts.map fun (u : StartX) => if u.ref ≤ time ∧ time < u.ref + span then { u with hadEvent := true } else u }

/-- The word of a closed event whose trailing edge is absent as `n` says and whose TIME, TOT and UNCAL are `v`. -/
def edgeWord (c : Nat) (e : ChEvent) (n : Bool) (v : Nat × Nat × Bool) : EvWord :=
  { type := .edge, ch := c, uncal := v.2.2, val := e.validated, noTrail := n, tot := min 65535 v.2.1, time := v.1 }

/-- The oldest closed event leaves as an EDGE word and counts: at once with a trailing edge, else no earlier than TOT_MAX. -/
theorem eventEmit_sends {s b : Dev} {bay : Fin 48} {c : Fin 8} {e : ChEvent} {rest : List ChEvent} {n : Bool}
    (h : (s.chan bay c).closed = e :: rest) (hn : e.trail.isNone = n)
    (hb : b = if n then s.advanceTo ((e.lead + s.totMax bay) / 256) else s) :
    s.eventEmit bay c = (((b.setChan bay c ((s.chan bay c).emitted rest (b.eventTimes bay c e).1 (b.timeoutTicks bay))).inc
      (F.BAY_CH_EVENTS_COUNT bay c)).pushEvent bay (edgeWord c e n (b.eventTimes bay c e))).haloEvent bay
        (edgeWord c e n (b.eventTimes bay c e)) := by
  subst hn hb
  simp only [Dev.eventEmit, h, ChanX.emitted, edgeWord]

/-! ### TIMEOUT_MARKER (R102, R105) -/

/-- The oldest start had no event: it is still to end. -/
theorem endStarts_unserved {x : ChanX} {u : StartX} {rest : List StartX} (upTo : Nat → Bool) (h : x.starts = u :: rest)
    (hu : u.hadEvent = false) : x.endStarts upTo = x := by
  simp [ChanX.endStarts, h, hu]

/-- The block once the start `u` has ended in a TIMEOUT word, with a storm of `n` starts. -/
def Dev.timedOut (s : Dev) (i c : Nat) (u : StartX) (rest : List StartX) (n : Nat) : Dev :=
  (((s.advanceTo ((u.ref + s.timeoutTicks i + 255) / 256)).setChan i c { s.chan i c with starts := rest, storm := n }).inc
    (F.BAY_CH_TIMEOUTS_COUNT i c)).pushEvent i { type := .timeout, ch := c, time := u.ref }

/-- The TIMEOUT word leaves STORM_COUNT as it is. -/
theorem timedOut_stormCount (s : Dev) (i : Nat) (c : Fin 8) (u : StartX) (rest : List StartX) (n : Nat) :
    (s.timedOut i c u rest n).gf (F.BAY_FAULT_CTRL_STORM_COUNT i) = s.gf (F.BAY_FAULT_CTRL_STORM_COUNT i) := by
  have hk : (F.BAY_FAULT_CTRL_STORM_COUNT i).reg.key ≠ (F.BAY_CH_TIMEOUTS_COUNT i c).reg.key := by
    show (Page.bay i).num * 4096 + 0x6C ≠ (Page.bay i).num * 4096 + (0x114 + 0x20 * c.val)
    omega
  exact (gf_sf_key _ _ hk).trans (advanceTo_gf _ _ _)

/-- A start without an event leaves as a TIMEOUT word; a storm that reaches STORM_COUNT quarantines the channel. -/
theorem timeoutMarker_sends {s : Dev} {bay : Fin 48} {c : Fin 8} {u : StartX} {rest : List StartX} {n : Nat}
    (h : (s.chan bay c).starts = u :: rest) (hu : u.hadEvent = false)
    (hn : (if u.asserted ∧ !u.lost then (s.chan bay c).storm + 1 else 0) = n) :
    s.timeoutMarker bay c = (let b := s.timedOut bay c u rest n
      if max 1 (s.gf (F.BAY_FAULT_CTRL_STORM_COUNT bay)) ≤ n then
        (b.setChan bay c { b.chan bay c with storm := 0 }).quarantineChannel bay c 1 2 (C.BAY_TIMEOUT_STORM bay)
      else b) := by
  subst hn
  rw [← timedOut_stormCount s bay c u rest (if u.asserted ∧ !u.lost then (s.chan bay c).storm + 1 else 0)]
  simp only [Dev.timeoutMarker, endStarts_unserved _ h hu, h]
  rfl

/-! ### MISSED_WORD, COMP_STUCK_HIGH and CH_RELEASE (R104, R105, R108) -/

/-- The lost edges leave as one MISSED word: at once where none was sent yet, else a microsecond after the last. -/
theorem missedWord_sends {s b : Dev} {bay : Fin 48} {c : Fin 8} (h : (s.chan bay c).missed ≠ 0)
    (hb : ((s.chan bay c).lastMissedAt = none ∧ b = s) ∨ ∃ m, (s.chan bay c).lastMissedAt = some m ∧ b = s.advanceTo (m + 1000)) :
    s.missedWord bay c = (b.setChan bay c { s.chan bay c with missed := 0, lastMissedAt := some b.now }).pushEvent bay
      { type := .missed, ch := c.val, tot := (s.chan bay c).missed, time := (s.chan bay c).lastLost } := by
  rcases hb with ⟨hm, rfl⟩ | ⟨m, hm, rfl⟩
  · simp only [Dev.missedWord, if_neg h, hm]
  · simp only [Dev.missedWord, if_neg h, hm]

/-- A comparator asserted since `t` is stuck once STUCK_TIME has passed. -/
theorem compStuckHigh_stuck {s : Dev} {bay : Fin 48} {c : Fin 8} {v : Bool} {t : Nat}
    (h : (if v then (s.chan bay c).valHigh else (s.chan bay c).armHigh) = some t) (ha : s.chActive bay c = true) :
    s.compStuckHigh bay c v = (s.advanceTo (t / 256 + max 1 (s.gf (F.BAY_FAULT_CTRL_STUCK_TIME bay)) * 1000)).quarantineChannel bay c 2 1
      (C.BAY_COMP_STUCK bay) := by
  simp only [Dev.compStuckHigh, h, ha, if_true]

/-- The command writes CH_RELEASE, of which no bit is stored. -/
theorem cmdChRelease_eq {s : Dev} {bay : Fin 48} {q : Requester} (mask : BitVec 8) (h : s.takes q (.bay bay)) :
    s.cmdChRelease bay q mask = s.chRelease bay q mask := by
  have hrow : (regRow (.bay bay) 0x50).any (fun r => !r.readOnly) = true := by
    rw [regRow_bay]
    decide
  have hshadow : shadowedReg (.bay bay) 0x50 = false := by
    rw [shadowed_bay]
    decide
  have hmask0 : rwMask (.bay bay) 0x50 = 0 := by
    rw [rwMask_bay]
    decide
  have hput := putF_wo (f := F.BAY_CH_RELEASE_RELEASE bay) mask.toNat h (show ¬ 0x50 < 0x40 by decide) hrow hshadow rfl hmask0
  have hbay : Fin.ofNat 48 (bay.val % 48) = bay := by
    ext
    simp
  have hmask : BitVec.ofNat 8 (bits (setBits 0#32 0 8 mask.toNat) 0 8) = mask := by
    rw [bits_setBits_same _ _ (by decide), Nat.mod_eq_of_lt mask.isLt, BitVec.ofNat_toNat, BitVec.setWidth_eq]
  exact hput.trans (congrArg₂ (fun i m => s.chRelease i q m) hbay hmask)

/-- Settles O21: each word of a channel, its quarantine and its release by its operation. -/
theorem channelWords : Obligations.ChannelWords := by
  unfold Obligations.ChannelWords
  refine ⟨?edge, ?noTrail, ?timeout, ?storm, ?missed, ?missedAgain, ?arming, ?validating, ?release⟩
  case edge =>
    rintro s bay c e rest r v h ht rfl
    exact ⟨_, rfl, done_eq (eventEmit_sends h (n := false) (by rw [ht]; rfl) rfl)⟩
  case noTrail =>
    rintro s bay c e rest v b h ht hb rfl
    exact ⟨_, rfl, done_eq (eventEmit_sends h (n := true) (by rw [ht]; rfl) hb)⟩
  case timeout =>
    intro s bay c u rest h hu ha
    exact done_eq ((timeoutMarker_sends h hu (n := 0) (by simp [ha])).trans (if_neg (by omega)))
  case storm =>
    rintro s bay c u rest b h hu ha hl hn rfl
    exact done_eq ((timeoutMarker_sends h hu (n := (s.dev.chan bay c).storm + 1) (by simp [ha, hl])).trans (if_pos hn))
  case missed => exact fun s bay c h hm => done_eq (missedWord_sends h (.inl ⟨hm, rfl⟩))
  case missedAgain => exact fun s bay c m b h hm hb => done_eq (missedWord_sends h (.inr ⟨m, hm, hb⟩))
  case arming => exact fun s bay c t h ha => done_eq (compStuckHigh_stuck (v := false) h ha)
  case validating => exact fun s bay c t h ha => done_eq (compStuckHigh_stuck (v := true) h ha)
  case release => exact fun s bay q mask h => done_eq (cmdChRelease_eq mask h)

end Sys2Proof.Machine

/-! ## Rings, code-density runs, automatic calibration, reseeding and slice estimates (R133, R135, R145, R155, R326, R328) -/
namespace Sys2Proof.Machine

/-! ### VERNIER_MEASURE and CAL_RUN_DONE (R133 to R135) -/

/-- A converter whose two rings are in lock shows so; it stays suspended if it was. -/
theorem vernierMeasure_locked {s : Dev} {bay : Fin 48} {i : Fin 17} {fast slow : Nat} (hf : ringInLock 63 fast = true)
    (hl : ringInLock 64 slow = true) :
    s.vernierMeasure bay i fast slow =
      ((s.setConv bay i { s.conv bay i with fastUnlock := false, slowUnlock := false }).vernSync bay).calSync bay := by
  simp only [Dev.vernierMeasure, hf, hl, Bool.not_true, Bool.or_false, Bool.false_and, Bool.false_eq_true, or_self, false_and, if_false]

/-- A ring newly out of lock suspends a converter of channel `i / 2` and aborts its run. -/
theorem vernierMeasure_unlocks {s d : Dev} {bay : Fin 48} {i : Fin 17} {fast slow : Nat}
    (hout : ringInLock 63 fast = false ∨ ringInLock 64 slow = false) (hs : (s.conv bay i).slowUnlock = false)
    (hf : (s.conv bay i).fastUnlock = false) (hi : i.val ≠ 16)
    (hd : d = ((s.setConv bay i { s.conv bay i with
      fastUnlock := !(ringInLock 63 fast), slowUnlock := !(ringInLock 64 slow), suspended := true,
      aborted := (s.conv bay i).aborted || (s.conv bay i).running }).vernSync bay).calSync bay) :
    s.vernierMeasure bay i fast slow = (d.raise (C.BAY_CAL_INVALID bay) (i.val / 2)).raise C.TIME_VERN_UNLOCK bay := by
  have hany : (!ringInLock 63 fast || !ringInLock 64 slow) = true := by
    rcases hout with h | h
    · rw [h, Bool.not_false, Bool.true_or]
    · rw [h, Bool.not_false, Bool.or_true]
  subst hd
  simp only [Dev.vernierMeasure, hs, hf, Bool.or_assoc, hany, Bool.or_true, Bool.true_and, if_neg hi]
  exact if_pos ⟨by simpa using hany, rfl⟩

/-- A converter keeps a run of the right size while it has fewer than two; the second ends them. -/
theorem calRunDone_keeps {s : Dev} {bay : Fin 48} {i : Fin 17} {counts : List Nat} (hr : (s.conv bay i).running = true)
    (h2 : (s.conv bay i).runs.length < 2) (hc : counts.length = 256) (hn : counts.foldl (· + ·) 0 = 2^(s.conv bay i).hits) :
    s.calRunDone bay i counts = s.setConv bay i { s.conv bay i with
      runs := (s.conv bay i).runs ++ [counts], running := decide ((s.conv bay i).runs.length = 0) } :=
  if_pos ⟨hr, h2, hc, hn⟩

/-! ### AUTO_CAL_SUBMIT (R145) -/

section
variable {s : Dev} {bay : Fin 48} {mask : BitVec 17} (hm : (maskBits 17 mask.toNat).filter (s.calDue bay) ≠ [])
  (ha : s.on F.CAL_CTRL_AUTO_EN = true) (hon : s.isOn (.bay bay) = true)
include hm ha hon

/-- Nothing stops the firmware from looking at the converters that are due. -/
theorem autoCal_looks : ¬((!(s.on F.CAL_CTRL_AUTO_EN)) = true ∨ (!(s.isOn (.bay bay))) = true
    ∨ (maskBits 17 mask.toNat).filter (s.calDue bay) = []) := by
  rw [ha, hon]
  simpa using hm

theorem autoCalSubmit_skips (hu : s.on (F.BAY_SPARE_STATUS_IN_USE bay) = true) :
    s.autoCalSubmit bay mask = s.raise C.CAL_AUTO_SKIPPED bay :=
  (if_neg (autoCal_looks hm ha hon)).trans (if_pos hu)

/-- With no calibration of its own under way the firmware may use any slot. -/
theorem autoCalSubmit_submits {i : Nat} (hu : s.on (F.BAY_SPARE_STATUS_IN_USE bay) = false)
    (hc : s.inConflict 0x01 (Page.bay bay).base = false) (ho : s.ownSlot (fun _ => true) = some i)
    (hn : ((List.range 16).filter (fun i => s.slotState i != 0 && s.gf (F.TASK_STATUS_REQ i) == 0 && (s.task i).code == 0x01)).length = 0) :
    s.autoCalSubmit bay mask = s.submitIn i 0x01 (Page.bay bay).base
      (((maskBits 17 mask.toNat).filter (s.calDue bay)).foldl (fun v k => v + 2^k) 0) 0 0 := by
  refine (if_neg (autoCal_looks hm ha hon)).trans ((if_neg (Bool.eq_false_iff.1 hu)).trans ((if_neg (Bool.eq_false_iff.1 hc)).trans ?_))
  simp only [hn, Nat.zero_lt_two, decide_true, Bool.true_or, ho]

end

/-! ### RZ_RESEED (R155) -/

/-- A write of CAL.CTRL that asks for a reseed stores the word first. -/
theorem calWrite_reseeds (s : Dev) (q : Requester) (w : Word) (h : bits w 3 1 = 1) :
    s.calWrite q 0x40 w = (s.storeReg .cal 0x40 w).rzReseed q := if_pos ⟨rfl, h⟩

theorem cmdRzReseed_eq {s : Dev} {q : Requester} (h : s.takes q .cal) :
    ∃ w, s.cmdRzReseed q = (s.wr R.CAL_CTRL w).rzReseed q :=
  ⟨_, (putF_effect (f := F.CAL_CTRL_RZ_RESEED) 1 h (by decide) (by decide) (by decide) rfl).trans
    (calWrite_reseeds s q _ (bits_setBits_same _ _ (by decide)))⟩

/-- The block once the first `n` range-zero estimates are marked. -/
def Dev.reseedN (s : Dev) (n : Nat) : Dev := forN n (fun p (d : Dev) => d.setRz p { d.rzOf p with reseed := true }) s

theorem rzReseed_eq_reseedN (s : Dev) (q : Requester) : s.rzReseed q = s.reseedN 48 := rfl

theorem reseedN_succ (s : Dev) (n : Nat) :
    s.reseedN (n + 1) = (s.reseedN n).setRz n { (s.reseedN n).rzOf n with reseed := true } := rfl

/-- Marking changes the trackers alone. -/
theorem reseedN_form (s : Dev) (n : Nat) : ∃ r, s.reseedN n = { s with rz := r } :=
  forN_ind (P := fun d : Dev => ∃ r, d = { s with rz := r }) n ⟨_, rfl⟩ fun p d _ hd => by
    obtain ⟨r, rfl⟩ := hd
    exact ⟨_, rfl⟩

theorem reseedN_rzOf (s : Dev) (n p : Nat) :
    (s.reseedN n).rzOf p = if p < n then { s.rzOf p with reseed := true } else s.rzOf p := by
  induction n with
  | zero => rfl
  | succ n ih =>
    rw [reseedN_succ]
    rcases eq_or_ne p n with rfl | hp
    · rw [setRz_same, ih, if_neg (Nat.lt_irrefl p), if_pos (Nat.lt_succ_self p)]
    · rw [setRz_other _ _ _ _ hp, ih]
      exact if_congr (by omega) rfl rfl

/-! ### WAVE_ESTIMATE (R151, R326, R328) -/

/-- The SLICE registers follow; nothing else changes. -/
theorem sliceSync_form (s : Dev) (b : Nat) (res : Option (Nat × Nat)) : ∃ m, s.sliceSync b res = { s with regs := m } := by
  refine forN_ind (P := fun d : Dev => ∃ m, d = { s with regs := m }) 5 ⟨_, rfl⟩ fun i d _ hd => ?_
  obtain ⟨m, rfl⟩ := hd
  cases res with
  | none => exact ⟨_, rfl⟩
  | some r =>
    dsimp only
    split <;> exact ⟨_, rfl⟩

@[simp] theorem sliceSync_slice (s : Dev) (b : Nat) (res : Option (Nat × Nat)) (b' k : Nat) :
    (s.sliceSync b res).slice b' k = s.slice b' k := by
  obtain ⟨m, h⟩ := sliceSync_form s b res
  rw [h]
  rfl

@[simp] theorem sliceSync_keeps (s : Dev) (b : Nat) (res : Option (Nat × Nat)) :
    (s.sliceSync b res).now = s.now ∧ (s.sliceSync b res).mram = s.mram := by
  obtain ⟨m, h⟩ := sliceSync_form s b res
  rw [h]
  exact ⟨rfl, rfl⟩

/-- Storing a correction touches neither the slices nor the time. -/
@[simp] theorem storeSlice_slice (s : Dev) (b k : Nat) (c : SliceCorr) (b' k' : Nat) :
    (s.storeSlice b k c).slice b' k' = s.slice b' k' := rfl

@[simp] theorem storeSlice_now (s : Dev) (b k : Nat) (c : SliceCorr) : (s.storeSlice b k c).now = s.now := rfl

@[simp] theorem storeSlice_same (s : Dev) (b k : Nat) (c : SliceCorr) :
    fget (fun _ => ({} : SliceCorr)) (s.storeSlice b k c).mram.slices (8 * b + k) = c := fget_fset_eq _ _ _ _

/-- A slice once an estimate is noted, in range as `ok` says (R328). -/
def SliceX.noted (x : SliceX) (ok : Bool) : SliceX :=
  { x with outRun := if ok then 0 else x.outRun + 1, ests := x.ests + 1, estOk := ok }

@[simp] theorem noted_lastEst (x : SliceX) (ok : Bool) : (x.noted ok).lastEst = x.lastEst := rfl

/-- An estimate that is not the third in a row out of range is noted and raises nothing. -/
theorem noteEstimate_notes {s : Dev} {b k : Nat} {e : SliceCorr} (h : inRange e = true ∨ (s.slice b k).outRun < 2) :
    s.noteEstimate b k e = s.setSlice b k ((s.slice b k).noted (inRange e)) := by
  by_cases he : inRange e = true
  · rw [he]
    exact if_pos he
  · have h3 : (s.slice b k).outRun + 1 ≠ 3 := by
      have := h.resolve_left he
      omega
    rw [Bool.not_eq_true] at he
    rw [he]
    exact (if_neg (Bool.eq_false_iff.1 he)).trans (if_pos h3)

section
variable {s n : Dev} {b k : Nat} {e : SliceCorr} {x : SliceX} (auto : Bool)

/-- An estimate out of range leaves none to agree with the next. -/
theorem sliceEstimate_outOfRange (he : inRange e = false) (hn : n = s.noteEstimate b k e) :
    (s.sliceEstimate b k e auto).2 = (n.setSlice b k { n.slice b k with lastEst := none }).sliceSync b (some (k, 3)) := by
  subst hn
  simp only [Dev.sliceEstimate, he, Bool.not_false, if_true]

theorem sliceEstimate_first (he : inRange e = true) (hn : n = s.noteEstimate b k e) (hl : (n.slice b k).lastEst = none) :
    (s.sliceEstimate b k e auto).2 = (n.setSlice b k { n.slice b k with lastEst := some e }).sliceSync b := by
  subst hn
  simp only [Dev.sliceEstimate, he, hl, Bool.not_true, Bool.false_eq_true, if_false]

/-- Two estimates that agree: their mean awaits the next frame and is stored. -/
theorem sliceEstimate_agrees {p : SliceCorr} (he : inRange e = true) (hn : n = s.noteEstimate b k e)
    (hl : (n.slice b k).lastEst = some p) (hp : n.sliceAgree p e = true) (ha : n.on F.CAL_CTRL_WAVE_AUTO = true) :
    (s.sliceEstimate b k e auto).2 = ((n.setSlice b k { n.slice b k with
      lastEst := some e, pending := some (sliceMean p e), pendingAt := n.now }).storeSlice b k (sliceMean p e)).sliceSync b (some (k, 1)) := by
  subst hn
  simp only [Dev.sliceEstimate, he, hl, hp, ha, Bool.not_true, Bool.false_eq_true, and_false, if_true, if_false]

end

/-- The block as slice `i` of a bay delivers its estimate: a period has passed since its last, and the time is noted (R326). -/
def Dev.estimateDue (s : Dev) (b i : Nat) : Dev :=
  let d := s.advanceTo (fget count0 (s.wave b).estAt i + s.wavePeriod b)
  d.setWave b { d.wave b with estAt := fset count0 (d.wave b).estAt i d.now }

/-- Waiting and noting the time touch neither slices nor MRAM. -/
theorem estimateDue_keeps (s : Dev) (b i : Nat) : (s.estimateDue b i).slices = s.slices ∧ (s.estimateDue b i).mram = s.mram := by
  obtain ⟨t, -, h⟩ := advanceTo_form s (fget count0 (s.wave b).estAt i + s.wavePeriod b)
  rw [Dev.estimateDue, h]
  exact ⟨rfl, rfl⟩

@[simp] theorem estimateDue_slice (s : Dev) (b i b' k : Nat) : (s.estimateDue b i).slice b' k = s.slice b' k :=
  congrArg (fget slice0 · _) (estimateDue_keeps s b i).1

@[simp] theorem estimateDue_mram (s : Dev) (b i : Nat) : (s.estimateDue b i).mram = s.mram := (estimateDue_keeps s b i).2

@[simp] theorem estimateDue_now (s : Dev) (b i : Nat) :
    (s.estimateDue b i).now = (s.advanceTo (fget count0 (s.wave b).estAt i + s.wavePeriod b)).now := rfl

/-- The registers of the CAL page stay: only the bay's WAVE_STATUS is written. -/
theorem estimateDue_gf_cal (s : Dev) (b i lo len : Nat) {off : Nat} (h : off < 4096) :
    (s.estimateDue b i).gf ⟨.cal, off, lo, len⟩ = s.gf ⟨.cal, off, lo, len⟩ := by
  have hk : (Fld.mk .cal off lo len).reg.key ≠ (F.BAY_WAVE_STATUS_URGENT b).reg.key := by
    show 0x0D * 4096 + off ≠ (128 + b % 48) * 4096 + 0x30C
    omega
  exact (gf_sf_key _ _ hk).trans (advanceTo_gf s _ _)

theorem estimateDue_sliceAgree (s : Dev) (b i : Nat) (p e : SliceCorr) : (s.estimateDue b i).sliceAgree p e = s.sliceAgree p e := by
  simp only [Dev.sliceAgree, estimateDue_gf_cal s b i _ _ (show 0x50 < 4096 by decide)]

theorem waveEstimate_slice {s : Dev} {bay : Fin 48} {i : Fin 5} (o g k : Int) (hi : i.val < 4)
    (hen : s.on (F.BAY_WAVE_EST_EN bay) = true) (hst : s.waveState bay = 2) :
    s.waveEstimate bay i o g k = ((s.estimateDue bay i).sliceEstimate bay i { offset := o, gain := g, skew := k } true).2 := by
  have hw : ¬((!(s.on (F.BAY_WAVE_EST_EN bay))) = true ∨ s.waveState bay ≠ 2) := by
    rw [hen, hst]
    decide
  have h4 : ¬ i.val = 4 := by omega
  refine (if_neg hw).trans ?_
  simp only [hi, h4, if_true, false_and, if_false]
  rfl

/-! ### The commands together -/

/-- Settles O22: each command by its operation's case. -/
theorem calTables : Obligations.CalTables := by
  unfold Obligations.CalTables
  refine ⟨?locked, ?unlocks, ?firstRun, ?secondRun, ?submits, ?skips, ?reseed, ?first, ?agrees, ?outOfRange⟩
  case locked =>
    rintro s bay i fast slow x rfl hf hl
    exact done_eq (vernierMeasure_locked hf hl)
  case unlocks =>
    rintro s bay i fast slow x d rfl hout hs hf hi hd
    exact done_eq (vernierMeasure_unlocks hout hs hf hi hd)
  case firstRun =>
    rintro s bay i counts x rfl hr h0 hc hn
    refine done_eq ((calRunDone_keeps hr (by rw [h0]; decide) hc hn).trans ?_)
    simp only [h0, hr, List.nil_append, List.length_nil, decide_true]
  case secondRun =>
    rintro s bay i counts first x rfl hr h1 hc hn
    refine done_eq ((calRunDone_keeps hr (by rw [h1]; exact Nat.one_lt_two) hc hn).trans ?_)
    simp only [h1, List.singleton_append, List.length_singleton, Nat.one_ne_zero, decide_false]
  case submits =>
    rintro s bay mask m i rfl hm ha hon hu hc ho hn
    exact done_eq (autoCalSubmit_submits hm ha hon hu hc ho hn)
  case skips => exact fun s bay mask hm ha hon hu => done_eq (autoCalSubmit_skips hm ha hon hu)
  case reseed =>
    intro s q h
    obtain ⟨w, hw⟩ := cmdRzReseed_eq h
    obtain ⟨r, hr⟩ := reseedN_form (s.dev.wr R.CAL_CTRL w) 48
    refine ⟨_, done_eq (hw.trans (rzReseed_eq_reseedN _ q)), fun p hp => ?_, ?_, ?_⟩
    · rw [reseedN_rzOf, if_pos hp]
      rfl
    · rw [hr]
      exact regsBut_wr (regsBut_refl s.dev _) w List.mem_cons_self
    · rw [hr]
      exact ⟨_, _, rfl⟩
  case first =>
    rintro s bay i o g k x e hi rfl rfl he hl hen hst
    have hn := noteEstimate_notes (s := s.dev.estimateDue bay i) (b := bay) (k := i) (.inl he)
    refine ⟨_, done_eq ((waveEstimate_slice o g k hi hen hst).trans (sliceEstimate_first true he hn.symm ?_)), ?_⟩
    · simpa using hl
    · simp [SliceX.noted, he]
  case agrees =>
    rintro s bay i o g k x e p hi rfl rfl he hl hp ha hen hst
    have hn := noteEstimate_notes (s := s.dev.estimateDue bay i) (b := bay) (k := i) (.inl he)
    refine ⟨_, done_eq ((waveEstimate_slice o g k hi hen hst).trans (sliceEstimate_agrees (p := p) true he hn.symm ?_ ?_ ?_)), ?_⟩
    · simpa using hl
    · exact (estimateDue_sliceAgree s.dev bay i p _).trans hp
    · exact (congrArg (· == 1) (estimateDue_gf_cal s.dev bay i 1 1 (by decide))).trans ha
    · simp [SliceX.noted, he]
  case outOfRange =>
    rintro s bay i o g k x hi rfl hx he hen hst
    have hn := noteEstimate_notes (s := s.dev.estimateDue bay i) (b := bay) (k := i) (e := { offset := o, gain := g, skew := k })
      (.inr (by rwa [estimateDue_slice]))
    refine ⟨_, done_eq ((waveEstimate_slice o g k hi hen hst).trans (sliceEstimate_outOfRange true he hn.symm)), ?_⟩
    simp [SliceX.noted, he]

end Sys2Proof.Machine

/-! ## Bursts of a port, its Halo window and its dwell requests (R166, R177, R181, R185 to R189, R294, R497) -/
namespace Sys2Proof.Machine

/-! ### BURST_LAUNCH (R166, R177, R189) -/

/-- What the launch conditions and the resume check make of a planned burst at its instant. -/
def Dev.launchOrHold (b : Dev) (p : Nat) (u : PlanX) : Dev :=
  if !(b.mayFire p (some u.col)) then
    (b.setPort p { b.port p with
      needResume := (b.port p).needResume || !(b.on (F.EMIT_PORT_CFG_EN p)) || !(b.bayUp p) }).withhold p
  else if (b.port p).resumeOn ∨ (b.port p).resumeEnd then b.withhold p
  else if b.resumeDue p then (b.startResume p).withhold p
  else b.launchColumn p u (u.t * 256 / 32 * 32)

/-- The next planned burst of the open column reaches its reference. -/
theorem burstLaunch_judges {s b : Dev} {p : Fin 48} {u : PlanX} {rest : List PlanX} {c : ColumnX}
    (hp : (s.port p).plan = u :: rest) (hc : s.column = some c) (hf : c.frame = u.frame) (hj : c.col = u.col)
    (hb : b = (((s.setPort p { s.port p with plan := rest }).advanceTo u.t).portSync p).syncInh p (some u.col)) :
    s.burstLaunch p = b.launchOrHold p u := by
  simp only [Dev.burstLaunch, hp, hc, hf, hj, BEq.rfl, Bool.and_self, Bool.not_true, Bool.false_eq_true, if_false, ← hb,
    Dev.launchOrHold]

section
variable {b : Dev} {p : Nat} {u : PlanX}

theorem launchOrHold_withheld (hm : b.mayFire p (some u.col) = false) : b.launchOrHold p u = (b.setPort p { b.port p with
    needResume := (b.port p).needResume || !(b.on (F.EMIT_PORT_CFG_EN p)) || !(b.bayUp p) }).inc (F.EMIT_INHIBITED_COUNT p) :=
  if_pos (by rw [hm]; rfl)

variable (hm : b.mayFire p (some u.col) = true) (ho : (b.port p).resumeOn = false) (he : (b.port p).resumeEnd = false)
include hm ho he

/-- The conditions hold and no resume check stands in the way. -/
theorem launchOrHold_passes : b.launchOrHold p u =
    if b.resumeDue p then (b.startResume p).withhold p else b.launchColumn p u (u.t * 256 / 32 * 32) := by
  have hn : ¬ ((b.port p).resumeOn = true ∨ (b.port p).resumeEnd = true) := by
    rw [ho, he]
    decide
  exact (if_neg (by rw [hm]; decide)).trans (if_neg hn)

theorem launchOrHold_launches (hr : b.resumeDue p = false) :
    b.launchOrHold p u = b.launchColumn p u (u.t * 256 / 32 * 32) :=
  (launchOrHold_passes hm ho he).trans (if_neg (Bool.eq_false_iff.1 hr))

theorem launchOrHold_resumes (hr : b.resumeDue p = true) :
    b.launchOrHold p u = (b.startResume p).inc (F.EMIT_INHIBITED_COUNT p) :=
  (launchOrHold_passes hm ho he).trans (if_pos hr)

end

/-! ### HALO_WINDOW_CLOSE and LEDGER_CHARGE (R185, R186, R497) -/

section
variable {s b : Dev} {p : Fin 48} {u : BurstX} (hu : ((s.port p).bursts.filter (fun u => !u.windowClosed)).getLast? = some u)
  (hr : (s.port p).resumeOn = false)
  (hb : b = (s.advanceTo ((u.ref + s.gf (F.CAL_HALO_WIN_CLOSE p) + 255) / 256)).setPort p { s.port p with
    bursts := (s.port p).bursts.map (fun v => if v.ref = u.ref then { v with windowClosed := true } else v),
    lastCounted := some (u.ref / 256, u.seen) })
include hu hr hb

theorem haloWindowClose_seen (hs : u.seen = true) :
    s.haloWindowClose p = (b.sf (F.EMIT_PORT_STATUS_MISSES p) 0).portSync p := by
  subst hb
  simp only [Dev.haloWindowClose, hu, if_pos hs, hr, Bool.false_eq_true, if_false]

/-- Outside a resume check a window without an echo counts a miss, and the eighth latches the port. -/
theorem haloWindowClose_unseen (hs : u.seen = false) {n : Nat} (hn : n = min 8 (b.gf (F.EMIT_PORT_STATUS_MISSES p) + 1)) :
    s.haloWindowClose p = (if n = 8 then (b.sf (F.EMIT_PORT_STATUS_MISSES p) n).latchOpen p
      else b.sf (F.EMIT_PORT_STATUS_MISSES p) n).portSync p := by
  subst hb hn
  simp only [Dev.haloWindowClose, hu, if_neg (Bool.eq_false_iff.1 hs), hr, Bool.false_eq_true, if_false]

theorem haloWindowClose_miss (hs : u.seen = false) (hm : b.gf (F.EMIT_PORT_STATUS_MISSES p) < 7) :
    s.haloWindowClose p = (b.sf (F.EMIT_PORT_STATUS_MISSES p) (b.gf (F.EMIT_PORT_STATUS_MISSES p) + 1)).portSync p :=
  (haloWindowClose_unseen hu hr hb hs (Nat.min_eq_right (by omega)).symm).trans (by rw [if_neg (by omega)])

theorem haloWindowClose_eighth (hs : u.seen = false) (hm : b.gf (F.EMIT_PORT_STATUS_MISSES p) = 7) :
    s.haloWindowClose p = ((b.sf (F.EMIT_PORT_STATUS_MISSES p) 8).latchOpen p).portSync p :=
  haloWindowClose_unseen hu hr hb hs (n := 8) (by rw [hm]; rfl)

end

/-- The oldest uncharged burst is charged for the sub-pulses it launched. -/
theorem ledgerCharge_charges {s : Dev} {p : Fin 48} {u : BurstX}
    (hu : ((s.port p).bursts.filter (fun u => !u.charged)).getLast? = some u) :
    s.ledgerCharge p = (s.setPort p { s.port p with
      bursts := (s.port p).bursts.map (fun v => if v.ref = u.ref then { v with charged := true } else v) }).charge p u.pos
        (popcount 8 u.launched * eSub u.current u.width (s.gf (F.NW_ECOEF_COEF p))) := by
  simp only [Dev.ledgerCharge, hu]

/-! ### PROOF_BURST and RESUME_PROOF (R187, R189) -/

/-- A proof burst is tried `INTERVAL / 8` after the last counted burst or attempt. -/
theorem proofBurst_tries {s : Dev} {p : Fin 48} (hpe : s.on F.EMIT_CTRL_PROOF_EN = true) (hen : s.on (F.EMIT_PORT_CFG_EN p) = true)
    (hs : s.emit.schedEn = true) (h3 : s.gf F.SCAN_STATUS_STATE = 3) (hr : (s.port p).resumeOn = false) :
    s.proofBurst p =
      (s.advanceTo (max ((s.port p).lastCountedAt.getD 0) (s.port p).lastProofTry + s.diagInterval / 8)).tryProof p false :=
  if_neg (by simp [hpe, hen, hs, h3, hr])

theorem resumeProof_tries {s : Dev} {p : Fin 48} (hr : (s.port p).resumeOn = true) (h3 : s.gf F.SCAN_STATUS_STATE = 3) :
    s.resumeProof p = (s.advanceTo ((s.port p).lastProofTry + 100000)).tryProof p true :=
  if_pos ⟨hr, h3⟩

section
variable {a d : Dev} {p : Nat} (hw : a.proofWaits p = false)
  (hd : d = (a.setPort p { a.port p with lastProofTry := a.now }).syncInh p none)
include hw hd

theorem tryProof_refused (resume : Bool) (hh : d.proofHeadroom p = false) :
    a.tryProof p resume = d.raise C.EMIT_PROOF_REFUSED p := by
  simp only [Dev.tryProof, hw, ← hd, hh, Bool.false_eq_true, Bool.not_false, if_false, if_true]

theorem tryProof_withheld (resume : Bool) (hh : d.proofHeadroom p = true) (hm : d.mayFire p none = false) :
    a.tryProof p resume = d.inc (F.EMIT_INHIBITED_COUNT p) := by
  simp only [Dev.tryProof, hw, ← hd, hh, hm, Bool.false_eq_true, Bool.not_true, if_false]
  rfl

variable (hh : d.proofHeadroom p = true) (hm : d.mayFire p none = true)
include hh hm

/-- A port that begins firing with a proof burst begins its resume check. -/
theorem tryProof_begins (hr : d.resumeDue p = true) : a.tryProof p false = (d.startResume p).launchProof p true := by
  simp only [Dev.tryProof, hw, ← hd, hh, hm, hr, Bool.false_eq_true, Bool.not_true, Bool.not_false, Bool.and_self, if_false,
    if_true]

theorem tryProof_launches {resume : Bool} (hr : (!resume && d.resumeDue p) = false) :
    a.tryProof p resume = d.launchProof p resume := by
  simp only [Dev.tryProof, hw, ← hd, hh, hm, hr, Bool.false_eq_true, Bool.not_true, if_false, if_true]

end

/-! ### DWELL_REQUEST (R181, R294) -/

/-- The oldest posted request enters the queue while it holds fewer than 32, and is dropped otherwise. -/
theorem dwellRequest_arrives {s b : Dev} {e : Fin 512} {r : Nat × DwellX}
    (hr : s.emit.dwellFlight.find? (fun d => d.1 == e.val) = some r)
    (hb : b = { s with emit := { s.emit with dwellFlight := removeFirst (fun q => q == r) s.emit.dwellFlight } }) :
    s.dwellRequest e = if 32 ≤ s.emit.dwellQueue.length then b.dropDwell e
      else { b with emit := { b.emit with dwellQueue := b.emit.dwellQueue ++ [r.2] } } := by
  subst hb
  simp only [Dev.dwellRequest, hr]

/-! ### The commands together -/

/-- Settles O23: a burst, a window, a proof burst or a request by its operation's case. -/
theorem emitBursts : Obligations.EmitBursts := by
  unfold Obligations.EmitBursts
  refine ⟨?launch, ?withheld, ?resume, ?seen, ?miss, ?eighth, ?charge, ?proof, ?begins, ?refused, ?proofWithheld, ?again, ?queued,
    ?dropped⟩
  case launch =>
    exact fun s p u rest c b hp hc hf hj hb hm ho he hr =>
      done_eq ((burstLaunch_judges hp hc hf hj hb).trans (launchOrHold_launches hm ho he hr))
  case withheld =>
    exact fun s p u rest c b hp hc hf hj hb hm =>
      done_eq ((burstLaunch_judges hp hc hf hj hb).trans (launchOrHold_withheld hm))
  case resume =>
    exact fun s p u rest c b hp hc hf hj hb hm ho he hr =>
      done_eq ((burstLaunch_judges hp hc hf hj hb).trans (launchOrHold_resumes hm ho he hr))
  case seen => exact fun s p u b hu hr hb hs => done_eq (haloWindowClose_seen hu hr hb hs)
  case miss => exact fun s p u b hu hr hb hs hm => done_eq (haloWindowClose_miss hu hr hb hs hm)
  case eighth => exact fun s p u b hu hr hb hs hm => done_eq (haloWindowClose_eighth hu hr hb hs hm)
  case charge => exact fun s p u hu => done_eq (ledgerCharge_charges hu)
  case proof =>
    rintro s p a d hpe hen hs h3 ho rfl hw hd hh hm hr
    exact done_eq ((proofBurst_tries hpe hen hs h3 ho).trans (tryProof_launches hw hd hh hm hr))
  case begins =>
    rintro s p a d hpe hen hs h3 ho rfl hw hd hh hm hr
    exact done_eq ((proofBurst_tries hpe hen hs h3 ho).trans (tryProof_begins hw hd hh hm hr))
  case refused =>
    rintro s p a d hpe hen hs h3 ho rfl hw hd hh
    exact done_eq ((proofBurst_tries hpe hen hs h3 ho).trans (tryProof_refused hw hd false hh))
  case proofWithheld =>
    rintro s p a d hpe hen hs h3 ho rfl hw hd hh hm
    exact done_eq ((proofBurst_tries hpe hen hs h3 ho).trans (tryProof_withheld hw hd false hh hm))
  case again =>
    rintro s p a d ho h3 rfl hw hd hh hm
    exact done_eq ((resumeProof_tries ho h3).trans (tryProof_launches hw hd hh hm rfl))
  case queued => exact fun s e r b hr hb hq => done_eq ((dwellRequest_arrives hr hb).trans (if_neg (Nat.not_le.2 hq)))
  case dropped => exact fun s e r b hr hb hq => done_eq ((dwellRequest_arrives hr hb).trans (if_pos hq))

end Sys2Proof.Machine

/-! ## Ports, Starline, the apply pulse, temperatures and the code generator (R173, R186, R190, R193, R194, R196, R197, R199) -/
namespace Sys2Proof.Machine

/-! ### Errors of a page below CHIP (R48 to R50, R78) -/

/-- An error of a page below CHIP writes that page's ERR registers alone. -/
theorem raiseBit_regsBut (s : Dev) {g : Page} (n : Nat) (sev : Severity) (src : Nat) (h : g ≠ .chip) :
    s.regsBut (s.raiseBit g n sev src) [R.ERR_STATUS g, R.ERR_COUNT g, R.ERR_FIRST g] := by
  have hrec : s.regsBut (s.recordError g n sev src) [R.ERR_STATUS g, R.ERR_COUNT g, R.ERR_FIRST g] :=
    fun r hr => recordError_rd_ne s g n sev src (hr _ (by simp)) (hr _ (by simp)) (hr _ (by simp))
  have hnote : s.regsBut (s.noteError g n sev src) [R.ERR_STATUS g, R.ERR_COUNT g, R.ERR_FIRST g] :=
    fun r hr => (noteError_rd s g n sev src r).trans (hrec r hr)
  rw [raiseBit_below s n sev src h]
  split
  · exact hnote
  · exact hnote

/-- An error changes neither emission's state nor the time. -/
@[simp] theorem raise_keeps_emission (s : Dev) (c : Cause) (src : Nat) :
    (s.raise c src).emit = s.emit ∧ (s.raise c src).now = s.now := by
  obtain ⟨m, f, r, e, st, l, al, h⟩ := raiseBit_form s c.pg c.bit c.sev src
  rw [Dev.raise, h]
  exact ⟨rfl, rfl⟩

/-! ### Folds over ports -/

/-- Two passes of which the first does the work below `k` and the second the work from `k` on are one pass. -/
theorem forN_two_passes {α : Type} {f g h : Nat → α → α} {k : Nat} (hlo : ∀ i < k, ∀ a, f i a = h i a ∧ g i a = a)
    (hhi : ∀ i, k ≤ i → ∀ a, f i a = a ∧ g i a = h i a) (n : Nat) (a : α) : forN n g (forN n f a) = forN n h a := by
  induction n with
  | zero => rfl
  | succ n ih =>
    show g n (forN n g (f n (forN n f a))) = h n (forN n h a)
    rcases Nat.lt_or_ge n k with hn | hn
    · have idle : ∀ b, forN n g b = b := fun b =>
        forN_ind (P := fun d => d = b) n rfl fun i d hi hd => ((hlo i (hi.trans hn) d).2).trans hd
      rw [(hlo n hn _).2, idle, (hlo n hn _).1, ← ih, idle]
    · rw [(hhi n hn _).2, (hhi n hn _).1, ih]

theorem bit_eq_testBit (n i : Nat) : bit n i = n.testBit i := by
  rw [Nat.testBit_eq_decide_div_mod_eq]
  rfl

/-! ### PORT_CLEAR (R186) -/

/-- A port of the mask that is latched OPEN is unlatched. -/
def Dev.clearOpen (s : Dev) (mask p : Nat) : Dev :=
  if bit mask p ∧ (s.port p).latchedOpen = true then
    ((s.setPort p { s.port p with latchedOpen := false, lastCounted := none }).sf (F.EMIT_PORT_STATUS_MISSES p) 0).portSync p
  else s

theorem portClear_eq (s : Dev) (q : Requester) (mask : BitVec 48) :
    s.portClear q mask = forN 48 (fun p (d : Dev) => d.clearOpen mask.toNat p) s := rfl

/-- The registers that a port's state writes: its status, the page's event and its errors. -/
def portRegs : List Reg :=
  [R.ERR_STATUS .emit, R.ERR_COUNT .emit, R.ERR_FIRST .emit, R.IRQ_STATUS .emit] ++ (List.range 48).map R.EMIT_PORT_STATUS

theorem portStatus_mem {p : Nat} (h : p < 48) : R.EMIT_PORT_STATUS p ∈ portRegs :=
  List.mem_append_right _ (List.mem_map_of_mem (List.mem_range.2 h))

/-- The block `d` is the block `s` but for port states and the registers that show them. -/
structure Dev.PortsMoved (s d : Dev) : Prop where
  regs : s.regsBut d portRegs
  emit : d.emit = s.emit

theorem portsMoved_refl (s : Dev) : s.PortsMoved s := ⟨regsBut_refl s _, rfl⟩

theorem Dev.PortsMoved.trans {s d e : Dev} (h : s.PortsMoved d) (h' : d.PortsMoved e) : s.PortsMoved e :=
  ⟨regsBut_trans h.regs h'.regs, h'.emit.trans h.emit⟩

theorem portsMoved_sf (s : Dev) {f : Fld} (v : Nat) (hf : f.reg ∈ portRegs) : s.PortsMoved (s.sf f v) :=
  ⟨regsBut_sf (regsBut_refl s _) v hf, rfl⟩

theorem portSync_moves (s : Dev) {p : Nat} (hp : p < 48) : s.PortsMoved (s.portSync p) := by
  have hev : s.PortsMoved ((s.sf (F.EMIT_PORT_STATUS_STATE p) (s.portState p)).event E.EMIT_PORT_STATE) :=
    (portsMoved_sf s (f := F.EMIT_PORT_STATUS_STATE p) _ (portStatus_mem hp)).trans (portsMoved_sf _ 1 (by simp [portRegs, Fld.reg]))
  unfold Dev.portSync
  dsimp only
  split
  · exact portsMoved_refl s
  · split
    · exact hev.trans ⟨regsBut_mono (raiseBit_regsBut _ _ _ _ (by decide)) (by simp [portRegs]), (raise_keeps_emission _ _ _).1⟩
    · exact hev

theorem clearOpen_moves (s : Dev) (mask : Nat) {p : Nat} (hp : p < 48) : s.PortsMoved (s.clearOpen mask p) := by
  have hun : s.PortsMoved ((s.setPort p { s.port p with latchedOpen := false, lastCounted := none }).sf (F.EMIT_PORT_STATUS_MISSES p) 0) :=
    ⟨regsBut_sf (s := s) (regsBut_refl _ _) (f := F.EMIT_PORT_STATUS_MISSES p) 0 (portStatus_mem hp), rfl⟩
  unfold Dev.clearOpen
  split
  · exact hun.trans (portSync_moves _ hp)
  · exact portsMoved_refl s

theorem portClear_moves (s : Dev) (q : Requester) (mask : BitVec 48) : s.PortsMoved (s.portClear q mask) :=
  forN_ind (P := s.PortsMoved) 48 (portsMoved_refl s) fun _ d hp h => h.trans (clearOpen_moves d _ hp)

/-- A requester that reaches the EMIT page still does when port states have moved. -/
theorem takes_emit_moved {s d : Dev} {q : Requester} (h : s.PortsMoved d) (ht : s.takes q .emit) : d.takes q .emit := by
  obtain ⟨hr, he⟩ := h
  have gf : ∀ {pg off} lo len, (∀ x ∈ portRegs, Reg.key ⟨pg, off⟩ ≠ x.key) →
      d.gf ⟨pg, off, lo, len⟩ = s.gf ⟨pg, off, lo, len⟩ := fun _ _ hk => regsBut_gf hr hk
  have hdbg : d.debugLocked q = s.debugLocked q := by
    rw [Dev.debugLocked, Dev.debugLocked, gf _ _ (by decide)]
  have hstage : d.stageNow = s.stageNow := gf _ _ (by decide)
  have hon : d.isOn .emit = s.isOn .emit := by
    rw [Dev.isOn, Dev.isOn, Dev.power, Dev.power, gf _ _ (by decide)]
  simpa only [Dev.takes, Dev.admits, Dev.responds, Dev.armBlocked, hdbg, hstage, hon, he] using ht

theorem clearOpen_congr {s : Dev} {m m' p : Nat} (h : bit m p = bit m' p) : s.clearOpen m p = s.clearOpen m' p := by
  rw [Dev.clearOpen, Dev.clearOpen, h]

theorem clearOpen_off {s : Dev} {m p : Nat} (h : bit m p = false) : s.clearOpen m p = s := if_neg (by rw [h]; simp)

/-- A mask of the ports below 32 and one of the others, cleared in turn, clear the ports of both. -/
theorem portClear_two_masks {s : Dev} {q : Requester} {mask lo hi : BitVec 48} (hlo : lo.toNat = mask.toNat % 2^32)
    (hhi : hi.toNat = mask.toNat / 2^32 * 2^32) : (s.portClear q lo).portClear q hi = s.portClear q mask := by
  have below : ∀ i < 32, bit lo.toNat i = bit mask.toNat i ∧ bit hi.toNat i = false := fun i hi32 => by
    simp only [hlo, hhi, bit_eq_testBit, Nat.testBit_mod_two_pow, Nat.testBit_mul_two_pow, hi32, decide_true, Bool.true_and,
      Nat.not_le.2 hi32, decide_false, Bool.false_and, and_self]
  have above : ∀ i, 32 ≤ i → bit lo.toNat i = false ∧ bit hi.toNat i = bit mask.toNat i := fun i hi32 => by
    simp only [hlo, hhi, bit_eq_testBit, Nat.testBit_mod_two_pow, Nat.testBit_mul_two_pow, Nat.testBit_div_two_pow, hi32,
      Nat.not_lt.2 hi32, decide_true, decide_false, Bool.true_and, Bool.false_and, Nat.sub_add_cancel, and_self]
  simp only [portClear_eq]
  exact forN_two_passes (k := 32)
    (fun i h a => ⟨clearOpen_congr (below i h).1, clearOpen_off (below i h).2⟩)
    (fun i h a => ⟨clearOpen_off (above i h).1, clearOpen_congr (above i h).2⟩) 48 s

theorem emitWrite_clear0 (s : Dev) (q : Requester) (w : Word) : s.emitWrite q 0x80 w = s.portClear q (BitVec.ofNat 48 w.toNat) :=
  if_pos rfl

theorem emitWrite_clear1 (s : Dev) (q : Requester) (w : Word) :
    s.emitWrite q 0x84 w = s.portClear q (BitVec.ofNat 48 (bits w 0 16 * 2^32)) :=
  (if_neg (by decide)).trans (if_pos rfl)

/-- The command writes PORT_CLEAR0 with the ports below 32 and PORT_CLEAR1 with the others. -/
theorem cmdPortClear_eq {s : Dev} {q : Requester} (mask : BitVec 48) (h : s.takes q .emit) :
    s.cmdPortClear q mask = s.portClear q mask := by
  have hw0 := (regWrite_effect (off := 0x80) (BitVec.ofNat 32 mask.toNat) h (by decide) (by decide) (by decide) rfl).trans
    (emitWrite_clear0 s q _)
  have hw1 := fun lo => (regWrite_effect (off := 0x84) (BitVec.ofNat 32 (mask.toNat / 2^32))
    (takes_emit_moved (portClear_moves s q lo) h) (by decide) (by decide) (by decide) rfl).trans (emitWrite_clear1 (s.portClear q lo) q _)
  rw [Dev.cmdPortClear, hw0, hw1]
  have hm := mask.isLt
  refine portClear_two_masks ?_ ?_
  · rw [BitVec.toNat_ofNat, BitVec.toNat_ofNat]
    omega
  · rw [BitVec.toNat_ofNat, bits_ofNat]
    omega

/-! ### EMITTER_UNVERIFIED (R186) -/

theorem emitterUnverified_looks {s : Dev} {p : Fin 48} {t : Nat} (hl : (s.port p).lastCounted = some (t, true))
    (h1 : s.gf (F.EMIT_PORT_STATUS_STATE p) = 1) :
    s.emitterUnverified p = (s.advanceTo (t + s.diagInterval + 1)).portSync p := by
  simp only [Dev.emitterUnverified, hl, if_pos h1]

/-! ### The cells of the exposure ledger (R499, R510) -/

/-- The registers that show a cell that opens or closes. -/
def cellRegs : List Reg := [R.ERR_STATUS .nw, R.ERR_COUNT .nw, R.ERR_FIRST .nw, R.IRQ_STATUS .nw, R.NW_LEDGER_STATUS]

/-- The block `d` is the block `s`, of emission and time at least, but for the ledger and the registers that show its cells. -/
structure Dev.CellsMoved (s d : Dev) : Prop where
  regs : s.regsBut d cellRegs
  emit : d.emit = s.emit
  now : d.now = s.now

theorem Dev.CellsMoved.trans {s d e : Dev} (h : s.CellsMoved d) (h' : d.CellsMoved e) : s.CellsMoved e :=
  ⟨regsBut_trans h.regs h'.regs, h'.emit.trans h.emit, h'.now.trans h.now⟩

theorem cellsMoved_refl (s : Dev) : s.CellsMoved s := ⟨regsBut_refl s _, rfl, rfl⟩

theorem cellsMoved_sf (s : Dev) {f : Fld} (v : Nat) (hf : f.reg ∈ cellRegs) : s.CellsMoved (s.sf f v) :=
  ⟨regsBut_sf (regsBut_refl s _) v hf, rfl, rfl⟩

theorem cellSync_moves (s : Dev) (p x : Nat) : s.CellsMoved (s.cellSync p x) := by
  have hstatus : ∀ (d : Dev) (lo len v : Nat), d.CellsMoved (d.sf ⟨.nw, 0xE0, lo, len⟩ v) :=
    fun d _ _ v => cellsMoved_sf d v (by simp [cellRegs, Fld.reg])
  have hraise : ∀ d : Dev, d.CellsMoved (d.raise C.NW_CELL_CLOSED) := fun d =>
    ⟨regsBut_mono (raiseBit_regsBut _ _ _ _ (by decide)) (by simp [cellRegs]), (raise_keeps_emission _ _ _).1, (raise_keeps_emission _ _ _).2⟩
  have hevent : s.CellsMoved (({ s with ledger := { s.ledger with
      open_ := fset cell1 s.ledger.open_ (cellOf p x) (!(s.overCeil p x)) } } : Dev).event E.NW_CELL_CHANGE) :=
    ⟨regsBut_sf (s := s) (regsBut_refl _ _) _ (by simp [cellRegs, Fld.reg]), rfl, rfl⟩
  unfold Dev.cellSync
  dsimp only
  split
  · exact cellsMoved_refl s
  · split
    · exact hevent.trans ((hstatus _ _ _ _).trans ((hstatus _ _ _ _).trans (hraise _)))
    · exact hevent.trans (hstatus _ _ _ _)

/-- The cells of every port. -/
theorem allCells_moves (s : Dev) : s.CellsMoved s.allCells :=
  forN_ind (P := s.CellsMoved) 48 (cellsMoved_refl s) fun p _ _ h =>
    forN_ind (P := s.CellsMoved) 128 h fun x d _ h' => h'.trans (cellSync_moves d p x)

/-! ### STARLINE_TRANSFER_DONE (R194, R196, R197) -/

/-- The end of the transfers leaves the ARM writes that wait. -/
theorem transferEnd_armWait (s : Dev) : s.transferEnd.emit.armWait = s.emit.armWait := by
  have hp : ∀ d : Dev, (if d.on F.EMIT_STARLINE_STATUS_PRELOAD_BUSY then
      (d.sb F.EMIT_STARLINE_STATUS_PRELOAD_BUSY false).event E.EMIT_PRELOAD_DONE else d).emit = d.emit := fun d => by
    split <;> rfl
  refine (congrArg EmitX.armWait ((hp _).trans (allCells_moves _).emit)).trans ?_
  split <;> rfl

/-- A wire that has words of `v` sends them. -/
def Dev.sendWords (s v : Dev) (w : Nat) : Dev :=
  if (v.wireWords w).isEmpty then s
  else (s.setWire w { s.wire w with
    busy := true, words := v.wireWords w, doneAt := s.now + transferNs (v.wireWords w).length s.bitNs }).send
      (.starline w s.bitNs (v.wireWords w))

theorem sendWords_armWait (s v : Dev) (w : Nat) : (s.sendWords v w).emit.armWait = s.emit.armWait := by
  unfold Dev.sendWords
  split <;> rfl

/-- The wires as a transfer of a kind starts. -/
def Dev.sendWires (s : Dev) (kind : Nat) : Dev :=
  forN 4 (fun w (d : Dev) => d.sendWords (s.starSource kind) w)
    { s with emit := { s.emit with kind := kind, again := 0, carried := (s.starSource kind).portCodes } }

theorem startTransfer_eq (s : Dev) (kind : Nat) : s.startTransfer kind =
    if (List.range 4).any (fun w => ((s.sendWires kind).wire w).busy) then s.sendWires kind else (s.sendWires kind).transferEnd := rfl

/-- So does a transfer that starts. -/
theorem startTransfer_armWait (s : Dev) (kind : Nat) : (s.startTransfer kind).emit.armWait = s.emit.armWait := by
  have hs : (s.sendWires kind).emit.armWait = s.emit.armWait :=
    forN_ind (P := fun d : Dev => d.emit.armWait = s.emit.armWait) 4 rfl fun w d _ hd => (sendWords_armWait d _ w).trans hd
  rw [startTransfer_eq]
  split
  · exact hs
  · exact (transferEnd_armWait _).trans hs

theorem wireDone_armWait (s : Dev) (w : Nat) : (s.wireDone w).emit.armWait = s.emit.armWait := by
  have hadv : (s.advanceTo (s.wire w).doneAt).emit.armWait = s.emit.armWait := by
    obtain ⟨n, -, h⟩ := advanceTo_form s (s.wire w).doneAt
    rw [h]
  unfold Dev.wireDone
  dsimp only
  split
  · rfl
  · split
    · exact hadv
    · split
      · exact (startTransfer_armWait _ _).trans hadv
      · exact (transferEnd_armWait _).trans hadv

/-- With no ARM waiting, the wire stages its words, and the last one ends the transfers or starts what must follow. -/
theorem starlineTransferDone_stages {s b : Dev} {w : Fin 4} (hw : (s.wire w).busy = true) (ha : s.emit.armWait = [])
    (hb : b = (s.advanceTo (s.wire w).doneAt).setWire w { s.wire w with busy := false, staged := (s.wire w).words }) :
    s.starlineTransferDone w =
      if (List.range 4).any (fun w => (b.wire w).busy) then b
      else if b.emit.again ≠ 0 then b.startTransfer b.emit.again
      else b.transferEnd := by
  have hd : s.starlineTransferDone w = s.wireDone w := if_pos (Or.inr (by rw [wireDone_armWait, ha]; rfl))
  subst hb
  rw [hd]
  simp only [Dev.wireDone, hw, Bool.not_true, Bool.false_eq_true, if_false]

/-! ### APPLY_PULSE (R190, R199) -/

/-- The block once the first `n` ports show the codes that the pulse makes active. -/
def Dev.sendCodes (s : Dev) (codes : FMap Nat) (n : Nat) : Dev :=
  forN n (fun p (d : Dev) => d.sf (F.EMIT_PORT_STATUS_SENT_CODE p) (fget code0 codes p)) s

theorem sendCodes_succ (s : Dev) (codes : FMap Nat) (n : Nat) :
    s.sendCodes codes (n + 1) = (s.sendCodes codes n).sf (F.EMIT_PORT_STATUS_SENT_CODE n) (fget code0 codes n) := rfl

theorem sendCodes_keeps (s : Dev) (codes : FMap Nat) (n : Nat) :
    (s.sendCodes codes n).emit = s.emit ∧ (s.sendCodes codes n).now = s.now :=
  forN_ind (P := fun d : Dev => d.emit = s.emit ∧ d.now = s.now) n ⟨rfl, rfl⟩ fun _ _ _ h => h

theorem sendCodes_regsBut (s : Dev) (codes : FMap Nat) : s.regsBut (s.sendCodes codes 48) portRegs :=
  forN_ind (P := fun d => s.regsBut d portRegs) 48 (regsBut_refl s _) fun p _ hp h =>
    regsBut_sf h (f := F.EMIT_PORT_STATUS_SENT_CODE p) _ (portStatus_mem hp)

theorem sendCodes_sent (s : Dev) (codes : FMap Nat) {n p : Nat} (hp : p < n) :
    (s.sendCodes codes n).gf (F.EMIT_PORT_STATUS_SENT_CODE p) = fget code0 codes p % 65536 := by
  induction n with
  | zero => exact absurd hp (Nat.not_lt_zero p)
  | succ n ih =>
    rw [sendCodes_succ]
    rcases Nat.lt_succ_iff_lt_or_eq.1 hp with h | rfl
    · refine (gf_sf_key _ _ ?_).trans (ih h)
      show 0x0B * 4096 + (0x10C + 0x10 * p) ≠ 0x0B * 4096 + (0x10C + 0x10 * n)
      omega
    · exact gf_sf_same _ _ _ (Nat.le_of_ble_eq_true rfl)

/-- The pulse is counted and noted; that of a set is what its commit waits for. -/
def Dev.countPulse (s : Dev) (set : Prop) [Decidable set] : Dev :=
  (({ s with emit := { s.emit with
    stagedKind := 0, pulseAt := some s.now, applyAt := if set then some s.now else s.emit.applyAt } } : Dev).sb
      F.EMIT_STARLINE_STATUS_APPLY_PENDING false).inc F.EMIT_STARLINE_STATUS_APPLIES

section
variable (s : Dev) (set : Prop) [Decidable set]

theorem countPulse_emit : (s.countPulse set).emit.stagedKind = 0 ∧ (s.countPulse set).emit.pulseAt = some s.now
    ∧ (s.countPulse set).now = s.now := ⟨rfl, rfl, rfl⟩

theorem countPulse_pending : (s.countPulse set).on F.EMIT_STARLINE_STATUS_APPLY_PENDING = false := by
  rw [Dev.countPulse, Dev.on, Dev.inc, gf_sf_of_apart _ _ (Or.inr ⟨by decide, by decide⟩)]
  exact on_sb_same _ _ _ (Nat.le_of_ble_eq_true rfl) rfl

theorem countPulse_applies : (s.countPulse set).gf F.EMIT_STARLINE_STATUS_APPLIES =
    (s.gf F.EMIT_STARLINE_STATUS_APPLIES + 1) % 2^(F.EMIT_STARLINE_STATUS_APPLIES).len := by
  rw [Dev.countPulse, gf_inc_same _ (Nat.le_of_ble_eq_true rfl), Dev.sb, gf_sf_of_apart _ _ (Or.inr ⟨by decide, by decide⟩)]
  rfl

theorem countPulse_sent (p : Nat) : (s.countPulse set).gf (F.EMIT_PORT_STATUS_SENT_CODE p) = s.gf (F.EMIT_PORT_STATUS_SENT_CODE p) := by
  have hk : (F.EMIT_PORT_STATUS_SENT_CODE p).reg.key ≠ R.EMIT_STARLINE_STATUS.key := by
    show 0x0B * 4096 + (0x10C + 0x10 * p) ≠ 0x0B * 4096 + 0x58
    omega
  rw [Dev.countPulse, Dev.inc, gf_sf_key (f := F.EMIT_STARLINE_STATUS_APPLIES) _ _ hk, Dev.sb,
    gf_sf_key (f := F.EMIT_STARLINE_STATUS_APPLY_PENDING) _ _ hk]
  rfl

end

/-- The block as the staged codes become active. -/
def Dev.activate (b : Dev) : Dev := (b.sendCodes b.emit.stagedCodes 48).countPulse (b.emit.stagedKind = 1)

theorem applyPulse_applies {s b : Dev} {t : Nat} (hp : s.on F.EMIT_STARLINE_STATUS_APPLY_PENDING = true) (ht : s.transferring = false)
    (ho : s.frameOver = true) (hs : t = max s.now s.emit.lastSubEnd) (hf : s.pulseFits t = true) (hb : b = s.advanceTo t) :
    s.applyPulse = ((b.activate.event E.EMIT_APPLIED).allCells).send (.applyPulse t) := by
  subst hs hb
  exact if_pos ⟨hp, by rw [ht]; rfl, ho, hf⟩

theorem activate_sent (b : Dev) {p : Nat} (hp : p < 48) :
    b.activate.gf (F.EMIT_PORT_STATUS_SENT_CODE p) = fget code0 b.emit.stagedCodes p % 65536 := by
  rw [Dev.activate, countPulse_sent, sendCodes_sent b _ hp]

theorem activate_pending (b : Dev) : b.activate.on F.EMIT_STARLINE_STATUS_APPLY_PENDING = false := countPulse_pending _ _

theorem activate_applies (b : Dev) : b.activate.gf F.EMIT_STARLINE_STATUS_APPLIES =
    (b.gf F.EMIT_STARLINE_STATUS_APPLIES + 1) % 2^(F.EMIT_STARLINE_STATUS_APPLIES).len := by
  have hk : ∀ x ∈ portRegs, (F.EMIT_STARLINE_STATUS_APPLIES).reg.key ≠ x.key := by decide
  rw [Dev.activate, countPulse_applies, regsBut_gf (sendCodes_regsBut b b.emit.stagedCodes) hk]

theorem activate_notes (b : Dev) : b.activate.emit.stagedKind = 0 ∧ b.activate.emit.pulseAt = some b.now ∧ b.activate.now = b.now := by
  obtain ⟨hk, hp, hn⟩ := countPulse_emit (b.sendCodes b.emit.stagedCodes 48) (b.emit.stagedKind = 1)
  have hb := (sendCodes_keeps b b.emit.stagedCodes 48).2
  exact ⟨hk, hp.trans (congrArg some hb), hn.trans hb⟩

/-- The event and the cells change neither emission's state nor the time. -/
theorem applied_keeps (d : Dev) : (d.event E.EMIT_APPLIED).allCells.emit = d.emit ∧ (d.event E.EMIT_APPLIED).allCells.now = d.now :=
  ⟨(allCells_moves (d.event E.EMIT_APPLIED)).emit, (allCells_moves (d.event E.EMIT_APPLIED)).now⟩

/-- What EMIT shows of ports and Starline is not what the event and the cells write. -/
theorem applied_gf (d : Dev) {off : Nat} (lo len : Nat) (h : 0x40 ≤ off) (h' : off < 4096) :
    (d.event E.EMIT_APPLIED).allCells.gf ⟨.emit, off, lo, len⟩ = d.gf ⟨.emit, off, lo, len⟩ := by
  have hk : (Fld.mk .emit off lo len).reg.key = 0x0B * 4096 + off := rfl
  have hcells : ∀ x ∈ cellRegs, x.key < 0x9000 := by decide
  have hevent : (d.event E.EMIT_APPLIED).gf ⟨.emit, off, lo, len⟩ = d.gf ⟨.emit, off, lo, len⟩ :=
    gf_sf_key (f := ⟨.emit, 0x20, 2, 1⟩) d 1 (by
      show 0x0B * 4096 + off ≠ 0x0B * 4096 + 0x20
      omega)
  rw [← hevent]
  refine regsBut_gf (allCells_moves (d.event E.EMIT_APPLIED)).regs fun x hx => ?_
  have := hcells x hx
  omega

/-- What the apply pulse leaves of the ports' codes, of Starline and of the time. -/
theorem applyPulse_spec {s b : Dev} (hp : s.on F.EMIT_STARLINE_STATUS_APPLY_PENDING = true) (ht : s.transferring = false)
    (ho : s.frameOver = true) (hf : s.pulseFits (max s.now s.emit.lastSubEnd) = true)
    (hb : b = s.advanceTo (max s.now s.emit.lastSubEnd)) :
    ∃ d, s.applyPulse = d ∧ d.on F.EMIT_STARLINE_STATUS_APPLY_PENDING = false
      ∧ (∀ p, p < 48 → d.gf (F.EMIT_PORT_STATUS_SENT_CODE p) = fget code0 b.emit.stagedCodes p % 65536)
      ∧ d.gf F.EMIT_STARLINE_STATUS_APPLIES = (b.gf F.EMIT_STARLINE_STATUS_APPLIES + 1) % 2^(F.EMIT_STARLINE_STATUS_APPLIES).len
      ∧ d.emit.stagedKind = 0 ∧ d.emit.pulseAt = some b.now ∧ d.now = b.now
      ∧ Out.applyPulse (max s.now s.emit.lastSubEnd) ∈ d.out := by
  have send_gf : ∀ (d : Dev) (o : Out) (f : Fld), (d.send o).gf f = d.gf f := fun _ _ _ => rfl
  obtain ⟨he, hn⟩ := applied_keeps b.activate
  obtain ⟨hk, hpulse, hnow⟩ := activate_notes b
  refine ⟨_, applyPulse_applies hp ht ho rfl hf hb, ?_, fun p h => ?_, ?_, ?_, ?_, ?_, ?_⟩
  · rw [Dev.on, send_gf, applied_gf b.activate 30 1 (by decide) (by decide)]
    exact activate_pending b
  · rw [send_gf, applied_gf b.activate 0 16 (by omega) (by omega), activate_sent b h]
  · rw [send_gf, applied_gf b.activate 0 16 (by decide) (by decide), activate_applies b]
  · simp only [send_keeps, he, hk]
  · simp only [send_keeps, he, hpulse]
  · simp only [send_keeps, hn, hnow]
  · simp only [Dev.send, List.mem_append, List.mem_singleton, or_true]

/-! ### TEMP_SOURCE_TIMEOUT and CODE_BANK_FILLED (R173, R193) -/

theorem tempSourceTimeout_ends {s b : Dev} {g : Fin 4} {last : Nat} (hs : s.tempSrc g ≠ 255) (hd : bit s.emit.tempDead g = false)
    (hl : last = if fget count0 s.emit.tempAt g = 0 then fget count0 s.emit.tempNamed g else fget count0 s.emit.tempAt g - 1)
    (hb : b = s.advanceTo (last + 1000000000)) :
    s.tempSourceTimeout g = (({ b with emit := { b.emit with tempDead := setBit b.emit.tempDead g true } }.sf
      (F.EMIT_GROUP_TEMP_VALID g) 0).raise C.EMIT_TEMP_INVALID g).derateAll := by
  subst hl hb
  exact if_neg (by rw [hd]; simpa using hs)

theorem codeBankFilled_ends {s : Dev} (h : s.on F.CODE_CODE_STATUS_GEN_BUSY = true) :
    s.codeBankFilled = { s.sb F.CODE_CODE_STATUS_GEN_BUSY false with emit := { s.emit with regenAt := none } } := if_pos h

/-! ### The commands together -/

/-- Settles O24: each command by its operation; what the apply pulse leaves is read off the block it activates. -/
theorem emitPorts : Obligations.EmitPorts := by
  unfold Obligations.EmitPorts
  refine ⟨?clear, ?unverified, ?running, ?follows, ?last, ?pulse, ?timeout, ?filled⟩
  case clear => exact fun s q mask h => done_eq (cmdPortClear_eq mask h)
  case unverified => exact fun s p t hl h1 => done_eq (emitterUnverified_looks hl h1)
  case running => exact fun s w b hw ha hb hr => done_eq ((starlineTransferDone_stages hw ha hb).trans (if_pos hr))
  case follows =>
    exact fun s w b hw ha hb hr h =>
      done_eq ((starlineTransferDone_stages hw ha hb).trans ((if_neg (Bool.eq_false_iff.1 hr)).trans (if_pos h)))
  case last =>
    exact fun s w b hw ha hb hr h =>
      done_eq ((starlineTransferDone_stages hw ha hb).trans ((if_neg (Bool.eq_false_iff.1 hr)).trans (if_neg (not_not_intro h))))
  case pulse =>
    intro s b hp ht ho hf hb
    obtain ⟨d, hd, hspec⟩ := applyPulse_spec hp ht ho hf hb
    exact ⟨d, done_eq hd, hspec⟩
  case timeout =>
    exact fun s g last b hs hd hl hb => done_eq (tempSourceTimeout_ends hs hd hl hb)
  case filled =>
    intro s h
    refine ⟨_, done_eq (codeBankFilled_ends h), ?_, rfl, ?_, _, _, rfl⟩
    · exact on_sb_same s.dev F.CODE_CODE_STATUS_GEN_BUSY false (Nat.le_of_ble_eq_true rfl) rfl
    · exact regsBut_sf (regsBut_refl s.dev _) (f := F.CODE_CODE_STATUS_GEN_BUSY) 0 List.mem_cons_self

end Sys2Proof.Machine

/-! ## Columns: plan, crossing and overrun (R177, R178, R214, R215, R223, R225) -/
namespace Sys2Proof.Machine

/-! ### COLUMN_PLAN (R215, R223) -/

/-- With the scanner on, no crossing fixed and boundary `k` one of the line's, the model's crossing of it is fixed. -/
theorem columnPlan_fixes {s : Dev} {k : Nat} {dir : Bool} {t dur : Nat} (hc : s.scan.cross = none)
    (hn : s.nextCrossing k dir s.now = some (t, dur)) (hon : s.isOn .scan = true) (hd : dir = true → s.bidir = true)
    (hk : k < s.colsPerLine) : s.columnPlan k dir = s.fixCrossing k dir t dur := by
  have hb : ¬ (dir = true ∧ (!s.bidir) = true) := by
    rintro ⟨h, hb⟩
    rw [hd h] at hb
    cases hb
  simp only [Dev.columnPlan, hc, Option.isSome_none, hon, Bool.not_true, Bool.false_eq_true, hb, Nat.not_le.2 hk, or_self, if_false,
    hn]

section
variable {s b : Dev} {k : Nat} {dir : Bool} {t dur : Nat} (hb : b = s.advanceTo (t - 1000))
include hb

/-- A crossing inside FRAME_ACTIVE of a frame with columns left begins the next column, which is planned. -/
theorem fixCrossing_begins {f : FrameX} (hf : b.openFrame = some f) (h0 : f.start + 2000 ≤ t) (h1 : t < f.start + f.active * 1000)
    (hm : b.scan.noMore = false) (hj : b.scan.begun < f.columns) :
    s.fixCrossing k dir t dur = { b.planColumn f b.scan.begun t dur with scan := { b.scan with
      cross := some { k := k, rev := dir, t := t, dur := dur, begins := true, frame := f.num, col := b.scan.begun } } } := by
  simp only [Dev.fixCrossing, ← hb, hf, h0, h1, hm, hj, Bool.not_false, and_self, if_true]

/-- Outside a frame a crossing begins no column. -/
theorem fixCrossing_outside (hf : b.openFrame = none) :
    s.fixCrossing k dir t dur = { b with scan := { b.scan with
      cross := some { k := k, rev := dir, t := t, dur := dur, begins := false, frame := 0, col := 0 } } } := by
  simp only [Dev.fixCrossing, ← hb, hf]

end

/-! ### BOUNDARY_CROSSING (R178, R223, R225) -/

section
variable {s b : Dev} {x : CrossX} (hx : s.scan.cross = some x)
  (hb : b = { s.advanceTo x.t with scan := { (s.advanceTo x.t).scan with cross := none } })
include hx hb

theorem boundaryCrossing_begins (h : x.begins = true) : s.boundaryCrossing = (b.endColumn x.t).beginColumn x := by
  simp only [Dev.boundaryCrossing, hx, ← hb, h, if_true]

theorem boundaryCrossing_outside (h : x.begins = false) (hf : (b.endColumn x.t).openFrame = none) :
    s.boundaryCrossing = b.endColumn x.t := by
  simp only [Dev.boundaryCrossing, hx, ← hb, h, Bool.false_eq_true, if_false, hf]

/-- Inside FRAME_ACTIVE a crossing after the frame's last column is suppressed. -/
theorem boundaryCrossing_suppressed {f : FrameX} (h : x.begins = false) (hf : (b.endColumn x.t).openFrame = some f)
    (hj : f.columns ≤ (b.endColumn x.t).scan.begun) (h0 : f.start + 2000 ≤ x.t) (h1 : x.t < f.start + f.active * 1000) :
    s.boundaryCrossing = (b.endColumn x.t).suppressCrossing f := by
  simp only [Dev.boundaryCrossing, hx, ← hb, h, Bool.false_eq_true, if_false, hf, hj, h0, h1, and_self, if_true]

end

/-! ### COLUMN_OVERRUN (R223) -/

/-- An open column whose next crossing comes later, or is not fixed, ends at twice its predicted duration. -/
theorem columnOverrun_ends {s : Dev} {c : ColumnX} (hc : s.column = some c)
    (hx : ∀ x, s.scan.cross = some x → c.start + 2 * c.dur < x.t) :
    s.columnOverrun = (s.advanceTo (c.start + 2 * c.dur)).endColumn (c.start + 2 * c.dur) := by
  simp only [Dev.columnOverrun, hc]
  split
  next x h => exact if_neg (Nat.not_le.2 (hx x h))
  next => rfl

/-! ### The commands together -/

/-- Settles O28: a plan by the open frame, a crossing by what was fixed for it. -/
theorem columns : Obligations.Columns := by
  unfold Obligations.Columns
  refine ⟨?plan, ?outside, ?begins, ?ends, ?suppressed, ?overrun⟩
  case plan =>
    exact fun s k dir t dur b f hc hn hon hd hk hb hf h0 h1 hm hj =>
      done_eq ((columnPlan_fixes hc hn hon hd hk).trans (fixCrossing_begins hb hf h0 h1 hm hj))
  case outside =>
    exact fun s k dir t dur b hc hn hon hd hk hb hf =>
      done_eq ((columnPlan_fixes hc hn hon hd hk).trans (fixCrossing_outside hb hf))
  case begins =>
    rintro s x a b hx h rfl hb
    exact done_eq (boundaryCrossing_begins hx hb h)
  case ends =>
    rintro s x a b hx h rfl hb hf
    exact done_eq (boundaryCrossing_outside hx hb h hf)
  case suppressed =>
    rintro s x a b f hx h rfl hb hf hj h0 h1
    exact done_eq (boundaryCrossing_suppressed hx hb h hf hj h0 h1)
  case overrun => exact fun s c hc hx => done_eq (columnOverrun_ends hc hx)

end Sys2Proof.Machine

/-! ## The buffer pool and a histogram's life (R167, R249 to R251, R266 to R268, R277, R278, R300) -/
namespace Sys2Proof.Machine

/-! ### POOL_GRANT and POOL_REFUSAL (R249, R266 to R268) -/

/-- Nothing is refused where no request is named. -/
@[simp] theorem refuseHists_nil (s : Dev) : s.refuseHists [] = s := rfl

/-- While every waiting request has time left, none is refused for its time. -/
theorem refuseExpired_none {s : Dev} {q : Fin 4} (h : ∀ e ∈ s.waiting q, s.cycleBefore (s.waitUntil e.2) = true) :
    s.refuseExpired q = s := by
  have hn : (s.waiting q).filter (fun e => !(s.cycleBefore (s.waitUntil e.2))) = [] :=
    List.filter_eq_nil_iff.2 fun e he => by rw [h e he]; decide
  rw [Dev.refuseExpired, hn, List.map_nil, refuseHists_nil]

section
variable {s : Dev} {q : Fin 4} {id : Nat} {h : HistX} {rest : List (Nat × HistX)}
  (ht : ∀ e ∈ s.waiting q, s.cycleBefore (s.waitUntil e.2) = true)
  (hw : sortBy (fun (e : Nat × HistX) => e.2.order) (s.waiting q) = (id, h) :: rest)
  (hc : s.canShare q h.cls h.need = true)
include ht hw hc

theorem poolGrant_grants (hb : s.burstToCome h = true) : s.poolGrant q = s.grantHist id false true := by
  simp only [Dev.poolGrant, refuseExpired_none ht, hw, hc, hb, if_true]

/-- The first request has no burst to come, and the one after it stays. -/
theorem poolGrant_refuses (hb : s.burstToCome h = false)
    (hr : ∀ e ∈ rest.head?, (s.canShare q e.2.cls e.2.need && !(s.burstToCome e.2)) = false) :
    s.poolGrant q = s.refuseHists [id] := by
  have hn : rest.takeWhile (fun e => s.canShare q e.2.cls e.2.need && !(s.burstToCome e.2)) = [] := by
    cases rest with
    | nil => rfl
    | cons e es => rw [List.takeWhile_cons, hr e rfl, if_neg Bool.false_ne_true]
  simp only [Dev.poolGrant, refuseExpired_none ht, hw, hc, hb, Bool.false_eq_true, if_true, if_false, List.takeWhile_cons,
    Bool.not_false, Bool.and_self, hn, List.map_cons, List.map_nil]

end

/-- The requests whose time has run out with that of the oldest are refused together. -/
theorem poolRefusal_refuses {s b : Dev} {q : Fin 4} {id : Nat} {h : HistX}
    (hm : minBy (fun e => s.waitUntil e.2) (s.waiting q) = some (id, h)) (hb : b = s.advanceTo (s.waitUntil h)) :
    s.poolRefusal q =
      b.refuseHists (((b.waiting q).filter (fun e => decide (b.waitUntil e.2 ≤ max (s.waitUntil h) b.now))).map (·.1)) := by
  simp only [Dev.poolRefusal, hm, ← hb]

/-! ### HISTOGRAM_CLOSE and DESCRIPTOR_ENQUEUE (R167, R250, R251) -/

theorem histogramClose_closes {s b : Dev} {bay : Fin 48} {id : Nat} {h : HistX}
    (hm : minBy (fun e => e.2.closeKey) (s.hists.filter (fun e => e.2.bay == bay.val && e.2.st == .granted)) = some (id, h))
    (hb : b = (s.advanceTo ((h.closeTick + 255) / 256)).lateCaptures id h) : s.histogramClose bay = b.closeHist id := by
  simp only [Dev.histogramClose, hm, ← hb]

/-- The launched and the voted bursts of a histogram that closes (R249, R469). -/
def Dev.closeCounts (b : Dev) (g : HistX) : Nat × Nat :=
  match g.cross with
  | some x => b.foreignCount g x
  | none => (g.launched, g.voted)

/-- A histogram as it closes with the counts `n`, under the dispatch limit `lim` of its region. -/
def Dev.closedHist (b : Dev) (n : Nat × Nat) (lim : Nat) (h : HistX) : HistX :=
  { h with
    st := .queued, closedAt := h.closeTick, launched := n.1, voted := n.2, lateGrant := decide (n.2 < n.1),
    lateAt := h.closeTick / 256 + lim * 1000,
    refUnsettled := h.refUnsettled || !(b.on F.TIME_STATUS_REF_SETTLED) || ((b.frame? h.frame).map (·.refUnsettled)).getD false }

section
variable {b : Dev} {id : Nat} {g : HistX} (hg : b.hist? id = some g)
include hg

/-- With no launched burst a pixel's own histogram leaves a gap and a cross histogram ends; otherwise a descriptor goes to the
bay's queue. -/
theorem closeHist_by_counts : b.closeHist id =
    if (b.closeCounts g).1 = 0 then
      if g.cross.isSome then b.endHist id else b.histGap id 7 (bits (b.rd (R.EMIT_PORT_STATUS g.bay)) 24 4)
    else (b.modHist id (b.closedHist (b.closeCounts g) (max 1 (b.gf (F.QTR_DISPATCH_LIMIT_LIMIT g.region))))).enqueue g.bay
      { sky := false, id := id, cls := g.cls, closedAt := g.closeTick, enq := b.now,
        lateAt := g.closeTick / 256 + max 1 (b.gf (F.QTR_DISPATCH_LIMIT_LIMIT g.region)) * 1000 } := by
  simp only [Dev.closeHist, hg]
  refine if_congr Iff.rfl ?_ rfl
  cases g.cross with
  | none => rfl
  | some x => rfl

theorem closeHist_empty (h0 : (b.closeCounts g).1 = 0) :
    b.closeHist id = if g.cross.isSome then b.endHist id else b.histGap id 7 (bits (b.rd (R.EMIT_PORT_STATUS g.bay)) 24 4) :=
  (closeHist_by_counts hg).trans (if_pos h0)

theorem closeHist_queues {n : Nat × Nat} (hn : n = b.closeCounts g) (h0 : n.1 ≠ 0) :
    b.closeHist id = (b.modHist id (b.closedHist n (max 1 (b.gf (F.QTR_DISPATCH_LIMIT_LIMIT g.region))))).enqueue g.bay
      { sky := false, id := id, cls := g.cls, closedAt := g.closeTick, enq := b.now,
        lateAt := g.closeTick / 256 + max 1 (b.gf (F.QTR_DISPATCH_LIMIT_LIMIT g.region)) * 1000 } := by
  subst hn
  exact (closeHist_by_counts hg).trans (if_neg h0)

end

/-- A held descriptor enters the queue once it has a place. -/
theorem descriptorEnqueue_enters {s : Dev} {b : Fin 48} {d : DescX} {rest : List DescX} (hd : (s.bay b).heldDesc = d :: rest)
    (hl : (s.bay b).dq.length < min 32 (max 1 (s.gf (F.QTR_QUEUE_DEPTH_DEPTH (b.val / 12))))) :
    s.descriptorEnqueue b = (s.setBay b { s.bay b with
      dq := (s.bay b).dq ++ [{ d with enq := s.now }], heldDesc := rest }).queueSync b := by
  simp only [Dev.descriptorEnqueue, hd, if_pos hl]

/-! ### SCRUB_PERIOD_END and POOL_ECC_ERROR (R277, R278, R300) -/

section
variable {s b : Dev} {q : Fin 4} {bank : Fin 33} {chunk : Fin 4096}

/-- With the spare bank in use an uncorrectable error quarantines the region. -/
theorem poolEccError_fault (hs : s.on (F.POOL_ECC_STATUS_SPARE_IN_USE q) = true) :
    s.poolEccError q bank chunk = (((s.incSat (F.POOL_ECC_STATUS_UNCORRECTED q)).raise (C.POOL_ECC_UNCORRECTED q) bank).raise
      (C.POOL_POOL_FAULT q) bank).quarantineRegion q :=
  if_pos hs

variable (hs : s.on (F.POOL_ECC_STATUS_SPARE_IN_USE q) = false)
  (hb : b = ((((s.raise (C.POOL_ECC_UNCORRECTED q) bank).raise (C.POOL_SPARE_NEEDED q) bank).wear 3 (33 * q.val + bank.val)).event
    (E.POOL_SPARE_NEEDED q)).incSat (F.POOL_ECC_STATUS_UNCORRECTED q))
include hs hb

/-- Otherwise the histogram of the chunk ends with a gap, and so does the chain that reads it. -/
theorem poolEccError_held {id : Nat} {h : HistX}
    (hf : b.hists.find? (fun e => e.2.region == q.val && e.2.chunks.contains chunk.val) = some (id, h)) :
    s.poolEccError q bank chunk = (b.histGap id 10 bank).dropRuns q := by
  refine (if_neg (Bool.eq_false_iff.1 hs)).trans ?_
  simp only [Dev.poolEcc, ← hb, hf]

/-- A chunk that no histogram of the region holds ends none. -/
theorem poolEccError_free (hf : ∀ e ∈ b.hists, e.2.region = q.val → chunk.val ∉ e.2.chunks) :
    s.poolEccError q bank chunk = b := by
  have hn : b.hists.find? (fun e => e.2.region == q.val && e.2.chunks.contains chunk.val) = none :=
    List.find?_eq_none.2 fun e he => by simpa using hf e he
  refine (if_neg (Bool.eq_false_iff.1 hs)).trans ?_
  simp only [Dev.poolEcc, ← hb, hn]

end

/-! ### The commands together -/

/-- Settles O30: a request by its order and its bursts, a histogram by its counts, an error by the spare bank and the chunk. -/
theorem histPool : Obligations.HistPool := by
  unfold Obligations.HistPool
  refine ⟨?grants, ?refuses, ?expired, ?empty, ?queues, ?enters, ?scrub, ?fault, ?held, ?free⟩
  case grants => exact fun s q id h rest ht hw hc hb => done_eq (poolGrant_grants ht hw hc hb)
  case refuses => exact fun s q id h rest ht hw hc hb hr => done_eq (poolGrant_refuses ht hw hc hb hr)
  case expired => exact fun s q id h b hm hb => done_eq (poolRefusal_refuses hm hb)
  case empty =>
    intro s bay id h g b hm hb hg hx hl
    have h0 : (b.closeCounts g).1 = 0 := by
      unfold Dev.closeCounts
      split
      next x h => exact hx x h
      next h => exact hl h
    exact done_eq ((histogramClose_closes hm hb).trans (closeHist_empty hg h0))
  case queues =>
    intro s bay id h g b n hm hb hg hn h0
    exact ⟨_, done_eq ((histogramClose_closes hm hb).trans (closeHist_queues hg hn h0)), _, rfl,
      fun x => ⟨rfl, rfl, rfl, rfl, rfl⟩⟩
  case enters => exact fun s b d rest hd hl => done_eq (descriptorEnqueue_enters hd hl)
  case scrub =>
    rintro s q corrections b rfl
    exact done_eq rfl
  case fault => exact fun s q bank chunk hs => done_eq (poolEccError_fault hs)
  case held => exact fun s q bank chunk id h b hs hb hf => done_eq (poolEccError_held hs hb hf)
  case free => exact fun s q bank chunk b hs hb hf => done_eq (poolEccError_free hs hb hf)

end Sys2Proof.Machine

/-! ## The axes: control cycles, half-periods, facets, the encoder's index and the start timeout (R207 to R213, R215, R218, R228,
R230, R231) -/
namespace Sys2Proof.Machine

/-! ### What the drive of a cycle writes (R209, R218, R222, R230) -/

theorem advanceTo_regs (s : Dev) (t : Nat) : (s.advanceTo t).regs = s.regs := by
  obtain ⟨n, -, h⟩ := advanceTo_form s t
  rw [h]

/-- The registers that show the scanner's state and its change. -/
def scanStateRegs : List Reg := [R.SCAN_STATUS, R.IRQ_STATUS .scan]

/-- A change of STATE writes the status and its event alone. -/
theorem setScanState_form (s : Dev) (v : Nat) : ∃ m, s.setScanState v = { s with regs := m } := by
  unfold Dev.setScanState
  split <;> exact ⟨_, rfl⟩

theorem setScanState_regsBut (s : Dev) (v : Nat) : s.regsBut (s.setScanState v) scanStateRegs := by
  unfold Dev.setScanState
  split
  · exact regsBut_refl s _
  · exact regsBut_sf (f := ⟨.scan, 0x20, E.SCAN_STATE_CHANGE.bit, 1⟩)
      (regsBut_sf (regsBut_refl s _) (f := F.SCAN_STATUS_STATE) v (by decide)) 1 (by decide)

theorem enterReady_regsBut (s : Dev) : s.regsBut s.enterReady scanStateRegs :=
  setScanState_regsBut { s with scan := { s.scan with readyAt := s.now, lastSched := none, syncAt := none } } 2

theorem tryReady_regsBut (s : Dev) : s.regsBut s.tryReady scanStateRegs := by
  unfold Dev.tryReady
  split
  · exact enterReady_regsBut s
  · exact regsBut_refl s _

theorem holdSync_regsBut (s : Dev) (slow : Int) : s.regsBut (s.holdSync slow) scanStateRegs :=
  regsBut_trans (regsBut_sf (s := s) (d := { s with scan := { s.scan with holdCnt := _ } }) (regsBut_refl _ _)
    (f := F.SCAN_STATUS_SLOW_AT_HOLD) _ (by decide)) (tryReady_regsBut _)

/-- The slow loop changes the scanner's own state alone. -/
theorem slowLoop_regs (s : Dev) (slow : Int) : (s.slowLoop slow).2.regs = s.regs := by
  unfold Dev.slowLoop
  split
  · rfl
  · split <;> rfl

theorem driveDacs_regs (s : Dev) (u : Int) : (s.driveDacs u).regs = s.regs := by
  unfold Dev.driveDacs
  split <;> rfl

/-- The drive of a cycle from a slow position: the slow loop, SLOW_AT_HOLD and the outputs. -/
def Dev.driven (b : Dev) (slow : Int) : Dev := ((b.slowLoop slow).2.holdSync slow).driveDacs (b.slowLoop slow).1

theorem driven_regsBut (b : Dev) (slow : Int) : b.regsBut (b.driven slow) scanStateRegs :=
  fun r hr => ((rd_regs (driveDacs_regs _ _) r).trans (holdSync_regsBut _ slow r hr)).trans (rd_regs (slowLoop_regs b slow) r)

/-- Validity of a sense is read from the register file. -/
theorem senseOk_regs {s t : Dev} (h : s.regs = t.regs) (i : Nat) : s.senseOk i = t.senseOk i := by
  rw [Dev.senseOk, Dev.senseOk, on_regs h, on_regs h]

/-- It is not what the drive of a cycle writes. -/
theorem driven_senseOk (b : Dev) (slow : Int) {i : Nat} (hi : i < 2) : (b.driven slow).senseOk i = b.senseOk i := by
  have hk : ∀ x ∈ scanStateRegs, (F.MON_CH_RAW_VALID i).reg.key ≠ x.key := by
    interval_cases i <;> decide
  rw [Dev.senseOk, Dev.senseOk, regsBut_on (driven_regsBut b slow) (by decide), regsBut_on (driven_regsBut b slow) hk]

/-! ### CONTROL_CYCLE (R207 to R209, R218, R228, R231) -/

/-- The supervisor's look at the end of a cycle whose senses are valid, against the models at the samples' times (R208, R231). -/
def Dev.look (c : Dev) (env : ScanEnv) (fast slow : Int) : Dev :=
  c.supervise fast slow (c.fastModel (c.now - c.gf F.SCAN_SENSE_DELAY_FAST * 100)) (c.slowCmd (c.now - c.gf F.SCAN_SENSE_DELAY_SLOW * 100)).1
    (decide (env.edgeAt + 5000 ≤ c.now) && decide (c.gf F.SCAN_POLY_TARGET_RATE ≠ 0)) false false

section
variable {s a b : Dev} {slow : Int} (env : ScanEnv) (hon : s.isOn .scan = true) (hen : s.on F.SCAN_CTRL_FAST_EN = true)
  (h1 : s.senseOk 1 = true) (hs : slow = sensePos (s.sense 1) (s.gi F.SCAN_SENSE_SLOW_OFFSET) (s.gf F.SCAN_SENSE_SLOW_GAIN))
include hon hen h1 hs

/-- With a resonant scanner a cycle reads both senses. -/
theorem controlCycle_resonant {fast : Int} (hm : s.on F.SCAN_CTRL_FAST_MODE = false) (h0 : s.senseOk 0 = true)
    (hf : fast = sensePos (s.sense 0) (s.gi F.SCAN_SENSE_FAST_OFFSET) (s.gf F.SCAN_SENSE_FAST_GAIN))
    (ha : a = s.advanceTo ((s.now / 5000 + 1) * 5000))
    (hb : b = { a with scan := { a.scan with fastPos := fast, slowPos := slow } }.slowHeader slow) :
    s.controlCycle env = (b.driven slow).look env fast slow := by
  have ra : a.regs = s.regs := by rw [ha, advanceTo_regs]
  have rb : b.regs = s.regs := by rw [hb]; exact ra
  have ok0 : (b.driven slow).senseOk 0 = true := by rw [driven_senseOk _ _ (by decide), senseOk_regs rb, h0]
  have ok1 : (b.driven slow).senseOk 1 = true := by rw [driven_senseOk _ _ (by decide), senseOk_regs rb, h1]
  have fast' : sensePos (a.sense 0) (a.gi F.SCAN_SENSE_FAST_OFFSET) (a.gf F.SCAN_SENSE_FAST_GAIN) = fast := by
    rw [hf, Dev.sense, Dev.sense, Dev.gi, Dev.gi, gf_regs ra, gf_regs ra, gf_regs ra]
  have slow' : sensePos (a.sense 1) (a.gi F.SCAN_SENSE_SLOW_OFFSET) (a.gf F.SCAN_SENSE_SLOW_GAIN) = slow := by
    rw [hs, Dev.sense, Dev.sense, Dev.gi, Dev.gi, gf_regs ra, gf_regs ra, gf_regs ra]
  simp only [Dev.driven] at ok0 ok1
  simp only [Dev.controlCycle, hon, Bool.not_true, Bool.false_eq_true, if_false, ← ha, on_regs ra, hm, hen, Bool.true_or, senseOk_regs ra,
    h0, h1, and_self, if_true, fast', slow', false_and, ← hb, ok0, ok1, Bool.and_false, Dev.look, Dev.driven]
  rfl

/-- With a polygon it reads the encoder and the slow sense. -/
theorem controlCycle_polygon (hm : s.on F.SCAN_CTRL_FAST_MODE = true) (hf : env.encFault = false)
    (ha : a = (s.advanceTo ((s.now / 5000 + 1) * 5000)).sf F.SCAN_ENC_STATUS_COUNT env.count)
    (hb : b = { a with scan := { a.scan with
      fastPos := env.count, slowPos := slow, encCount := env.count, encAt := env.edgeAt, encStep := env.edgeStep } }.slowHeader slow) :
    s.controlCycle env = (b.driven slow).look env env.count slow := by
  obtain ⟨n, hn⟩ : ∃ n, n = s.advanceTo ((s.now / 5000 + 1) * 5000) := ⟨_, rfl⟩
  have rn : n.regs = s.regs := by rw [hn, advanceTo_regs]
  have ok1 : (b.driven slow).senseOk 1 = true := by
    have hcount : b.senseOk 1 = (n.sf F.SCAN_ENC_STATUS_COUNT env.count).senseOk 1 := senseOk_regs (by rw [hb, ha, hn]; rfl) 1
    rw [driven_senseOk _ _ (by decide), hcount, Dev.senseOk, Dev.on, Dev.on, gf_sf_key _ _ (by decide), gf_sf_key _ _ (by decide)]
    exact (senseOk_regs rn 1).trans h1
  have slow' : sensePos (n.sense 1) (n.gi F.SCAN_SENSE_SLOW_OFFSET) (n.gf F.SCAN_SENSE_SLOW_GAIN) = slow := by
    rw [hs, Dev.sense, Dev.sense, Dev.gi, Dev.gi, gf_regs rn, gf_regs rn, gf_regs rn]
  simp only [Dev.driven] at ok1
  rw [← hn] at ha
  simp only [Dev.controlCycle, hon, Bool.not_true, Bool.false_eq_true, if_false, ← hn, on_regs rn, hm, hen, Bool.true_or, senseOk_regs rn,
    h1, and_self, and_false, if_true, slow', hf, ← ha, ← hb, ok1, Bool.and_false, Dev.look, Dev.driven]
  rfl

end

/-! ### HALF_PERIOD (R211, R212) -/

/-- A half-period of the start sweep: the frequency is the sweep's, which a quarter of the target amplitude ends (R211). -/
def Dev.sweepStep (b : Dev) (goal amp : Int) : Dev :=
  if goal < 4 * amp then { b with scan := { b.scan with freq := b.sweepFreq, sweeping := false, good := 0, bad := 0 } }
  else { b with scan := { b.scan with freq := b.sweepFreq } }

/-- A half-period in lock: the frequency is trimmed within its limits, the amplitude becomes `drive`, and a verdict follows
(R211, R212). -/
def Dev.trimStep (b : Dev) (goal amp err drive : Int) : Dev :=
  let lo : Int := b.gf F.SCAN_FAST_FREQ_LIM_MIN * 1000
  let hi : Int := b.gf F.SCAN_FAST_FREQ_LIM_MAX * 1000
  let f := b.scan.freq + b.gi F.SCAN_FAST_GAIN_KF * err / 256
  let d := { b with scan := { b.scan with freq := max lo (min hi f), amp := drive } }
  d.lockVerdict (decide ((goal - amp).natAbs ≤ d.gf F.SCAN_FAST_TOL_AMP_TOL) && decide (err.natAbs ≤ d.gf F.SCAN_FAST_TOL_PHASE_TOL)) 64

/-- While the drive runs a half-period is measured, then it follows the sweep or trims; under a ramp the amplitude stays. -/
theorem halfPeriod_measures {s b e : Dev} {amp phase freq err : Int} (hr : s.fastRuns = true) (hm : s.on F.SCAN_CTRL_FAST_MODE = false)
    (he : err = toSigned 16 (ofSigned 16 (phase - (s.gf F.SCAN_FAST_TARGET_PHASE : Nat))))
    (hd : e = (((s.si F.SCAN_FAST_MEAS_FREQ freq).si F.SCAN_FAST_AMP_PHASE_ERR err).sf F.SCAN_FAST_AMP_AMP (min 65535 amp.toNat)).thetaSync)
    (hb : b = { e with scan := { e.scan with measAmp := amp, measPhase := ofSigned 16 phase } }) {goal : Int}
    (hg : goal = s.gf F.SCAN_FAST_TARGET_AMPLITUDE) :
    s.halfPeriod amp phase freq = if b.scan.sweeping then b.sweepStep goal amp
      else b.trimStep goal amp err
        (if b.scan.rampAt.isSome then b.scan.amp else max 0 (min 32767 (b.scan.amp + b.gi F.SCAN_FAST_GAIN_KA * (goal - amp) / 256))) := by
  subst he hd hb hg
  exact if_neg (by simp [hr, hm])

/-! ### FACET_END, ENCODER_INDEX and START_TIMEOUT (R211, R213, R230) -/

/-- A facet's end gives the speed law, which no ramp holds back here, and a verdict. -/
theorem facetEnd_governs {s b : Dev} {rate : Nat} {err : Int} (hr : s.fastRuns = true) (hm : s.on F.SCAN_CTRL_FAST_MODE = true)
    (he : err = (s.gf F.SCAN_POLY_TARGET_RATE : Int) - rate) (hb : b = s.sf F.SCAN_FAST_MEAS_FREQ rate) (hp : b.scan.rampAt = none) :
    s.facetEnd rate = (
      let i := s.scan.polyInt + err
      let v := sat16 ((b.gi F.SCAN_FAST_GAIN_KF * err + b.gi F.SCAN_FAST_GAIN_KA * i) / 256)
      let d := { b with scan := { b.scan with polyInt := i, sweeping := false, amp := v } }
      d.lockVerdict (decide (err.natAbs * 1000000 ≤ d.gf F.SCAN_FAST_TOL_AMP_TOL * s.gf F.SCAN_POLY_TARGET_RATE)) 16) := by
  simp only [Dev.facetEnd, hr, hm, Bool.not_true, Bool.false_eq_true, or_self, if_false, ← he, ← hb, hp, Option.isSome_none]

/-- A wrong revolution count is counted, and is SENSE_LOST where the supervisor looks. -/
theorem encoderIndex_wrong {s d : Dev} {count : Nat} (hon : s.isOn .scan = true) (hm : s.on F.SCAN_CTRL_FAST_MODE = true)
    (hc : count ≠ s.gf F.SCAN_POLY_CFG_COUNTS * s.gf F.SCAN_POLY_CFG_FACETS) (hd : d = s.inc F.SCAN_ENC_STATUS_ERRORS) :
    s.encoderIndex count = if d.senseChecked then (d.raise C.SCAN_SENSE_LOST 0).enterFault 3 false else d := by
  subst hd
  exact if_neg (by simp [hon, hm, hc])

/-! ### The commands together -/

/-- Settles O25: a cycle by its scanner, a half-period by the sweep, a revolution by its count. -/
theorem scanAxes : Obligations.ScanAxes := by
  unfold Obligations.ScanAxes
  refine ⟨?off, ?resonant, ?polygon, ?trims, ?sweeps, ?swept, ?facet, ?whole, ?lost, ?unlooked, ?timeout⟩
  case off => exact fun s env h => done_eq (if_pos (by simp [h]))
  case resonant =>
    rintro s env a b c fast slow hon hm hen h0 h1 hf hs ha hb rfl
    exact done_eq (controlCycle_resonant env hon hen h1 hs hm h0 hf ha hb)
  case polygon =>
    rintro s env a b c slow hon hm hen h1 hf hs ha hb rfl
    exact done_eq (controlCycle_polygon env hon hen h1 hs hm hf ha hb)
  case trims =>
    intro s amp phase freq err b e hr hm he hd hb hw hp
    refine done_eq ((halfPeriod_measures hr hm he hd hb rfl).trans ?_)
    rw [hw, hp]
    rfl
  case sweeps =>
    intro s amp phase freq err b e hr hm he hd hb hw hq
    refine done_eq ((halfPeriod_measures hr hm he hd hb rfl).trans ?_)
    rw [if_pos hw]
    exact if_neg (Int.not_lt.2 hq)
  case swept =>
    intro s amp phase freq err b e hr hm he hd hb hw hq
    refine done_eq ((halfPeriod_measures hr hm he hd hb rfl).trans ?_)
    rw [if_pos hw]
    exact if_pos hq
  case facet => exact fun s rate err b hr hm he hb hp => done_eq (facetEnd_governs hr hm he hb hp)
  case whole => exact fun s count hon hm hc => done_eq (if_pos (.inr (.inr hc)))
  case lost => exact fun s count d hon hm hc hd hk => done_eq ((encoderIndex_wrong hon hm hc hd).trans (if_pos hk))
  case unlooked => exact fun s count d hon hm hc hd hk => done_eq ((encoderIndex_wrong hon hm hc hd).trans (if_neg (by simp [hk])))
  case timeout => exact fun s h => done_eq (if_neg (not_not_intro h))

end Sys2Proof.Machine

/-! ## The end of a column leaves STATE and the frames that take columns (R178, R223, R230, R352) -/
namespace Sys2Proof.Machine

/-! ### STATUS and the frames that are over -/

/-- The frame takes no more columns: it has flown back or is closed for the scanner. -/
def FrameX.over (f : FrameX) : Bool := f.flyback || f.scanClosed

/-- STATUS of the scanner reads the same, and the same frames are over. -/
structure Dev.ScanKept (s d : Dev) : Prop where
  status : d.rd R.SCAN_STATUS = s.rd R.SCAN_STATUS
  frames : d.frames.map FrameX.over = s.frames.map FrameX.over

theorem scanKept_refl (s : Dev) : s.ScanKept s := ⟨rfl, rfl⟩

/-- An update that keeps both, after updates that did. -/
theorem Dev.ScanKept.comp {s d e : Dev} (h' : d.ScanKept e) (h : s.ScanKept d) : s.ScanKept e :=
  ⟨h'.status.trans h.status, h'.frames.trans h.frames⟩

/-- What changes neither registers nor frames. -/
theorem scanKept_of_eq {s d : Dev} (hr : d.regs = s.regs) (hf : d.frames = s.frames) : s.ScanKept d :=
  ⟨rd_regs hr _, by rw [hf]⟩

theorem Dev.ScanKept.state {s d : Dev} (h : s.ScanKept d) : d.gf F.SCAN_STATUS_STATE = s.gf F.SCAN_STATUS_STATE :=
  congrArg (bits · 29 3) h.status

/-- A frame is open where the newest frame is not over. -/
theorem openFrame_isSome (s : Dev) : s.openFrame.isSome = ((s.frames.map FrameX.over).getLast? == some false) := by
  unfold Dev.openFrame Dev.curFrame
  rw [List.getLast?_map]
  cases s.frames.getLast? with
  | none => rfl
  | some f =>
    show (if f.over then none else some f).isSome = (some f.over == some false)
    cases f.over <;> rfl

theorem Dev.ScanKept.openFrame {s d : Dev} (h : s.ScanKept d) : d.openFrame.isSome = s.openFrame.isSome := by
  rw [openFrame_isSome, openFrame_isSome, h.frames]

/-- A register of another page is not STATUS. -/
theorem status_key_ne {g : Page} {off : Nat} (hg : g ≠ .scan) (ho : off < 4096) : R.SCAN_STATUS.key ≠ Reg.key ⟨g, off⟩ := by
  have clu : ∀ k, (Page.clu k).num ≠ 0x0A := fun k => by simp only [Page.num]; omega
  have hh : (home g off).num ≠ 0x0A := by
    cases g with
    | clu k => simp only [home]; split_ifs <;> exact clu _
    | scan => exact absurd rfl hg
    | _ => simp only [home, Page.num]; omega
  show 0x0A * 4096 + 0x44 ≠ (home g off).num * 4096 + off
  omega

/-- A field of another page is written. -/
theorem scanKept_sf (s : Dev) {f : Fld} (v : Nat) (hg : f.pg ≠ .scan := by nofun) (ho : f.off < 4096 := by simp) :
    s.ScanKept (s.sf f v) :=
  ⟨rd_sf_ne s v (status_key_ne hg ho), rfl⟩

/-- A counter of another page is raised. -/
theorem scanKept_inc (s : Dev) {f : Fld} (n : Nat) (hg : f.pg ≠ .scan := by nofun) (ho : f.off < 4096 := by simp) :
    s.ScanKept (s.inc f n) :=
  scanKept_sf s _ hg ho

/-- An error of a page other than the scanner's and CHIP. -/
theorem scanKept_raise (s : Dev) (c : Cause) (src : Nat) (h : c.pg ≠ .chip := by nofun) (hs : c.pg ≠ .scan := by nofun) :
    s.ScanKept (s.raise c src) := by
  refine ⟨raiseBit_regsBut s c.bit c.sev src h _ ?_, ?_⟩
  · simp only [List.forall_mem_cons, List.not_mem_nil, IsEmpty.forall_iff, implies_true, and_true]
    exact ⟨status_key_ne hs (by decide), status_key_ne hs (by decide), status_key_ne hs (by decide)⟩
  · obtain ⟨m, f, r, e, st, l, al, hf⟩ := raiseBit_form s c.pg c.bit c.sev src
    rw [Dev.raise, hf]

/-- A change of a frame that leaves whether it is over. -/
theorem scanKept_modFrame (s : Dev) (n : Nat) {g : FrameX → FrameX} (h : ∀ f, (g f).over = f.over) : s.ScanKept (s.modFrame n g) := by
  refine ⟨rfl, ?_⟩
  simp only [Dev.modFrame, List.map_map, List.map_inj_left, Function.comp_apply]
  intro f _
  split
  · exact h f
  · rfl

/-- Updates each of which keeps STATUS and the frames, folded over a list. -/
theorem scanKept_foldl {α : Type} {g : Dev → α → Dev} (h : ∀ (d : Dev) (a : α), d.ScanKept (g d a)) (l : List α) (s : Dev) :
    s.ScanKept (l.foldl g s) :=
  List.foldlRecOn l g (motive := s.ScanKept) (scanKept_refl s) fun d hd a _ => .comp (h d a) hd

/-- The same over numbers. -/
theorem scanKept_forN {n : Nat} {g : Nat → Dev → Dev} (h : ∀ (i : Nat) (d : Dev), i < n → d.ScanKept (g i d)) (s : Dev) :
    s.ScanKept (forN n g s) :=
  forN_ind (P := s.ScanKept) n (scanKept_refl s) fun i d hi hd => .comp (h i d hi) hd

/-! ### Chunks, queues and histograms -/

theorem poolSync_scanKept (s : Dev) (q : Nat) : s.ScanKept (s.poolSync q) :=
  .comp (scanKept_sf _ _) (scanKept_sf _ _)

theorem waitSync_scanKept (s : Dev) (q : Nat) : s.ScanKept (s.waitSync q) :=
  .comp (scanKept_sf _ _) (.comp (scanKept_sf _ _) (scanKept_sf _ _))

theorem queueSync_scanKept (s : Dev) (b : Nat) : s.ScanKept (s.queueSync b) :=
  scanKept_sf s _ (by nofun) (by show 0x60 + 0x4 * (b % 12) < 4096; omega)

theorem freeChunks_scanKept (s : Dev) (b cls : Nat) (floor : Bool) (cs : List Nat) : s.ScanKept (s.freeChunks b cls floor cs) := by
  unfold Dev.freeChunks
  split
  · exact scanKept_refl s
  · refine .comp (poolSync_scanKept _ _) (.comp (scanKept_sf _ _) ?_)
    split
    · exact .comp (scanKept_sf _ _ (by nofun) (by show 0x80 + 0x4 * (b % 12) < 4096; omega)) (scanKept_of_eq rfl rfl)
    · exact scanKept_of_eq rfl rfl

theorem setBay_scanKept (s : Dev) (b : Nat) (x : BayX) : s.ScanKept (s.setBay b x) := scanKept_of_eq rfl rfl

theorem scanKept_hists (s : Dev) (l : List (Nat × HistX)) : s.ScanKept { s with hists := l } := scanKept_of_eq rfl rfl

theorem loseCapture_scanKept (s : Dev) (b g0 : Nat) : s.ScanKept (s.loseCapture b g0) := scanKept_of_eq rfl rfl

theorem releaseCapture_scanKept (s : Dev) (b : Nat) (c : CaptureX) : s.ScanKept (s.releaseCapture b c) := by
  unfold Dev.releaseCapture
  dsimp only
  split
  · exact freeChunks_scanKept s _ _ _ _
  · exact .comp (loseCapture_scanKept _ _ _) (freeChunks_scanKept s _ _ _ _)

theorem endHist_scanKept (s : Dev) (id : Nat) : s.ScanKept (s.endHist id) := by
  unfold Dev.endHist
  split
  · exact scanKept_refl s
  next h _ =>
    have capture : ∀ d : Dev, d.ScanKept (match h.capture with
        | some c => d.releaseCapture h.bay c
        | none => d) := fun d => by
      split
      · exact releaseCapture_scanKept _ _ _
      · exact scanKept_refl _
    exact .comp (waitSync_scanKept _ _) (.comp (queueSync_scanKept _ _) (.comp (setBay_scanKept _ _ _)
      (.comp (scanKept_hists _ _) (.comp (capture _) (freeChunks_scanKept s _ _ _ _)))))

theorem enqueue_scanKept (s : Dev) (b : Nat) (d : DescX) : s.ScanKept (s.enqueue b d) := by
  unfold Dev.enqueue
  dsimp only
  split
  · exact .comp (queueSync_scanKept _ b) (scanKept_of_eq rfl rfl)
  · exact .comp (scanKept_inc _ _) (.comp (scanKept_inc _ _) (scanKept_of_eq rfl rfl))

/-! ### Packets on their way -/

theorem setStream_scanKept (s : Dev) (x : StreamX) : s.ScanKept (s.setStream x) :=
  .comp (scanKept_sf { s with stream := x } _) (scanKept_of_eq rfl rfl)

theorem refill_scanKept (s : Dev) : s.ScanKept s.refill := setStream_scanKept s _

theorem countSent_scanKept (s : Dev) (p : Packet) : s.ScanKept (s.countSent p) := by
  have sent : s.ScanKept (s.inc F.STREAM_PACKETS_COUNT) := scanKept_inc _ _
  unfold Dev.countSent
  dsimp only
  split <;> split
  · exact .comp (scanKept_inc _ _) (.comp (scanKept_inc _ _) sent)
  · exact .comp (scanKept_inc _ _) sent
  · exact .comp (scanKept_inc _ _) sent
  · exact sent

theorem send_scanKept (s : Dev) (o : Out) : s.ScanKept (s.send o) := scanKept_of_eq rfl rfl

theorem sendDatagram_scanKept (s : Dev) (port : Nat) : s.ScanKept (s.sendDatagram port) := by
  unfold Dev.sendDatagram
  split
  · exact scanKept_refl s
  · split
    · exact scanKept_refl s
    · exact .comp (send_scanKept _ _) (.comp (scanKept_foldl countSent_scanKept _ _) (.comp (scanKept_inc _ _) (setStream_scanKept s _)))

theorem udpPumpGo_scanKept (ps : List Packet) (s : Dev) : s.ScanKept (udpPumpGo ps s) := by
  induction ps generalizing s with
  | nil => exact scanKept_refl s
  | cons p ps ih =>
    unfold udpPumpGo
    dsimp only
    split
    · refine .comp (ih _) (.comp (setStream_scanKept _ _) ?_)
      split
      · exact sendDatagram_scanKept s _
      · exact scanKept_refl s
    · exact ih s

theorem setLaneX_scanKept (s : Dev) (n : Nat) (x : LaneX) : s.ScanKept (s.setLaneX n x) := scanKept_of_eq rfl rfl

theorem free_scanKept (s : Dev) : s.ScanKept s.free.2 := scanKept_of_eq rfl rfl

theorem sendBlocks_scanKept (s : Dev) (n : Nat) (bs : List KBlock) : s.ScanKept (s.sendBlocks n bs) := by
  have scrambled : s.ScanKept (s.scrambler n).2 := by
    unfold Dev.scrambler
    dsimp only
    split
    · exact scanKept_refl s
    · exact scanKept_of_eq rfl rfl
  exact .comp (send_scanKept _ _) (.comp (setLaneX_scanKept _ _ _) scrambled)

theorem sendMsg_scanKept (s : Dev) (p : Nat) (m : List Nat) : s.ScanKept (s.sendMsg p m) := by
  have sent := send_scanKept s (.krylink p m)
  unfold Dev.sendMsg
  dsimp only
  split
  · split
    · exact .comp (sendBlocks_scanKept _ _ _) sent
    · exact .comp (sendBlocks_scanKept _ _ _) (.comp (sendBlocks_scanKept _ _ _) (.comp (free_scanKept _) sent))
  · exact .comp (sendBlocks_scanKept _ _ _) sent
  · exact .comp (sendBlocks_scanKept _ _ _) sent
  · exact sent

theorem sendOn_scanKept (s : Dev) (p type : Nat) (bcast : Bool) (dest src : Nat) (pay : List Nat) :
    s.ScanKept (s.sendOn p type bcast dest src pay) := by
  unfold Dev.sendOn
  split
  · exact sendMsg_scanKept s _ _
  · exact scanKept_refl s

theorem setLink_scanKept (s : Dev) (p : Nat) (x : LinkX) : s.ScanKept (s.setLink p x) := scanKept_of_eq rfl rfl

theorem giveCredit_scanKept (s : Dev) (port n : Nat) : s.ScanKept (s.giveCredit port n) :=
  .comp (sendOn_scanKept _ _ _ _ _ _ _) (setLink_scanKept s _ _)

theorem sendFwd_scanKept {s d : Dev} {up : Nat} {bytes : List Nat} (h : s.sendFwd up bytes = some d) : s.ScanKept d := by
  unfold Dev.sendFwd at h
  dsimp only at h
  split at h
  · cases h
    exact .comp (sendOn_scanKept _ _ _ _ _ _ _) (setLink_scanKept s _ _)
  · cases h

theorem fwdPumpGo_scanKept (port up : Nat) (ps : List Packet) (s : Dev) : s.ScanKept (fwdPumpGo port up ps s) := by
  induction ps generalizing s with
  | nil => exact scanKept_refl s
  | cons p ps ih =>
    unfold fwdPumpGo
    split
    next d h =>
      exact .comp (ih _) (.comp (giveCredit_scanKept _ _ _) (.comp (scanKept_inc _ _) (.comp (setLink_scanKept d _ _) (sendFwd_scanKept h))))
    · exact scanKept_refl s

theorem ownPumpGo_scanKept (up : Nat) (ps : List Packet) (s : Dev) : s.ScanKept (ownPumpGo up ps s) := by
  induction ps generalizing s with
  | nil => exact scanKept_refl s
  | cons p ps ih =>
    unfold ownPumpGo
    split
    next d h => exact .comp (ih _) (.comp (countSent_scanKept _ p) (.comp (setStream_scanKept d _) (sendFwd_scanKept h)))
    · exact scanKept_refl s

theorem chainPump_scanKept (s : Dev) : s.ScanKept s.chainPump := by
  unfold Dev.chainPump
  split
  · exact scanKept_refl s
  · dsimp only
    split
    · exact .comp (refill_scanKept _) (.comp (ownPumpGo_scanKept _ _ _) (fwdPumpGo_scanKept _ _ _ s))
    · exact fwdPumpGo_scanKept _ _ _ s

theorem pump_scanKept (s : Dev) : s.ScanKept s.pump := by
  refine .comp (chainPump_scanKept _) ?_
  split
  · exact .comp (refill_scanKept _) (udpPumpGo_scanKept _ s)
  · exact scanKept_refl s

theorem discard_scanKept (s : Dev) (p : Packet) : s.ScanKept (s.discard p) :=
  .comp (scanKept_raise _ _ _) (.comp (scanKept_modFrame _ _ fun _ => rfl) (.comp (scanKept_sf _ _) (scanKept_inc _ _)))

theorem enterBuffer_scanKept (s : Dev) (p : Packet) : s.ScanKept (s.enterBuffer p) := by
  unfold Dev.enterBuffer
  dsimp only
  split
  · exact setStream_scanKept s _
  · split
    · exact setStream_scanKept s _
    · split
      · exact .comp (scanKept_raise _ _ _) (scanKept_inc _ _)
      · exact discard_scanKept s p

/-- A packet changes of its frame only what the digest and the close count. -/
theorem emit_scanKept (s : Dev) (kind source : Nat) (coded : Bool) (frame : Nat) (payload : List Word) :
    s.ScanKept (s.emit_ kind source coded frame payload) := by
  unfold Dev.emit_
  dsimp only
  refine .comp (pump_scanKept _) (.comp (enterBuffer_scanKept _ _) ?_)
  split
  · exact .comp (scanKept_modFrame _ _ fun _ => rfl) (scanKept_sf _ _)
  · exact scanKept_sf _ _

/-! ### Ambient blocks -/

theorem addPixel_over (f : FrameX) (row col : Nat) (p : SkyPix) : (f.addPixel row col p).over = f.over := by
  unfold FrameX.addPixel
  split <;> rfl

theorem emitImage_scanKept (s : Dev) (a : AmbBlock) (pix : Nat → Nat → Nat) : s.ScanKept (s.emitImage a pix) := by
  unfold Dev.emitImage
  split
  · split
    · exact emit_scanKept s _ _ _ _ _
    · exact scanKept_refl s
  · exact scanKept_refl s

theorem scanKept_ambs (s : Dev) (l : List (Nat × AmbBlock)) : s.ScanKept { s with ambs := l } := scanKept_of_eq rfl rfl

theorem endBatch_scanKept (s : Dev) (id : Nat) (ok : Bool) : s.ScanKept (s.endBatch id ok) := by
  have pixels : ∀ (l : List Nat) (row col : Nat → Nat) (p : Nat → SkyPix) (f : FrameX),
      (l.foldl (fun f k => f.addPixel (row k) (col k) (p k)) f).over = f.over := fun l row col p f =>
    List.foldlRecOn l _ (motive := fun x : FrameX => x.over = f.over) rfl fun _ hx _ _ => (addPixel_over _ _ _ _).trans hx
  unfold Dev.endBatch
  split
  · exact scanKept_refl s
  next a _ =>
    have chunk : ∀ d : Dev, d.ScanKept (match a.chunk with
        | some n => d.freeChunks a.bay 1 a.floorServed [n]
        | none => d) := fun d => by
      split
      · exact freeChunks_scanKept _ _ _ _ _
      · exact scanKept_refl _
    exact .comp (queueSync_scanKept _ _) (.comp (setBay_scanKept _ _ _) (.comp (scanKept_ambs _ _) (.comp (chunk _)
      (.comp (emitImage_scanKept _ _ _) (scanKept_modFrame _ _ fun f => pixels _ _ _ _ f)))))

theorem closeBatch_scanKept (s : Dev) (b : Nat) : s.ScanKept (s.closeBatch b) := by
  unfold Dev.closeBatch
  dsimp only
  split
  · exact scanKept_refl s
  · split
    · exact scanKept_of_eq rfl rfl
    · split
      · exact .comp (endBatch_scanKept _ _ _) (scanKept_of_eq rfl rfl)
      · exact .comp (enqueue_scanKept _ _ _) (scanKept_of_eq rfl rfl)

theorem stopListening_scanKept (s : Dev) (b : Nat) : s.ScanKept (s.stopListening b) :=
  .comp (closeBatch_scanKept _ _) (setBay_scanKept _ _ _)

theorem closeBatches_scanKept (s : Dev) : s.ScanKept s.closeBatches :=
  scanKept_forN (g := fun b d => d.stopListening b) (fun b d _ => stopListening_scanKept d b) s

theorem skyColumnEnd_scanKept (s : Dev) (b stop : Nat) (last : Bool) : s.ScanKept (s.skyColumnEnd b stop last) := by
  unfold Dev.skyColumnEnd
  dsimp only
  split
  · exact scanKept_refl s
  · split
    · exact .comp (closeBatch_scanKept _ b) (scanKept_of_eq rfl rfl)
    · exact scanKept_of_eq rfl rfl

/-! ### The end of a column and a crossing withdrawn (R178, R223, R233) -/

theorem skipBursts_scanKept (s : Dev) (frame col : Nat) : s.ScanKept (s.skipBursts frame col) := by
  refine scanKept_forN (fun p d hp => ?_) s
  dsimp only
  split
  · exact scanKept_refl d
  · exact .comp (scanKept_raise _ _ _) (.comp (scanKept_inc _ _ (by nofun) (by show 0x408 + 0x20 * p < 4096; omega)) (scanKept_of_eq rfl rfl))

theorem emitColumn_scanKept (s : Dev) (c : ColumnX) : s.ScanKept (s.emitColumn c) := by
  unfold Dev.emitColumn
  split
  · split
    · exact emit_scanKept s _ _ _ _ _
    · exact scanKept_refl s
  · exact scanKept_refl s

/-- Only a frame that has flown back, and so is over, is closed for the scanner. -/
theorem scanCloseSync_scanKept (s : Dev) : s.ScanKept s.scanCloseSync := by
  have closed : ∀ d : Dev, d.ScanKept
      { d with frames := d.frames.map (fun (f : FrameX) => if f.flyback then { f with scanClosed := true } else f) } := fun d => by
    refine ⟨rfl, ?_⟩
    simp only [List.map_map, List.map_inj_left, Function.comp_apply]
    intro f _
    split
    next h => simp [FrameX.over, h]
    · rfl
  unfold Dev.scanCloseSync
  split
  · exact scanKept_refl s
  · dsimp only
    split
    · exact .comp (closed _) (closeBatches_scanKept s)
    · exact closed s

theorem scanKept_scan (s : Dev) (x : ScanX) (c : Option ColumnX) : s.ScanKept { s with scan := x, column := c } := scanKept_of_eq rfl rfl

/-- The end of a column leaves STATUS and which frames are over. -/
theorem endColumn_scanKept (s : Dev) (t : Nat) : s.ScanKept (s.endColumn t) := by
  unfold Dev.endColumn
  split
  · exact scanKept_refl s
  · dsimp only
    refine .comp (scanCloseSync_scanKept _) (.comp (scanKept_scan _ _ none) (.comp (scanKept_modFrame _ _ fun _ => rfl)
      (.comp (emitColumn_scanKept _ _) (.comp (scanKept_forN (fun b d _ => ?_) _) (skipBursts_scanKept s _ _)))))
    exact skyColumnEnd_scanKept d b _ _

theorem setPort_scanKept (s : Dev) (p : Nat) (x : PortX) : s.ScanKept (s.setPort p x) := scanKept_of_eq rfl rfl

theorem scanKept_cross (s : Dev) (x : Option CrossX) : s.ScanKept { s with scan := { s.scan with cross := x } } := scanKept_of_eq rfl rfl

/-- So does a crossing that no longer begins its column. -/
theorem cancelCross_scanKept (s : Dev) : s.ScanKept s.cancelCross := by
  unfold Dev.cancelCross
  split
  · exact scanKept_refl s
  · split
    · exact scanKept_refl s
    · dsimp only
      refine .comp (scanKept_foldl endHist_scanKept _ _) (.comp (scanKept_forN (fun p d _ => ?_) _) (scanKept_cross s _))
      exact setPort_scanKept d p _

end Sys2Proof.Machine

/-! ## The enables of SCAN.CTRL, CLEAR and the end of a motion (R220, R221, R223, R230, R233, R234) -/
namespace Sys2Proof.Machine

/-! ### Fields written with what they read -/

/-- A word in which a field is replaced by what it holds. -/
theorem setBits_self {w : Word} {lo len v : Nat} (h : lo + len ≤ 32) (hv : v % 2^len = bits w lo len) : setBits w lo len v = w := by
  refine BitVec.eq_of_toNat_eq ?_
  have split : w.toNat % 2^lo + w.toNat / 2^lo % 2^len * 2^lo = w.toNat % 2^(lo + len) := by
    rw [pow_add, Nat.mod_mul, Nat.mul_comm (2^lo)]
  rw [setBits_toNat w v h, hv, bits, split, Nat.mod_add_div']

/-- A register written twice with one word. -/
theorem fset_twice {ν : Type} [DecidableEq ν] (d : Nat → ν) (m : FMap ν) (k : Nat) (v : ν) :
    fset d (fset d m k v) k v = fset d m k v := by
  have again : finsert (finsert m k v) k v = finsert m k v := by
    induction m with
    | nil => simp [finsert]
    | cons e m ih =>
      obtain ⟨k', v'⟩ := e
      simp only [finsert]
      split
      · simp [finsert]
      next hk =>
        split
        · simp [finsert]
        next hne => simp [finsert, hk, hne, ih]
  simp only [fset_eq]
  split
  · simp [ferase]
  · exact again

theorem wr_twice (s : Dev) (r : Reg) (w : Word) : (s.wr r w).wr r w = s.wr r w := by
  unfold Dev.wr
  rw [fset_twice]

/-- A field of a register just written, with what it reads, changes nothing. -/
theorem sf_of_wr {s : Dev} {r : Reg} {w : Word} {f : Fld} {v : Nat} (hf : f.reg = r) (h : f.ok) (hv : v % 2^f.len = bits w f.lo f.len) :
    (s.wr r w).sf f v = s.wr r w := by
  rw [Dev.sf, hf, rd_wr_same, setBits_self h hv, wr_twice]

/-- The block `d` is the block `s` with registers written with what they read. -/
structure Dev.Rewritten (s d : Dev) : Prop where
  reads : s.regsBut d []
  only : s.onlyRegs d

theorem rewritten_refl (s : Dev) : s.Rewritten s := ⟨regsBut_refl s _, _, rfl⟩

theorem Dev.Rewritten.trans {s d e : Dev} (h : s.Rewritten d) (h' : d.Rewritten e) : s.Rewritten e := by
  obtain ⟨m, hm⟩ := h.only
  obtain ⟨n, hn⟩ := h'.only
  exact ⟨regsBut_trans h.reads h'.reads, n, by rw [hn, hm]⟩

theorem rewritten_sf (s : Dev) {f : Fld} {v : Nat} (h : f.ok) (hv : v % 2^f.len = s.gf f) : s.Rewritten (s.sf f v) := by
  refine ⟨fun r _ => ?_, _, rfl⟩
  unfold Dev.sf
  rw [setBits_self h hv]
  by_cases hk : r.key = f.reg.key
  · rw [rd_wr_key s _ hk, Dev.rd, Dev.rd, hk]
  · exact rd_wr_ne s _ hk

theorem gf_mod (s : Dev) (f : Fld) : s.gf f % 2^f.len = s.gf f := Nat.mod_eq_of_lt (bits_lt _ _ _)

theorem Dev.Rewritten.gf {s d : Dev} (h : s.Rewritten d) (f : Fld) : d.gf f = s.gf f := regsBut_gf h.reads nofun

theorem Dev.Rewritten.on {s d : Dev} (h : s.Rewritten d) (f : Fld) : d.on f = s.on f := regsBut_on h.reads nofun

theorem Dev.Rewritten.isOn {s d : Dev} (h : s.Rewritten d) (g : Page) : d.isOn g = s.isOn g := congrArg (· == pOn) (h.gf _)

/-- What holds of it is said of the block before the step. -/
theorem Dev.Rewritten.stands {s d : Dev} (h : s.Rewritten d) {p : Dev → Prop} (hp : p d) : ∃ b, s.onlyRegs b ∧ s.regsBut b [] ∧ p b :=
  ⟨d, h.only, h.reads, hp⟩

/-! ### The word of a command that writes one field of SCAN.CTRL (log 6) -/

/-- SCAN.CTRL as it reads with one field written and CLEAR 0. -/
def Dev.ctrlWord (s : Dev) (f : Fld) (v : Nat) : Word := setBits (s.rd R.SCAN_CTRL &&& BitVec.ofNat 32 0x3307) f.lo f.len v

/-- The command's write of its field reaches the scanner. -/
theorem putF_scanCtrl {s : Dev} {q : Requester} (h : s.takes q .scan) (lo len v : Nat) :
    s.putF q ⟨.scan, 0x40, lo, len⟩ v = s.scanCtrl (s.ctrlWord ⟨.scan, 0x40, lo, len⟩ v) := by
  have row : (regRow .scan 0x40).any (fun r => !r.readOnly) = true := by decide
  have read : (s.regRead q .scan 0x40).1 = s.rd R.SCAN_CTRL := by
    obtain ⟨r, hr, -⟩ := (Option.any_eq_true _ _).1 row
    simp only [Dev.regRead, show ¬ 0x40 < 0x40 by decide, if_false, hr, h.2, if_true]
    rfl
  have mask : rwMask .scan 0x40 = 0x3307 := by decide
  have written := putF_effect (f := ⟨.scan, 0x40, lo, len⟩) v h (show ¬ 0x40 < 0x40 by decide) row
    (show shadowedReg .scan 0x40 = false by decide) rfl
  rw [read, mask] at written
  exact written

section
variable {s : Dev} {lo len v lo' len' : Nat} (h : lo + len ≤ 32) (ha : lo' + len' ≤ lo ∨ lo + len ≤ lo')
include h ha

/-- The other fields stand in it as they read. -/
theorem ctrlWord_other (hm : 0x3307 / 2^lo' % 2^len' = 2^len' - 1) :
    bits (s.ctrlWord ⟨.scan, 0x40, lo, len⟩ v) lo' len' = s.gf ⟨.scan, 0x40, lo', len'⟩ := by
  have kept : bits (s.rd R.SCAN_CTRL &&& BitVec.ofNat 32 0x3307) lo' len' = s.gf ⟨.scan, 0x40, lo', len'⟩ := bits_and_on _ _ _ _ hm
  rw [← kept]
  rcases ha with ha | ha
  · exact bits_setBits_below _ v h ha
  · exact bits_setBits_above _ v h ha

/-- CLEAR is 0 in it. -/
theorem ctrlWord_masked (hm : 0x3307 / 2^lo' % 2^len' = 0) : bits (s.ctrlWord ⟨.scan, 0x40, lo, len⟩ v) lo' len' = 0 := by
  have off : bits (s.rd R.SCAN_CTRL &&& BitVec.ofNat 32 0x3307) lo' len' = 0 := bits_and_off _ _ _ _ hm
  rw [← off]
  rcases ha with ha | ha
  · exact bits_setBits_below _ v h ha
  · exact bits_setBits_above _ v h ha

end

/-- The field written holds its value. -/
theorem ctrlWord_same (s : Dev) {lo len : Nat} (v : Nat) (h : lo + len ≤ 32) :
    bits (s.ctrlWord ⟨.scan, 0x40, lo, len⟩ v) lo len = v % 2^len := bits_setBits_same _ v h

/-! ### What a write of SCAN.CTRL does (R230, R234) -/

/-- FAULT_ACTION, FRAME_SRC and SLOW_EN written with what they read. -/
def Dev.ctrlBack (s : Dev) : Dev :=
  ((s.sf F.SCAN_CTRL_FAULT_ACTION (s.gf F.SCAN_CTRL_FAULT_ACTION)).sf F.SCAN_CTRL_FRAME_SRC (s.gf F.SCAN_CTRL_FRAME_SRC)).sf
    F.SCAN_CTRL_SLOW_EN (s.gf F.SCAN_CTRL_SLOW_EN)

theorem ctrlSrc_rewritten (s : Dev) : s.Rewritten
    ((s.sf F.SCAN_CTRL_FAULT_ACTION (s.gf F.SCAN_CTRL_FAULT_ACTION)).sf F.SCAN_CTRL_FRAME_SRC (s.gf F.SCAN_CTRL_FRAME_SRC)) := by
  have action := rewritten_sf s (f := F.SCAN_CTRL_FAULT_ACTION) (Fld.ok_of_le (by decide)) (gf_mod _ _)
  exact action.trans (rewritten_sf _ (Fld.ok_of_le (by decide)) ((gf_mod s _).trans (action.gf _).symm))

theorem ctrlBack_rewritten (s : Dev) : s.Rewritten s.ctrlBack :=
  (ctrlSrc_rewritten s).trans (rewritten_sf _ (Fld.ok_of_le (by decide)) ((gf_mod s _).trans ((ctrlSrc_rewritten s).gf _).symm))

/-- FRAME_EN of a written word acts where it changes. -/
def Dev.frameWrite (b : Dev) (n : Nat) : Dev :=
  if n = b.gf F.SCAN_CTRL_FRAME_EN then b else if n = 1 then b.frameEnSet else b.frameEnClear

/-- FAST_EN of a written word acts. -/
def Dev.fastWrite (b : Dev) (n : Nat) : Dev :=
  if n = 1 then b.fastEnSet else if b.on F.SCAN_CTRL_FAST_EN then b.fastEnClear else b

/-- With the other settings as they read, FRAME_EN, FAST_EN and CLEAR act in this order. -/
theorem scanCtrl_enables {s : Dev} {w : Word} (ha : bits w 12 2 = s.gf F.SCAN_CTRL_FAULT_ACTION) (hs : bits w 8 1 = s.gf F.SCAN_CTRL_FRAME_SRC)
    (hm : bits w 9 1 = s.gf F.SCAN_CTRL_FAST_MODE) (hw : bits w 1 1 = s.gf F.SCAN_CTRL_SLOW_EN) :
    s.scanCtrl w = (let d := (s.ctrlBack.frameWrite (bits w 2 1)).fastWrite (bits w 0 1)
      if bits w 3 1 = 1 then d.scanClear else d) := by
  have mode := (ctrlSrc_rewritten s).gf F.SCAN_CTRL_FAST_MODE
  have slow := (ctrlSrc_rewritten s).gf F.SCAN_CTRL_SLOW_EN
  unfold Dev.scanCtrl
  simp only [ha, hs, hm, hw, mode, slow, if_true]
  rfl

/-! ### FAST_EN and FRAME_EN written with what they read -/

/-- FAST_EN written with what it reads where that is 1. -/
def Dev.fastAgain (d : Dev) : Dev := if d.on F.SCAN_CTRL_FAST_EN then d.sf F.SCAN_CTRL_FAST_EN 1 else d

theorem on_iff {s : Dev} {f : Fld} : s.on f = true ↔ s.gf f = 1 := beq_iff_eq

/-- A one-bit field that is not on reads 0. -/
theorem gf_of_off {s : Dev} {f : Fld} (h1 : f.len = 1) (h : s.on f = false) : s.gf f = 0 := by
  have hlt : s.gf f < 2^f.len := bits_lt _ _ _
  have hne : s.gf f ≠ 1 := fun e => by simp [on_iff.2 e] at h
  rw [h1] at hlt
  omega

theorem fastAgain_rewritten (d : Dev) : d.Rewritten d.fastAgain := by
  unfold Dev.fastAgain
  split
  next h => exact rewritten_sf d (Fld.ok_of_le (by decide)) (on_iff.1 h).symm
  · exact rewritten_refl d

theorem fastWrite_again {d : Dev} {n : Nat} (hn : n = d.gf F.SCAN_CTRL_FAST_EN)
    (h : d.on F.SCAN_CTRL_FAST_EN = false ∨ d.gf F.SCAN_STATUS_STATE ≠ 0) : d.fastWrite n = d.fastAgain := by
  cases he : d.on F.SCAN_CTRL_FAST_EN with
  | false => simp [Dev.fastWrite, Dev.fastAgain, hn, gf_of_off rfl he, he]
  | true =>
    have hst : (d.sb F.SCAN_CTRL_FAST_EN true).gf F.SCAN_STATUS_STATE ≠ 0 := by
      rw [Dev.sb, gf_sf_key _ _ (by decide)]
      exact h.resolve_left (by simp [he])
    rw [Dev.fastWrite, if_pos (hn.trans (on_iff.1 he)), Dev.fastAgain, if_pos he]
    exact if_neg fun h => hst h.1

theorem frameWrite_back {b : Dev} {n : Nat} (hn : n = b.gf F.SCAN_CTRL_FRAME_EN) : b.frameWrite n = b := if_pos hn

/-! ### Writes of one field of SCAN.CTRL -/

section
variable {s : Dev} {q : Requester} (h : s.takes q .scan)
include h

/-- A write of FAST_EN, FRAME_EN or CLEAR. -/
theorem putF_enables {lo : Nat} (hlo : lo = 0 ∨ lo = 2 ∨ lo = 3) (v : Nat) {w : Word} (hw : w = s.ctrlWord ⟨.scan, 0x40, lo, 1⟩ v) :
    s.putF q ⟨.scan, 0x40, lo, 1⟩ v = (let d := (s.ctrlBack.frameWrite (bits w 2 1)).fastWrite (bits w 0 1)
      if bits w 3 1 = 1 then d.scanClear else d) := by
  subst hw
  exact (putF_scanCtrl h lo 1 v).trans (scanCtrl_enables (ctrlWord_other (by omega) (by omega) (by decide))
    (ctrlWord_other (by omega) (by omega) (by decide)) (ctrlWord_other (by omega) (by omega) (by decide))
    (ctrlWord_other (by omega) (by omega) (by decide)))

/-- FRAME_EN stands as it reads, and CLEAR is 0. -/
theorem putF_fastEn (v : Nat) : s.putF q F.SCAN_CTRL_FAST_EN v = s.ctrlBack.fastWrite (v % 2) := by
  rw [putF_enables h (.inl rfl) v rfl, ctrlWord_same _ _ (by decide),
    ctrlWord_other (lo' := 2) (len' := 1) (by decide) (by decide) (by decide),
    ctrlWord_masked (lo' := 3) (len' := 1) (by decide) (by decide) (by decide),
    frameWrite_back ((ctrlBack_rewritten s).gf F.SCAN_CTRL_FRAME_EN).symm]
  rfl

/-- FAST_EN stands as it reads, and CLEAR is 0. -/
theorem putF_frameEn (v : Nat) : s.putF q F.SCAN_CTRL_FRAME_EN v = (s.ctrlBack.frameWrite (v % 2)).fastWrite (s.gf F.SCAN_CTRL_FAST_EN) := by
  rw [putF_enables h (.inr (.inl rfl)) v rfl, ctrlWord_same _ _ (by decide),
    ctrlWord_other (lo' := 0) (len' := 1) (by decide) (by decide) (by decide),
    ctrlWord_masked (lo' := 3) (len' := 1) (by decide) (by decide) (by decide)]
  rfl

/-- Both enables stand as they read. -/
theorem putF_clear : s.putF q F.SCAN_CTRL_CLEAR 1 = (s.ctrlBack.fastWrite (s.gf F.SCAN_CTRL_FAST_EN)).scanClear := by
  rw [putF_enables h (.inr (.inr rfl)) 1 rfl, ctrlWord_same _ _ (by decide),
    ctrlWord_other (lo' := 0) (len' := 1) (by decide) (by decide) (by decide),
    ctrlWord_other (lo' := 2) (len' := 1) (by decide) (by decide) (by decide),
    frameWrite_back ((ctrlBack_rewritten s).gf F.SCAN_CTRL_FRAME_EN).symm]
  rfl

end

/-! ### FAST_EN_SET and FAST_EN_CLEAR (R223, R230) -/

section
variable {s : Dev} {q : Requester} (h : s.takes q .scan)
include h

theorem cmdFastEnSet_eq : s.cmdFastEnSet q = if s.gf F.SCAN_STATUS_STATE = 0 then (s.ctrlBack.sf F.SCAN_CTRL_FAST_EN 1).enterStarting
    else s.ctrlBack.sf F.SCAN_CTRL_FAST_EN 1 := by
  have hst : (s.ctrlBack.sf F.SCAN_CTRL_FAST_EN 1).gf F.SCAN_STATUS_STATE = s.gf F.SCAN_STATUS_STATE :=
    (gf_sf_key _ _ (by decide)).trans ((ctrlBack_rewritten s).gf _)
  have hon : (s.ctrlBack.sf F.SCAN_CTRL_FAST_EN 1).isOn .scan = true := by
    rw [Dev.isOn, Dev.power, gf_sf_key _ _ (by decide), (ctrlBack_rewritten s).gf]
    exact h.2
  have set : s.cmdFastEnSet q = s.ctrlBack.fastEnSet := putF_fastEn h 1
  have acts : s.ctrlBack.fastEnSet = if (s.ctrlBack.sf F.SCAN_CTRL_FAST_EN 1).gf F.SCAN_STATUS_STATE = 0
      ∧ (s.ctrlBack.sf F.SCAN_CTRL_FAST_EN 1).isOn .scan then (s.ctrlBack.sf F.SCAN_CTRL_FAST_EN 1).enterStarting
      else s.ctrlBack.sf F.SCAN_CTRL_FAST_EN 1 := rfl
  rw [set, acts]
  simp only [hst, hon, and_true]

/-- The block once FAST_EN is cleared and the open column has ended. -/
def Dev.fastCleared (b : Dev) : Dev := ((b.sb F.SCAN_CTRL_FAST_EN false).cancelCross).endColumn b.now

omit h in
/-- Clearing FAST_EN leaves STATE and the open frame to be judged as they stood. -/
theorem fastCleared_scanKept (b : Dev) : b.ScanKept b.fastCleared :=
  .comp (endColumn_scanKept _ _) (.comp (cancelCross_scanKept _) ⟨rd_sf_ne b _ (by decide), rfl⟩)

theorem cmdFastEnClear_eq (hf : s.on F.SCAN_CTRL_FAST_EN = true) : s.cmdFastEnClear q = s.ctrlBack.fastEnClear :=
  (putF_fastEn h 0).trans (if_pos (((ctrlBack_rewritten s).on _).trans hf))

end

/-- STATE and the open frame as the block reads before the command. -/
theorem fastCleared_state (s : Dev) : s.ctrlBack.fastCleared.gf F.SCAN_STATUS_STATE = s.gf F.SCAN_STATUS_STATE :=
  (fastCleared_scanKept _).state.trans ((ctrlBack_rewritten s).gf _)

theorem fastCleared_openFrame (s : Dev) : s.ctrlBack.fastCleared.openFrame.isSome = s.openFrame.isSome :=
  (fastCleared_scanKept s.ctrlBack).openFrame

theorem fastCleared_eq (b : Dev) : ((b.sb F.SCAN_CTRL_FAST_EN false).cancelCross).endColumn b.now = b.fastCleared := rfl

/-- In STARTING, in READY and in RUNNING between frames, STOPPING follows. -/
theorem fastEnClear_stops {s : Dev} (hst : s.gf F.SCAN_STATUS_STATE = 1 ∨ s.gf F.SCAN_STATUS_STATE = 2
      ∨ s.gf F.SCAN_STATUS_STATE = 3 ∧ s.openFrame.isSome = false) :
    s.ctrlBack.fastEnClear = s.ctrlBack.fastCleared.enterStopping := by
  rcases hst with hst | hst | ⟨hst, ho⟩
  · simp only [Dev.fastEnClear, fastCleared_eq, fastCleared_state, hst]
  · simp only [Dev.fastEnClear, fastCleared_eq, fastCleared_state, hst]
  · simp only [Dev.fastEnClear, fastCleared_eq, fastCleared_state, hst, fastCleared_openFrame, ho, Bool.false_eq_true, if_false]

/-- Within a frame no more columns begin. -/
theorem fastEnClear_frame {s : Dev} (hst : s.gf F.SCAN_STATUS_STATE = 3) (ho : s.openFrame.isSome = true) :
    s.ctrlBack.fastEnClear = { s.ctrlBack.fastCleared with scan := { s.ctrlBack.fastCleared.scan with noMore := true } } := by
  simp only [Dev.fastEnClear, fastCleared_eq, fastCleared_state, hst, fastCleared_openFrame, ho, if_true]

/-! ### FRAME_EN_SET and FRAME_EN_CLEAR (R220, R221, R230) -/

/-- FAST_EN stands as it reads after what FRAME_EN did. -/
theorem putF_frameEn_again {s d : Dev} {q : Requester} (h : s.takes q .scan) {v : Nat} (hd : s.ctrlBack.frameWrite (v % 2) = d)
    (fast : d.gf F.SCAN_CTRL_FAST_EN = s.gf F.SCAN_CTRL_FAST_EN) (hst : s.on F.SCAN_CTRL_FAST_EN = false ∨ d.gf F.SCAN_STATUS_STATE ≠ 0) :
    s.putF q F.SCAN_CTRL_FRAME_EN v = d.fastAgain := by
  rw [putF_frameEn h, hd]
  refine fastWrite_again fast.symm ?_
  rw [Dev.on, fast]
  exact hst

/-- What FRAME_EN notes where it is set: the moment and, out of RUNNING, that no start is set yet. -/
def ScanX.enabled (x : ScanX) (now : Nat) (run : Bool) : ScanX :=
  { x with enAt := now, lastSched := if run then x.lastSched else none, syncAt := if run then x.syncAt else none }

/-- The block once FRAME_EN is set. -/
def Dev.frameEnabled (b : Dev) : Dev :=
  { b.sf F.SCAN_CTRL_FRAME_EN 1 with scan := b.scan.enabled b.now (decide (b.gf F.SCAN_STATUS_STATE = 3)) }

/-- FAST_EN and FRAME_EN are different bits of CTRL. -/
theorem frameEn_apart_fastEn : F.SCAN_CTRL_FRAME_EN.apart F.SCAN_CTRL_FAST_EN := Fld.apart_of_bits (by decide)

section
variable {s : Dev} {q : Requester} (h : s.takes q .scan)
include h

theorem cmdFrameEnSet_eq (hf : s.on F.SCAN_CTRL_FRAME_EN = false)
    (hst : s.on F.SCAN_CTRL_FAST_EN = false ∨ s.gf F.SCAN_STATUS_STATE ≠ 0) : s.cmdFrameEnSet q = s.ctrlBack.frameEnabled.fastAgain := by
  have back := ctrlBack_rewritten s
  have fast : s.ctrlBack.frameEnabled.gf F.SCAN_CTRL_FAST_EN = s.gf F.SCAN_CTRL_FAST_EN :=
    (gf_sf_of_apart s.ctrlBack 1 frameEn_apart_fastEn).trans (back.gf _)
  have state : s.ctrlBack.frameEnabled.gf F.SCAN_STATUS_STATE = s.gf F.SCAN_STATUS_STATE :=
    (gf_sf_key s.ctrlBack (f := F.SCAN_CTRL_FRAME_EN) 1 (by decide)).trans (back.gf _)
  refine putF_frameEn_again (v := 1) h ?_ fast (state.symm ▸ hst)
  show s.ctrlBack.frameWrite 1 = s.ctrlBack.frameEnabled
  rw [Dev.frameWrite, back.gf, gf_of_off rfl hf, if_neg Nat.one_ne_zero, if_pos rfl]
  exact if_neg (by rw [back.on, hf]; decide)

/-- What the command leaves, out of RUNNING and in it. -/
theorem frameEnSet_effect (hf : s.on F.SCAN_CTRL_FRAME_EN = false) (hst : s.on F.SCAN_CTRL_FAST_EN = false ∨ s.gf F.SCAN_STATUS_STATE ≠ 0) :
    ∃ d, s.cmdFrameEnSet q = d ∧ d.on F.SCAN_CTRL_FRAME_EN = true
      ∧ d.scan = s.scan.enabled s.now (decide (s.gf F.SCAN_STATUS_STATE = 3)) ∧ d.on F.SCAN_CTRL_FAST_EN = s.on F.SCAN_CTRL_FAST_EN
      ∧ s.regsBut d [R.SCAN_CTRL] ∧ ∃ m x, d = { s with regs := m, scan := x } := by
  have back := ctrlBack_rewritten s
  have again := fastAgain_rewritten s.ctrlBack.frameEnabled
  obtain ⟨m, hm⟩ := again.only
  have form : s.ctrlBack.frameEnabled.fastAgain = { s with
      regs := m, scan := s.scan.enabled s.now (decide (s.gf F.SCAN_STATUS_STATE = 3)) } := by
    rw [hm, ← back.gf F.SCAN_STATUS_STATE]
    rfl
  have wrote : s.ctrlBack.regsBut s.ctrlBack.frameEnabled [R.SCAN_CTRL] :=
    regsBut_sf (regsBut_refl s.ctrlBack _) (f := F.SCAN_CTRL_FRAME_EN) 1 (by decide)
  refine ⟨_, cmdFrameEnSet_eq h hf hst, ?_, by rw [form], ?_, ?_, m, _, form⟩
  · exact (again.on _).trans (on_iff.2 (gf_sf_same s.ctrlBack F.SCAN_CTRL_FRAME_EN 1 (Fld.ok_of_le (by decide))))
  · rw [again.on, ← back.on]
    exact congrArg (· == 1) (gf_sf_of_apart s.ctrlBack 1 frameEn_apart_fastEn)
  · exact regsBut_trans (regsBut_trans (regsBut_mono back.reads nofun) wrote) (regsBut_mono again.reads nofun)

/-- FRAME_EN cleared acts, then FAST_EN stands as it reads. -/
theorem cmdFrameEnClear_eq {d : Dev} (hf : s.on F.SCAN_CTRL_FRAME_EN = true) (hd : s.ctrlBack.frameEnClear = d)
    (fast : d.gf F.SCAN_CTRL_FAST_EN = s.gf F.SCAN_CTRL_FAST_EN) (hst : d.gf F.SCAN_STATUS_STATE ≠ 0) : s.cmdFrameEnClear q = d.fastAgain := by
  refine putF_frameEn_again (v := 0) h ?_ fast (.inr hst)
  show s.ctrlBack.frameWrite 0 = d
  rw [Dev.frameWrite, (ctrlBack_rewritten s).gf, on_iff.1 hf, if_neg Nat.zero_ne_one, if_neg Nat.zero_ne_one, hd]

end

/-- STATE and FAST_EN after FRAME_EN is written with 0. -/
theorem frameCleared_state (s : Dev) : (s.ctrlBack.sf F.SCAN_CTRL_FRAME_EN 0).gf F.SCAN_STATUS_STATE = s.gf F.SCAN_STATUS_STATE :=
  (gf_sf_key s.ctrlBack (f := F.SCAN_CTRL_FRAME_EN) 0 (by decide)).trans ((ctrlBack_rewritten s).gf _)

theorem frameCleared_fast (s : Dev) : (s.ctrlBack.sf F.SCAN_CTRL_FRAME_EN 0).gf F.SCAN_CTRL_FAST_EN = s.gf F.SCAN_CTRL_FAST_EN :=
  (gf_sf_of_apart s.ctrlBack 0 frameEn_apart_fastEn).trans ((ctrlBack_rewritten s).gf _)

/-- A write of FAST_EN with what it reads is nothing new after a write of its register. -/
theorem fastAgain_frameCleared (b : Dev) : (b.sf F.SCAN_CTRL_FRAME_EN 0).fastAgain = b.sf F.SCAN_CTRL_FRAME_EN 0 := by
  unfold Dev.fastAgain
  split
  next h =>
    have reads : 1 = bits _ 0 1 := (on_iff.1 h).symm.trans (gf_wr_same b (r := R.SCAN_CTRL) _ rfl)
    exact sf_of_wr rfl (Fld.ok_of_le (by decide)) reads
  · rfl

/-- Within a frame FRAME_EN alone is written. -/
theorem frameEnClear_frame {s : Dev} {q : Requester} (h : s.takes q .scan) (hf : s.on F.SCAN_CTRL_FRAME_EN = true)
    (hst : s.gf F.SCAN_STATUS_STATE = 3) (ho : s.openFrame.isSome = true) : s.cmdFrameEnClear q = s.ctrlBack.sf F.SCAN_CTRL_FRAME_EN 0 := by
  have stays : s.ctrlBack.frameEnClear = s.ctrlBack.sf F.SCAN_CTRL_FRAME_EN 0 := by
    have frame : (s.ctrlBack.sf F.SCAN_CTRL_FRAME_EN 0).openFrame.isNone = false := by
      show s.openFrame.isNone = false
      rw [← Option.not_isSome, ho]
      rfl
    exact if_neg fun hb => Bool.false_ne_true (frame.symm.trans hb.2)
  rw [cmdFrameEnClear_eq h hf stays (frameCleared_fast s) (by rw [frameCleared_state, hst]; decide), fastAgain_frameCleared]

/-- A change of STATE shows the new state. -/
theorem setScanState_state (s : Dev) {v : Nat} (hv : v < 8) : (s.setScanState v).gf F.SCAN_STATUS_STATE = v := by
  unfold Dev.setScanState
  split
  next h => exact h
  · have shown := gf_sf_same s F.SCAN_STATUS_STATE v (Fld.ok_of_le (by decide))
    exact (gf_sf_key _ _ (by decide)).trans (shown.trans (Nat.mod_eq_of_lt hv))

/-- READY is entered from what its registers and its own state say. -/
theorem enterReady_form (s : Dev) :
    ∃ m, s.enterReady = { s with regs := m, scan := { s.scan with readyAt := s.now, lastSched := none, syncAt := none } } :=
  setScanState_form _ 2

theorem enterReady_state (s : Dev) : s.enterReady.gf F.SCAN_STATUS_STATE = 2 := setScanState_state _ (by decide)

/-- Between frames FRAME_EN cleared enters READY. -/
theorem frameEnClear_between {s : Dev} {q : Requester} (h : s.takes q .scan) (hf : s.on F.SCAN_CTRL_FRAME_EN = true)
    (hst : s.gf F.SCAN_STATUS_STATE = 3) (ho : s.openFrame.isNone = true) :
    s.cmdFrameEnClear q = (s.ctrlBack.sf F.SCAN_CTRL_FRAME_EN 0).enterReady.fastAgain := by
  have between : s.ctrlBack.frameEnClear = (s.ctrlBack.sf F.SCAN_CTRL_FRAME_EN 0).enterReady := if_pos ⟨(frameCleared_state s).trans hst, ho⟩
  refine cmdFrameEnClear_eq h hf between ?_ ?_
  · rw [regsBut_gf (enterReady_regsBut _) (by decide), frameCleared_fast]
  · rw [enterReady_state]
    decide

/-- What the command leaves between frames. -/
theorem frameEnClear_effect (s : Dev) : ∃ d, (s.ctrlBack.sf F.SCAN_CTRL_FRAME_EN 0).enterReady.fastAgain = d
      ∧ d.on F.SCAN_CTRL_FRAME_EN = false ∧ d.gf F.SCAN_STATUS_STATE = 2
      ∧ d.scan = { s.scan with readyAt := s.now, lastSched := none, syncAt := none }
      ∧ s.regsBut d [R.SCAN_CTRL, R.SCAN_STATUS, R.IRQ_STATUS .scan] ∧ ∃ m x, d = { s with regs := m, scan := x } := by
  have again := fastAgain_rewritten (s.ctrlBack.sf F.SCAN_CTRL_FRAME_EN 0).enterReady
  have ready := enterReady_regsBut (s.ctrlBack.sf F.SCAN_CTRL_FRAME_EN 0)
  obtain ⟨m, hm⟩ := again.only
  obtain ⟨n, hn⟩ := enterReady_form (s.ctrlBack.sf F.SCAN_CTRL_FRAME_EN 0)
  have form : (s.ctrlBack.sf F.SCAN_CTRL_FRAME_EN 0).enterReady.fastAgain = { s with
      regs := m, scan := { s.scan with readyAt := s.now, lastSched := none, syncAt := none } } := by
    rw [hm, hn]
    rfl
  refine ⟨_, rfl, ?_, ?_, by rw [form], ?_, m, _, form⟩
  · rw [again.on, regsBut_on ready (by decide), Dev.on, gf_sf_same _ _ _ (Fld.ok_of_le (by decide))]
    rfl
  · exact (again.gf _).trans (enterReady_state _)
  · have wrote : s.regsBut (s.ctrlBack.sf F.SCAN_CTRL_FRAME_EN 0) [R.SCAN_CTRL] :=
      regsBut_sf (regsBut_mono (ctrlBack_rewritten s).reads nofun) (f := F.SCAN_CTRL_FRAME_EN) 0 (by decide)
    exact regsBut_trans (regsBut_trans (regsBut_mono wrote (by decide)) (regsBut_mono ready (by decide))) (regsBut_mono again.reads nofun)

/-! ### SCAN_CLEAR (R230) -/

/-- The block as it stands when CLEAR acts in FAULT. -/
theorem cmdScanClear_eq {s : Dev} {q : Requester} (h : s.takes q .scan) (hst : s.gf F.SCAN_STATUS_STATE = 5) :
    s.cmdScanClear q = s.ctrlBack.fastAgain.scanClear := by
  have back := ctrlBack_rewritten s
  have written : s.cmdScanClear q = (s.ctrlBack.fastWrite (s.gf F.SCAN_CTRL_FAST_EN)).scanClear := putF_clear h
  rw [written, fastWrite_again (back.gf _).symm (.inr (by rw [back.gf, hst]; decide))]

theorem ctrlBack_fastAgain_rewritten (s : Dev) : s.Rewritten s.ctrlBack.fastAgain := (ctrlBack_rewritten s).trans (fastAgain_rewritten _)

/-- In FAULT CLEAR is refused while a motion goes on, and else leaves FAULT. -/
theorem scanClear_inFault {b : Dev} (hst : b.gf F.SCAN_STATUS_STATE = 5) : b.scanClear =
    if b.on F.SCAN_STATUS_MOTION_BUSY then b.refuse .scan else if b.on F.SCAN_CTRL_FAST_EN then b.enterStarting else
      { b.setLocked false with scan := { (b.setLocked false).scan with
        safe := false, amp := 0, rampAt := none, sweeping := false } }.setScanState 0 :=
  if_neg (not_not_intro hst)

/-! ### MOTION_DONE (R230, R233) -/

/-- Out of RUNNING a change of FAST_LOCKED writes the status and its event alone. -/
theorem setLocked_regsBut {s : Dev} (v : Bool) (h : s.gf F.SCAN_STATUS_STATE ≠ 3) : s.regsBut (s.setLocked v) scanStateRegs := by
  unfold Dev.setLocked
  split
  · exact regsBut_refl s _
  · have state : ((s.sb F.SCAN_STATUS_FAST_LOCKED v).event E.SCAN_LOCK_CHANGE).gf F.SCAN_STATUS_STATE = s.gf F.SCAN_STATUS_STATE :=
      (gf_sf_key _ _ (by decide)).trans (gf_sf_of_apart s (f := F.SCAN_STATUS_FAST_LOCKED) _ (Fld.apart_of_bits (by decide)))
    rw [if_neg fun hr => h (state.symm.trans hr.2)]
    exact regsBut_sf (f := ⟨.scan, 0x20, E.SCAN_LOCK_CHANGE.bit, 1⟩)
      (regsBut_sf (regsBut_refl s _) (f := F.SCAN_STATUS_FAST_LOCKED) _ (by decide)) 1 (by decide)

/-- A motion that is over: the drive is down and the axes are parked. -/
def Dev.motionOver (s : Dev) : Dev :=
  let d := s.advanceTo s.motionEnd
  { d with scan := { d.scan with amp := 0, rampAt := none, parked := true } }.sf F.SCAN_STATUS_MOTION_BUSY 0

theorem motionOver_state (s : Dev) : s.motionOver.gf F.SCAN_STATUS_STATE = s.gf F.SCAN_STATUS_STATE :=
  (gf_sf_of_apart _ _ (Fld.apart_of_bits (by decide))).trans (advanceTo_gf s _ _)

theorem motionOver_fastEn (s : Dev) : s.motionOver.on F.SCAN_CTRL_FAST_EN = s.on F.SCAN_CTRL_FAST_EN :=
  congrArg (· == 1) ((gf_sf_key _ _ (by decide)).trans (advanceTo_gf s _ _))

/-- In STOPPING OFF follows, and STARTING with FAST_EN. -/
theorem motionDone_stopped {s : Dev} (hb : s.on F.SCAN_STATUS_MOTION_BUSY = true) (hst : s.gf F.SCAN_STATUS_STATE = 4) :
    s.motionDone = if s.on F.SCAN_CTRL_FAST_EN then ((s.motionOver.setLocked false).setScanState 0).enterStarting
      else (s.motionOver.setLocked false).setScanState 0 := by
  have state := motionOver_state s
  have fast : ((s.motionOver.setLocked false).setScanState 0).on F.SCAN_CTRL_FAST_EN = s.on F.SCAN_CTRL_FAST_EN := by
    rw [regsBut_on (setScanState_regsBut _ 0) (by decide), regsBut_on (setLocked_regsBut false (by rw [state, hst]; decide)) (by decide),
      motionOver_fastEn]
  rw [← fast]
  exact (if_neg (by simp [hb])).trans (if_pos (state.trans hst))

theorem motionDone_elsewhere {s : Dev} (hb : s.on F.SCAN_STATUS_MOTION_BUSY = true) (hst : s.gf F.SCAN_STATUS_STATE ≠ 4) :
    s.motionDone = s.motionOver :=
  (if_neg (by simp [hb])).trans (if_neg fun h => hst ((motionOver_state s).symm.trans h))

/-! ### The commands together -/

/-- Settles O26: a command's write acts by what it changes, and the end of a motion by STATE. -/
theorem scanEnables : Obligations.ScanEnables := by
  unfold Obligations.ScanEnables
  refine ⟨?starts, ?sets, ?stops, ?between, ?noMore, ?enables, ?enablesRun, ?leavesRun, ?lastFrame, ?refused, ?restarts, ?off,
    ?stopped, ?again, ?parked⟩
  case starts =>
    exact fun s q h hf hst => (ctrlBack_rewritten s.dev).stands
      (done_eq ((cmdFastEnSet_eq h).trans (if_pos hst)))
  case sets =>
    exact fun s q h hf hst => (ctrlBack_rewritten s.dev).stands
      (done_eq ((cmdFastEnSet_eq h).trans (if_neg hst)))
  case stops =>
    exact fun s q h hf hst => (ctrlBack_rewritten s.dev).stands
      (done_eq ((cmdFastEnClear_eq h hf).trans (fastEnClear_stops (hst.imp_right .inl))))
  case between =>
    exact fun s q h hf hst ho => (ctrlBack_rewritten s.dev).stands
      (done_eq ((cmdFastEnClear_eq h hf).trans (fastEnClear_stops (.inr (.inr ⟨hst, Option.isSome_eq_false_iff.2 ho⟩)))))
  case noMore =>
    exact fun s q h hf hst ho => (ctrlBack_rewritten s.dev).stands
      (done_eq ((cmdFastEnClear_eq h hf).trans (fastEnClear_frame hst ho)))
  case enables =>
    intro s q h hst hf hr
    obtain ⟨d, hd, hframe, hscan, hfast, hregs, hform⟩ := frameEnSet_effect h hf hst
    exact ⟨d, done_eq hd, hframe, by rw [hscan, decide_eq_false hr]; rfl, hfast, hregs, hform⟩
  case enablesRun =>
    intro s q h hf hr
    obtain ⟨d, hd, hframe, hscan, -, hregs, hform⟩ := frameEnSet_effect h hf (.inr (by rw [hr]; decide))
    exact ⟨d, done_eq hd, hframe, by rw [hscan, decide_eq_true hr]; rfl, hregs, hform⟩
  case leavesRun =>
    intro s q h hf hst ho
    obtain ⟨d, hd, effect⟩ := frameEnClear_effect s.dev
    exact ⟨d, done_eq ((frameEnClear_between h hf hst ho).trans hd), effect⟩
  case lastFrame =>
    exact fun s q h hf hst ho => (ctrlBack_rewritten s.dev).stands
      (done_eq (frameEnClear_frame h hf hst ho))
  case refused =>
    intro s q h hst hm
    have b := ctrlBack_fastAgain_rewritten s.dev
    exact b.stands (done_eq ((cmdScanClear_eq h hst).trans ((scanClear_inFault ((b.gf _).trans hst)).trans (if_pos ((b.on _).trans hm)))))
  case restarts =>
    intro s q h hst hm hf
    have b := ctrlBack_fastAgain_rewritten s.dev
    refine b.stands (done_eq ((cmdScanClear_eq h hst).trans ?_))
    rw [scanClear_inFault ((b.gf _).trans hst), b.on, b.on, hm, hf]
    rfl
  case off =>
    intro s q h hst hm hf
    have b := ctrlBack_fastAgain_rewritten s.dev
    refine b.stands (done_eq ((cmdScanClear_eq h hst).trans ?_))
    rw [scanClear_inFault ((b.gf _).trans hst), b.on, b.on, hm, hf]
    rfl
  case stopped =>
    rintro s b hb rfl hst hf
    exact done_eq ((motionDone_stopped hb hst).trans (if_neg (by simp [hf])))
  case again =>
    rintro s b hb rfl hst hf
    exact done_eq ((motionDone_stopped hb hst).trans (if_pos hf))
  case parked =>
    rintro s b hb rfl hst
    exact done_eq (motionDone_elsewhere hb hst)

end Sys2Proof.Machine

/-! ## Frame starts, SYNC0 and flyback (R217, R220 to R225, R230, R235) -/
namespace Sys2Proof.Machine

/-! ### FRAME_START (R220 to R222, R235) -/

/-- READY or RUNNING, as the tests of SYNC0 and of the frame start put it. -/
theorem not_out_of_run {n : Nat} (h : n = 2 ∨ n = 3) : ¬ (n ≠ 2 ∧ n ≠ 3) := by omega

/-- With frames enabled, none open and time running, the next scheduled instant comes. -/
theorem frameStart_comes {s : Dev} {f : Nat} (hen : s.on F.SCAN_CTRL_FRAME_EN = true) (hon : s.isOn .scan = true)
    (hst : s.gf F.SCAN_STATUS_STATE = 2 ∨ s.gf F.SCAN_STATUS_STATE = 3) (ho : s.openFrame = none) (hr : s.running = true)
    (hf : s.frameSync = true ∧ s.scan.syncAt = some f ∨ s.frameSync = false ∧ f = s.freeStart) :
    s.frameStart = (s.advanceTo f).scheduled f := by
  have due : s.frameStart = if s.frameSync then (match s.scan.syncAt with
      | some f => (s.advanceTo f).scheduled f
      | none => s) else (s.advanceTo s.freeStart).scheduled s.freeStart :=
    if_neg (by simp [hen, hon, not_out_of_run hst, ho, hr])
  rcases hf with ⟨hs, hf⟩ | ⟨hs, rfl⟩
  · rw [due, hs, hf]
    rfl
  · rw [due, hs]
    rfl

/-- A scheduled instant that has come, with the frame started or missed: FRAME_SRC acts from then on (R235). -/
def Dev.instantPast (d : Dev) (f : Nat) : Dev :=
  { d with scan := { d.scan with lastSched := some f, syncAt := none, syncLost := false, src := d.on F.SCAN_CTRL_FRAME_SRC } }

theorem scheduled_starts {b : Dev} {f : Nat} (h : b.axesReady = true) : b.scheduled f = (b.startFrame f).instantPast f :=
  congrArg (Dev.instantPast · f) (if_pos h)

theorem scheduled_misses {b : Dev} {f : Nat} (h : b.axesReady = false) :
    b.scheduled f = ((b.inc F.SCAN_SYNC_COUNTS_FRAMES_MISSED).raise C.SCAN_FRAME_DEFERRED).instantPast f :=
  congrArg (Dev.instantPast · f) (if_neg (by simp [h]))

/-! ### SYNC0_EDGE and SYNC_WINDOW_EXPIRY (R221) -/

/-- Under SYNC, in READY or RUNNING, an edge is judged. -/
theorem sync0Edge_judges {s b : Dev} {t : Nat} (hb : b = s.advanceTo t) (hs : b.frameSync = true) (hon : b.isOn .scan = true)
    (hst : b.gf F.SCAN_STATUS_STATE = 2 ∨ b.gf F.SCAN_STATUS_STATE = 3) :
    s.sync0Edge t = if b.edgeSets t then { b with scan := { b.scan with syncAt := some (t + b.gf F.SCAN_SYNC_CFG_DELAY), syncLost := false } }
      else b.inc F.SCAN_SYNC_COUNTS_SYNC_EARLY := by
  subst hb
  rw [advanceTo_gf] at hst
  exact if_neg (by simp [hs, hon, not_out_of_run hst])

/-- A window that no edge has met ends: the frame starts there. -/
theorem syncWindowExpiry_lost {s : Dev} {x : Nat} (hs : s.frameSync = true) (hon : s.isOn .scan = true)
    (hen : s.on F.SCAN_CTRL_FRAME_EN = true) (hst : s.gf F.SCAN_STATUS_STATE = 2 ∨ s.gf F.SCAN_STATUS_STATE = 3)
    (ha : s.scan.syncAt = none) (hx : s.expected = some x) :
    s.syncWindowExpiry =
      let b := (s.advanceTo (x + s.syncWin * 1000)).raise C.SCAN_SYNC_LOST
      { b with scan := { b.scan with syncAt := some (x + s.syncWin * 1000), syncLost := true } } := by
  have open_ : s.syncWindowExpiry = (match s.expected with
      | none => s
      | some x =>
        let f := x + s.syncWin * 1000
        let b := (s.advanceTo f).raise C.SCAN_SYNC_LOST
        { b with scan := { b.scan with syncAt := some f, syncLost := true } }) :=
    if_neg (by simp [hs, hon, hen, not_out_of_run hst, ha])
  rw [open_, hx]

/-! ### FLYBACK (R217, R224, R225, R230) -/

/-- What flyback does once LAST_FRAME is written and a short frame is closed. -/
def Dev.flybackRest (b : Dev) (checks : List CheckResult) : Dev :=
  ((forN 48 (fun i (d : Dev) => d.waveFlyback i) ((b.event E.SCAN_FLYBACK).flybackChecks checks)).slowReturn.flybackState).scanCloseSync

/-- The open frame flies back; one with columns left closes short. -/
theorem flyback_returns {s b : Dev} {f : FrameX} (checks : List CheckResult) (ho : s.openFrame = some f) (hl : f.long = false)
    (hb : b = (((s.advanceTo (f.start + f.active * 1000)).modFrame f.num (fun x => { x with flyback := true })).sf
      F.SCAN_LAST_FRAME_BEGUN f.nb).sf F.SCAN_LAST_FRAME_SUPPRESSED (min 65535 f.suppressed)) :
    s.flyback checks = (if f.nb < f.columns then b.closeShort f else b).flybackRest checks := by
  subst hb
  simp only [Dev.flyback, ho, hl, Bool.false_eq_true, if_false]
  rfl

/-! ### The commands together -/

/-- Settles O27: a frame start by the scheduled instant, an edge by its judgement, flyback by the columns begun. -/
theorem scanFrames : Obligations.ScanFrames := by
  unfold Obligations.ScanFrames
  refine ⟨?starts, ?misses, ?sets, ?early, ?expires, ?full, ?short⟩
  case starts =>
    rintro s f b d hen hon hst ho hr hf rfl ha rfl
    exact done_eq ((frameStart_comes hen hon hst ho hr hf).trans (scheduled_starts ha))
  case misses =>
    rintro s f b d hen hon hst ho hr hf rfl ha rfl
    exact done_eq ((frameStart_comes hen hon hst ho hr hf).trans (scheduled_misses ha))
  case sets => exact fun s t b hb hs hon hst he => done_eq ((sync0Edge_judges hb hs hon hst).trans (if_pos he))
  case early => exact fun s t b hb hs hon hst he => done_eq ((sync0Edge_judges hb hs hon hst).trans (if_neg (by simp [he])))
  case expires =>
    rintro s x f b hs hon hen hst ha hx rfl rfl
    exact done_eq (syncWindowExpiry_lost hs hon hen hst ha hx)
  case full =>
    exact fun s checks f b ho hl hb hc =>
      done_eq ((flyback_returns checks ho hl hb).trans (congrArg (Dev.flybackRest · checks) (if_neg (Nat.not_lt.2 hc))))
  case short =>
    exact fun s checks f b ho hl hb hc =>
      done_eq ((flyback_returns checks ho hl hb).trans (congrArg (Dev.flybackRest · checks) (if_pos hc)))

end Sys2Proof.Machine

/-! ## What a chain posts and how it ends (R289, R292 to R296, R315, R319, R320, R339) -/
namespace Sys2Proof.Machine

/-- A kernel of the owner may post at stage `st`: the chain works on a histogram and stands at that stage. -/
def RunX.OwnerAt (r : RunX) (st : Nat) : Prop := r.sky = false ∧ r.stage = st ∧ st < r.chain.length

/-- Its post is not passed over. -/
theorem RunX.OwnerAt.posts {r : RunX} {st : Nat} (h : r.OwnerAt st) : ¬(r.sky = true ∨ r.stage ≠ st ∨ r.chain.length ≤ st) := by
  obtain ⟨hsky, hst, hlen⟩ := h
  simp [hsky, hst, hlen]

section
variable {s b : Dev} {e : Fin 512} {st : Fin 8} {r : RunX} (hb : b = s.atStage e st) (hr : b.running? e = some r)
include hb hr

/-! ### POST_RECORD (R292, R293) -/

theorem postRecord_standard (w : List Word) (h : r.kern.recs ≠ []) : s.postRecord e st w = b.postKern e r := by
  unfold Dev.postRecord
  rw [← hb]
  simp only [hr, if_pos h]

/-- A post of the owner's kernel is a record, or the trap where four stand. -/
theorem postRecord_owner (w : List Word) (h : r.kern.recs = []) (ho : r.OwnerAt st) :
    s.postRecord e st w = if 4 ≤ r.records.length then b.trap e 4 st else
      b.setRunX e { r with records := r.records ++ [(List.range 4).foldl (fun n i => n + (w.getD i 0#32).toNat * 2^(32 * i)) 0] } := by
  unfold Dev.postRecord
  rw [← hb]
  simp only [hr, h, ne_eq, not_true_eq_false, if_false, if_neg ho.posts]

/-! ### POST_DWELL and POST_CAPTURE (R294, R315, R320, R339) -/

theorem postDwell_standard (w0 w1 : Word) (h : r.kern.dwells ≠ []) : s.postDwell e st w0 w1 = b.dwellKern e r := by
  unfold Dev.postDwell
  rw [← hb]
  simp only [hr, if_pos h]

theorem postDwell_owner (w0 w1 : Word) (h : r.kern.dwells = []) (ho : r.OwnerAt st) :
    s.postDwell e st w0 w1 = b.dwellPost e r w0.toNat w1.toNat := by
  unfold Dev.postDwell
  rw [← hb]
  simp only [hr, h, ne_eq, not_true_eq_false, if_false, if_neg ho.posts]

theorem postCapture_standard (w : List Word) (h : r.kern.caps ≠ []) : s.postCapture e st w = b.capKern e r := by
  unfold Dev.postCapture
  rw [← hb]
  simp only [hr, if_pos h]

theorem postCapture_owner (w : List Word) (h : r.kern.caps = []) (ho : r.OwnerAt st) :
    s.postCapture e st w = b.capPost e r (w.map (·.toNat)) := by
  unfold Dev.postCapture
  rw [← hb]
  simp only [hr, h, ne_eq, not_true_eq_false, if_false, if_neg ho.posts]

/-! ### POST_CONSUMED (R292, R295) -/

/-- The first CONSUMED of a chain on a histogram releases its chunks. -/
theorem postConsumed_releases (hc : r.consumed = false) (hs : r.sky = false) :
    s.postConsumed e st = (b.setRunX e { r with consumed := true }).consume r.id := by
  unfold Dev.postConsumed
  rw [← hb]
  simp only [hr, hc, hs, Bool.false_eq_true, if_false]

/-- A further one releases nothing. -/
theorem postConsumed_again (hc : r.consumed = true) : s.postConsumed e st = b := by
  unfold Dev.postConsumed
  rw [← hb]
  simp only [hr, hc, if_true]

end

/-! ### The next post of a standard kernel (R293, R315, R320) -/

section
variable {r : RunX}

theorem postKern_posts (b : Dev) (e : Nat) {k x : Nat} {xs : List (Nat × Nat)} (h : r.kern.recs = (k, x) :: xs)
    (hl : r.records.length < 4) :
    b.postKern e r = b.setRunX e { r with records := r.records ++ [x], kern := { r.kern with recs := xs } } := by
  simp only [Dev.postKern, h, if_neg (Nat.not_le.2 hl)]

theorem postKern_overflows (b : Dev) (e : Nat) {k x : Nat} {xs : List (Nat × Nat)} (h : r.kern.recs = (k, x) :: xs)
    (hl : 4 ≤ r.records.length) : b.postKern e r = b.trap e 4 k := by
  simp only [Dev.postKern, h, if_pos hl]

theorem dwellKern_posts (b : Dev) (e : Nat) {x y : Nat} {xs : List (Nat × Nat)} (h : r.kern.dwells = (x, y) :: xs) :
    b.dwellKern e r = b.dwellPost e { r with kern := { r.kern with dwells := xs } } x y := by
  simp only [Dev.dwellKern, h]

theorem capKern_posts (b : Dev) (e : Nat) {c : List Nat} {cs : List (List Nat)} (h : r.kern.caps = c :: cs) :
    b.capKern e r = b.capPost e { r with kern := { r.kern with caps := cs } } c := by
  simp only [Dev.capKern, h]

end

theorem foldl_range_four {α : Type} (f : α → Nat → α) (a : α) : (List.range 4).foldl f a = f (f (f (f a 0) 1) 2) 3 := rfl

/-- The four words of a record, the lowest first. -/
theorem record_of_words (w0 w1 w2 w3 : Word) :
    (List.range 4).foldl (fun n i => n + (([w0, w1, w2, w3] : List Word).getD i 0#32).toNat * 2^(32 * i)) 0
      = w0.toNat + w1.toNat * 2^32 + w2.toNat * 2^64 + w3.toNat * 2^96 := by
  rw [foldl_range_four]
  simp

/-! ### POST_ASSERT and CHAIN_END (R289, R292, R293, R296) -/

theorem postAssert_traps {s b : Dev} {e : Fin 512} {st : Fin 8} {r : RunX} (val : Word) (hr : s.running? e = some r)
    (hb : b = (s.runTo e st).postRest e) :
    s.postAssert e st val = (b.trap e 3 st).sf (F.CLU_ENG_STATUS_ASSERT (e.val / 16) (e.val % 16)) (val.toNat % 65536) := by
  simp only [Dev.postAssert, hr, Dev.trapAt, ← hb]

/-- Below the cycle limit a chain runs to its end. -/
theorem chainEnd_below {s : Dev} {e : Fin 512} {cycles : Nat} (h : cycles < s.cycleLim (e.val / 16)) :
    s.chainEnd e cycles = ((s.runTo e 8).postRest e).finishRun e cycles :=
  if_neg (Nat.not_le.2 h)

/-! ### The commands together -/

/-- Settles O31: a post by who posts it, a standard kernel or the owner's, and by the records that stand; CONSUMED by what it finds. -/
theorem enginePosts : Obligations.EnginePosts := by
  unfold Obligations.EnginePosts
  refine ⟨?record, ?ownRecord, ?ownOverflow, ?overflow, ?dwell, ?ownDwell, ?capture, ?ownCapture, ?consumed, ?again, ?assert, ?ends⟩
  case record =>
    exact fun s e st r b w k x xs hb hr h hl =>
      done_eq ((postRecord_standard hb hr w (by simp [h])).trans (postKern_posts b e h hl))
  case ownRecord =>
    intro s e st r b w0 w1 w2 w3 hb hr hsky h _ _ hst hlen hl
    have posted := (postRecord_owner hb hr [w0, w1, w2, w3] h ⟨hsky, hst, hlen⟩).trans (if_neg (Nat.not_le.2 hl))
    rw [record_of_words] at posted
    exact done_eq posted
  case ownOverflow =>
    exact fun s e st r b w hb hr hsky h _ _ hst hlen hl =>
      done_eq ((postRecord_owner hb hr w h ⟨hsky, hst, hlen⟩).trans (if_pos hl))
  case overflow =>
    exact fun s e st r b w k x xs hb hr h hl =>
      done_eq ((postRecord_standard hb hr w (by simp [h])).trans (postKern_overflows b e h hl))
  case dwell =>
    exact fun s e st r b w0 w1 x y xs hb hr h =>
      done_eq ((postDwell_standard hb hr w0 w1 (by simp [h])).trans (dwellKern_posts b e h))
  case ownDwell =>
    exact fun s e st r b w0 w1 hb hr hsky _ h _ hst hlen => done_eq (postDwell_owner hb hr w0 w1 h ⟨hsky, hst, hlen⟩)
  case capture =>
    exact fun s e st r b w c cs hb hr h =>
      done_eq ((postCapture_standard hb hr w (by simp [h])).trans (capKern_posts b e h))
  case ownCapture =>
    exact fun s e st r b w hb hr hsky _ _ h hst hlen => done_eq (postCapture_owner hb hr w h ⟨hsky, hst, hlen⟩)
  case consumed => exact fun s e st r b hb hr hc hs => done_eq (postConsumed_releases hb hr hc hs)
  case again => exact fun s e st r b hb hr hc => done_eq (postConsumed_again hb hr hc)
  case assert => exact fun s e st r b val hr hb => done_eq (postAssert_traps val hr hb)
  case ends => exact fun s e r cycles _ hl => done_eq (chainEnd_below hl)

end Sys2Proof.Machine

/-! ## Traps, blocked kernels, the release of engines, statistics and BAR2 (R286, R289, R290, R296 to R303, R321) -/
namespace Sys2Proof.Machine

/-! ### Traps (R296, R298, R299, R301, R303) -/

/-- What a trap leaves of its engine and its pixel once it is logged: the engine quarantined, the pixel an ENGINE_TRAP gap. -/
def Dev.trapGap (c : Dev) (e stage id : Nat) : Dev :=
  ((c.endRun e ((c.eng e).trapMem stage)).setEngState e 3).histGap id 2 e

section
variable {b c d : Dev} {e cause stage kid : Nat} {r : RunX} (hr : b.running? e = some r) (hs : r.sky = false)
  (hk : kid = r.chain.getD stage 0)
  (hc : c = (b.countCycles (cluOf e) (if cause = 2 then b.cycleLim (cluOf e) else b.elapsedCycles r)).trapLog e cause stage kid)
  (hd : d = c.trapGap e stage r.id)
include hr hs hk hc hd

/-- A trap on a histogram counts against its kernel, or marks its engine as a fault of the hardware. -/
theorem trap_hist : b.trap e cause stage =
    if cause < 5 then
      if (d.countTrap e kid).on (F.CLU_CTRL_AUTO_RELEASE (e / 16)) then (d.countTrap e kid).setEngState e 4 else d.countTrap e kid
    else (d.setEng e { d.eng e with hw := true }).wear 2 e := by
  subst hk hc hd
  simp only [Dev.trap, hr, hs, Bool.false_eq_true, if_false]
  rfl

theorem trap_hardware (h : 5 ≤ cause) : b.trap e cause stage = (d.setEng e { d.eng e with hw := true }).wear 2 e :=
  (trap_hist hr hs hk hc hd).trans (if_neg (Nat.not_lt.2 h))

theorem trap_kernel_held (h : cause < 5) (ha : (d.countTrap e kid).on (F.CLU_CTRL_AUTO_RELEASE (e / 16)) = false) :
    b.trap e cause stage = d.countTrap e kid := by
  rw [trap_hist hr hs hk hc hd, if_pos h, ha]
  rfl

theorem trap_kernel_released (h : cause < 5) (ha : (d.countTrap e kid).on (F.CLU_CTRL_AUTO_RELEASE (e / 16)) = true) :
    b.trap e cause stage = (d.countTrap e kid).setEngState e 4 := by
  rw [trap_hist hr hs hk hc hd, if_pos h, if_pos ha]

end

theorem kernelTrap_eq {s b : Dev} {e : Fin 512} {st : Fin 8} (cause : Fin 7) (hb : b = (s.runTo e st).postRest e) :
    s.kernelTrap e st cause = b.trap e cause st := by
  rw [Dev.kernelTrap, Dev.trapAt, ← hb]

theorem cycleLimit_traps {s b : Dev} {e : Fin 512} {r : RunX} (st : Fin 8) (hr : s.running? e = some r)
    (hb : b = s.advanceTo (r.takenAt + s.cyclesNs (s.cycleLim (e.val / 16)))) :
    s.cycleLimit e st = ((b.runTo e st).postRest e).trap e 2 st := by
  simp only [Dev.cycleLimit, hr, Dev.trapAt, ← hb]

/-! ### Writes of a CLU register (R301, R303, R321) -/

/-- A write that reaches a CLU register. -/
theorem effect_clu (iss : Issue) (s : Dev) (q : Requester) (k : Fin 32) (off : Nat) (w : Word) :
    s.effect iss q (.clu k) off w = s.cluWrite q k off w :=
  congrArg (s.cluWrite q · off w) (Nat.mod_eq_of_lt k.isLt)

section
variable {s : Dev} {q : Requester} {k : Fin 32} {off lo len : Nat} (v : Nat) (h : s.takes q (.clu k)) (ho : ¬off < 0x40)
  (hr : (regRow (.clu 0) off).any (fun r => !r.readOnly) = true) (hs : shadowedReg (.clu 0) off = false)
include h ho hr hs

/-- A command that writes one field of a CLU register that is not shadowed. -/
theorem putF_clu : s.putF q ⟨.clu k, off, lo, len⟩ v =
    s.cluWrite q k off (setBits ((s.regRead q (.clu k) off).1 &&& BitVec.ofNat 32 (rwMask (.clu 0) off)) lo len v) :=
  (putF_effect (f := ⟨.clu k, off, lo, len⟩) v h ho hr hs rfl).trans (effect_clu _ s q k off _)

/-- A register of which no bit is stored takes the field alone. -/
theorem putF_cluAction (hm : rwMask (.clu 0) off = 0) :
    s.putF q ⟨.clu k, off, lo, len⟩ v = s.cluWrite q k off (setBits 0#32 lo len v) := by
  rw [putF_clu v h ho hr hs, hm]
  exact congrArg (fun x => s.cluWrite q k off (setBits x lo len v)) BitVec.and_zero

end

/-- A field that begins at bit 0 holds the word written to it. -/
theorem ofNat_bits_setBits {n : Nat} (hn : n ≤ 32) (v : BitVec n) : BitVec.ofNat n (bits (setBits 0#32 0 n v.toNat) 0 n) = v := by
  rw [bits_setBits_same _ _ (by omega), Nat.mod_eq_of_lt v.isLt, BitVec.ofNat_toNat, BitVec.setWidth_eq]

/-! ### KUNBLOCK (R301, R321) -/

/-- The CLU page through which a register of a region is reached is one of the region's. -/
theorem regionPage_div (s : Dev) (q : Fin 4) : s.regionPage q / 8 = q.val := by
  unfold Dev.regionPage
  split
  next i hi =>
    have : i < 8 := List.mem_range.1 (List.mem_of_find?_eq_some hi)
    omega
  · omega

theorem cmdKunblock_eq {s : Dev} {q : Fin 4} {req : Requester} (id : BitVec 8) (h : s.takes req (.clu (s.regionPage q))) :
    s.cmdKunblock q req id = s.kunblock q req id := by
  obtain ⟨k, hk⟩ : ∃ k : Fin 32, k.val = s.regionPage q := ⟨⟨s.regionPage q, by have := regionPage_div s q; omega⟩, rfl⟩
  have hq : Fin.ofNat 4 (k.val / 8) = q := by
    rw [hk, regionPage_div]
    exact Fin.ofNat_val_eq_self q
  rw [← hk] at h
  have written := putF_cluAction (off := 0x74) (lo := 0) (len := 8) id.toNat h (by decide) (by decide) (by decide) (by decide)
  rw [Dev.cmdKunblock, ← hk]
  refine written.trans ?_
  simp only [Dev.cluWrite, Nat.reduceEqDiff, if_false, if_true, hq, ofNat_bits_setBits (n := 8) (by decide)]

/-- One kernel of the region is unblocked, or with ID 0 all. -/
theorem kunblock_eq (s : Dev) (q : Fin 4) (req : Requester) (id : BitVec 8) :
    s.kunblock q req id = (s.setRegion q { s.region q with
      blocked := if id = 0#8 then [] else (s.region q).blocked.filter (· != id.toNat) }).blockSync q := rfl

/-! ### ENG_RELEASE and the end of a self-test (R303) -/

theorem cmdEngRelease_eq {s : Dev} {k : Fin 32} {req : Requester} (mask : BitVec 16) (h : s.takes req (.clu k)) :
    s.cmdEngRelease k req mask = s.engRelease k req mask := by
  have hk : Fin.ofNat 32 k.val = k := Fin.ofNat_val_eq_self k
  refine (putF_cluAction (off := 0x4C) (lo := 0) (len := 16) mask.toNat h (by decide) (by decide) (by decide) (by decide)).trans ?_
  simp only [Dev.cluWrite, Nat.reduceEqDiff, if_false, if_true, hk, ofNat_bits_setBits (n := 16) (by decide)]

section
variable {s : Dev} {e : Fin 512} (h : s.engState e = 5)
include h

theorem engineSelfTestDone_passed : s.engineSelfTestDone e true =
    ((s.setEng e { s.eng e with hw := false }).setEngState e 1).event (E.CLU_RELEASE_DONE (e.val / 16)) :=
  if_pos h

theorem engineSelfTestDone_failed : s.engineSelfTestDone e false =
    (((s.setEngState e 3).sf (F.CLU_ENG_STATUS_CAUSE (e.val / 16) (e.val % 16)) 7).raise (C.CLU_SELF_TEST_FAIL (e.val / 16))
      (e.val % 16)).wear 2 e :=
  if_pos h

end

/-! ### STATS_CLEAR (R321) -/

theorem getLsbD_eq_bits (w : Word) (i : Nat) : w.getLsbD i = (bits w i 1 == 1) := by
  rw [← bit_toNat, bit_eq_testBit, BitVec.testBit_toNat]

/-- A field set where a mask has no bits leaves the bits of the mask. -/
theorem setBits_off_mask (x m : Word) {lo len : Nat} (v : Nat) (h : lo + len ≤ 32)
    (hm : ∀ i, lo ≤ i → i < lo + len → m.getLsbD i = false) : setBits (x &&& m) lo len v &&& m = x &&& m := by
  refine BitVec.eq_of_getLsbD_eq fun i _ => ?_
  have kept : i < lo ∨ lo + len ≤ i → (setBits (x &&& m) lo len v).getLsbD i = (x &&& m).getLsbD i := fun ha => by
    rw [getLsbD_eq_bits, getLsbD_eq_bits]
    rcases ha with ha | ha
    · rw [bits_setBits_below _ v h (by omega)]
    · rw [bits_setBits_above _ v h ha]
  by_cases hi : lo ≤ i ∧ i < lo + len
  · simp only [BitVec.getLsbD_and, hm i hi.1 hi.2, Bool.and_false]
  · rw [BitVec.getLsbD_and, kept (by omega), BitVec.getLsbD_and, Bool.and_assoc, Bool.and_self]

/-- A register written with what it reads. -/
theorem rewritten_wr (s : Dev) (r : Reg) : s.Rewritten (s.wr r (s.rd r)) := by
  refine ⟨fun x _ => ?_, _, rfl⟩
  by_cases hk : x.key = r.key
  · rw [rd_wr_key s _ hk, Dev.rd, Dev.rd, hk]
  · exact rd_wr_ne s _ hk

/-- The word that STATS_CLEAR writes to a cluster's CTRL: its settings as they read, with STATS_CLEAR set. -/
def statsWord (x : Word) : Word := setBits (x &&& 5#32) 3 1 1

theorem statsWord_clear (x : Word) : bits (statsWord x) 3 1 = 1 := bits_setBits_same _ 1 (by decide)

theorem statsWord_settings (x : Word) : statsWord x &&& 5#32 = x &&& 5#32 :=
  setBits_off_mask x 5#32 1 (by decide) fun i h3 h4 => by
    obtain rfl : i = 3 := by omega
    rfl

/-- The block once STATS_CLEAR has stored CTRL. -/
def Dev.statsStored (s : Dev) (k : Nat) : Dev := s.storeReg (.clu k) 0x40 (statsWord (s.rd (R.CLU_CTRL k)))

theorem statsStored_rewritten (s : Dev) (k : Nat) : s.Rewritten (s.statsStored k) := by
  have same : mergeBits (s.rd (R.CLU_CTRL k)) (statsWord (s.rd (R.CLU_CTRL k))) (rwMask (.clu k) 0x40) = s.rd (R.CLU_CTRL k) :=
    mergeBits_of_and (statsWord_settings _)
  have stored : s.statsStored k = s.wr (R.CLU_CTRL k) (s.rd (R.CLU_CTRL k)) := congrArg (s.wr (R.CLU_CTRL k)) same
  rw [stored]
  exact rewritten_wr s _

theorem regRead_cluCtrl {s : Dev} {q : Requester} {k : Nat} (h : s.takes q (.clu k)) :
    (s.regRead q (.clu k) 0x40).1 = s.rd (R.CLU_CTRL k) := by
  obtain ⟨r, hr⟩ := Option.isSome_iff_exists.1 (show (regRow (.clu 0) 0x40).isSome = true by decide)
  simp only [Dev.regRead, show ¬ 0x40 < 0x40 by decide, if_false, regRow_clu k, hr, h.2, if_true]
  rfl

theorem cmdStatsClear_eq {s : Dev} {k : Fin 32} {q : Requester} (h : s.takes q (.clu k)) :
    s.cmdStatsClear k q = (((s.statsStored k).statsClear k q).engineSync (k.val / 8)).autoRelease k := by
  have hk : Fin.ofNat 32 k.val = k := Fin.ofNat_val_eq_self k
  have mask : rwMask (.clu 0) 0x40 = 5 := by decide
  have written := putF_clu (off := 0x40) (lo := 3) (len := 1) 1 h (by decide) (by decide) (by decide)
  rw [regRead_cluCtrl h, mask] at written
  have clears : s.cluWrite q k 0x40 (statsWord (s.rd (R.CLU_CTRL k)))
      = (((s.statsStored k).statsClear k q).engineSync (k.val / 8)).autoRelease k := by
    simp only [Dev.cluWrite, if_true, statsWord_clear, hk]
    rfl
  exact written.trans clears

/-- Registers are written with 0, one after the other. -/
def Dev.zeroRegs (s : Dev) (l : List Reg) : Dev := l.foldl (fun (s : Dev) r => s.wr r 0#32) s

theorem zeroRegs_rd {s : Dev} {l : List Reg} {r : Reg} (h : s.rd r = 0#32 ∨ r ∈ l) : (s.zeroRegs l).rd r = 0#32 := by
  induction l generalizing s with
  | nil => exact h.resolve_right List.not_mem_nil
  | cons x l ih =>
    refine ih ?_
    by_cases hk : r.key = x.key
    · exact .inl (rd_wr_key s _ hk)
    · rw [rd_wr_ne s _ hk]
      exact h.imp_right fun hm => (List.mem_cons.1 hm).resolve_left fun e => hk (congrArg Reg.key e)

theorem zeroRegs_regsBut (s : Dev) (l : List Reg) : s.regsBut (s.zeroRegs l) l :=
  List.foldlRecOn l _ (motive := (s.regsBut · l)) (regsBut_refl s l) fun _ hd _ hr => regsBut_wr hd _ hr

theorem zeroRegs_onlyRegs (s : Dev) (l : List Reg) : s.onlyRegs (s.zeroRegs l) :=
  List.foldlRecOn l _ (motive := s.onlyRegs) ⟨_, rfl⟩ fun d ⟨m, hd⟩ r _ =>
    ⟨fset regDefault d.regs r.key 0#32, by rw [hd]; rfl⟩

/-- The counters of a cluster that STATS_CLEAR clears. -/
def statsRegs (k : Nat) : List Reg :=
  [R.CLU_CYCLES_MAX k, R.CLU_DISPATCHES k, R.CLU_TRAPS k, R.CLU_DWELL_POSTED k, R.CLU_DWELL_DROPPED k, R.CLU_CAPTURE_POSTED k,
    R.CLU_SHARED_ECC k]

theorem statsClear_eq (s : Dev) (k : Fin 32) (q : Requester) : s.statsClear k q = s.zeroRegs (statsRegs k) := rfl

/-! ### BAR2_ACCESS (R286) -/

section
variable {s : Dev} {off : BitVec 26}

/-- While BAR2 is closed a write is refused. -/
theorem bar2Access_closed_write (w : Word) (h : s.on F.SEC_STATUS_BAR2_CLOSED = true) :
    s.bar2Access off (some w) = s.refuse (.clu (off.toNat / 0x200000)) := by
  simp only [Dev.bar2Access, h, Bool.not_true, Bool.false_eq_true, and_false, if_false]

/-- A read then returns all ones. -/
theorem bar2Access_closed_read (h : s.on F.SEC_STATUS_BAR2_CLOSED = true) :
    s.bar2Access off none = (s.refuse (.clu (off.toNat / 0x200000))).send (.value .pcie 0xFFFFFFFF#32) := by
  simp only [Dev.bar2Access, h, Bool.not_true, Bool.false_eq_true, and_false, if_false]

variable {k i : Nat} (ho : off.toNat = k * 0x200000 + 4 * i) (hi : i < 0x10000) (hr : s.run (.clu k) = rHeld)
  (hc : s.on F.SEC_STATUS_BAR2_CLOSED = false)
include ho hi hr hc

/-- The shared memory of a held cluster is open. -/
theorem bar2Access_shared (write : Option Word) : ∃ dflt, s.bar2Access off write =
    let a := s.memAccess (s.clu k).mem dflt i write
    a.2.setClu k { a.2.clu k with mem := a.1 } := by
  have hk : off.toNat / 0x200000 = k := by omega
  have hm : off.toNat % 0x200000 = 4 * i := by omega
  have hlt : 4 * i < 0x40000 := by omega
  have hw : 4 * i / 4 = i := by omega
  refine ⟨if 0x10000 ≤ 4 * i then (if (s.clu k).clear then some 0#32 else none) else s.deviceWord k i, ?_⟩
  simp only [Dev.bar2Access, hk, hm, hw, hr, hc, hlt, Bool.not_false, and_self, if_true]

theorem bar2Access_writes (w : Word) :
    s.bar2Access off (some w) = s.setClu k { s.clu k with mem := fset mem0 (s.clu k).mem i (some w) } :=
  (bar2Access_shared ho hi hr hc (some w)).choose_spec

/-- A word that is known is returned. -/
theorem bar2Access_reads {w : Word} (hm : fget mem0 (s.clu k).mem i = some w) :
    s.bar2Access off none = (s.send (.value .pcie w)).setClu k (s.clu k) := by
  obtain ⟨dflt, h⟩ := bar2Access_shared ho hi hr hc none
  rw [h]
  simp only [Dev.memAccess, hm]
  rfl

end

/-! ### The commands together -/

/-- Settles O32: a trap by its class and AUTO_RELEASE, a write by its register, a self-test by its outcome, BAR2 by its gate. -/
theorem engineTraps : Obligations.EngineTraps := by
  unfold Obligations.EngineTraps
  refine ⟨?hardware, ?kernel, ?released, ?limit, ?unblock, ?unblockAll, ?release, ?passed, ?failed, ?stats, ?bar2Write, ?bar2Read,
    ?closedRead, ?closedWrite⟩
  case hardware =>
    exact fun s e st cause r kid b c d hb hr hs hk hc hd h =>
      done_eq ((kernelTrap_eq cause hb).trans (trap_hardware hr hs hk hc hd h))
  case kernel =>
    exact fun s e st cause r kid b c d hb hr hs hk hc hd h ha =>
      done_eq ((kernelTrap_eq cause hb).trans (trap_kernel_held hr hs hk hc hd h ha))
  case released =>
    exact fun s e st cause r kid b c d hb hr hs hk hc hd h ha =>
      done_eq ((kernelTrap_eq cause hb).trans (trap_kernel_released hr hs hk hc hd h ha))
  case limit => exact fun s e st r b hr hb => done_eq (cycleLimit_traps st hr hb)
  case unblock =>
    intro s q req id h hid
    have one := (cmdKunblock_eq id h).trans (kunblock_eq s.dev q req id)
    rw [if_neg hid] at one
    exact done_eq one
  case unblockAll => exact fun s q req h => done_eq (cmdKunblock_eq 0#8 h)
  case release => exact fun s k req mask h => done_eq (cmdEngRelease_eq mask h)
  case passed => exact fun s e h => done_eq (engineSelfTestDone_passed h)
  case failed => exact fun s e h => done_eq (engineSelfTestDone_failed h)
  case stats =>
    intro s k req h
    have stored := statsStored_rewritten s.dev k
    have cleared := (cmdStatsClear_eq h).trans
      (congrArg (fun d => (Dev.engineSync d (k.val / 8)).autoRelease k) (statsClear_eq (s.dev.statsStored k) k req))
    exact ⟨_, _, stored.only, stored.reads, done_eq cleared, fun _ hr => zeroRegs_rd (.inr hr), zeroRegs_regsBut _ _,
      zeroRegs_onlyRegs _ _⟩
  case bar2Write => exact fun s k off i w ho hi hr hc => done_eq (bar2Access_writes ho hi hr hc w)
  case bar2Read => exact fun s k off i w ho hi hr hc hm => done_eq (bar2Access_reads ho hi hr hc hm)
  case closedRead => exact fun s off h => done_eq (bar2Access_closed_read h)
  case closedWrite => exact fun s off w h => done_eq (bar2Access_closed_write w h)

end Sys2Proof.Machine

/-! ## Captures of a digitiser, the host's requests and their delivery (R325, R331, R332, R336 to R341, R393) -/
namespace Sys2Proof.Machine

/-! ### CAPTURE_WRITTEN and CAL_IDLE_CAPTURE (R325, R331, R336, R337, R340 to R342) -/

/-- Where a capture goes once it is written, by its source. -/
def Dev.placeCapture (b : Dev) (bay : Nat) (c : CaptureX) (vs : List Int) (n : Nat) : Dev :=
  let written : CaptureX := { c with samples := vs, overrange := min 65535 n, written := true }
  if c.source = srcHalo then
    (b.wr (R.BAY_WAVE_HALO bay) (BitVec.ofNat 32 (ofSigned 16 (peakOf vs).2 * 65536 + (peakOf vs).1))).freeChunks bay c.cls
      c.floorServed c.chunks
  else if c.source = srcHost then b.setWave bay { b.wave bay with hostCap := some written }
  else if c.source = srcCal then
    (b.setWave bay { b.wave bay with calCaps := (b.wave bay).calCaps + 1 }).freeChunks bay c.cls c.floorServed c.chunks
  else b.fillCapture bay written

/-- The oldest capture, not lost, is counted with its clipped codes and goes where its source says. -/
theorem captureWritten_places {s a b : Dev} {bay : Fin 48} {samples : List Int} {c : CaptureX} {rest : List CaptureX}
    {code : Nat → Int} {vs : List Int} {n : Nat} (hw : (s.wave bay).inFlight = c :: rest) (hl : c.lost = false)
    (hcode : code = fun i => max (-512) (min 511 (samples.getD i 0))) (ha : a = s.advanceTo ((c.gEnd + 4) / 5))
    (hvs : vs = (List.range c.len).map fun i =>
      let x := a.slice bay (a.phaseSlice bay ((c.g0 + i) % 4))
      stored (if x.valid then x.force else {}) (code i))
    (hn : n = ((List.range c.len).filter fun i => code i == -512 || code i == 511).length)
    (hb : b = ((a.setWave bay { s.wave bay with inFlight := rest }).inc (F.BAY_OVERRANGE_COUNT bay) n).inc (F.BAY_CAPTURES_COUNT bay)) :
    s.captureWritten bay samples = b.placeCapture bay c vs n := by
  subst hb hn hvs ha hcode
  have kept : ¬c.lost = true := by simp [hl]
  unfold Dev.captureWritten
  simp only [hw]
  exact if_neg kept

section
variable (b : Dev) (bay : Nat) {c : CaptureX} (vs : List Int) (n : Nat)

theorem placeCapture_halo (h : c.source = srcHalo) : b.placeCapture bay c vs n =
    (b.wr (R.BAY_WAVE_HALO bay) (BitVec.ofNat 32 (ofSigned 16 (peakOf vs).2 * 65536 + (peakOf vs).1))).freeChunks bay c.cls
      c.floorServed c.chunks :=
  if_pos h

theorem placeCapture_host (h : c.source = srcHost) : b.placeCapture bay c vs n =
    b.setWave bay { b.wave bay with hostCap := some { c with samples := vs, overrange := min 65535 n, written := true } } := by
  unfold Dev.placeCapture
  rw [if_neg (by rw [h]; decide), if_pos h]

theorem placeCapture_cal (h : c.source = srcCal) : b.placeCapture bay c vs n =
    (b.setWave bay { b.wave bay with calCaps := (b.wave bay).calCaps + 1 }).freeChunks bay c.cls c.floorServed c.chunks := by
  unfold Dev.placeCapture
  rw [if_neg (by rw [h]; decide), if_neg (by rw [h]; decide), if_pos h]

/-- A capture of the rotation or of an engine stands in its histogram. -/
theorem placeCapture_linked (h : c.source = srcRotation ∨ c.source = srcEngine) : b.placeCapture bay c vs n =
    b.fillCapture bay { c with samples := vs, overrange := min 65535 n, written := true } := by
  have other : ∀ x, x = srcHalo ∨ x = srcHost ∨ x = srcCal → c.source ≠ x := by
    rintro x (rfl | rfl | rfl) <;> rcases h with h | h <;> rw [h] <;> decide
  unfold Dev.placeCapture
  rw [if_neg (other _ (.inl rfl)), if_neg (other _ (.inr (.inl rfl))), if_neg (other _ (.inr (.inr rfl)))]

end

theorem calIdleCapture_takes {s b : Dev} {bay : Fin 48} (hst : s.waveState bay = 2)
    (hcal : s.on (F.BAY_WAVE_STATUS_CAL_BUSY bay) = true) (hw : (s.wave bay).inFlight = [])
    (hb : b = s.advanceTo ((s.wave bay).calAt + 2000)) :
    s.calIdleCapture bay = (b.takeCapture bay { source := srcCal, ch := 0, start := 0, len := 2048 } b.tick
      (b.gf F.SCAN_FRAME_NUM_FRAME) 0 0 2).2 := by
  subst hb
  exact if_pos ⟨hst, hcal, by rw [hw]; rfl⟩

/-! ### WAVE_HOST_GO (R332, R340) -/

theorem bay_key (b off : Nat) : Reg.key ⟨.bay b, off⟩ = (128 + b % 48) * 4096 + off := rfl

/-- Registers of a bay at different offsets are different. -/
theorem bay_key_ne (b : Nat) {o p : Nat} (h : o ≠ p) : Reg.key ⟨.bay b, o⟩ ≠ Reg.key ⟨.bay b, p⟩ := by
  rw [bay_key, bay_key]
  exact fun e => h (Nat.add_left_cancel e)

/-- A field of a bay stands where a field at another offset is written. -/
theorem gf_sf_bay (s : Dev) (b : Nat) {off off' : Nat} (lo len v lo' len' : Nat) (h : off' ≠ off) :
    (s.sf ⟨.bay b, off, lo, len⟩ v).gf ⟨.bay b, off', lo', len'⟩ = s.gf ⟨.bay b, off', lo', len'⟩ :=
  gf_sf_key s v (bay_key_ne b h)

/-- A write that reaches a register of a bay. -/
theorem effect_bay (iss : Issue) (s : Dev) (q : Requester) (b : Fin 48) (off : Nat) (w : Word) :
    s.effect iss q (.bay b) off w = s.bayWrite q b off w :=
  congrArg (s.bayWrite q · off w) (Nat.mod_eq_of_lt b.isLt)

/-- A write of a register of a bay that is neither shadowed nor held. -/
theorem regWrite_bay {s : Dev} {q : Requester} {bay : Fin 48} {off : Nat} (w : Word) (h : s.takes q (.bay bay)) (ho : ¬off < 0x40)
    (hr : (regRow (.bay 0) off).any (fun r => !r.readOnly) = true) (hs : shadowedReg (.bay 0) off = false)
    (hw : s.waveOff (.bay bay) off = false) : s.regWrite q (.bay bay) off w = s.bayWrite q bay off w :=
  (regWrite_effect w h ho hr hs hw).trans (effect_bay _ s q bay off w)

/-- A digitiser that is ON holds no write. -/
theorem waveOff_of_on {s : Dev} {b : Nat} (off : Nat) (h : s.waveState b = 2) : s.waveOff (.bay b) off = false := by
  simp only [Dev.waveOff, h, bne_self_eq_false, Bool.and_false]

/-- GO written to the host's request of a digitiser that is ON. -/
theorem cmdWaveHostGo_eq {s : Dev} {bay : Fin 48} {q : Requester} (data : Word) (h : s.takes q (.bay bay))
    (hst : s.waveState bay = 2) : s.cmdWaveHostGo bay q data = s.hostGo bay (setBits data 31 1 1) := by
  have go : bits (setBits data 31 1 1) 31 1 = 1 := bits_setBits_same _ 1 (by decide)
  refine (regWrite_bay _ h (by decide) (by decide) (by decide) (waveOff_of_on 0x314 hst)).trans ?_
  simp only [Dev.bayWrite, Dev.hostReq1, go, Nat.reduceEqDiff, if_false, if_true]

theorem hostGo_refused {s : Dev} {b : Nat} (w : Word) (h : (s.wave b).hostBusy = true ∨ s.streamState ≠ 1) :
    s.hostGo b w = s.refuse (.bay b) := if_pos h

/-- A request of a channel that is ACTIVE joins fewer than four. -/
theorem urgent_joins {s : Dev} {b : Nat} {c : CaptureX} (hn : (s.wave b).urgent.length < 4) (ha : s.chActive b c.ch = true)
    (hl : c.len ≠ 0) : (s.urgent b c (b / 12) false).2 =
      s.setWave b { s.wave b with urgent := (s.wave b).urgent ++ [{ c with arrived := s.now }] } := by
  unfold Dev.urgent
  rw [if_neg]
  simp [ha, hl, hn]

/-- The block with CH and LEN of the host's request. -/
def Dev.hostAsked (s : Dev) (b ch len : Nat) : Dev := (s.sf (F.BAY_WAVE_HOST_REQ1_CH b) ch).sf (F.BAY_WAVE_HOST_REQ1_LEN b) len

/-- They lie in WAVE_HOST_REQ1 alone. -/
theorem hostAsked_gf (s : Dev) (b ch n : Nat) {off : Nat} (lo len : Nat) (h : off ≠ 0x314) :
    (s.hostAsked b ch n).gf ⟨.bay b, off, lo, len⟩ = s.gf ⟨.bay b, off, lo, len⟩ :=
  (gf_sf_bay _ b 0 11 n lo len h).trans (gf_sf_bay s b 27 3 ch lo len h)

theorem hostAsked_chActive (s : Dev) (b ch n c : Nat) : (s.hostAsked b ch n).chActive b c = s.chActive b c :=
  congrArg (· == 0) (hostAsked_gf (off := 0x108 + 0x20 * c) s b ch n 29 3 (by omega))

/-- The host's request, its capture placed at `start`. -/
def hostRequest (ch start n : Nat) : CaptureX := { source := srcHost, ch := ch, start := start, len := n + 1 }

/-- The host's request is pending with where its capture lies. -/
theorem hostGo_asks {s : Dev} {b ch n : Nat} {w : Word} (hb : (s.wave b).hostBusy = false) (hs : s.streamState = 1)
    (hl : (s.wave b).urgent.length < 4) (ha : s.chActive b ch = true) (hch : bits w 27 3 = ch) (hn : bits w 0 11 = n)
    (hd : bits w 30 1 = 0) : s.hostGo b w = (s.hostAsked b ch n).setWave b { s.wave b with urgent := (s.wave b).urgent ++
      [{ hostRequest ch (s.gf (F.BAY_WAVE_HOST_REQ0_START b)) n with arrived := s.now }] } := by
  have free : ¬((s.wave b).hostBusy = true ∨ s.streamState ≠ 1) := by simp [hb, hs]
  have start : (s.hostAsked b ch n).gf (F.BAY_WAVE_HOST_REQ0_START b) = s.gf (F.BAY_WAVE_HOST_REQ0_START b) :=
    hostAsked_gf s b ch n 0 21 (by decide)
  have joined := urgent_joins (s := s.hostAsked b ch n) (b := b) (c := hostRequest ch (s.gf (F.BAY_WAVE_HOST_REQ0_START b)) n) hl
    ((hostAsked_chActive s b ch n ch).trans ha) (Nat.succ_ne_zero _)
  rw [← start] at joined ⊢
  simp only [Dev.hostGo, if_neg free, hd, hch, hn, Nat.zero_ne_one, if_false]
  exact joined

/-! ### HOST_CAPTURE_DELIVERED (R340, R393, R394) -/

/-- The capture is delivered where its packets have room, and waits elsewhere. -/
theorem hostCaptureDelivered_by_room {s : Dev} {bay : Fin 48} {c : CaptureX} {ps : List (Nat × List Nat)} {room : Bool}
    (hc : (s.wave bay).hostCap = some c) (hp : ps = s.hostSlices bay c)
    (hr : s.stream.hasRoom kSnapshot (ps.foldl (fun n p => n + 32 + (p.2.length + 15) / 16 * 16) 0) = room) :
    s.hostCaptureDelivered bay = if room then s.hostDeliver bay c else s := by
  subst hp hr
  simp only [Dev.hostCaptureDelivered, hc]

/-! ### The commands together -/

/-- Settles O33: a written capture by its source, the host's request by what stands against it, a delivery by the room it has. -/
theorem waveCaptures : Obligations.WaveCaptures := by
  unfold Obligations.WaveCaptures
  refine ⟨?halo, ?host, ?cal, ?linked, ?idle, ?busy, ?stopped, ?asks, ?delivers, ?waits⟩
  case halo =>
    exact fun s bay samples c rest code vs n a b hw hl hcode ha hvs hn hb h =>
      done_eq ((captureWritten_places hw hl hcode ha hvs hn hb).trans (placeCapture_halo b bay vs n h))
  case host =>
    exact fun s bay samples c rest code vs n a b hw hl hcode ha hvs hn hb h =>
      done_eq ((captureWritten_places hw hl hcode ha hvs hn hb).trans (placeCapture_host b bay vs n h))
  case cal =>
    exact fun s bay samples c rest code vs n a b hw hl hcode ha hvs hn hb h =>
      done_eq ((captureWritten_places hw hl hcode ha hvs hn hb).trans (placeCapture_cal b bay vs n h))
  case linked =>
    exact fun s bay samples c rest code vs n a b hw hl hcode ha hvs hn hb h =>
      done_eq ((captureWritten_places hw hl hcode ha hvs hn hb).trans (placeCapture_linked b bay vs n h))
  case idle => exact fun s bay b hst hcal hw hb => done_eq (calIdleCapture_takes hst hcal hw hb)
  case busy =>
    exact fun s bay q data h hst hb => done_eq ((cmdWaveHostGo_eq data h hst).trans (hostGo_refused _ (.inl hb)))
  case stopped =>
    exact fun s bay q data h hst hs => done_eq ((cmdWaveHostGo_eq data h hst).trans (hostGo_refused _ (.inr hs)))
  case asks =>
    rintro s bay q data c b h hst hb hs hn ha hd rfl rfl
    have ch : bits (setBits data 31 1 1) 27 3 = bits data 27 3 := bits_setBits_below _ _ (by decide) (by decide)
    have len : bits (setBits data 31 1 1) 0 11 = bits data 0 11 := bits_setBits_below _ _ (by decide) (by decide)
    have done : bits (setBits data 31 1 1) 30 1 = bits data 30 1 := bits_setBits_below _ _ (by decide) (by decide)
    exact done_eq ((cmdWaveHostGo_eq data h hst).trans (hostGo_asks hb hs hn ha ch len (done.trans hd)))
  case delivers =>
    rintro s bay c ps total hc hp rfl hr
    subst hp
    exact done_eq (hostCaptureDelivered_by_room hc rfl hr)
  case waits => exact fun s bay c ps hc hp hr => done_eq (hostCaptureDelivered_by_room hc hp hr)

end Sys2Proof.Machine

/-! ## The digitiser's own power (R328, R333, R344 to R346) -/
namespace Sys2Proof.Machine

/-! ### The word written to WAVE_CTRL (R22, R344) -/

/-- A mask that has no bit of a field does not see it written. -/
theorem setBits_and_off (x m : Word) {lo len : Nat} (v : Nat) (h : lo + len ≤ 32)
    (hm : ∀ i, lo ≤ i → i < lo + len → m.getLsbD i = false) : setBits x lo len v &&& m = x &&& m := by
  refine BitVec.eq_of_getLsbD_eq fun i _ => ?_
  rw [BitVec.getLsbD_and, BitVec.getLsbD_and]
  by_cases hi : lo ≤ i ∧ i < lo + len
  · rw [hm i hi.1 hi.2, Bool.and_false, Bool.and_false]
  · have other : bits (setBits x lo len v) i 1 = bits x i 1 := by
      rcases not_and_or.1 hi with ha | ha
      · exact bits_setBits_below _ v h (by omega)
      · exact bits_setBits_above _ v h (by omega)
    rw [getLsbD_eq_bits (setBits x lo len v), other, ← getLsbD_eq_bits]

/-- The word that a command writes to a digitiser's CTRL: its settings as they read, with EN. -/
def enWord (x : Word) (v : Nat) : Word := setBits (x &&& 7#32) 0 1 v

theorem enWord_en (x : Word) (v : Nat) : bits (enWord x v) 0 1 = v % 2 := bits_setBits_same _ v (by decide)

/-- ROT_EN and HALO_CAP stand in it as they read. -/
theorem enWord_settings (x : Word) (v : Nat) : enWord x v &&& 6#32 = x &&& 6#32 := by
  have written := setBits_and_off (x &&& 7#32) 6#32 v (lo := 0) (len := 1) (by decide) fun i _ hi => by
    obtain rfl : i = 0 := by omega
    rfl
  rw [enWord, written, BitVec.and_assoc]
  rfl

/-- With no write held, CTRL reads as it stands. -/
theorem regRead_waveCtrl {s : Dev} {q : Requester} {b : Nat} (h : s.takes q (.bay b)) (hh : (s.wave b).held = []) :
    (s.regRead q (.bay b) 0x300).1 = s.rd (R.BAY_WAVE_CTRL b) := by
  obtain ⟨r, hr⟩ := Option.isSome_iff_exists.1 (show (regRow (.bay 0) 0x300).isSome = true by decide)
  have unheld : s.waveHeld (.bay b) 0x300 = none := by simp only [Dev.waveHeld, hh, List.find?_nil, Option.map_none]
  simp only [Dev.regRead, show ¬ 0x300 < 0x40 by decide, if_false, regRow_bay b, hr, h.2, if_true, unheld]
  rfl

/-- The block once ROT_EN and HALO_CAP are stored as they read. -/
def Dev.waveStored (s : Dev) (b v : Nat) : Dev :=
  s.wr (R.BAY_WAVE_CTRL b) (mergeBits (s.rd (R.BAY_WAVE_CTRL b)) (enWord (s.rd (R.BAY_WAVE_CTRL b)) v) 6)

theorem waveStored_rewritten (s : Dev) (b v : Nat) : s.Rewritten (s.waveStored b v) := by
  unfold Dev.waveStored
  rw [mergeBits_of_and (enWord_settings _ v)]
  exact rewritten_wr s _

/-! ### What a change of EN does (R344) -/

section
variable {s : Dev} {bay : Fin 48} (q : Requester) {w : Word}

theorem waveEn_clears (hen : s.on (F.BAY_WAVE_CTRL_EN bay) = true) (hw : bits w 0 1 = 0) :
    s.waveEn q bay w = s.waveDisable bay q := by
  simp only [Dev.waveEn, hw, on_iff.1 hen, Nat.zero_ne_one, if_false, Fin.ofNat_val_eq_self]

theorem waveEn_sets (hen : s.on (F.BAY_WAVE_CTRL_EN bay) = false) (hw : bits w 0 1 = 1) :
    s.waveEn q bay w = s.waveEnable bay q := by
  have reads : s.gf (F.BAY_WAVE_CTRL_EN bay) = 0 := gf_of_off rfl hen
  simp only [Dev.waveEn, hw, reads, Nat.one_ne_zero, if_false, if_true, Fin.ofNat_val_eq_self]

/-- A digitiser that is ON drops its urgent requests and drains. -/
theorem waveDisable_drains (hst : s.waveState bay = 2) : s.waveDisable bay q = (
    let d := s.sf (F.BAY_WAVE_CTRL_EN bay) 0
    ((d.setWave bay { d.wave bay with urgent := [], offPend := false }).inc (F.BAY_URGENT_DROPPED_COUNT bay)
      (s.wave bay).urgent.length).setWaveState bay 3) :=
  if_pos ((gf_sf_bay s bay 0 1 0 29 3 (by decide)).trans hst)

/-- A digitiser that is OFF wakes in a bay that is ON and not paused. -/
theorem waveEnable_wakes (hon : s.isOn (.bay bay) = true) (hr : s.run (.bay bay) ≠ rPaused) (hst : s.waveState bay = 0) :
    s.waveEnable bay q = (s.sf (F.BAY_WAVE_CTRL_EN bay) 1).setWaveState bay 1 := by
  have power : (s.sf (F.BAY_WAVE_CTRL_EN bay) 1).power (.bay bay) = s.power (.bay bay) := gf_sf_bay s bay 0 1 1 0 3 (by decide)
  have run : (s.sf (F.BAY_WAVE_CTRL_EN bay) 1).run (.bay bay) = s.run (.bay bay) := gf_sf_bay s bay 0 1 1 4 3 (by decide)
  have state : (s.sf (F.BAY_WAVE_CTRL_EN bay) 1).waveState bay = s.waveState bay := gf_sf_bay s bay 0 1 1 29 3 (by decide)
  have works : (s.sf (F.BAY_WAVE_CTRL_EN bay) 1).isOn (.bay bay) = true ∧ (s.sf (F.BAY_WAVE_CTRL_EN bay) 1).run (.bay bay) ≠ rPaused :=
    ⟨by rw [Dev.isOn, power]; exact hon, by rw [run]; exact hr⟩
  exact (if_pos works).trans (if_pos (state.trans hst))

end

/-! ### WAVE_DISABLE and WAVE_ENABLE (R344) -/

section
variable {s : Dev} {bay : Fin 48} {q : Requester} (h : s.takes q (.bay bay))
include h

/-- The command clears EN of a digitiser that is ON. -/
theorem cmdWaveDisable_eq (hst : s.waveState bay = 2) (hen : s.on (F.BAY_WAVE_CTRL_EN bay) = true) (hh : (s.wave bay).held = []) :
    s.cmdWaveDisable bay q = ((s.waveStored bay 0).waveDisable bay q).pointerSync bay := by
  have mask : rwMask (.bay 0) 0x300 = 7 := by decide
  have written := regWrite_bay (enWord (s.rd (R.BAY_WAVE_CTRL bay)) 0) h (by decide) (by decide) (by decide) (waveOff_of_on 0x300 hst)
  have clears := waveEn_clears q (((waveStored_rewritten s bay 0).on _).trans hen) (enWord_en (s.rd (R.BAY_WAVE_CTRL bay)) 0)
  rw [Dev.cmdWaveDisable, Dev.putF, regRead_waveCtrl h hh, rwMask_bay, mask, ← clears]
  exact written

/-- A write of CTRL of a digitiser that is not ON acts on EN and is held. -/
theorem regWrite_waveCtrl_held (hst : s.waveState bay ≠ 2) (w : Word) :
    s.regWrite q (.bay bay) 0x300 w = (s.waveEn q bay w).holdWave bay 0x300 w q := by
  obtain ⟨r, hr, hro⟩ := (Option.any_eq_true _ _).1 (show (regRow (.bay 0) 0x300).any (fun r => !r.readOnly) = true by decide)
  rw [Bool.not_eq_true'] at hro
  have waves : waveReg 0x300 = true := by decide
  have off : s.waveOff (.bay bay) 0x300 = true := by simp only [Dev.waveOff, waves, bne_iff_ne.2 hst, Bool.and_self]
  rw [regWrite_page w h.1 (by decide)]
  simp only [Dev.pageWrite, regRow_bay bay, hr, hro, h.2, Dev.apply_, off, Bool.false_eq_true, false_and, if_false, if_true]
  rfl

/-- The command sets EN of such a digitiser. -/
theorem cmdWaveEnable_held (hst : s.waveState bay ≠ 2) (hen : s.on (F.BAY_WAVE_CTRL_EN bay) = false) :
    ∃ w, bits w 0 1 = 1 ∧ s.cmdWaveEnable bay q = (s.waveEnable bay q).holdWave bay 0x300 w q := by
  have en (x : Word) : bits (setBits x 0 1 1) 0 1 = 1 := bits_setBits_same x 1 (by decide)
  have sets (w : Word) (hw : bits w 0 1 = 1) : s.regWrite q (.bay bay) 0x300 w = (s.waveEnable bay q).holdWave bay 0x300 w q := by
    rw [regWrite_waveCtrl_held h hst, waveEn_sets q hen hw]
  exact ⟨_, en _, sets _ (en _)⟩

end

/-! ### WAVE_DRAIN_COMPLETE and WAVE_WAKE_COMPLETE (R328, R344) -/

/-- The drain ends in OFF, or in WAKING where a re-enable is pending. -/
theorem waveDrainComplete_ends {s : Dev} {bay : Fin 48} {again : Bool} (hst : s.waveState bay = 3) (hw : (s.wave bay).inFlight = [])
    (ha : s.on (F.BAY_WAVE_STATUS_REENABLE_PENDING bay) = again) :
    s.waveDrainComplete bay = (s.sf (F.BAY_WAVE_STATUS_REENABLE_PENDING bay) 0).setWaveState bay (if again then 1 else 0) := by
  subst ha
  exact if_pos ⟨hst, by rw [hw]; rfl⟩

/-- The wake ends in ON with its held writes applied, unless EN was cleared meanwhile. -/
theorem waveWakeComplete_on {s : Dev} {bay : Fin 48} {w : WaveX} (hst : s.waveState bay = 1) (hw : w = s.wave bay)
    (ho : w.offPend = false) : s.waveWakeComplete bay = (
      let d := ((s.setWave bay { w with held := [] }).setWaveState bay 2).sf (F.BAY_WAVE_STATUS_HELD_WRITES bay) 0
      let d := (w.held.foldl (fun (d : Dev) e => d.applyWaveHeld bay e) d).restartEst bay
      (d.pointerSync bay).uncorrected bay [0, 1, 2, 3]) := by
  subst hw
  simp only [Dev.waveWakeComplete, hst, ho, if_true, Bool.false_eq_true, if_false]
  rfl

/-! ### The commands together -/

/-- Settles O34: a change of EN by the state it meets, the ends of a drain and of a wake by what is pending. -/
theorem wavePower : Obligations.WavePower := by
  unfold Obligations.WavePower
  refine ⟨?disable, ?enable, ?off, ?again, ?wakes⟩
  case disable =>
    intro s bay q h hst hen hh
    have stored := waveStored_rewritten s.dev bay 0
    have drains := waveDisable_drains q (s := s.dev.waveStored bay 0) (bay := bay) ((stored.gf _).trans hst)
    exact ⟨_, stored.only, stored.reads,
      done_eq ((cmdWaveDisable_eq h hst hen hh).trans (congrArg (fun d => Dev.pointerSync d bay) drains))⟩
  case enable =>
    intro s bay q h hst hr hen
    obtain ⟨w, hw, held⟩ := cmdWaveEnable_held h (by rw [hst]; decide) hen
    rw [waveEnable_wakes q h.2 hr hst] at held
    exact ⟨w, hw, done_eq held⟩
  case off => exact fun s bay hst hw ha => done_eq (waveDrainComplete_ends hst hw ha)
  case again => exact fun s bay hst hw ha => done_eq (waveDrainComplete_ends hst hw ha)
  case wakes => exact fun s bay w hst hw ho => done_eq (waveWakeComplete_on hst hw ho)

end Sys2Proof.Machine

/-! ## The stream's fences, its enable and stop, the host ring and datagrams (R340, R392, R398 to R400) -/
namespace Sys2Proof.Machine

/-! ### Writes of a STREAM register (R21, R22) -/

/-- A command that writes one field of a STREAM register. -/
theorem putF_stream {s : Dev} {q : Requester} {off lo len : Nat} (v : Nat) (h : s.takes q .stream) (ho : ¬off < 0x40)
    (hr : (regRow .stream off).any (fun r => !r.readOnly) = true) (hs : shadowedReg .stream off = false) :
    s.putF q ⟨.stream, off, lo, len⟩ v =
      s.streamWrite q off (setBits ((s.regRead q .stream off).1 &&& BitVec.ofNat 32 (rwMask .stream off)) lo len v) :=
  putF_effect (f := ⟨.stream, off, lo, len⟩) v h ho hr hs rfl

/-! ### STREAM_FENCE and FENCE_PACKET_EMIT (R392) -/

/-- The command writes FENCE with its token. -/
theorem cmdStreamFence_eq {s : Dev} {q : Requester} (token : BitVec 16) (h : s.takes q .stream) :
    s.cmdStreamFence q token = s.streamFence q token := by
  have named (x : Word) : BitVec.ofNat 16 (bits (setBits x 0 16 token.toNat) 0 16) = token := by
    rw [bits_setBits_same _ _ (by decide), Nat.mod_eq_of_lt token.isLt, BitVec.ofNat_toNat, BitVec.setWidth_eq]
  refine (putF_stream (off := 0x74) token.toNat h (by decide) (by decide) (by decide)).trans ?_
  simp only [Dev.streamWrite, named, Nat.reduceEqDiff, Nat.reduceLeDiff, and_false, if_false, if_true]

/-- A fence with its frame, its column and the columns begun. -/
theorem newFence_eq {s : Dev} {t : Nat} {fe : SFence} (ht : fe.token = t) (hf : fe.frame = s.gf F.SCAN_FRAME_NUM_FRAME)
    (hc : fe.col = s.column.map (·.col)) (hb : fe.begun = ((s.frame? fe.frame).map (·.nb)).getD 0) : s.newFence t = fe := by
  obtain ⟨token, frame, col, begun⟩ := fe
  dsimp only at ht hf hc hb
  subst ht hf hc hb
  dsimp only [Dev.newFence]
  cases s.frame? (s.gf F.SCAN_FRAME_NUM_FRAME) <;> rfl

theorem streamFence_placed {s : Dev} {q : Requester} {token : BitVec 16} {fe : SFence} (hs : s.streamState ≠ 0)
    (hn : (s.req q).sFences.length < 4) (hfe : s.newFence token.toNat = fe) :
    s.streamFence q token =
      (s.setReq q { s.req q with sFences := (s.req q).sFences ++ [fe] }).sfQ q F.STREAM_FENCE_DONE_BUSY 1 := by
  subst hfe
  exact if_neg (by omega)

theorem streamFence_refused {s : Dev} {q : Requester} (token : BitVec 16) (h : s.streamState = 0 ∨ 4 ≤ (s.req q).sFences.length) :
    s.streamFence q token = s.refuse .stream := if_pos h

/-- The oldest fence leaves once all that it follows is out. -/
theorem fencePacketEmit_emits {s : Dev} {q : Requester} {fe : SFence} {rest : List SFence} (hf : (s.req q).sFences = fe :: rest)
    (hr : s.fenceReady fe = true) (hs : s.streamState ≠ 0) :
    s.fencePacketEmit q = (
      let d := s.emit_ kFence srcChip false (s.gf F.SCAN_FRAME_NUM_FRAME)
        [BitVec.ofNat 32 (q.code * 65536 + fe.token), BitVec.ofNat 32 fe.frame, BitVec.ofNat 32 (fe.col.getD 0x1FFF), 0#32]
      let d := d.setReq q { s.req q with sFences := rest }
      ((d.sfQ q F.STREAM_FENCE_DONE_TOKEN fe.token).sfQ q F.STREAM_FENCE_DONE_BUSY (b2n (!rest.isEmpty))).event E.STREAM_FENCE_DONE) := by
  simp only [Dev.fencePacketEmit, hf]
  exact if_pos ⟨hr, hs⟩

/-! ### STREAM_ENABLE, STREAM_DISABLE and STREAM_STOPPED (R340, R395, R398) -/

theorem regRead_streamCtrl {s : Dev} {q : Requester} (h : s.isOn .stream = true) :
    (s.regRead q .stream 0x40).1 = s.rd R.STREAM_CTRL := by
  obtain ⟨r, hr⟩ := Option.isSome_iff_exists.1 (show (regRow .stream 0x40).isSome = true by decide)
  simp only [Dev.regRead, show ¬ 0x40 < 0x40 by decide, if_false, hr, h, if_true]
  rfl

/-- The word that a command writes to STREAM.CTRL: its settings as they read, with EN. -/
def streamWord (x : Word) (v : Nat) : Word := setBits (x &&& 0xF3#32) 0 1 v

theorem streamWord_en (x : Word) (v : Nat) : bits (streamWord x v) 0 1 = v % 2 := bits_setBits_same _ v (by decide)

/-- The other fields stand in it as they read. -/
theorem streamWord_setting (x : Word) (v : Nat) {lo len : Nat} (hlo : 1 ≤ lo) (hm : 0xF3 / 2^lo % 2^len = 2^len - 1) :
    bits (streamWord x v) lo len = bits x lo len :=
  (bits_setBits_above _ v (by decide) hlo).trans (bits_and_on x 0xF3 lo len hm)

/-- SIGN_EN is written with what it reads. -/
def Dev.signKept (s : Dev) : Dev := s.sf F.STREAM_CTRL_SIGN_EN (s.gf F.STREAM_CTRL_SIGN_EN)

theorem signKept_rewritten (s : Dev) : s.Rewritten s.signKept := rewritten_sf s (Fld.ok_of_le (by decide)) (gf_mod _ _)

/-- A word that keeps the settings and changes EN enables or stops the stream. -/
theorem streamCtrl_en {s : Dev} {w : Word} (q : Requester) (hs : bits w 1 1 = s.gf F.STREAM_CTRL_SIGN_EN)
    (ht : bits w 4 2 = s.gf F.STREAM_CTRL_TRANSPORT) (hu : bits w 6 2 = s.gf F.STREAM_CTRL_UDP_PORTS)
    (he : bits w 0 1 ≠ s.gf F.STREAM_CTRL_EN) :
    s.streamCtrl q w = if bits w 0 1 = 1 then s.signKept.streamEnable q else s.signKept.streamDisable q := by
  have nochain : ¬(s.gf F.STREAM_CTRL_SIGN_EN = 1 ∧ (!s.on F.STREAM_CTRL_SIGN_EN) = true) := by
    rw [← on_iff]
    simp
  have changes : ¬bits w 0 1 = s.signKept.gf F.STREAM_CTRL_EN := by
    rw [(signKept_rewritten s).gf]
    exact he
  simp only [Dev.streamCtrl, hs, ht, hu, if_neg nochain, ne_eq, not_true_eq_false, or_self, decide_false, Bool.not_false, if_true]
  exact if_neg changes

/-- A command that changes EN. -/
theorem putF_streamEn {s : Dev} {q : Requester} {v : Nat} (h : s.takes q .stream) (hv : v < 2) (hne : v ≠ s.gf F.STREAM_CTRL_EN) :
    s.putF q F.STREAM_CTRL_EN v = if v = 1 then s.signKept.streamEnable q else s.signKept.streamDisable q := by
  have mask : rwMask .stream 0x40 = 0xF3 := by decide
  have written := putF_stream (off := 0x40) (lo := 0) (len := 1) v h (by decide) (by decide) (by decide)
  rw [regRead_streamCtrl h.2, mask] at written
  have en : bits (streamWord (s.rd R.STREAM_CTRL) v) 0 1 = v := (streamWord_en _ v).trans (Nat.mod_eq_of_lt hv)
  have acts := streamCtrl_en q (s := s) (streamWord_setting (s.rd R.STREAM_CTRL) v (by decide) (by decide))
    (streamWord_setting _ v (by decide) (by decide)) (streamWord_setting _ v (by decide) (by decide)) (en.trans_ne hne)
  rw [en] at acts
  exact written.trans acts

theorem streamDisable_stops {s : Dev} (q : Requester) (h : s.streamState = 1) :
    s.streamDisable q = (s.sf F.STREAM_CTRL_EN 0).setStreamState 2 :=
  if_pos ((gf_sf_key (f := F.STREAM_CTRL_EN) s 0 (by decide)).trans h)

theorem streamDisable_idle {s : Dev} (q : Requester) (h : s.streamState ≠ 1) : s.streamDisable q = s.sf F.STREAM_CTRL_EN 0 :=
  if_neg fun e => h ((gf_sf_key (f := F.STREAM_CTRL_EN) s 0 (by decide)).symm.trans e)

/-- A change of STATE shows the new state. -/
theorem setStreamState_state (s : Dev) {v : Nat} (hv : v < 4) : (s.setStreamState v).streamState = v := by
  unfold Dev.setStreamState
  split
  next h => exact h
  · have shown := gf_sf_same s F.STREAM_STATUS_STATE v (Fld.ok_of_le (by decide))
    exact (gf_sf_key _ _ (by decide)).trans (shown.trans (Nat.mod_eq_of_lt hv))

/-- All accepted has left: the stream is OFF, and what the host asked for is dropped. -/
theorem streamStopped_off {s : Dev} (h : s.streamState = 2) (hf : ∀ f ∈ s.frames, f.streamed = false ∨ f.closed = true)
    (hb : s.stream.buf = []) (hw : s.stream.wait = []) (hs : s.stream.signPend = []) (hd : s.stream.dgram = []) :
    s.streamStopped = ({ s with stream := { s.stream with dead := false } }.setStreamState 0).dropHosts := by
  have frames : s.frames.all (fun f => !f.streamed || f.closed) = true :=
    List.all_eq_true.2 fun f hm => by rcases hf f hm with e | e <;> simp [e]
  have drained : s.streamDrained = { s with stream := { s.stream with dead := false } }.setStreamState 0 :=
    if_pos ⟨h, frames, by rw [hb]; rfl, by rw [hw]; rfl, by rw [hs]; rfl, by rw [hd]; rfl⟩
  unfold Dev.streamStopped
  rw [drained]
  exact if_pos ⟨by rw [h]; decide, setStreamState_state _ (by decide)⟩

/-! ### RING_WRITE (R399) -/

/-- A packet is written at the write pointer of the ring, the pointer and its write-back follow, and it is counted. -/
def Dev.ringPut (s : Dev) (p : Packet) (rest : List Packet) (w : Nat) : Dev :=
  let d := (s.send (.dma (s.ringBase + s.gf F.STREAM_RING_WPTR_PTR) p.words)).setStream { s.stream with buf := rest }
  let d := d.sf F.STREAM_RING_WPTR_PTR w
  (d.send (.dma (d.gf F.STREAM_WB_ADDR_LO_ADDR * 4 + d.gf F.STREAM_WB_ADDR_HI_ADDR * 2^32) [BitVec.ofNat 32 w])).countSent p

/-- The ring is signalled with the packet that fills COALESCE.COUNT, and waiting packets find the room left. -/
def Dev.ringSignal (d : Dev) : Dev :=
  let n := d.stream.unsignalled + 1
  (if max 1 (d.gf F.STREAM_COALESCE_COUNT) ≤ n then (d.setStream { d.stream with unsignalled := 0 }).event E.STREAM_RING
    else d.setStream { d.stream with unsignalled := n, unsignalledAt := if n = 1 then d.now else d.stream.unsignalledAt }).refill

/-- A PAD fills the ring to its end, and the write pointer returns to its start. -/
def Dev.ringPadded (s : Dev) : Dev :=
  (s.send (.dma (s.ringBase + s.gf F.STREAM_RING_WPTR_PTR)
    ({ kind := kPad, source := srcChip, seq := 0, frame := 0, unit := s.unit, payload := [] } : Packet).header)).sf
    F.STREAM_RING_WPTR_PTR 0

/-- A packet goes to a ring of a size at the write pointer where it fits, and waits elsewhere. -/
def Dev.ringPlace (s : Dev) (size : Nat) (p : Packet) (rest : List Packet) : Dev :=
  if s.ringUsed + p.bytes + 16 > size then s
  else (s.ringPut p rest ((s.gf F.STREAM_RING_WPTR_PTR + p.bytes) % size)).ringSignal

theorem countSent_stream (s : Dev) (p : Packet) : (s.countSent p).stream = s.stream := by
  unfold Dev.countSent
  dsimp only
  split <;> split <;> rfl

/-- Only counters are written. -/
theorem countSent_coalesce (s : Dev) (p : Packet) : (s.countSent p).gf F.STREAM_COALESCE_COUNT = s.gf F.STREAM_COALESCE_COUNT := by
  have packets (d : Dev) : (d.inc F.STREAM_PACKETS_COUNT).gf F.STREAM_COALESCE_COUNT = d.gf F.STREAM_COALESCE_COUNT :=
    gf_sf_key d _ (by decide)
  have blocks (d : Dev) : (d.inc F.STREAM_BLOCKS_COUNT).gf F.STREAM_COALESCE_COUNT = d.gf F.STREAM_COALESCE_COUNT :=
    gf_sf_key d _ (by decide)
  have forwarded (d : Dev) : (d.inc F.STREAM_FORWARDED_COUNT).gf F.STREAM_COALESCE_COUNT = d.gf F.STREAM_COALESCE_COUNT :=
    gf_sf_key d _ (by decide)
  unfold Dev.countSent
  dsimp only
  split <;> split <;> simp only [packets, blocks, forwarded]

section
variable (s : Dev) (p : Packet) (rest : List Packet) (w : Nat)

theorem ringPut_stream : (s.ringPut p rest w).stream = { s.stream with buf := rest } := countSent_stream _ p

theorem ringPut_coalesce : (s.ringPut p rest w).gf F.STREAM_COALESCE_COUNT = s.gf F.STREAM_COALESCE_COUNT := by
  have sent (d : Dev) (o : Out) : (d.send o).gf F.STREAM_COALESCE_COUNT = d.gf F.STREAM_COALESCE_COUNT := gf_regs rfl _
  have moved (d : Dev) : (d.sf F.STREAM_RING_WPTR_PTR w).gf F.STREAM_COALESCE_COUNT = d.gf F.STREAM_COALESCE_COUNT :=
    gf_sf_key d w (by decide)
  have filled (d : Dev) (x : StreamX) : (d.setStream x).gf F.STREAM_COALESCE_COUNT = d.gf F.STREAM_COALESCE_COUNT :=
    (gf_sf_key (f := F.STREAM_STATUS_FILL) _ _ (by decide)).trans (gf_regs rfl _)
  simp only [Dev.ringPut, countSent_coalesce, sent, moved, filled]

end

section
variable {s : Dev} {p : Packet} {rest : List Packet} (hb : s.stream.buf = p :: rest) (hd : s.stream.dead = false)
include hb hd

theorem ringWrite_waits (h : s.ringSize < s.ringUsed + p.bytes + 16) : s.ringWrite = s := by
  simp only [Dev.ringWrite, hb, hd, Bool.false_eq_true, if_false]
  exact if_pos (.inr (.inr (.inr h)))

variable (h1 : s.gf F.STREAM_CTRL_TRANSPORT ≠ 1) (h2 : s.gf F.STREAM_CTRL_TRANSPORT ≠ 2)
  (hl : s.on F.HOST_LINK_STATUS_DL_UP = true) (hr : s.ringUsed + p.bytes + 16 ≤ s.ringSize)
include h1 h2 hl hr

/-- Over PCIe a packet that fits goes to the ring, after a PAD where it would wrap. -/
theorem ringWrite_places : s.ringWrite =
    (if s.gf F.STREAM_RING_WPTR_PTR + p.bytes > s.ringSize then s.ringPadded else s).ringPlace s.ringSize p rest := by
  have goes : ¬(s.gf F.STREAM_CTRL_TRANSPORT = 1 ∨ s.gf F.STREAM_CTRL_TRANSPORT = 2 ∨ (!s.on F.HOST_LINK_STATUS_DL_UP) = true
      ∨ s.ringUsed + p.bytes + 16 > s.ringSize) := by
    simp only [h1, h2, hl, Bool.not_true, Bool.false_eq_true, false_or]
    omega
  simp only [Dev.ringWrite, hb, hd, Bool.false_eq_true, if_false, if_neg goes]
  rfl

theorem ringWrite_direct {w : Nat} (he : s.gf F.STREAM_RING_WPTR_PTR + p.bytes ≤ s.ringSize)
    (hw : w = (s.gf F.STREAM_RING_WPTR_PTR + p.bytes) % s.ringSize) : s.ringWrite = (s.ringPut p rest w).ringSignal := by
  rw [ringWrite_places hb hd h1 h2 hl hr, if_neg (by omega), hw]
  exact if_neg (by omega)

theorem ringWrite_wraps {w : Nat} {b : Dev} (he : s.ringSize < s.gf F.STREAM_RING_WPTR_PTR + p.bytes) (hp : b = s.ringPadded)
    (hf : b.ringUsed + p.bytes + 16 ≤ s.ringSize) (hw : w = p.bytes % s.ringSize) : s.ringWrite = (b.ringPut p rest w).ringSignal := by
  have start : b.gf F.STREAM_RING_WPTR_PTR = 0 := by
    rw [hp]
    exact gf_sf_same _ _ 0 (Fld.ok_of_le (by decide))
  rw [ringWrite_places hb hd h1 h2 hl hr, if_pos he, ← hp, hw, ← Nat.zero_add p.bytes, ← start]
  exact if_neg (by omega)

end

/-! ### The signals of the ring, its read pointer and datagrams (R399, R400) -/

section
variable {s : Dev} {p : Packet} {rest : List Packet} {w n : Nat} (hn : n = s.stream.unsignalled + 1)
include hn

theorem ringPut_unsignalled : (s.ringPut p rest w).stream.unsignalled + 1 = n := by rw [ringPut_stream, hn]

/-- Fewer packets than COALESCE.COUNT are not signalled yet. -/
theorem ringSignal_waits (h : n < max 1 (s.gf F.STREAM_COALESCE_COUNT)) : (s.ringPut p rest w).ringSignal = (
    let d := s.ringPut p rest w
    (d.setStream { d.stream with unsignalled := n, unsignalledAt := if n = 1 then d.now else d.stream.unsignalledAt }).refill) := by
  unfold Dev.ringSignal
  simp only [ringPut_unsignalled hn, ringPut_coalesce]
  rw [if_neg (by omega)]

theorem ringSignal_signals (h : max 1 (s.gf F.STREAM_COALESCE_COUNT) ≤ n) : (s.ringPut p rest w).ringSignal = (
    let d := s.ringPut p rest w
    ((d.setStream { d.stream with unsignalled := 0 }).event E.STREAM_RING).refill) := by
  unfold Dev.ringSignal
  simp only [ringPut_unsignalled hn, ringPut_coalesce]
  rw [if_pos h]

end

theorem bits_whole (w : Word) : bits w 0 32 = w.toNat := by
  rw [bits, pow_zero, Nat.div_one, Nat.mod_eq_of_lt w.isLt]

/-- The command writes the whole read pointer. -/
theorem cmdRingRptrWrite_eq {s : Dev} {q : Requester} (val : Word) (h : s.takes q .stream) :
    s.cmdRingRptrWrite q val = (s.ringRptrWrite q val).pump := by
  have whole (x : Word) : setBits x 0 32 val.toNat = val := by
    refine BitVec.eq_of_toNat_eq ?_
    rw [← bits_whole, bits_setBits_same _ _ (by decide), Nat.mod_eq_of_lt val.isLt]
  refine (putF_stream (off := 0x60) val.toNat h (by decide) (by decide) (by decide)).trans ?_
  simp only [Dev.streamWrite, whole, Nat.reduceEqDiff, Nat.reduceLeDiff, and_false, if_false, if_true]

theorem ringCoalesceTimeout_signals {s b : Dev} (h : s.stream.unsignalled ≠ 0)
    (hb : b = s.advanceTo (s.stream.unsignalledAt + max 1 (s.gf F.STREAM_COALESCE_TIME) * 1000)) :
    s.ringCoalesceTimeout = (b.setStream { b.stream with unsignalled := 0 }).event E.STREAM_RING := by
  subst hb
  exact if_neg h

theorem udpAggTimeout_sends {s : Dev} {port : Fin 2} (h : (fget dgram0 s.stream.dgram port.val).isEmpty = false) :
    s.udpAggTimeout port = (s.advanceTo (fget dgramAt0 s.stream.dgramAt port.val
      + min 1000 (s.gf F.STREAM_UDP_CFG_AGG_US) * 1000)).sendDatagram port.val :=
  if_neg (by simp [h])

/-! ### The commands together -/

/-- Settles O36: a fence by what stands before it, EN by STATE, a packet by the room of the ring and the count not yet signalled. -/
theorem streamFlow : Obligations.StreamFlow := by
  unfold Obligations.StreamFlow
  refine ⟨?placed, ?full, ?idle, ?emits, ?enables, ?stops, ?clears, ?off, ?direct, ?signals, ?wraps, ?waits, ?outside, ?reads, ?timeout,
    ?datagram⟩
  case placed =>
    exact fun s q token fe h hs hn ht hf hc hb =>
      done_eq ((cmdStreamFence_eq token h).trans (streamFence_placed hs hn (newFence_eq ht hf hc hb)))
  case full => exact fun s q token h hn => done_eq ((cmdStreamFence_eq token h).trans (streamFence_refused token (.inr hn)))
  case idle => exact fun s q token h hs => done_eq ((cmdStreamFence_eq token h).trans (streamFence_refused token (.inl hs)))
  case emits => exact fun s q fe rest hf hr hs => done_eq (fencePacketEmit_emits hf hr hs)
  case enables =>
    intro s q h he
    have off : s.dev.gf F.STREAM_CTRL_EN = 0 := gf_of_off rfl he
    exact (signKept_rewritten s.dev).stands (done_eq (putF_streamEn (v := 1) h (by decide) (by rw [off]; decide)))
  case stops =>
    intro s q h he hs
    have clears := putF_streamEn (v := 0) h (by decide) (by rw [on_iff.1 he]; decide)
    exact (signKept_rewritten s.dev).stands
      (done_eq (clears.trans (streamDisable_stops q (((signKept_rewritten s.dev).gf F.STREAM_STATUS_STATE).trans hs))))
  case clears =>
    intro s q h he hs
    have clears := putF_streamEn (v := 0) h (by decide) (by rw [on_iff.1 he]; decide)
    have still : s.dev.signKept.streamState ≠ 1 := ((signKept_rewritten s.dev).gf F.STREAM_STATUS_STATE).trans_ne hs
    exact (signKept_rewritten s.dev).stands (done_eq (clears.trans (streamDisable_idle q still)))
  case off => exact fun s h hf hb hw hs hd => done_eq (streamStopped_off h hf hb hw hs hd)
  case direct =>
    exact fun s p rest w n hb hd h1 h2 hl hr he hw hn h =>
      done_eq ((ringWrite_direct hb hd h1 h2 hl hr he hw).trans (ringSignal_waits hn h))
  case signals =>
    exact fun s p rest w n hb hd h1 h2 hl hr he hw hn h =>
      done_eq ((ringWrite_direct hb hd h1 h2 hl hr he hw).trans (ringSignal_signals hn h))
  case wraps =>
    rintro s p rest w n pad b hb hd h1 h2 hl hr he rfl hp hf hw hn h
    subst hp
    exact done_eq ((ringWrite_wraps hb hd h1 h2 hl hr he rfl hf hw).trans (ringSignal_waits hn h))
  case waits => exact fun s p rest hb hd h => done_eq (ringWrite_waits hb hd h)
  case outside =>
    exact fun s q val h hv => done_eq ((cmdRingRptrWrite_eq val h).trans (congrArg Dev.pump (if_pos hv)))
  case reads =>
    exact fun s q val h hv => done_eq ((cmdRingRptrWrite_eq val h).trans (congrArg Dev.pump (if_neg (Nat.not_le.2 hv))))
  case timeout => exact fun s b h hb => done_eq (ringCoalesceTimeout_signals h hb)
  case datagram => exact fun s port h => done_eq (udpAggTimeout_sends h)

end Sys2Proof.Machine

/-! ## Publication, exposure commits, blocks and the close of frames (R359, R364, R365, R373, R374, R383, R391, R395, R396) -/
namespace Sys2Proof.Machine

/-! ### STATS_PUBLISH (R359, R365) -/

theorem statsPublish_publishes {s : Dev} {f : FrameX} (h : s.frames.find? (fun f => Dev.unpublished f && s.skyDone f) = some f) :
    s.statsPublish = (s.publishStats f).autoExpo := by
  simp only [Dev.statsPublish, h]

/-! ### EXPO_COMMIT (R364) -/

/-- The command writes GO. -/
theorem cmdExpoCommit_eq {s : Dev} {q : Requester} (h : s.takes q .sky) : s.cmdExpoCommit q = s.expoGo q := by
  have go (w : Word) (hw : bits w 0 1 = 1) : s.skyWrite q 0x44 w = s.expoGo q := (if_pos rfl).trans (if_pos hw)
  exact (putF_effect (f := F.SKY_EXPO_COMMIT_GO) 1 h (by decide) (by decide) (by decide) rfl).trans
    (go _ (bits_setBits_same _ _ (by decide)))

/-- Open sets that no timed action is to commit, the EMIT page's without a preload, are latched in one group. -/
theorem expoGo_latches {s : Dev} {q : Requester} {mine : List Page} (hmine : mine = expoPages.filter (fun g => s.holdsSet g q))
    (hmode : ∀ g ∈ mine, s.gf (F.SHADOW_CTRL_MODE g) ≠ 2) (hne : mine ≠ [])
    (hemit : Page.emit ∈ mine → s.on F.EMIT_STARLINE_STATUS_PRELOAD_BUSY = false) :
    s.expoGo q = mine.foldl (fun (d : Dev) g => d.latchOpen_ g) s.newGroup := by
  have all : mine.filter (fun g => s.gf (F.SHADOW_CTRL_MODE g) != 2) = mine :=
    List.filter_eq_self.2 fun g hg => bne_iff_ne.2 (hmode g hg)
  have idle : ¬(mine.contains .emit = true ∧ s.on F.EMIT_STARLINE_STATUS_PRELOAD_BUSY = true) := by
    rintro ⟨held, busy⟩
    rw [hemit (List.contains_iff_mem.1 held)] at busy
    cases busy
  have nonempty : ¬mine.isEmpty = true := fun e => hne (List.isEmpty_iff.1 e)
  simp only [Dev.expoGo, ← hmine, all, if_true, if_neg nonempty, if_neg idle]

/-! ### BLOCK_FLUSH_TIMEOUT (R383) -/

theorem blockFlushTimeout_closes {s : Dev} {source : Fin 5} {frame : Nat} {b : BlockX}
    (h : s.stream.blocks.find? (fun b => b.source == source.val && b.frame == frame) = some b) :
    s.blockFlushTimeout source frame =
      (s.advanceTo (b.firstAt + max 1 (s.gf F.STREAM_FLUSH_US) * 1000)).closeBlock source.val frame := by
  simp only [Dev.blockFlushTimeout, h]

/-! ### FRAME_CLOSE and FRAME_CLOSE_DEADLINE (R359, R373, R374, R391, R405) -/

theorem frameClose_closes {s : Dev} {f : FrameX} (hf : s.frames.find? (fun f => !f.closed) = some f) (hd : s.frameDone f = true) :
    s.frameClose = s.closeFrame f.num false := by
  simp only [Dev.frameClose, hf, hd, if_true]

/-- Statistics of a frame not yet published are published before its deadline closes it (R359). -/
def Dev.deadlineStats (c : Dev) (frame : Nat) : Dev :=
  match c.frame? frame with
  | some g => if Dev.unpublished g then (c.publishStats g).autoExpo else c
  | none => c

/-- The deadline is an error where a histogram of the frame has not ended (R374). -/
def Dev.deadlineRaise (d : Dev) (frame : Nat) : Dev :=
  if d.hists.any (fun h => h.2.frame == frame) then d.raise C.STREAM_DEADLINE_CLOSE srcChip else d

/-- The frame closes, by its deadline where something other than its statistics has not ended, and quiescing pages meet theirs. -/
def Dev.deadlineClose (d : Dev) (f : FrameX) : Dev :=
  (d.closeFrame f.num (!(d.frameDone { f with skyPublished := true }))).quietDeadline

/-- At its deadline the oldest open frame sends its ambient blocks, then its statistics, and closes. -/
theorem frameCloseDeadline_closes {s b c : Dev} {f : FrameX} (hf : s.frames.find? (fun f => !f.closed) = some f)
    (hs : f.scanClosed = true) (hb : b = s.advanceTo (s.closeDeadline f))
    (hc : c = (b.ambs.filter (fun a => a.2.frame == f.num)).foldl (fun (d : Dev) a => d.endBatch a.1 false) b) :
    s.frameCloseDeadline = ((c.deadlineStats f.num).deadlineRaise f.num).deadlineClose f := by
  subst hb hc
  unfold Dev.frameCloseDeadline
  rw [hf]
  exact if_pos hs

section
variable {c : Dev} {g : FrameX} {n : Nat}

theorem deadlineStats_publishes (hg : c.frame? n = some g) (hu : Dev.unpublished g = true) :
    c.deadlineStats n = (c.publishStats g).autoExpo := by
  simp only [Dev.deadlineStats, hg, hu, if_true]

theorem deadlineStats_published (hg : c.frame? n = some g) (hu : Dev.unpublished g = false) : c.deadlineStats n = c := by
  simp only [Dev.deadlineStats, hg, hu, Bool.false_eq_true, if_false]

theorem deadlineRaise_raises (h : ∃ x ∈ c.hists, x.2.frame = n) :
    c.deadlineRaise n = c.raise C.STREAM_DEADLINE_CLOSE srcChip := by
  obtain ⟨x, hx, e⟩ := h
  have late : c.hists.any (fun h => h.2.frame == n) = true := List.any_eq_true.2 ⟨x, hx, beq_iff_eq.2 e⟩
  exact if_pos late

theorem deadlineRaise_ended (h : ∀ x ∈ c.hists, x.2.frame ≠ n) : c.deadlineRaise n = c := by
  refine if_neg fun late => ?_
  obtain ⟨x, hx, e⟩ := List.any_eq_true.1 late
  exact h x hx (beq_iff_eq.1 e)

end

/-! ### SIGNATURE_EMIT (R395, R396) -/

/-- Of the registers only the fill of the output buffer changes. -/
theorem setStream_unit (s : Dev) (x : StreamX) : (s.setStream x).unit = s.unit :=
  (gf_sf_key (f := F.STREAM_STATUS_FILL) _ _ (by decide)).trans (gf_regs rfl _)

/-- A value of 256 bits in a signature record, big-endian. -/
def bigEndianWords (v : Nat) : List Word := (toWords 8 (v % 2^256)).reverse.flatMap (fun w => packBytes (wordBytes w).reverse)

/-- The record signs the text of unit, frame, chain and hash, and the chain goes on from the text's digest. -/
theorem signatureEmit_emits {s : Dev} {x : SignX} {p d sig : Nat} {rest : List SignX} {text : List Nat}
    (hx : s.stream.signPend = x :: rest) (hp : p = (if x.start then 0 else s.stream.chainP))
    (ht : text = bytesBE 2 s.unit ++ bytesBE 4 x.frame ++ bytesBE 32 p ++ bytesBE 32 x.hash) (hd : d = Config.sha256 text % 2^256)
    (hs : sig = Config.sign (Config.frameKey x.key) d % 2^512) :
    s.signatureEmit =
      ((s.setStream { s.stream with signPend := rest, chainP := d }).emit_ kSignature srcChip false x.frame
        ([BitVec.ofNat 32 x.frame, BitVec.ofNat 32 (b2n x.start * 65536 + s.unit), BitVec.ofNat 32 x.key, 0#32]
          ++ [p, x.hash, sig / 2^256, sig].flatMap bigEndianWords)).inc F.STREAM_FRAMES_SIGNED_COUNT := by
  have values : [p, x.hash, sig / 2^256, sig].flatMap bigEndianWords =
      bigEndianWords p ++ (bigEndianWords x.hash ++ (bigEndianWords (sig / 2^256) ++ bigEndianWords sig)) := by
    simp only [List.flatMap_cons, List.flatMap_nil, List.append_nil]
  rw [values]
  subst hs hd ht hp
  simp only [Dev.signatureEmit, hx, setStream_unit, bigEndianWords, List.flatMap_def, List.append_assoc]

/-! ### The commands together -/

/-- Settles O35: each command by what it finds, and the deadline by the frame's statistics and the histograms left. -/
theorem skyFrames : Obligations.SkyFrames := by
  unfold Obligations.SkyFrames
  refine ⟨?publish, ?expo, ?flush, ?close, ?quiet, ?late, ?stats, ?sign⟩
  case publish => exact fun s f h => done_eq (statsPublish_publishes h)
  case expo => exact fun s q mine h hmine hm hne he => done_eq ((cmdExpoCommit_eq h).trans (expoGo_latches hmine hm hne he))
  case flush => exact fun s source frame b h => done_eq (blockFlushTimeout_closes h)
  case close => exact fun s f hf hd => done_eq (frameClose_closes hf hd)
  case quiet =>
    intro s f g b c hf hs hb hc hg hu hh
    have closes := frameCloseDeadline_closes hf hs hb hc
    rw [deadlineStats_published hg hu, deadlineRaise_ended hh] at closes
    exact done_eq closes
  case late =>
    intro s f g b c hf hs hb hc hg hu hh
    have closes := frameCloseDeadline_closes hf hs hb hc
    rw [deadlineStats_published hg hu, deadlineRaise_raises hh] at closes
    exact done_eq closes
  case stats =>
    rintro s f g b c d hf hs hb hc hg hu rfl hh
    have closes := frameCloseDeadline_closes hf hs hb hc
    rw [deadlineStats_publishes hg hu, deadlineRaise_ended hh] at closes
    exact done_eq closes
  case sign => exact fun s x p d sig rest text hx hp ht hd hs => done_eq (signatureEmit_emits hx hp ht hd hs)

end Sys2Proof.Machine

/-! ## The PCIe endpoint and the Ethernet ports (R400, R408 to R411, R415, R430, R434, R436) -/
namespace Sys2Proof.Machine

/-! ### PCIE_LINK_DOWN and PCIE_LINK_UP (R408, R409, R430) -/

theorem pcieLinkDown_falls {s : Dev} (h : s.on F.HOST_LINK_STATUS_DL_UP = true) :
    s.pcieLinkDown = (
      let d := ((s.sf F.HOST_LINK_STATUS_DL_UP 0).sf F.HOST_LINK_STATUS_SPEED 0).sf F.HOST_LINK_STATUS_WIDTH 0
      let d := forN 4 (fun n (d : Dev) => if d.laneState n = 4 then d.setLaneState n 1 else d) d
      ((d.inc F.HOST_LINK_DOWNS_COUNT).raise C.HOST_LINK_DOWN).event E.HOST_LINK_CHANGE) :=
  if_neg (by simp [h])

/-- Outside TEST the link comes up at a width that PCIe has. -/
theorem pcieLinkUp_rises {s : Dev} {sp : Fin 4} {w : Fin 5} (h : s.on F.HOST_LINK_CTRL_TEST = false)
    (hw : w.val = 1 ∨ w.val = 2 ∨ w.val = 4) :
    s.pcieLinkUp sp w = (
      let d := ((s.sf F.HOST_LINK_STATUS_DL_UP 1).sf F.HOST_LINK_STATUS_SPEED (sp.val + 1)).sf F.HOST_LINK_STATUS_WIDTH w.val
      (forN 4 (fun n (d : Dev) => if n < w.val ∧ d.isOn (.lane n) ∧ d.laneState n ≠ 7 then
        (d.sf (F.LANE_LINK_STATUS_LOS n) 0).setLaneState n 4 else d) d).event E.HOST_LINK_CHANGE) := by
  refine if_neg ?_
  rintro (test | ⟨h1, h2, h4⟩)
  · rw [h] at test
    cases test
  · omega

/-! ### FLR (R410) -/

section
variable {s b : Dev} (hb : b = { s with host := {} }.raise C.HOST_FLR)
include hb

/-- A stream over Ethernet goes on. -/
theorem flr_keeps_udp (ht : b.gf F.STREAM_CTRL_TRANSPORT = 1 ∨ b.gf F.STREAM_CTRL_TRANSPORT = 2) : s.flr = b := by
  subst hb
  exact (if_pos (ht.imp_right .inl)).trans (if_pos ht)

variable (h1 : b.gf F.STREAM_CTRL_TRANSPORT ≠ 1) (h2 : b.gf F.STREAM_CTRL_TRANSPORT ≠ 2)
include h1 h2

/-- Of a ring that is OFF only EN is cleared. -/
theorem flr_clears (hs : b.streamState = 0) : s.flr = b.sf F.STREAM_CTRL_EN 0 := by
  subst hb
  exact (if_pos (.inr (.inr hs))).trans (if_neg (not_or.2 ⟨h1, h2⟩))

/-- A ring in use stops, and what it cannot write is discarded. -/
theorem flr_stops (hs : b.streamState = 1) :
    s.flr = (let d := (b.sf F.STREAM_CTRL_EN 0).setStreamState 2
      { d with stream := { d.stream with dead := true } }) := by
  have running : ¬(b.gf F.STREAM_CTRL_TRANSPORT = 1 ∨ b.gf F.STREAM_CTRL_TRANSPORT = 2 ∨ b.streamState = 0) := by
    simp only [h1, h2, hs, Nat.one_ne_zero, or_self, not_false_eq_true]
  rw [← streamDisable_stops .firmware hs]
  subst hb
  exact if_neg running

end

/-! ### RETRAIN and AER_ERROR (R408, R434, R436) -/

/-- The word that RETRAIN writes to LINK_CTRL: its settings as they read, with RETRAIN set. -/
def retrainWord (x : Word) : Word := setBits (x &&& 0x17#32) 3 1 1

theorem retrainWord_retrain (x : Word) : bits (retrainWord x) 3 1 = 1 := bits_setBits_same _ 1 (by decide)

theorem retrainWord_settings (x : Word) : retrainWord x &&& 0x17#32 = x &&& 0x17#32 :=
  setBits_off_mask x 0x17#32 1 (by decide) fun i h3 h4 => by
    obtain rfl : i = 3 := by omega
    rfl

/-- The block once RETRAIN has stored LINK_CTRL. -/
def Dev.retrainStored (s : Dev) : Dev := s.storeReg .host 0x44 (retrainWord (s.rd R.HOST_LINK_CTRL))

theorem retrainStored_rewritten (s : Dev) : s.Rewritten s.retrainStored := by
  have same : mergeBits (s.rd R.HOST_LINK_CTRL) (retrainWord (s.rd R.HOST_LINK_CTRL)) (rwMask .host 0x44) = s.rd R.HOST_LINK_CTRL :=
    mergeBits_of_and (retrainWord_settings _)
  have stored : s.retrainStored = s.wr R.HOST_LINK_CTRL (s.rd R.HOST_LINK_CTRL) := congrArg (s.wr R.HOST_LINK_CTRL) same
  rw [stored]
  exact rewritten_wr s _

theorem regRead_linkCtrl {s : Dev} {q : Requester} (h : s.isOn .host = true) :
    (s.regRead q .host 0x44).1 = s.rd R.HOST_LINK_CTRL := by
  obtain ⟨r, hr⟩ := Option.isSome_iff_exists.1 (show (regRow .host 0x44).isSome = true by decide)
  simp only [Dev.regRead, show ¬ 0x44 < 0x40 by decide, if_false, hr, h, if_true]
  rfl

/-- A write of LINK_CTRL that leaves TEST and sets RETRAIN asks the link to train again. -/
theorem hostWrite_retrains {s : Dev} (q : Requester) {w : Word}
    (ht : (s.storeReg .host 0x44 w).on F.HOST_LINK_CTRL_TEST = s.on F.HOST_LINK_CTRL_TEST) (hw : bits w 3 1 = 1) :
    s.hostWrite q 0x44 w = (s.storeReg .host 0x44 w).linkRetrain q := by
  have untested : ¬((s.storeReg .host 0x44 w).on F.HOST_LINK_CTRL_TEST = true ∧ (!s.on F.HOST_LINK_CTRL_TEST) = true) := by
    rw [ht]
    simp
  simp only [Dev.hostWrite, if_true, if_neg untested, hw]

/-- The command asks for the speed that TARGET_SPEED names. -/
theorem cmdLinkRetrain_eq {s : Dev} {q : Requester} (h : s.takes q .host) :
    s.cmdLinkRetrain q = s.retrainStored.send (.linkRetrain (min 4 (max 1 (s.gf F.HOST_LINK_CTRL_TARGET_SPEED)))) := by
  have mask : rwMask .host 0x44 = 0x17 := by decide
  have written := putF_effect (f := F.HOST_LINK_CTRL_RETRAIN) 1 h (by decide) (by decide) (by decide) rfl
  rw [regRead_linkCtrl h.2, mask] at written
  have asks := hostWrite_retrains q ((retrainStored_rewritten s).on F.HOST_LINK_CTRL_TEST) (retrainWord_retrain _)
  rw [← (retrainStored_rewritten s).gf F.HOST_LINK_CTRL_TARGET_SPEED]
  exact written.trans asks

theorem aerError_uncorrectable (s : Dev) : s.aerError true = (s.inc F.HOST_AER_UCE_COUNT).raise C.HOST_AER_UNCORRECTABLE := if_pos rfl

theorem aerError_correctable (s : Dev) : s.aerError false = (s.inc F.HOST_AER_CE_COUNT).raise C.HOST_AER_CORRECTABLE :=
  if_neg Bool.false_ne_true

/-! ### NET_LINK_DOWN and NET_LINK_UP (R400, R415) -/

section
variable {s : Dev} {p : Fin 2}

theorem netLinkDown_falls {b : Dev} (h : s.on (F.NET_STATUS_LINK_UP p) = true)
    (hb : b = (s.sf (F.NET_STATUS_LINK_UP p) 0).sf (F.NET_STATUS_BLOCK_LOCK p) 0) :
    s.netLinkDown p = (((if b.laneState (4 + p.val) = 4 then b.setLaneState (4 + p.val) 1 else b).unsendDatagram p).raise
      (C.NET_LINK_DOWN p)).event (E.NET_LINK_CHANGE p) := by
  subst hb
  exact if_neg (by simp [h])

/-- The link of a port whose lane is ON and not in TEST comes up. -/
theorem netLinkUp_rises (h : s.on (F.NET_STATUS_LINK_UP p) = false) (ht : s.laneState (4 + p.val) ≠ 7)
    (hon : s.isOn (.lane (4 + p.val)) = true) :
    s.netLinkUp p = (
      let d := (s.sf (F.NET_STATUS_LINK_UP p) 1).sf (F.NET_STATUS_BLOCK_LOCK p) 1
      let d := ((d.sf (F.LANE_LINK_STATUS_LOS (4 + p.val)) 0).setLaneState (4 + p.val) 4).event (E.NET_LINK_CHANGE p)
      ((d.net p).held.foldl (fun (e : Dev) o => (e.inc (F.NET_TX_FRAMES_COUNT p)).send o) (d.setNet p { d.net p with held := [] })).pump) :=
  if_neg (by simp [h, ht, hon])

/-! ### ARP_REQUEST, PAUSE and RX_DROPPED (R411, R436) -/

section
variable {a : List Word} {d : Dev} (hl : s.on (F.NET_STATUS_LINK_UP p) = true) (he : s.on (F.NET_CTRL_EN p) = true)
  (hd : d = s.inc (F.NET_RX_FRAMES_COUNT p))
include hl he hd

/-- A request received is answered where it asks for the port's own address. -/
theorem arpRequest_received : s.arpRequest p a =
    if a = d.ownIp p then (d.inc (F.NET_TX_FRAMES_COUNT p)).send (.arpReply p a (d.netMac p) (d.netVlan p)) else d := by
  subst hd
  exact if_neg (by simp [hl, he])

theorem arpRequest_answers (ha : a = d.ownIp p) : s.arpRequest p a =
    (d.inc (F.NET_TX_FRAMES_COUNT p)).send (.arpReply p a (d.netMac p) (d.netVlan p)) :=
  (arpRequest_received hl he hd).trans (if_pos ha)

theorem arpRequest_ignores (ha : a ≠ d.ownIp p) : s.arpRequest p a = d := (arpRequest_received hl he hd).trans (if_neg ha)

end

/-- The counter is on a register of its own. -/
theorem pauseEn_inc (s : Dev) (p : Fin 2) : (s.inc (F.NET_RX_FRAMES_COUNT p)).on (F.NET_CTRL_PAUSE_EN p) = s.on (F.NET_CTRL_PAUSE_EN p) := by
  have reads : (s.inc (F.NET_RX_FRAMES_COUNT p)).gf (F.NET_CTRL_PAUSE_EN p) = s.gf (F.NET_CTRL_PAUSE_EN p) :=
    gf_sf_key s _ (by fin_cases p <;> decide)
  exact congrArg (· == 1) reads

/-- A PAUSE that is honoured holds transmission for its quanta. -/
theorem pause_holds {n : BitVec 16} (hl : s.on (F.NET_STATUS_LINK_UP p) = true) (he : s.on (F.NET_CTRL_PAUSE_EN p) = true) :
    s.pause p n = (
      let d := s.inc (F.NET_RX_FRAMES_COUNT p)
      (d.setNet p { d.net p with pausedUntil := d.now + n.toNat * 512 / 10 }).pump) :=
  (if_neg (by simp [hl])).trans (if_pos ((pauseEn_inc s p).trans he))

end

/-- A frame with a wrong check sequence is counted and raised. -/
theorem rxDropped_fcs (s : Dev) (p : Fin 2) :
    s.rxDropped p true = ((s.inc (F.NET_RX_FRAMES_COUNT p)).inc (F.NET_RX_FCS_ERR_COUNT p)).raise (C.NET_RX_FCS p) := by
  simp only [Dev.rxDropped, if_true]

/-- Another frame dropped is counted alone. -/
theorem rxDropped_counted (s : Dev) (p : Fin 2) :
    s.rxDropped p false = (s.inc (F.NET_RX_FRAMES_COUNT p)).inc (F.NET_RX_DROPPED_COUNT p) := by
  simp only [Dev.rxDropped, Bool.false_eq_true, if_false]

/-! ### The commands together -/

/-- Settles O37: a link by what it shows, FLR by the stream's transport and STATE, a frame by what its port takes. -/
theorem hostLinks : Obligations.HostLinks := by
  unfold Obligations.HostLinks
  refine ⟨?down, ?up, ?udp, ?off, ?runs, ?retrain, ?uncorrectable, ?correctable, ?netDown, ?netUp, ?answered, ?other,
    ?pause, ?fcs, ?dropped⟩
  case down => exact fun s h => done_eq (pcieLinkDown_falls h)
  case up => exact fun s sp w h hw => done_eq (pcieLinkUp_rises h hw)
  case udp => exact fun s b hb ht => done_eq (flr_keeps_udp hb ht)
  case off => exact fun s b hb h1 h2 hs => done_eq (flr_clears hb h1 h2 hs)
  case runs => exact fun s b hb h1 h2 hs => done_eq (flr_stops hb h1 h2 hs)
  case retrain => exact fun s q h => (retrainStored_rewritten s.dev).stands (done_eq (cmdLinkRetrain_eq h))
  case uncorrectable => exact fun s => done_eq (aerError_uncorrectable s.dev)
  case correctable => exact fun s => done_eq (aerError_correctable s.dev)
  case netDown => exact fun s p b h hb => done_eq (netLinkDown_falls h hb)
  case netUp => exact fun s p h ht hon => done_eq (netLinkUp_rises h ht hon)
  case answered => exact fun s p a d hl he hd ha => ⟨_, _, done_eq (arpRequest_answers hl he hd ha), rfl, rfl⟩
  case other => exact fun s p a d hl he hd ha => done_eq (arpRequest_ignores hl he hd ha)
  case pause => exact fun s p n hl he => done_eq (pause_holds hl he)
  case fcs => exact fun s p => done_eq (rxDropped_fcs s.dev p)
  case dropped => exact fun s p => done_eq (rxDropped_counted s.dev p)

end Sys2Proof.Machine

/-! ## Nightwatch after every step (R480, R482, R483) -/

namespace Sys2Proof.Machine

/-! ### A rejected reset edge (R486) -/

/-- The registers that a rejected reset edge writes. -/
def rejectRegs : List Reg :=
  [R.NW_RESET_STATUS, R.NW_RESETS_REJECTED, R.ERR_STATUS .nw, R.ERR_COUNT .nw, R.ERR_FIRST .nw] ++ recordRegs

theorem rejectEdge_regsBut (s : Dev) (b : Bool) : s.regsBut (s.rejectEdge b) rejectRegs := by
  unfold Dev.rejectEdge
  dsimp only
  refine regsBut_trans (regsBut_trans ?_ (regsBut_mono (raiseBit_regsBut _ _ _ _ (by decide)) (by decide)))
    (regsBut_mono (record_regsBut _ _ _ _ _ _ _) (by decide))
  exact regsBut_sf (regsBut_wr (s := s) (regsBut_refl s _) _ (by decide)) _ (by decide)

theorem edgeSync_regsBut (s : Dev) : s.regsBut s.edgeSync rejectRegs := by
  unfold Dev.edgeSync
  split
  · split
    · exact regsBut_refl s _
    · exact rejectEdge_regsBut s _
  · exact regsBut_refl s _

/-! ### The state that follows the sources -/

/-- No source is active or latched. -/
def Dev.noSource (s : Dev) : Prop := s.gf F.NW_TRIP_ACTIVE_SOURCES = 0 ∧ s.gf F.NW_TRIP_LATCHED_SOURCES = 0

/-- STATE, ACTIVE and LATCHED read as before, so a safe block stays safe. -/
theorem nwSafe_regsBut {s d : Dev} {l : List Reg} (h : s.regsBut d l)
    (hl : ∀ x ∈ l, x.key ≠ R.NW_STATUS.key ∧ x.key ≠ R.NW_TRIP_ACTIVE.key ∧ x.key ≠ R.NW_TRIP_LATCHED.key) (hs : s.nwSafe) :
    d.nwSafe := by
  have hst : d.nwState = s.nwState := regsBut_gf h fun x hx => (hl x hx).1.symm
  have ha : d.gf F.NW_TRIP_ACTIVE_SOURCES = s.gf F.NW_TRIP_ACTIVE_SOURCES := regsBut_gf h fun x hx => (hl x hx).2.1.symm
  have hlat : d.gf F.NW_TRIP_LATCHED_SOURCES = s.gf F.NW_TRIP_LATCHED_SOURCES := regsBut_gf h fun x hx => (hl x hx).2.2.symm
  unfold Dev.nwSafe at hs ⊢
  rwa [hst, ha, hlat]

theorem nwSafe_of_state {s : Dev} {v : Nat} (hv : s.nwState = v) (h : v = 0 ∨ 4 ≤ v) : s.nwSafe :=
  fun _ => by omega

theorem nwSafe_of_noSource {s : Dev} (h : s.noSource) : s.nwSafe := fun _ => h

theorem setNwState_state (s : Dev) {v : Nat} (hv : v < 8) : (s.setNwState v).nwState = v := by
  unfold Dev.setNwState
  split
  next h => exact h
  next =>
    have hb : ((s.sf F.NW_STATUS_STATE v).sb F.NW_STATUS_TRIG_EN (v == 3)).gf F.NW_STATUS_STATE = v := by
      rw [Dev.sb, gf_sf_of_apart _ _ (Or.inr (by decide)), gf_sf_same _ _ _ (Fld.ok_of_le (by decide))]
      exact Nat.mod_eq_of_lt hv
    exact (gf_sf_key _ _ (by decide)).trans hb

theorem setNwState_regsBut (s : Dev) (v : Nat) : s.regsBut (s.setNwState v) [R.NW_STATUS, R.IRQ_STATUS .nw] := by
  unfold Dev.setNwState
  split
  · exact regsBut_refl s _
  · exact regsBut_sf (regsBut_sf (regsBut_sf (regsBut_refl s _) _ (by decide)) _ (by decide)) _ (by decide)

theorem setNwState_noSource {s : Dev} {v : Nat} (h : s.noSource) : (s.setNwState v).noSource := by
  have hr := setNwState_regsBut s v
  exact ⟨(regsBut_gf hr (by decide)).trans h.1, (regsBut_gf hr (by decide)).trans h.2⟩

/-- A trip ends in TRIPPED (R483). -/
theorem trip_state (s : Dev) : s.trip.nwState = 4 := setNwState_state _ (by decide)

/-- STATE follows the sources (R480, R482): `new` are those to see for the first time, `any` says that one is active or latched. -/
def Dev.followSources (s : Dev) (new : Nat) (any : Bool) : Dev :=
  if s.nwState = 0 then (if s.nw.tested = some true ∧ s.nw.sealedOnce then s.setNwState (if any then 4 else 1) else s)
  else if s.nwState = 5 then s
  else if new ≠ 0 ∨ (any ∧ s.nwState ≠ 4) then s.trip
  else if s.nwState = 4 ∧ !any then s.setNwState 1
  else s

/-- READY is entered only without a source, and with one every permitting state is left. -/
theorem followSources_nwSafe {s : Dev} (new : Nat) {any : Bool} (h : any = false → s.noSource) : (s.followSources new any).nwSafe := by
  unfold Dev.followSources
  split
  next h0 =>
    split
    · cases any with
      | false => exact nwSafe_of_noSource (setNwState_noSource (h rfl))
      | true => exact nwSafe_of_state (setNwState_state s (by decide)) (by decide)
    · exact nwSafe_of_state h0 (by decide)
  next =>
    split
    next h5 => exact nwSafe_of_state h5 (by decide)
    next =>
      split
      · exact nwSafe_of_state (trip_state s) (by decide)
      next hnew =>
        split
        next hready => exact nwSafe_of_noSource (setNwState_noSource (h (by simpa using hready.2)))
        next =>
          by_cases h4 : s.nwState = 4
          · exact nwSafe_of_state h4 (by decide)
          · cases any with
            | false => exact nwSafe_of_noSource (h rfl)
            | true => exact absurd (Or.inr ⟨rfl, h4⟩) hnew

/-- What Nightwatch senses before it looks at the sources. -/
def Dev.sensedTimes (s : Dev) : Dev := s.senseOsc.testSync.fbSync

/-- A source is asserted or latched. -/
def Dev.anySource (s : Dev) : Bool :=
  decide (s.sensedTimes.tripSources ≠ 0) || decide (s.sensed.gf F.NW_TRIP_LATCHED_SOURCES ≠ 0)

theorem nwSync_eq (s : Dev) : s.nwSync = (s.sensed.followSources
    (Nat.lor s.sensedTimes.nw.fresh (Nat.xor s.sensedTimes.tripSources
      (Nat.land s.sensedTimes.tripSources (s.sensedTimes.gf F.NW_TRIP_ACTIVE_SOURCES)))) s.anySource).edgeSync := rfl

theorem clearFresh_regs (s : Dev) : s.clearFresh.regs = s.regs := by
  unfold Dev.clearFresh
  split <;> rfl

/-- ACTIVE shows the sources that are asserted. -/
theorem sensed_active (s : Dev) (h : s.sensedTimes.tripSources = 0) : s.sensed.gf F.NW_TRIP_ACTIVE_SOURCES = 0 := by
  have shown : s.sensedTimes.senseSources.gf F.NW_TRIP_ACTIVE_SOURCES = 0 := by
    unfold Dev.senseSources
    split
    next e => exact e.symm.trans h
    next => rw [h, gf_sf_same _ _ _ (Fld.ok_of_le (by decide))]; rfl
  have clear : s.sensed.gf F.NW_TRIP_ACTIVE_SOURCES = s.sensedTimes.senseSources.gf F.NW_TRIP_ACTIVE_SOURCES :=
    gf_regs (clearFresh_regs _) _
  exact clear.trans shown

theorem sensed_noSource {s : Dev} (h : s.anySource = false) : s.sensed.noSource := by
  simp only [Dev.anySource, Bool.or_eq_false_iff, decide_eq_false_iff_not, not_not] at h
  exact ⟨sensed_active s h.1, h.2⟩

theorem nwSync_nwSafe (s : Dev) : s.nwSync.nwSafe := by
  rw [nwSync_eq]
  exact nwSafe_regsBut (edgeSync_regsBut _) (by decide) (followSources_nwSafe _ sensed_noSource)

/-- READY and the lines leave Nightwatch as it stands. -/
theorem settle_nwSafe (s : Dev) : s.settle.nwSafe := by
  rw [settle_eq]
  exact nwSafe_regsBut (regsBut_trans (regsBut_mono (readySync_regsBut _) (by decide)) (regsBut_mono (irqSync_regsBut _) (by decide)))
    (l := readyRegs) (by decide) (nwSync_nwSafe _)

/-- Settles O59: what a step leaves has settled, and settling ends with Nightwatch's look at its sources. -/
theorem nwSafeStep : Obligations.NwSafeStep := by
  unfold Obligations.NwSafeStep
  intro s t h
  obtain ⟨d, hd⟩ := step_settles h
  rw [hd]
  exact settle_nwSafe d

end Sys2Proof.Machine

/-! ## Accesses that reach no register: the locked debug path and addresses without a page (R506, R573, R574, R604, R616, R617) -/

namespace Sys2Proof.Machine

/-! ### The locked debug path (R573) -/

section
variable {s : Dev} {q : Requester} (h : s.debugLocked q = true)
include h

theorem regWrite_locked (g : Page) (off : Nat) (w : Word) : s.regWrite q g off w = s := if_pos h

theorem putF_locked (f : Fld) (v : Nat) : s.putF q f v = s := regWrite_locked h _ _ _

theorem readF_locked (g : Page) (off : Nat) : s.readF q g off = s := if_pos h

theorem access_locked (a w : Word) : s.access q a w = s := if_pos h

theorem goIf_locked (i : Fin 16) (p : Nat → Bool) : s.goIf i q p = s := by
  unfold Dev.goIf
  split
  · exact putF_locked h _ _
  · rfl

theorem cmdPortClear_locked (m : BitVec 48) : s.cmdPortClear q m = s := by
  rw [Dev.cmdPortClear, regWrite_locked h, regWrite_locked h]

end

theorem debugLocked_debug {s : Dev} (h : s.gf F.SEC_STATUS_DEBUG_LEVEL = 0) : s.debugLocked .debug = true :=
  beq_iff_eq.2 h

/-- Settles O14: a command that is a register access is a write, a read or an access by address, and each of them begins with the lock. -/
theorem debugLocked : Obligations.DebugLocked := by
  unfold Obligations.DebugLocked
  intro s c h0 hc
  have hl := debugLocked_debug h0
  cases c with
  | pageEnable _ q | pageDisable _ q | pageQuiesce _ q | drainReq _ q | pageResume _ q | fence q _ | taskCancel _ q | taskRelease _ q
  | chRelease _ q _ | rzReseed q | fastEnSet q | fastEnClear q | frameEnSet q | frameEnClear q | scanClear q | kunblock _ q _
  | engRelease _ q _ | statsClear _ q | waveDisable _ q | waveEnable _ q | expoCommit q | streamFence q _ | streamEnable q
  | streamDisable q | ringRptrWrite q _ | txSleep _ q _ | rxSleep _ q _ | retrain _ q | slip _ q | test _ q _ | inject _ q
  | linkRetrain q | enumGo q | configPush q | setCtrlGo q | actArm _ q | actCancel _ q | actRelease _ q | swReset q | hostTrip q
  | seqRun q _ | pairRun q _ | decSync q | quoteGo q | fkRotate q | bar2Close q | almFlush q =>
    obtain rfl : q = .debug := Option.some.inj hc
    exact done_eq (putF_locked hl _ _)
  | pageReset _ q _ _ | errStatusClear _ q _ | errFirstClear _ q | irqStatusAck _ q _ | seqAppliedTag _ q _ | shadowArm _ q _
  | shadowCommit _ q _ | shadowDiscard _ q _ | waveHostGo _ q _ | raGo q _ | watchdog q _ | unlock q _ | protectedWrite q _ _
  | winCfgWrite q _ _ | chExcWrite _ q _ | rollbackAdv q _ _ | erase4k q | erase64k q | program q | read q
  | warmReset q _ =>
    obtain rfl : q = .debug := Option.some.inj hc
    exact done_eq (regWrite_locked hl _ _ _)
  | nowLo q | chRaw _ q | winData q =>
    obtain rfl : q = .debug := Option.some.inj hc
    exact done_eq (readF_locked hl _ _)
  | calTdc _ q | calWave _ q | bist _ q | mramWrite _ q | imageVerify _ q | reserveSwap _ q | snapshotExport _ q | taskBadCode _ q =>
    obtain rfl : q = .debug := Option.some.inj hc
    exact done_eq (goIf_locked hl _ _)
  | registerWrite q a w =>
    obtain rfl : q = .debug := Option.some.inj hc
    exact done_eq (access_locked hl a w)
  | portClear q m =>
    obtain rfl : q = .debug := Option.some.inj hc
    exact done_eq (cmdPortClear_locked hl m)
  | _ => ?_
  -- No other command is an access but SEAL, whose constructor's name is a reserved word.
  all_goals cases hc
  exact done_eq (regWrite_locked hl _ _ _)

/-! ### Addresses without a page (R616, R617) -/

/-- The MSI-X range is no page. -/
theorem decodeAddr_msix {a : Nat} (h : 0x1F0000 ≤ a) (h' : a < 0x200000) : decodeAddr a = none := by
  simp only [decodeAddr]
  rw [if_neg (by omega), if_neg (by omega)]

section
variable {s : Dev} {q : Requester} {a : Word} (hl : s.debugLocked q = false)
include hl

theorem access_noPage (w : Word) (h : decodeAddr a.toNat = none ∨ a.toNat % 4 ≠ 0)
    (hm : ¬(q = .pcie ∧ a.toNat % 4 = 0 ∧ 0x1F0000 ≤ a.toNat ∧ a.toNat < 0x200000)) : s.access q a w = s.refuse .chip := by
  have hopen : ¬(s.debugLocked q = true) := by simp [hl]
  by_cases ha : a.toNat % 4 ≠ 0
  · exact (if_neg hopen).trans ((if_neg hm).trans (if_pos ha))
  · refine (if_neg hopen).trans ((if_neg hm).trans ((if_neg ha).trans ?_))
    rw [h.resolve_right ha]

theorem busRead_noPage (h : decodeAddr a.toNat = none ∨ a.toNat % 4 ≠ 0)
    (hm : ¬(q = .pcie ∧ a.toNat % 4 = 0 ∧ 0x1F0000 ≤ a.toNat ∧ a.toNat < 0x200000)) : s.busRead q a = (0#32, s.refuse .chip) := by
  have hopen : ¬(s.debugLocked q = true) := by simp [hl]
  by_cases ha : a.toNat % 4 ≠ 0
  · exact (if_neg hopen).trans ((if_neg hm).trans (if_pos ha))
  · refine (if_neg hopen).trans ((if_neg hm).trans ((if_neg ha).trans ?_))
    rw [h.resolve_right ha]

variable {g : Page} {o : Nat} (hd : decodeAddr a.toNat = some (g, o)) (ha : a.toNat % 4 = 0)
include hd ha

theorem access_page (w : Word) : s.access q a w = s.regWrite q g o w := by
  have hm : ¬(q = .pcie ∧ a.toNat % 4 = 0 ∧ 0x1F0000 ≤ a.toNat ∧ a.toNat < 0x200000) :=
    fun ⟨_, _, h, h'⟩ => nomatch hd.symm.trans (decodeAddr_msix h h')
  refine (if_neg (by simp [hl])).trans ((if_neg hm).trans ((if_neg (not_not.2 ha)).trans ?_))
  rw [hd]
  rfl

theorem busRead_page (hr : s.responds q g = true) : s.busRead q a = s.regRead q g o := by
  have hm : ¬(q = .pcie ∧ a.toNat % 4 = 0 ∧ 0x1F0000 ≤ a.toNat ∧ a.toNat < 0x200000) :=
    fun ⟨_, _, h, h'⟩ => nomatch hd.symm.trans (decodeAddr_msix h h')
  refine (if_neg (by simp [hl])).trans ((if_neg hm).trans ((if_neg (not_not.2 ha)).trans ?_))
  rw [hd]
  exact if_pos hr

end

/-- A write at a reserved offset of a page that answers ends at most an unlock sequence. -/
theorem regWrite_reserved {s : Dev} {q : Requester} {g : Page} {o : Nat} (w : Word) (h : s.admits q g) (ho : 0x40 ≤ o)
    (hrow : regRow g o = none) (hnw : g ≠ .nw ∨ s.unlockStep q = 0) : s.regWrite q g o w = s := by
  rw [regWrite_page w h (by omega), Dev.pageWrite, hrow]
  dsimp only
  split
  next hg => exact if_pos (hnw.resolve_left (not_not.2 hg))
  next => rfl

theorem regRead_reserved {s : Dev} {q : Requester} {g : Page} {o : Nat} (ho : 0x40 ≤ o) (hrow : regRow g o = none) :
    s.regRead q g o = (0#32, s) := by
  rw [Dev.regRead, if_neg (by omega), hrow]

/-- Settles O6: an address decodes to no page, or to a page whose offset has no register. -/
theorem noPage : Obligations.NoPage := by
  unfold Obligations.NoPage
  intro s q a w hl
  refine ⟨fun h hm => ⟨done_eq (access_noPage hl w h hm), busRead_noPage hl h hm, raiseBit_on_same s.dev .chip .info 0 (by decide)⟩, ?_,
    decodeAddr_msix⟩
  intro g o hd ha ho hrow hr hdbg harm
  refine ⟨fun hnw => done_eq ?_, ?_⟩
  · exact (access_page hl hd ha w).trans (regWrite_reserved w ⟨hl, hr, hdbg, harm⟩ ho hrow hnw)
  · exact (busRead_page hl hd ha hr).trans (regRead_reserved ho hrow)

end Sys2Proof.Machine

/-! ## Protected registers without the unlock sequence (R506, R508) -/

namespace Sys2Proof.Machine

/-- Raising an error of any page writes its status registers, and of CHIP an Almanac record. -/
theorem raiseBit_regsBut_all (s : Dev) (g : Page) (n : Nat) (sev : Severity) (src : Nat) :
    s.regsBut (s.raiseBit g n sev src) ([R.ERR_STATUS g, R.ERR_COUNT g, R.ERR_FIRST g] ++ recordRegs) := by
  by_cases h : g = .chip
  · subst h
    have note : s.regsBut (s.noteError .chip n sev src) [R.ERR_STATUS .chip, R.ERR_COUNT .chip, R.ERR_FIRST .chip] := fun r hr =>
      (noteError_rd s .chip n sev src r).trans
        (recordError_rd_ne s .chip n sev src (hr _ (by simp)) (hr _ (by simp)) (hr _ (by simp)))
    rw [raiseBit_chip]
    exact regsBut_trans (regsBut_mono note fun x hx => List.mem_append_left _ hx)
      (regsBut_mono (writeEscalated_regsBut _ _) fun x hx => List.mem_append_right _ hx)
  · exact regsBut_mono (raiseBit_regsBut s n sev src h) (by simp)

/-- The protected configuration reads as before. -/
def Dev.cfgKept (s d : Dev) : Prop := ∀ o ∈ cfgOffsets, d.rd ⟨.nw, o⟩ = s.rd ⟨.nw, o⟩

theorem cfgKept_refl (s : Dev) : s.cfgKept s := fun _ _ => rfl

theorem cfgKept_regs {s d : Dev} (h : d.regs = s.regs) : s.cfgKept d := fun _ _ => rd_regs h _

theorem Dev.cfgKept.trans {s d e : Dev} (h : s.cfgKept d) (h' : d.cfgKept e) : s.cfgKept e :=
  fun o ho => (h' o ho).trans (h o ho)

/-- The protected registers lie at offsets 0x60 to 0x57C. -/
theorem cfgOffsets_bounds : ∀ o ∈ cfgOffsets, 0x60 ≤ o ∧ o < 0x580 := by
  intro o ho
  simp only [cfgOffsets, List.mem_append, List.mem_map, List.mem_range, List.mem_cons, List.not_mem_nil, or_false] at ho
  rcases ho with ((((h | ⟨i, hi, rfl⟩) | ⟨i, hi, rfl⟩) | ⟨i, hi, rfl⟩) | ⟨i, hi, rfl⟩) | ⟨i, hi, rfl⟩ <;> omega

theorem key_nw (o : Nat) : Reg.key ⟨.nw, o⟩ = 8 * 4096 + o := rfl

theorem cfgKept_regsBut {s d : Dev} {l : List Reg} (h : s.regsBut d l) (hl : ∀ x ∈ l, x.key < 0x8060 ∨ 0x8580 ≤ x.key) :
    s.cfgKept d := fun o ho => h _ fun x hx => by
  have hk := key_nw o
  have := cfgOffsets_bounds o ho
  have := hl x hx
  omega

theorem cfgKept_raise (s : Dev) (n : Nat) (sev : Severity) (src : Nat) : s.cfgKept (s.raiseBit .nw n sev src) :=
  cfgKept_regsBut (raiseBit_regsBut_all s .nw n sev src) (by decide)

theorem cfgKept_refuse (s : Dev) : s.cfgKept (s.refuse .nw) := cfgKept_raise s _ _ _

theorem cfgKept_refuse_chip (s : Dev) : s.cfgKept (s.refuse .chip) :=
  cfgKept_regsBut (raiseBit_regsBut_all s .chip _ _ _) (by decide)

theorem cfgKept_setUnlock (s : Dev) (q : Requester) (n : Nat) : s.cfgKept (s.setUnlock q n) := cfgKept_regs rfl

theorem cfgKept_cancelUnlock (s : Dev) (q : Requester) : s.cfgKept (s.cancelUnlock q) := cfgKept_raise (s.setUnlock q 0) _ _ _

theorem cfgKept_nwOtherWrite (s : Dev) (q : Requester) : s.cfgKept (s.nwOtherWrite q) := by
  unfold Dev.nwOtherWrite
  split
  · exact cfgKept_refl s
  · exact cfgKept_cancelUnlock s q

theorem cfgKept_latchTrip (s : Dev) (n : Nat) : s.cfgKept (s.latchTrip n) :=
  cfgKept_regsBut (l := [R.NW_TRIP_LATCHED]) (regsBut_sf (f := F.NW_TRIP_LATCHED_SOURCES) (regsBut_refl s _) _ (by decide)) (by decide)

theorem cfgKept_unlock (s : Dev) (q : Requester) (w : Word) : s.cfgKept (s.unlock q w) := by
  unfold Dev.unlock
  split
  · exact cfgKept_refuse s
  · split
    · split
      · exact cfgKept_setUnlock s q 1
      · exact cfgKept_raise s _ _ _
    · split
      · exact cfgKept_setUnlock s q 2
      · exact cfgKept_cancelUnlock s q
    · exact cfgKept_cancelUnlock s q

theorem cfgKept_hostTripCore (s : Dev) : s.cfgKept s.hostTripCore := (cfgKept_raise s _ _ _).trans (cfgKept_latchTrip _ 15)

theorem cfgKept_watchdog (s : Dev) (q : Requester) (w : Word) : s.cfgKept (s.watchdog q w) := by
  have latch (d : Dev) : d.cfgKept d.watchdogLatch := 
    ((cfgKept_raise d _ _ _).trans (cfgKept_latchTrip _ 14)).trans (cfgKept_regs rfl)
  refine (cfgKept_nwOtherWrite s q).trans ?_
  unfold Dev.watchdog
  dsimp only
  split
  · exact cfgKept_regs rfl
  · exact latch _

/-- Without the sequence a protected write is refused. -/
theorem cfgKept_nwProtected {s : Dev} {q : Requester} (off : Nat) (w : Word) (h : s.unlockStep q ≠ 2) :
    s.cfgKept (s.nwProtected q off w) := by
  have refused : (s.takeUnlock q).1 = false ∧ s.cfgKept (s.takeUnlock q).2 := by
    simp only [Dev.takeUnlock, if_pos h]
    split
    · exact ⟨rfl, cfgKept_refuse s⟩
    · exact ⟨rfl, (cfgKept_nwOtherWrite s q).trans (cfgKept_refuse _)⟩
  have eq : s.nwProtected q off w = (s.takeUnlock q).2 := if_pos (by simp [refused.1])
  rw [eq]
  exact refused.2

/-- CMD.TRIP leaves the unlock sequences. -/
theorem hostTripCore_unlockStep (s : Dev) (q : Requester) : s.hostTripCore.unlockStep q = s.unlockStep q := by
  obtain ⟨m, f, r, e, st, l, al, h⟩ := raiseBit_form s C.NW_HOST_TRIP.pg C.NW_HOST_TRIP.bit C.NW_HOST_TRIP.sev 0
  rw [Dev.hostTripCore, Dev.raise, h]
  rfl

/-- A store of a register that is not protected. -/
theorem cfgKept_storeAny (s : Dev) (q : Requester) {off : Nat} (w : Word) (h : nwConfig off = false) :
    s.cfgKept (s.storeAny q .nw off w) := by
  intro o ho
  have hlt := (cfgOffsets_bounds o ho).2
  have hne : o ≠ off := by
    rintro rfl
    simp [nwConfig, ho] at h
  unfold Dev.storeAny
  split
  · exact rd_wrQ_ne s _ (key_ne_keyOf q (show o < 4096 by omega))
  · exact rd_wr_ne s _ (by rw [key_nw, key_nw]; omega)

theorem cfgKept_cmd {s : Dev} {q : Requester} (w : Word) (h : s.unlockStep q ≠ 2) : s.cfgKept (s.nwWrite q 0x54 w) := by
  unfold Dev.nwWrite
  rw [if_neg (by decide), if_pos rfl]
  by_cases h1 : bits w 1 1 = 1
  · by_cases h0 : bits w 0 1 = 1
    · simp only [h0, h1, if_true]
      exact (cfgKept_hostTripCore s).trans (cfgKept_nwProtected _ _ (by rwa [hostTripCore_unlockStep]))
    · simp only [h0, h1, if_true, if_false]
      exact cfgKept_nwProtected _ _ h
  · by_cases h0 : bits w 0 1 = 1
    · simp only [h0, h1, if_true, if_false]
      exact (cfgKept_nwOtherWrite s q).trans (cfgKept_hostTripCore _)
    · simp only [h0, h1, if_false]
      exact cfgKept_nwOtherWrite s q

/-- What each register of the NW page makes of a write. -/
theorem cfgKept_nwWrite {s : Dev} {q : Requester} (off : Nat) (w : Word) (h : s.unlockStep q ≠ 2) : s.cfgKept (s.nwWrite q off w) := by
  by_cases hcmd : off = 0x54
  · subst hcmd
    exact cfgKept_cmd w h
  · unfold Dev.nwWrite
    rw [if_neg hcmd]
    split_ifs with hunlock hseal hwd hcfg
    · exact cfgKept_unlock s q w
    · exact cfgKept_nwProtected off w h
    · exact cfgKept_watchdog s q w
    · exact cfgKept_nwProtected off w h
    · exact (cfgKept_nwOtherWrite s q).trans (cfgKept_storeAny _ q w (by simpa using hcfg))

/-- No register of the NW page is shadowed (R60). -/
theorem shadowedReg_nw (off : Nat) : shadowedReg .nw off = false := by
  have rows : ∀ r ∈ headerRows ++ nwRows, r.shadowed = false := by decide
  unfold shadowedReg
  split
  next r hr =>
    refine rows r ?_
    unfold regRow at hr
    split at hr
    · exact List.mem_append_left _ (List.mem_of_find?_eq_some hr)
    · exact List.mem_append_right _ (List.mem_of_find?_eq_some hr)
  next => rfl

theorem cfgKept_pageWrite {s : Dev} {q : Requester} (off : Nat) (w : Word) (h : s.unlockStep q ≠ 2) :
    s.cfgKept (s.pageWrite (issueN 16) q .nw off w) := by
  unfold Dev.pageWrite
  split
  · exact cfgKept_nwOtherWrite s q
  next r _ =>
    rw [if_neg (by simp)]
    split
    · have applied : s.apply_ (issueN 16) q .nw off w = s.nwWrite q off w := by
        simp only [Dev.apply_, Dev.waveOff, shadowedReg_nw, Dev.effect, Bool.false_eq_true, if_false]
      rw [applied]
      exact cfgKept_nwWrite off w h
    · have discards : s.cfgKept (if w &&& BitVec.ofNat 32 r.wo = 0#32 then s else s.refuse .nw) := by
        split
        · exact cfgKept_refl s
        · exact cfgKept_refuse s
      dsimp only
      split
      · exact discards
      · exact discards.trans (cfgKept_regs rfl)

/-- Settles O49: each way a write of the NW page may go, none of which reaches a protected register. -/
theorem nwProtected : Obligations.NwProtected := by
  unfold Obligations.NwProtected
  intro s q off o w h h40 _ ho
  have kept : s.cfgKept (s.regWrite q .nw off w) := by
    unfold Dev.regWrite Dev.regWriteWith
    split_ifs with hlock hresp hdebug hemit
    · exact cfgKept_refl s
    · exact cfgKept_refuse_chip s
    · exact cfgKept_refuse s
    · exact absurd hemit.1 (by simp)
    · omega
    · exact cfgKept_pageWrite off w h
  exact kept o ho

end Sys2Proof.Machine

/-! ## Quotes, frame keys, rollback counters and the window (R567, R570 to R572, R574, R585, R588) -/

namespace Sys2Proof.Machine

/-- A read of a page-specific register of a page that is ON goes to its requester, with what the read itself does. -/
theorem readF_page {s : Dev} {q : Requester} {g : Page} {off : Nat} (hl : s.debugLocked q = false) (hr : s.responds q g = true)
    (hon : s.isOn g = true) (ho : ¬off < 0x40) (hrow : (regRow g off).isSome = true) (hw : s.waveHeld g off = none) :
    s.readF q g off = (s.pageRead q g off).2.send (.value q (s.pageRead q g off).1) := by
  obtain ⟨r, hrow⟩ := Option.isSome_iff_exists.1 hrow
  have read : s.regRead q g off = s.pageRead q g off := by
    simp only [Dev.regRead, if_neg ho, hrow, if_pos hon, hw]
  rw [Dev.readF, if_neg (by simp [hl]), if_pos hr, read]

/-! ### SEC.CTRL (R570, R571, R574) -/

/-- The bits of a word with one bit set. -/
theorem bits_oneBit {lo i : Nat} (hlo : lo < 32) (hi : i < 32) : bits (setBits 0#32 lo 1 1) i 1 = 1 ↔ i = lo := by
  rcases Nat.lt_trichotomy i lo with h | rfl | h
  · rw [bits_setBits_below _ _ (by omega) (by omega), bits_zero]
    omega
  · rw [bits_setBits_same _ _ (by omega)]
    simp
  · rw [bits_setBits_above _ _ (by omega) (by omega), bits_zero]
    omega

/-- A command that writes one bit of SEC.CTRL. -/
theorem putF_secCtrl {s : Dev} {q : Requester} (h : s.takes q .sec) {lo : Nat} (hlo : lo < 32) :
    s.putF q ⟨.sec, 0x44, lo, 1⟩ 1 = (
      let d := if 2 = lo then s.bar2CloseCore else s
      let d := if 1 = lo then d.quoteGoCore else d
      if 0 = lo then d.fkRotateCore else d) := by
  have written := putF_wo (f := ⟨.sec, 0x44, lo, 1⟩) 1 h (show ¬0x44 < 0x40 by decide)
    (show (regRow .sec 0x44).any (fun r => !r.readOnly) = true by decide) (show shadowedReg .sec 0x44 = false by decide) rfl
    (show rwMask .sec 0x44 = 0 by decide)
  rw [written]
  simp only [Dev.effect, Dev.secWrite, bits_oneBit hlo (show 2 < 32 by decide), bits_oneBit hlo (show 1 < 32 by decide),
    bits_oneBit hlo (show 0 < 32 by decide), if_true]

section
variable {s : Dev} {q : Requester} (h : s.takes q .sec)
include h

theorem cmdQuoteGo_eq : s.cmdQuoteGo q = s.quoteGoCore := putF_secCtrl h (lo := 1) (by decide)

theorem cmdFkRotate_eq : s.cmdFkRotate q = s.fkRotateCore := putF_secCtrl h (lo := 0) (by decide)

theorem cmdBar2Close_eq : s.cmdBar2Close q = s.bar2CloseCore := putF_secCtrl h (lo := 2) (by decide)

end

/-! ### ROLLBACK_ADV (R567) -/

/-- The word of ROLLBACK_ADV holds the counter and its new value. -/
theorem rollbackWord_bits (t : BitVec 2) (v : BitVec 7) :
    bits (BitVec.ofNat 32 (t.toNat * 2^8 + v.toNat)) 8 2 = t.toNat ∧ bits (BitVec.ofNat 32 (t.toNat * 2^8 + v.toNat)) 0 7 = v.toNat := by
  have ht := t.isLt
  have hv := v.isLt
  rw [bits_ofNat, bits_ofNat]
  omega

theorem cmdRollbackAdv_eq {s : Dev} {q : Requester} (t : BitVec 2) (v : BitVec 7) (h : s.takes q .sec) :
    s.cmdRollbackAdv q t v = s.rollbackAdvCore t.toNat v.toNat := by
  obtain ⟨htype, hval⟩ := rollbackWord_bits t v
  have written := regWrite_effect (off := 0x4C) (BitVec.ofNat 32 (t.toNat * 2^8 + v.toNat)) h (by decide) (by decide) (by decide) rfl
  refine written.trans ?_
  simp only [Dev.effect, Dev.secWrite, htype, hval, Nat.reduceEqDiff, if_false, if_true]

theorem rollbackAdvCore_refused {s : Dev} {t v : Nat} (h : v ≤ s.gf (counterFld t) ∨ s.rollbackInUse t < v ∨ 64 < v) :
    s.rollbackAdvCore t v = s.refuse .sec :=
  if_neg fun ⟨h1, h2, h3⟩ => by omega

/-! ### The keys (R570, R571) -/

theorem quoteReady_pending {s : Dev} {l : List Nat} (h : s.sec.quotePend = some l) :
    s.quoteReady = (({ s with sec := { s.sec with quotePend := none, quote := signed l } }.sb F.SEC_STATUS_QUOTE_BUSY false).sb
      F.SEC_STATUS_QUOTE_VALID true).event E.SEC_QUOTE_READY := by
  rw [Dev.quoteReady, h]

/-- The statement that binds a frame key to the unit, the boot and the time (R571). -/
def Dev.keyStatement (s : Dev) (pub id : Nat) : List Nat :=
  signed (bytesBE 4 1 ++ bytesBE 4 id ++ bytesBE 2 s.unit ++ [0, 0] ++ bytesBE 4 (s.gf F.SEC_BOOT_COUNT_COUNT)
    ++ bytesBE 8 s.now ++ bytesBE 8 (if s.on F.TIME_CAL_CTRL_TAI_VALID then s.tai s.now else 0) ++ bytesBE 64 pub)

/-- The block that holds a new frame key. -/
def Dev.keyed (s : Dev) (pub id : Nat) : Dev :=
  { s with sec := { s.sec with fkPend := false, fkStatement := s.keyStatement pub id }, stream := { s.stream with chainStart := true } }

theorem frameKey_pending {s : Dev} {id : Nat} (hp : s.sec.fkPend = true) (hf : s.sec.keyFault = false)
    (hid : id = Config.sha256 (bytesBE 64 (Config.framePub s.free.1 % 2^512)) % 2^256 / 2^224) :
    s.frameKey = ((((s.free.2.keyed (Config.framePub s.free.1 % 2^512) id).sf F.SEC_FK_ID_KEY_ID id).sb F.SEC_STATUS_FK_VALID true).record
      0x0055 .info Page.sec.base id).event E.SEC_FRAME_KEY_CHANGED := by
  subst hid
  exact if_neg (by simp [hp, hf])

/-- Settles O53: each command of SEC is its bit of CTRL, its word or its event. -/
theorem secKeys : Obligations.SecKeys := by
  unfold Obligations.SecKeys
  refine ⟨?quoteGo, ?quoteRefused, ?rotate, ?rotateRefused, ?close, ?advance, ?advanceRefused, ?quoteReady, ?frameKey, ?winData⟩
  case quoteGo =>
    exact fun s q h hb hf => done_eq ((cmdQuoteGo_eq h).trans (if_neg (by simp [hb, hf])))
  case quoteRefused => exact fun s q h hr => done_eq ((cmdQuoteGo_eq h).trans (if_pos hr))
  case rotate =>
    exact fun s q h hl hf => done_eq ((cmdFkRotate_eq h).trans (if_neg (by simp [hl, hf])))
  case rotateRefused => exact fun s q h hr => done_eq ((cmdFkRotate_eq h).trans (if_pos hr))
  case close => exact fun s q h => done_eq (cmdBar2Close_eq h)
  case advance =>
    exact fun s q t v h h1 h2 h3 => done_eq ((cmdRollbackAdv_eq t v h).trans (if_pos ⟨h1, h2, h3⟩))
  case advanceRefused =>
    exact fun s q t v h hr => done_eq ((cmdRollbackAdv_eq t v h).trans (rollbackAdvCore_refused hr))
  case quoteReady => exact fun s l h => done_eq (quoteReady_pending h)
  case frameKey =>
    rintro s f id hp hf rfl hid
    exact ⟨s.dev.free.2.keyed (Config.framePub s.dev.free.1 % 2^512) id, rfl, rfl, rfl, done_eq (frameKey_pending hp hf hid)⟩
  case winData =>
    exact fun s q hl hr hon => done_eq (readF_page (off := 0x5C) hl hr hon (by decide) (by decide) rfl)

end Sys2Proof.Machine

/-! ## Almanac flushes and flash operations (R579 to R581, R584, R587) -/

namespace Sys2Proof.Machine

/-! ### The start of a flush (R579) -/

/-- With nothing staged a flush is over at once. -/
theorem startFlush_empty {s : Dev} (hf : s.on F.ALM_STATUS_FLUSHING = false) (hs : s.alm.scanned = true) (he : s.staging = []) :
    s.startFlush = ({ s with alm := { s.alm with lastFlush := s.now } }.inc F.ALM_FLUSHES_COUNT).event E.ALM_FLUSH_DONE := by
  rw [Dev.startFlush, if_neg (by simp [hf, hs]), if_pos (by simp [he])]

theorem startFlush_begins {s : Dev} (hf : s.on F.ALM_STATUS_FLUSHING = false) (hs : s.alm.scanned = true) (he : s.staging ≠ []) :
    s.startFlush = { s with alm := { s.alm with flushAt := s.now, flushed := 0 } }.sb F.ALM_STATUS_FLUSHING true := by
  rw [Dev.startFlush, if_neg (by simp [hf, hs]), if_neg (by simp [he])]

theorem startFlush_inProgress {s : Dev} (hf : s.on F.ALM_STATUS_FLUSHING = true) : s.startFlush = s := if_pos (.inl hf)

theorem cmdAlmFlush_eq {s : Dev} {q : Requester} (h : s.takes q .alm) : s.cmdAlmFlush q = s.startFlush := by
  have written := putF_wo (f := F.ALM_CTRL_FLUSH) 1 h (show ¬0x40 < 0x40 by decide)
    (show (regRow .alm 0x40).any (fun r => !r.readOnly) = true by decide) (show shadowedReg .alm 0x40 = false by decide) rfl
    (show rwMask .alm 0x40 = 0 by decide)
  refine written.trans ?_
  simp only [Dev.effect, Dev.almWrite, bits_oneBit (show 0 < 32 by decide) (show 0 < 32 by decide), if_true, Dev.almFlushCore]

/-- An instant that has come changes neither registers nor the Almanac's buffer. -/
theorem advanceTo_alm (s : Dev) (t : Nat) : (s.advanceTo t).alm = s.alm ∧ (s.advanceTo t).staging = s.staging := by
  obtain ⟨n, -, h⟩ := advanceTo_form s t
  rw [h]
  exact ⟨rfl, rfl⟩

theorem advanceTo_on (s : Dev) (t : Nat) (f : Fld) : (s.advanceTo t).on f = s.on f := on_regs (advanceTo_regs s t) f

/-! ### The end of a flush (R579, R581) -/

/-- What FLUSH_DONE leaves before it counts the flush. -/
def Dev.flushEnded (b : Dev) : Dev :=
  { b.flushN b.staging.length with alm := { (b.flushN b.staging.length).alm with lastFlush := (b.flushN b.staging.length).now } }.sb
    F.ALM_STATUS_FLUSHING false

theorem flushDone_ends {s : Dev} (h : s.on F.ALM_STATUS_FLUSHING = true) :
    s.flushDone = (((s.advanceTo (s.alm.flushAt + 600 * (s.alm.flushed + s.staging.length))).flushEnded.inc F.ALM_FLUSHES_COUNT).event
      E.ALM_FLUSH_DONE).lostSync := if_neg (by simp [h])

theorem flushEnded_now (b : Dev) : b.flushEnded.alm.lastFlush = b.now := by
  obtain ⟨m, st, al, h⟩ := flushN_form b b.staging.length
  simp only [Dev.flushEnded, h]
  rfl

theorem flushEnded_regsBut (b : Dev) : b.regsBut b.flushEnded flushRegs :=
  regsBut_sf (f := F.ALM_STATUS_FLUSHING) (fun _ hr => flushN_rd b _ hr) 0 (by decide)

theorem flushEnded_idle (b : Dev) : b.flushEnded.on F.ALM_STATUS_FLUSHING = false :=
  on_sb_same _ _ false (Fld.ok_of_le (by decide)) rfl

/-- A flush of everything staged. -/
theorem flushN_all {b : Dev} (h : b.staging ≠ []) :
    b.flushN b.staging.length = (
      let e := b.staging.foldl (fun (d : Dev) r => d.toRing (.valid r) r.seq) b
      (({ e with staging := [], alm := { e.alm with flushed := b.alm.flushed + b.staging.length } }).setFlushed
        ((b.gf F.ALM_FLUSHED_SEQ_SEQ + b.staging.length) % 2^32)).sf F.ALM_STATUS_STAGED 0) := by
  have hn : ¬b.staging.length = 0 := by simpa using h
  rw [Dev.flushN, if_neg hn]
  simp only [List.take_length, List.drop_length, List.length_nil, Nat.sub_zero]

theorem flushEnded_staging {b : Dev} (h : b.staging ≠ []) : b.flushEnded.staging = [] := by
  simp only [Dev.flushEnded, flushN_all h]
  rfl

theorem flushEnded_ring {b : Dev} (h : b.staging ≠ []) :
    b.flushEnded.alm.ring = (b.staging.foldl (fun (d : Dev) r => d.toRing (.valid r) r.seq) b).alm.ring := by
  simp only [Dev.flushEnded, flushN_all h]
  rfl

theorem flushEnded_seq {b : Dev} (h : b.staging ≠ []) :
    b.flushEnded.gf F.ALM_FLUSHED_SEQ_SEQ = (b.gf F.ALM_FLUSHED_SEQ_SEQ + b.staging.length) % 2^32 := by
  have after : b.flushEnded.gf F.ALM_FLUSHED_SEQ_SEQ = (b.flushN b.staging.length).gf F.ALM_FLUSHED_SEQ_SEQ := gf_sf_key _ _ (by decide)
  rw [after, flushN_all h]
  dsimp only [Dev.setFlushed]
  rw [gf_sf_key (f := F.ALM_STATUS_STAGED) _ _ (by decide), gf_sf_key (f := F.ALM_WRAPS_COUNT) _ _ (by decide),
    gf_sf_key (f := F.ALM_OLDEST_SEQ_SEQ) _ _ (by decide), gf_sf_same _ _ _ (Fld.ok_of_le (by decide))]
  exact Nat.mod_mod _ _

/-! ### The power-fail warning (R584) -/

/-- A warning notes the step in progress and is recorded. -/
theorem powerFailWarning_comes {s : Dev} (h : s.on F.ALM_STATUS_PFW = false) (p : Option (Nat × Nat))
    (hp : s.nextStep.map (fun i => (i, s.stepsDone i)) = p) :
    s.powerFailWarning = (
      let d := ({ s with alm := { s.alm with pfwStep := p } }.sb F.ALM_STATUS_PFW true).record 0x0004 .info Page.alm.base
      if p.isNone then d.startFlush else d) := by
  subst hp
  exact if_neg (by simp [h])

/-! ### Flash commands (R587) -/

/-- The word of a flash command: GO and its operation. -/
theorem flashWord_bits {op : Nat} (h : op < 4) :
    bits (BitVec.ofNat 32 (2^31 + op)) 31 1 = 1 ∧ bits (BitVec.ofNat 32 (2^31 + op)) 0 2 = op := by
  rw [bits_ofNat, bits_ofNat]
  omega

theorem flashCmd_eq {s : Dev} {q : Requester} {op : Nat} (h : s.takes q .flash) (hop : op < 4) : s.flashCmd q op = s.flashGo op := by
  obtain ⟨hgo, hcode⟩ := flashWord_bits hop
  refine (regWrite_effect (off := 0x48) _ h (by decide) (by decide) (by decide) rfl).trans ?_
  simp only [Dev.effect, Dev.flashWrite, hgo, hcode, and_self, if_true]

/-- The block that a flash command leaves whose range is not protected. -/
def Dev.flashStarted (s : Dev) (op : Nat) : Dev :=
  let b := (s.sf F.FLASH_CMD_OP op).sb F.FLASH_STATUS_PROTECTED false
  (({ b with flash := { b.flash with op := some (op, s.gf F.FLASH_ADDR_ADDR,
      if op = 2 then (List.range 64).map (fun i => b.gf (F.FLASH_BUF_DATA i)) else []) } }).sb
    F.FLASH_STATUS_BUSY true).sb F.FLASH_STATUS_ERROR false

theorem flashGo_busy {s : Dev} (op : Nat) (h : s.on F.FLASH_STATUS_BUSY = true) : s.flashGo op = s.refuse .flash := if_pos h

theorem flashGo_idle {s : Dev} (op : Nat) (h : s.on F.FLASH_STATUS_BUSY = false) :
    s.flashGo op = (
      let b := (s.sf F.FLASH_CMD_OP op).sb F.FLASH_STATUS_PROTECTED false
      if b.flashProtected op (s.gf F.FLASH_ADDR_ADDR) then b.sb F.FLASH_STATUS_PROTECTED true else s.flashStarted op) :=
  if_neg (by simp [h])

theorem flashGo_starts {s : Dev} {op : Nat} (h : s.on F.FLASH_STATUS_BUSY = false)
    (hp : ((s.sf F.FLASH_CMD_OP op).sb F.FLASH_STATUS_PROTECTED false).flashProtected op (s.gf F.FLASH_ADDR_ADDR) = false) :
    s.flashGo op = s.flashStarted op := (flashGo_idle op h).trans (if_neg (by simp [hp]))

/-- A read is never protected. -/
theorem flashProtected_read (s : Dev) (a : Nat) : s.flashProtected 3 a = false := rfl

/-! ### The end of a flash operation (R587) -/

/-- An operation ends: the block without it, its free value drawn. -/
def Dev.opEnded (s : Dev) : Dev := { s.free.2 with flash := { s.free.2.flash with op := none } }

/-- The bytes of a read come into the buffer. -/
def Dev.readBuffer (s : Dev) (a : Nat) : Dev :=
  forN 64 (fun i (e : Dev) => e.sf (F.FLASH_BUF_DATA i) (ofBE (e.flashBytes (a / 256 * 256 + 4 * i) 4).reverse)) s

/-- A range reads erased. -/
def Dev.eraseRange (s : Dev) (r : Nat × Nat) : Dev :=
  { s with flash := { s.flash with bytes := fdrop (fun k => decide (r.1 ≤ k) && decide (k < r.1 + r.2)) s.flash.bytes } }

/-- The operation's command is over. -/
def Dev.flashOver (s : Dev) (err : Bool) : Dev := (s.sb F.FLASH_STATUS_BUSY false).sb F.FLASH_STATUS_ERROR err

theorem opDone_read {s : Dev} {a : Nat} {l : List Nat} (h : s.flash.op = some (3, a, l)) :
    s.opDone 0#2 = ((s.opEnded.readBuffer a).flashOver false).event E.FLASH_OP_DONE := by
  rw [Dev.opDone, h]
  rfl

theorem opDone_programmed {s : Dev} {a : Nat} {l : List Nat} (h : s.flash.op = some (2, a, l)) :
    s.opDone 0#2 = ((s.opEnded.setFlash (a / 256 * 256) 256 (fun k =>
      programByte (s.opEnded.flashByte k) ((l.flatMap (fun w => bytesLE 4 w)).getD (k - a / 256 * 256) 0) s.free.1 k)).flashOver
        false).event E.FLASH_OP_DONE := by
  rw [Dev.opDone, h]
  simp only [if_neg (show ¬2 = 3 by decide), ne_eq, not_true_eq_false, if_true, if_false, decide_false]
  rfl

theorem opDone_erased {s : Dev} {op a : Nat} {l : List Nat} (h : s.flash.op = some (op, a, l)) (hop : op < 2) :
    s.opDone 0#2 = ((s.opEnded.eraseRange (flashRange op a)).flashOver false).event E.FLASH_OP_DONE := by
  rw [Dev.opDone, h]
  simp only [if_neg (show ¬op = 3 by omega), if_neg (show ¬op = 2 by omega), ne_eq, not_true_eq_false, if_true, if_false, decide_false]
  rfl

/-- A dropped key reads the default, and every other key as before. -/
theorem fget_fdrop {ν : Type} (d : Nat → ν) (p : Nat → Bool) (m : FMap ν) (k : Nat) :
    fget d (fdrop p m) k = if p k = true then d k else fget d m k := by
  induction m with
  | nil => simp [fdrop, fget]
  | cons e m ih =>
    obtain ⟨k', v⟩ := e
    simp only [fdrop, List.filter_cons] at ih ⊢
    by_cases hk : k = k'
    · subst hk
      cases hp : p k <;> simp [hp, ih, fget]
    · cases hp' : p k' <;> simp [ih, fget, hk]

theorem eraseRange_byte (s : Dev) (r : Nat × Nat) (k : Nat) :
    (s.eraseRange r).flashByte k = if r.1 ≤ k ∧ k < r.1 + r.2 then 255 else s.flashByte k := by
  refine (fget_fdrop byteFF (fun k => decide (r.1 ≤ k) && decide (k < r.1 + r.2)) s.flash.bytes k).trans ?_
  simp only [Bool.and_eq_true, decide_eq_true_eq]
  rfl

theorem setFlash_op (s : Dev) (a n : Nat) (f : Nat → Nat) : (s.setFlash a n f).flash.op = s.flash.op :=
  forN_ind (P := fun d : Dev => d.flash.op = s.flash.op) n rfl fun _ _ _ h => h

/-- A failed operation leaves free bytes where it worked, and the flash without an operation. -/
theorem opDone_failed {s : Dev} {x : Nat × Nat × List Nat} {err : BitVec 2} (h : s.flash.op = some x) (he : err ≠ 0#2) :
    ∃ d : Dev, d.flash.op = none ∧ s.opDone err = ((d.flashOver true).raise C.FLASH_FLASH_ERROR).event E.FLASH_OP_DONE := by
  obtain ⟨op, a, l⟩ := x
  rw [Dev.opDone, h]
  simp only [if_neg he, if_pos he, decide_eq_true he]
  refine ⟨_, ?_, rfl⟩
  split
  · exact forN_ind (P := fun d : Dev => d.flash.op = none) 64 rfl fun _ _ _ h => h
  · exact setFlash_op _ _ _ _

theorem flashOver_busy (s : Dev) (err : Bool) :
    (s.flashOver err).on F.FLASH_STATUS_BUSY = false ∧ (s.flashOver err).on F.FLASH_STATUS_ERROR = err := by
  have busy : (s.sb F.FLASH_STATUS_BUSY false).gf F.FLASH_STATUS_BUSY = 0 := gf_sf_same _ _ _ (Fld.ok_of_le (by decide))
  have stays : (s.flashOver err).gf F.FLASH_STATUS_BUSY = (s.sb F.FLASH_STATUS_BUSY false).gf F.FLASH_STATUS_BUSY :=
    gf_sf_of_apart _ _ (Or.inr (by decide))
  exact ⟨by rw [Dev.on, stays, busy]; rfl, on_sb_same _ _ err (Fld.ok_of_le (by decide)) rfl⟩

/-! ### The commands together -/

/-- Settles O54: flushes start, run and end, and flash commands are refused, protected or run to their end. -/
theorem almFlash : Obligations.AlmFlash := by
  unfold Obligations.AlmFlash
  refine ⟨?empty, ?begins, ?inProgress, ?timerEmpty, ?timerBegins, ?flushDone, ?warning, ?warningStep, ?busy, ?guarded, ?erase4k,
    ?erase64k, ?program, ?read, ?readDone, ?programDone, ?eraseDone, ?failed⟩
  case empty => exact fun s q h hf hs he => done_eq ((cmdAlmFlush_eq h).trans (startFlush_empty hf hs he))
  case begins => exact fun s q h hf hs he => done_eq ((cmdAlmFlush_eq h).trans (startFlush_begins hf hs he))
  case inProgress => exact fun s q h hf => done_eq ((cmdAlmFlush_eq h).trans (startFlush_inProgress hf))
  case timerEmpty =>
    rintro s b hf hs he rfl
    obtain ⟨halm, hstage⟩ := advanceTo_alm s.dev (s.dev.alm.lastFlush + 1000000000)
    exact done_eq (startFlush_empty ((advanceTo_on _ _ _).trans hf) ((congrArg AlmX.scanned halm).trans hs) (hstage.trans he))
  case timerBegins =>
    rintro s b hf hs he rfl
    obtain ⟨halm, hstage⟩ := advanceTo_alm s.dev (s.dev.alm.lastFlush + 1000000000)
    exact done_eq (startFlush_begins ((advanceTo_on _ _ _).trans hf) ((congrArg AlmX.scanned halm).trans hs) (fun e => he (hstage.symm.trans e)))
  case flushDone =>
    rintro s b e hf he rfl rfl
    obtain ⟨-, hstage⟩ := advanceTo_alm s.dev (s.dev.alm.flushAt + 600 * (s.dev.alm.flushed + s.dev.staging.length))
    have hb : (s.dev.advanceTo (s.dev.alm.flushAt + 600 * (s.dev.alm.flushed + s.dev.staging.length))).staging ≠ [] := fun e => he (hstage.symm.trans e)
    refine ⟨_, flushEnded_staging hb, flushEnded_now _, flushEnded_ring hb, ?_, flushEnded_idle _, ?_, done_eq (flushDone_ends hf)⟩
    · rw [flushEnded_seq hb, advanceTo_gf, hstage]
    · exact fun r hr => (flushEnded_regsBut _ r hr).trans (rd_regs (advanceTo_regs _ _) r)
  case warning =>
    exact fun s hw hn => done_eq (powerFailWarning_comes hw none (by rw [hn]; rfl))
  case warningStep =>
    exact fun s i hw hn => done_eq (powerFailWarning_comes hw (some (i, s.dev.stepsDone i)) (by rw [hn]; rfl))
  case busy =>
    rintro s q c h hb (rfl | rfl | rfl | rfl)
    · exact done_eq ((flashCmd_eq h (by decide)).trans (flashGo_busy 0 hb))
    · exact done_eq ((flashCmd_eq h (by decide)).trans (flashGo_busy 1 hb))
    · exact done_eq ((flashCmd_eq h (by decide)).trans (flashGo_busy 2 hb))
    · exact done_eq ((flashCmd_eq h (by decide)).trans (flashGo_busy 3 hb))
  case guarded =>
    rintro s q c op b h hb (⟨rfl, rfl⟩ | ⟨rfl, rfl⟩ | ⟨rfl, rfl⟩) rfl hp
    · exact done_eq ((flashCmd_eq h (by decide)).trans ((flashGo_idle 0 hb).trans (if_pos hp)))
    · exact done_eq ((flashCmd_eq h (by decide)).trans ((flashGo_idle 1 hb).trans (if_pos hp)))
    · exact done_eq ((flashCmd_eq h (by decide)).trans ((flashGo_idle 2 hb).trans (if_pos hp)))
  case erase4k =>
    rintro s q a b h hb rfl rfl hp
    exact done_eq ((flashCmd_eq h (by decide)).trans (flashGo_starts hb hp))
  case erase64k =>
    rintro s q a b h hb rfl rfl hp
    exact done_eq ((flashCmd_eq h (by decide)).trans (flashGo_starts hb hp))
  case program =>
    rintro s q a b h hb rfl rfl hp
    exact done_eq ((flashCmd_eq h (by decide)).trans (flashGo_starts hb hp))
  case read =>
    rintro s q a b h hb rfl rfl
    exact done_eq ((flashCmd_eq h (by decide)).trans (flashGo_starts hb (flashProtected_read _ _)))
  case readDone =>
    rintro s a l f b h rfl rfl
    exact done_eq (opDone_read h)
  case programDone =>
    rintro s a l f b h rfl rfl
    exact done_eq (opDone_programmed h)
  case eraseDone =>
    rintro s op a l f b h hop rfl rfl
    exact ⟨s.dev.opEnded.eraseRange (flashRange op a), rfl, eraseRange_byte _ _, done_eq (opDone_erased h hop)⟩
  case failed =>
    intro s x err h he
    obtain ⟨d, hop, hd⟩ := opDone_failed h he
    obtain ⟨hbusy, herr⟩ := flashOver_busy d true
    exact ⟨d.flashOver true, hop, hbusy, herr, done_eq hd⟩

end Sys2Proof.Machine

/-! ## The decimator sync of the pair and timed actions (R458 to R461, R531, R532) -/

namespace Sys2Proof.Machine

/-! ### A sync (R532) -/

theorem decSyncCore_stopped {b : Dev} (cycle : Nat) (h : b.on F.MON_CTRL_PAIR_RUN = false) : b.decSyncCore cycle = b := by
  rw [Dev.decSyncCore, if_pos (by simp [h])]

theorem decSyncCore_refused {b : Dev} (cycle : Nat) (h : b.on F.MON_CTRL_PAIR_RUN = true)
    (h0 : b.gf F.SCAN_STATUS_STATE ≠ 0) (h5 : b.gf F.SCAN_STATUS_STATE ≠ 5) :
    b.decSyncCore cycle = (b.inc F.MON_SYNC_COUNTS_REFUSED).raise C.MON_SYNC_REFUSED := by
  rw [Dev.decSyncCore, if_neg (by simp [h]), if_pos ⟨h0, h5⟩]

/-! ### The word of a command on MON.CTRL -/

/-- The word with which a command writes a bit of MON.CTRL: its settings as they read, and the bit. -/
def Dev.monWord (s : Dev) (lo v : Nat) : Word := setBits (s.rd R.MON_CTRL &&& 27#32) lo 1 v

theorem regRead_monCtrl {s : Dev} (q : Requester) (h : s.isOn .mon = true) : (s.regRead q .mon 0x40).1 = s.rd R.MON_CTRL := by
  obtain ⟨r, hr⟩ := Option.isSome_iff_exists.1 (show (regRow .mon 0x40).isSome = true by decide)
  simp only [Dev.regRead, show ¬0x40 < 0x40 by decide, if_false, hr, h, if_true]
  rfl

/-- A command that writes a bit of MON.CTRL. -/
theorem putF_monCtrl {s : Dev} {q : Requester} {f : Fld} (v : Nat) (h : s.takes q .mon) (hpg : f.pg = .mon) (hoff : f.off = 0x40)
    (hlen : f.len = 1) : s.putF q f v = s.monCtrl (s.monWord f.lo v) := by
  obtain ⟨pg, off, lo, len⟩ := f
  obtain rfl := hpg
  obtain rfl := hoff
  obtain rfl := hlen
  rw [putF_effect (f := ⟨.mon, 0x40, lo, 1⟩) v h (show ¬0x40 < 0x40 by decide)
    (show (regRow .mon 0x40).any (fun r => !r.readOnly) = true by decide) (show shadowedReg .mon 0x40 = false by decide) rfl,
    regRead_monCtrl q h.2]
  simp only [show rwMask .mon 0x40 = 27 by decide]
  rfl

theorem monWord_same (s : Dev) {lo : Nat} (v : Nat) (h : lo < 32) : bits (s.monWord lo v) lo 1 = v % 2 := bits_setBits_same _ v (by omega)

/-- The other settings stand in the word as they read. -/
theorem monWord_other (s : Dev) {lo i : Nat} (v : Nat) (hlo : lo < 32) (_ : i < 32) (hne : i ≠ lo) (hm : 27 / 2^i % 2 = 1) :
    bits (s.monWord lo v) i 1 = bits (s.rd R.MON_CTRL) i 1 := by
  have masked : bits (s.rd R.MON_CTRL &&& 27#32) i 1 = bits (s.rd R.MON_CTRL) i 1 := bits_and_on _ 27 i 1 (by omega)
  rcases Nat.lt_or_gt_of_ne hne with h | h
  · exact (bits_setBits_below _ _ (by omega) (by omega)).trans masked
  · exact (bits_setBits_above _ _ (by omega) (by omega)).trans masked

/-- A bit of MON.CTRL that a command does not write, as a condition. -/
theorem monWord_on (s : Dev) {lo : Nat} (v : Nat) {f : Fld} (hf : f.reg = R.MON_CTRL) (hlen : f.len = 1) (hlo : lo < 32) (hi : f.lo < 32)
    (hne : f.lo ≠ lo) (hm : 27 / 2^f.lo % 2 = 1) : (bits (s.monWord lo v) f.lo 1 == 1) = s.on f := by
  rw [monWord_other s v hlo hi hne hm, Dev.on, Dev.gf, hf, hlen]

/-! ### DEC_SYNC (R531) -/

/-- MON.CTRL with the two settings that every write of it stores (R534), as they read. -/
def Dev.monRewritten (s : Dev) : Dev :=
  (s.sf F.MON_CTRL_IMP_EN (s.gf F.MON_CTRL_IMP_EN)).sf F.MON_CTRL_SYNC_PIN_EN (s.gf F.MON_CTRL_SYNC_PIN_EN)

theorem monRewritten_rewritten (s : Dev) : s.Rewritten s.monRewritten := by
  have imp : s.Rewritten (s.sf F.MON_CTRL_IMP_EN (s.gf F.MON_CTRL_IMP_EN)) :=
    rewritten_sf s (Fld.ok_of_le (by decide)) (gf_mod s F.MON_CTRL_IMP_EN)
  refine imp.trans (rewritten_sf _ (Fld.ok_of_le (by decide)) ?_)
  rw [imp.gf]
  exact gf_mod s F.MON_CTRL_SYNC_PIN_EN

/-- Of a word that leaves the pair as it runs, and has the settings as they read, SEQ_RUN and DEC_SYNC act. -/
theorem monCtrl_settings {s : Dev} {w : Word} (hp : (bits w 1 1 == 1) = s.on F.MON_CTRL_PAIR_RUN)
    (hi : bits w 4 1 = s.gf F.MON_CTRL_IMP_EN) (hn : bits w 3 1 = s.gf F.MON_CTRL_SYNC_PIN_EN) :
    s.monCtrl w = (
      let d := if (bits w 0 1 == 1) = s.on F.MON_CTRL_SEQ_RUN then s.monRewritten else s.monRewritten.setSeq (bits w 0 1 == 1)
      if bits w 2 1 = 1 then d.decSyncCore (cycleFrom (d.now + 1)) else d) := by
  have pair := (monRewritten_rewritten s).on F.MON_CTRL_PAIR_RUN
  have seq := (monRewritten_rewritten s).on F.MON_CTRL_SEQ_RUN
  unfold Dev.monRewritten at pair seq
  rw [Dev.monCtrl, if_neg (by rw [hp]; cases s.on F.MON_CTRL_PAIR_RUN <;> simp), hi, hn]
  simp only [pair, seq, hp, if_true, Dev.monRewritten]

theorem cmdDecSync_eq {s : Dev} {q : Requester} (h : s.takes q .mon) :
    s.cmdDecSync q = s.monRewritten.decSyncCore (cycleFrom (s.monRewritten.now + 1)) := by
  refine (putF_monCtrl (f := F.MON_CTRL_DEC_SYNC) 1 h rfl rfl rfl).trans ?_
  have pair : (bits (s.monWord 2 1) 1 1 == 1) = s.on F.MON_CTRL_PAIR_RUN :=
    monWord_on s (f := F.MON_CTRL_PAIR_RUN) 1 rfl rfl (by decide) (by decide) (by decide) (by decide)
  have seq : (bits (s.monWord 2 1) 0 1 == 1) = s.on F.MON_CTRL_SEQ_RUN :=
    monWord_on s (f := F.MON_CTRL_SEQ_RUN) 1 rfl rfl (by decide) (by decide) (by decide) (by decide)
  have sync : bits (s.monWord 2 1) 2 1 = 1 := monWord_same s 1 (by decide)
  refine (monCtrl_settings pair (monWord_other s 1 (by decide) (by decide) (by decide) (by decide))
    (monWord_other s 1 (by decide) (by decide) (by decide) (by decide))).trans ?_
  simp only [seq, sync, if_true]

/-! ### An action at its time (R459) -/

theorem advanceTo_gfReg (s : Dev) (t : Nat) (f : Fld) : (s.advanceTo t).gf f = s.gf f := gf_regs (advanceTo_regs s t) f

theorem actAt_advanceTo (s : Dev) (t i : Nat) : (s.advanceTo t).actAt i = s.actAt i := by
  simp only [Dev.actAt, Dev.actT, Dev.g64, advanceTo_gfReg]

/-- The slot that falls due first, of a kind, executes at its time. -/
theorem actDue_goes {s : Dev} {i : Nat} (iss : Dev → Requester → Word → Word → Dev) {kinds : List Nat} (hn : s.nextAct = some i)
    (hr : s.running = true) (hk : kinds.contains (s.gf (F.TIME_ACT_CFG_KIND i)) = true) :
    s.actDue iss i kinds = (s.advanceTo (s.actAt i)).actGo iss i 2 (s.actAt i) := by
  rw [Dev.actDue, if_pos ⟨hn, hr, hk⟩]
  simp only [actAt_advanceTo]

theorem actGo_decSync {s : Dev} {i st t : Nat} (iss : Dev → Requester → Word → Word → Dev) (h : s.gf (F.TIME_ACT_CFG_KIND i) = 2) :
    s.actGo iss i st t = ((s.sf (F.TIME_ACT_STATUS_STATE i) st).event E.TIME_ACTION_DONE).decSyncCore (cycleFrom s.now) := by
  simp only [Dev.actGo, h]

theorem actGo_write {s : Dev} {i st t : Nat} (iss : Dev → Requester → Word → Word → Dev) (h : s.gf (F.TIME_ACT_CFG_KIND i) = 1) :
    s.actGo iss i st t = (
      let d := (s.sf (F.TIME_ACT_STATUS_STATE i) st).event E.TIME_ACTION_DONE
      iss d (reqOf (s.gf (F.TIME_ACT_STATUS_REQ i))) (d.rd (R.TIME_ACT_ARG0 i)) (d.rd (R.TIME_ACT_ARG1 i))) := by
  simp only [Dev.actGo, h]

theorem actGo_commit {s : Dev} {i st t : Nat} (iss : Dev → Requester → Word → Word → Dev) (h : s.gf (F.TIME_ACT_CFG_KIND i) = 0) :
    s.actGo iss i st t = s.actCommitGo i (reqOf (s.gf (F.TIME_ACT_STATUS_REQ i))) st t := by
  simp only [Dev.actGo, h]

/-- Settles O51: each of the three causes comes to one sync, which the scanner refuses or a pair that stands ignores. -/
theorem syncRefused : Obligations.SyncRefused := by
  unfold Obligations.SyncRefused
  intro s b c cause
  obtain ⟨n, hn⟩ : ∃ n, exec c s = .next (s.after (b.decSyncCore n)) := by
    rcases cause with ⟨q, rfl, h, rfl⟩ | ⟨rfl, hp, rfl⟩ | ⟨i, rfl, hi, hr, hk, rfl⟩
    · exact ⟨_, done_eq (cmdDecSync_eq h)⟩
    · exact ⟨_, done_eq (if_pos hp)⟩
    · have due := actDue_goes (issueN 16) (kinds := [2]) hi hr (by rw [hk]; rfl)
      exact ⟨_, done_eq (due.trans (actGo_decSync _ ((advanceTo_gfReg _ _ _).trans hk)))⟩
  refine ⟨fun hp h0 h5 => ?_, fun hp => ?_⟩
  · rw [hn, decSyncCore_refused n hp h0 h5]
  · rw [hn, decSyncCore_stopped n hp]

/-! ### The commands of a slot (R458, R474) -/

/-- A bit of the word that a command of a slot writes. -/
theorem bit_oneBit {lo i : Nat} (hlo : lo < 32) (hi : i < 32) : bit (setBits 0#32 lo 1 1).toNat i = true ↔ i = lo :=
  beq_iff_eq.trans (bits_oneBit hlo hi)

/-- A command of a slot is a write of ACT_CTRL with one bit. -/
theorem putF_actCtrl {s : Dev} {q : Requester} (i : Fin 16) {lo : Nat} (h : s.takes q .time) :
    s.putF q ⟨.time, 0x114 + 0x20 * i.val, lo, 1⟩ 1 = s.actCtrl (issueN 16) i.val q (setBits 0#32 lo 1 1) := by
  have row : (regRow .time (0x114 + 0x20 * i.val)).any (fun r => !r.readOnly) = true := by revert i; decide
  have mask : rwMask .time (0x114 + 0x20 * i.val) = 0 := by revert i; decide
  have plain : shadowedReg .time (0x114 + 0x20 * i.val) = false := by revert i; decide
  refine (putF_wo (f := ⟨.time, 0x114 + 0x20 * i.val, lo, 1⟩) 1 h (show ¬0x114 + 0x20 * i.val < 0x40 by omega) row plain rfl mask).trans ?_
  simp only [Dev.effect, Dev.timeWrite]
  rw [if_neg (by omega), if_neg (by omega), if_pos (by omega), show (0x114 + 0x20 * i.val - 0x100) / 0x20 = i.val by omega]

theorem cmdActArm_eq {s : Dev} {q : Requester} (i : Fin 16) (h : s.takes q .time) : s.cmdActArm i q = s.actArmWith (issueN 16) i q := by
  refine (putF_actCtrl i h).trans ?_
  simp only [Dev.actCtrl, bit_oneBit (show 0 < 32 by decide) (show 0 < 32 by decide), bit_oneBit (show 0 < 32 by decide) (show 1 < 32 by decide),
    bit_oneBit (show 0 < 32 by decide) (show 2 < 32 by decide), if_true, one_ne_zero, OfNat.ofNat_ne_zero, if_false]

theorem cmdActCancel_eq {s : Dev} {q : Requester} (i : Fin 16) (h : s.takes q .time) : s.cmdActCancel i q = s.actCancelCore i := by
  refine (putF_actCtrl i h).trans ?_
  simp only [Dev.actCtrl, bit_oneBit (show 1 < 32 by decide) (show 0 < 32 by decide), bit_oneBit (show 1 < 32 by decide) (show 1 < 32 by decide),
    bit_oneBit (show 1 < 32 by decide) (show 2 < 32 by decide), if_true, zero_ne_one, OfNat.ofNat_ne_one, if_false]

theorem cmdActRelease_eq {s : Dev} {q : Requester} (i : Fin 16) (h : s.takes q .time) : s.cmdActRelease i q = s.actReleaseCore i := by
  refine (putF_actCtrl i h).trans ?_
  simp only [Dev.actCtrl, bit_oneBit (show 2 < 32 by decide) (show 0 < 32 by decide), bit_oneBit (show 2 < 32 by decide) (show 1 < 32 by decide),
    bit_oneBit (show 2 < 32 by decide) (show 2 < 32 by decide), if_true, OfNat.zero_ne_ofNat, OfNat.one_ne_ofNat, if_false]

/-- ARM notes the requester, and the slot waits for its time. -/
def Dev.armed (s : Dev) (i : Nat) (q : Requester) : Dev :=
  ((s.sf (F.TIME_ACT_STATUS_REQ i) q.code).sf (F.TIME_ACT_STATUS_STATE i) 1).sf (F.TIME_ACT_RESULT_SKIPPED i) 0

theorem key_time (o : Nat) : Reg.key ⟨.time, o⟩ = 5 * 4096 + o := rfl

/-- The time of a slot stands in other registers than its status and result. -/
theorem actT_armed (s : Dev) (i : Fin 16) (q : Requester) : (s.armed i q).actT i = s.actT i := by
  have apart : ∀ f : Fld, f.reg.key ≠ (R.TIME_ACT_STATUS i).key → f.reg.key ≠ (R.TIME_ACT_RESULT i).key → (s.armed i q).gf f = s.gf f := by
    intro f hs hr
    rw [Dev.armed, gf_sf_key (f := F.TIME_ACT_RESULT_SKIPPED i) _ _ hr, gf_sf_key (f := F.TIME_ACT_STATUS_STATE i) _ _ hs,
      gf_sf_key (f := F.TIME_ACT_STATUS_REQ i) _ _ hs]
  simp only [Dev.actT, Dev.g64]
  rw [apart (F.TIME_ACT_TIME_LO_NS i) (by simp only [Fld.reg, key_time]; omega) (by simp only [Fld.reg, key_time]; omega),
    apart (F.TIME_ACT_TIME_HI_NS i) (by simp only [Fld.reg, key_time]; omega) (by simp only [Fld.reg, key_time]; omega),
    apart (F.TIME_ACT_CFG_FRAC i) (by simp only [Fld.reg, key_time]; omega) (by simp only [Fld.reg, key_time]; omega)]

theorem actArmWith_armed {s : Dev} {i : Fin 16} {q : Requester} (iss : Dev → Requester → Word → Word → Dev) (h : s.actState i = 0)
    (ht : s.tick ≤ s.actT i) : s.actArmWith iss i q = s.armed i q := by
  rw [Dev.actArmWith, if_neg (by omega)]
  have tick : (s.armed i q).tick = s.tick := by simp only [Dev.tick, Dev.armed, sf_keeps]
  have waits : ¬(s.armed i q).actT i < (s.armed i q).tick := by
    rw [actT_armed, tick]
    exact Nat.not_lt.2 ht
  exact if_neg waits

/-- A COMMIT that no preload holds up. -/
theorem actCommitGo_commits {s : Dev} {i st t : Nat} {q : Requester}
    (h : (s.actCommits q (s.gf (F.TIME_ACT_ARG0_ARG i))).contains .emit = true → s.on F.EMIT_STARLINE_STATUS_PRELOAD_BUSY = false) :
    s.actCommitGo i q st t = (
      let m := s.gf (F.TIME_ACT_ARG0_ARG i)
      let d := (s.sf (F.TIME_ACT_RESULT_SKIPPED i) (s.actSkipped q m)).sf (F.TIME_ACT_STATUS_STATE i) st
      ((s.actCommits q m).foldl (fun (e : Dev) g => e.latchAt g t) d.newGroup).event E.TIME_ACTION_DONE) := by
  rw [Dev.actCommitGo, if_neg]
  rintro ⟨he, hb⟩
  exact absurd hb (by simp [h he])

/-- Settles O18: NOW_LO keeps the high word, ARM, CANCEL and RELEASE move a slot, and each kind of action executes at its time. -/
theorem timeActions : Obligations.TimeActions := by
  unfold Obligations.TimeActions
  refine ⟨?now, ?arm, ?armRefused, ?cancel, ?release, ?commit, ?write, ?decSync⟩
  case now =>
    exact fun s q hl hr hon => done_eq (readF_page hl hr hon (by decide) (by decide) rfl)
  case arm => exact fun s i q h h0 ht => done_eq ((cmdActArm_eq i h).trans (actArmWith_armed _ h0 ht))
  case armRefused => exact fun s i q h h0 => done_eq ((cmdActArm_eq i h).trans (if_pos h0))
  case cancel => exact fun s i q h h1 => done_eq ((cmdActCancel_eq i h).trans (if_pos h1))
  case release => exact fun s i q h h2 => done_eq ((cmdActRelease_eq i h).trans (if_pos h2))
  case commit =>
    rintro s i q b hn hr rfl rfl hk hp
    have due := actDue_goes (issueN 16) (kinds := [0, 3]) hn hr (by rw [hk]; rfl)
    exact done_eq (due.trans ((actGo_commit _ ((advanceTo_gfReg _ _ _).trans hk)).trans (actCommitGo_commits hp)))
  case write =>
    rintro s i q b hn hr rfl rfl hk
    have due := actDue_goes (issueN 16) (kinds := [1]) hn hr (by rw [hk]; rfl)
    exact done_eq (due.trans (actGo_write _ ((advanceTo_gfReg _ _ _).trans hk)))
  case decSync =>
    rintro s i b hn hr rfl hk
    have due := actDue_goes (issueN 16) (kinds := [2]) hn hr (by rw [hk]; rfl)
    exact done_eq (due.trans (actGo_decSync _ ((advanceTo_gfReg _ _ _).trans hk)))

end Sys2Proof.Machine

/-! ## gPTP on an Ethernet port (R464, R465) -/

namespace Sys2Proof.Machine

/-! ### A Sync on the slave port -/

/-- A Sync that is taken: it renews the hold, counts towards lock and shows its offset. -/
def Dev.syncTaken (b : Dev) (m : PtpMsg) (o : Int) (good : Nat) : Dev :=
  (({ b with ptp := { b.ptp with
      good := good, lastSync := b.now, interval := 7812500 * 2^(max 0 (min 16 (m.args.getD 3 0 + 7))).toNat } }).inc
        F.PTP_SYNC_RX_COUNT).si F.PTP_OFFSET_NS (sat32 o)

/-- The registers that a Sync writes, the state and its event among them. -/
def syncRegs : List Reg := [F.PTP_SYNC_RX_COUNT.reg, F.PTP_OFFSET_NS.reg, F.PTP_STATUS_STATE.reg, ⟨.ptp, 0x20⟩]

theorem syncTaken_regsBut (b : Dev) (m : PtpMsg) (o : Int) (good : Nat) : b.regsBut (b.syncTaken m o good) syncRegs :=
  regsBut_sf (f := F.PTP_OFFSET_NS) (regsBut_sf (f := F.PTP_SYNC_RX_COUNT) (fun _ _ => rfl) _ (by decide)) _ (by decide)

theorem syncTaken_state (b : Dev) (m : PtpMsg) (o : Int) (good : Nat) : (b.syncTaken m o good).ptpState = b.ptpState :=
  (gf_sf_key (f := F.PTP_OFFSET_NS) _ _ (by decide)).trans (gf_sf_key (f := F.PTP_SYNC_RX_COUNT) _ _ (by decide))

theorem setPtpState_regsBut (s : Dev) (v : Nat) : s.regsBut (s.setPtpState v) syncRegs := by
  have state : s.regsBut (s.sf F.PTP_STATUS_STATE v) syncRegs := regsBut_sf (regsBut_refl s _) v (by decide)
  rw [Dev.setPtpState]
  split
  · exact regsBut_sf state _ (by decide)
  · exact state

/-- What the calendar comes from does not change with a Sync. -/
theorem ptpSource_regsBut {s d : Dev} (h : s.regsBut d syncRegs) : d.ptpSource = s.ptpSource := by
  rw [Dev.ptpSource, Dev.ptpSource, Dev.pole, Dev.pole, regsBut_on h (by decide), regsBut_on h (by decide)]

/-- The slave has locked: HOLDOVER is over. -/
def Dev.syncLocked (e : Dev) : Dev := { e with ptp := { e.ptp with holdAt := none } }.setPtpState 3

/-- What a Sync that was taken does to the state: eight in a row lock, one astray begins HOLDOVER. -/
def Dev.syncJudged (e : Dev) (o lock : Int) (good : Nat) : Dev :=
  let e := if e.ptpSource then (e.ptpMapping).mappingSync (e.tai e.now) else e
  if e.ptpState ≠ 3 ∧ good = 8 then
    if e.syncLocked.ptpSource then (e.syncLocked.sf F.TIME_CAL_CTRL_ACTIVE_SRC 2).setTaiValid true else e.syncLocked
  else if e.ptpState = 3 ∧ 4 * lock < (o.natAbs : Int) then e.ptpHoldover
  else e

theorem syncLocked_regsBut (e : Dev) : e.regsBut e.syncLocked syncRegs :=
  regsBut_trans (fun _ _ => rfl) (setPtpState_regsBut { e with ptp := { e.ptp with holdAt := none } } 3)

/-- A unit that does not serve its mapping from PTP leaves the calendar alone. -/
theorem syncJudged_plain {e : Dev} {o lock : Int} {good : Nat} (h : e.ptpSource = false) :
    e.syncJudged o lock good = if e.ptpState ≠ 3 ∧ good = 8 then e.syncLocked
      else if e.ptpState = 3 ∧ 4 * lock < (o.natAbs : Int) then e.ptpHoldover else e := by
  have locked : e.syncLocked.ptpSource = false := (ptpSource_regsBut (syncLocked_regsBut e)).trans h
  simp only [Dev.syncJudged, h, locked, Bool.false_eq_true, if_false]

/-- A Sync on the slave port of a unit that does not serve its mapping from PTP. -/
structure Dev.TakesSync (s : Dev) (m : PtpMsg) (b : Dev) (o : Int) (lock good : Nat) : Prop where
  up : s.on (F.NET_STATUS_LINK_UP m.port) = true
  frame : b = s.rxFrame m.port
  port : b.ptpPort m.port = true
  domain : m.domain = b.gf F.PTP_CFG_DOMAIN
  slave : b.gf F.PTP_STATUS_SLAVE_PORT = m.port
  plain : b.ptpSource = false
  state : 2 ≤ b.ptpState
  lockNs : lock = max 1 (b.gf F.PTP_THRESH_LOCK_NS)
  offset : o = (b.tai (m.args.getD 2 0).toNat : Int) - (m.args.getD 0 0 + m.args.getD 1 0 + b.gf F.PTP_PATH_DELAY_NS)
  inRow : good = (if o.natAbs ≤ lock then min 8 (b.ptp.good + 1) else 0)

section
variable {s b : Dev} {m : PtpMsg} {o : Int} {lock good : Nat}

theorem Dev.TakesSync.ptpSync (h : s.TakesSync m b o lock good) :
    s.ptpSync m = (
      let e := b.syncTaken m o good
      if b.ptpState ≠ 3 ∧ good = 8 then e.syncLocked
      else if b.ptpState = 3 ∧ 4 * lock < o.natAbs then e.ptpHoldover
      else e) := by
  obtain ⟨up, frame, port, domain, slave, plain, state, lockNs, offset, inRow⟩ := h
  have taken : ¬((!b.ptpPort m.port) = true ∨ m.domain ≠ b.gf F.PTP_CFG_DOMAIN ∨ b.ptpState < 2 ∨
      b.gf F.PTP_STATUS_SLAVE_PORT ≠ m.port) := by
    simp [port, domain, slave, Nat.not_lt.2 state]
  have judged : s.ptpSync m = (b.syncTaken m o good).syncJudged o lock good := by
    rw [Dev.ptpSync, if_neg (by simp [up])]
    simp only [← frame]
    rw [if_neg taken]
    simp only [← offset, ← lockNs, Int.ofNat_le, ← inRow]
    rfl
  rw [judged, syncJudged_plain ((ptpSource_regsBut (syncTaken_regsBut b m o good)).trans plain)]
  simp only [syncTaken_state, show (4 * (lock : Int) < (o.natAbs : Int)) = (4 * lock < o.natAbs) from propext (by omega)]

end

/-- Settles O19: a Sync is counted and locks or loses the lock, the other messages are answered or kept. -/
theorem ptpPorts : Obligations.PtpPorts := by
  unfold Obligations.PtpPorts
  refine ⟨?listening, ?holds, ?strays, ?locks, ?pdelayReq, ?pdelayResp, ?announce, ?interval, ?timeout, ?lost, ?expired⟩
  case listening =>
    rintro s m b e o lock good up hb port domain slave plain hl ho hg rfl hs h8
    have taken : s.dev.TakesSync m b o lock good := ⟨up, hb, port, domain, slave, plain, by omega, hl, ho, hg⟩
    refine done_eq (taken.ptpSync.trans ?_)
    exact (if_neg (by omega)).trans (if_neg (by omega))
  case holds =>
    rintro s m b e o lock good up hb port domain slave plain hl ho hg rfl hs hin
    have taken : s.dev.TakesSync m b o lock good := ⟨up, hb, port, domain, slave, plain, by omega, hl, ho, hg⟩
    refine done_eq (taken.ptpSync.trans ?_)
    exact (if_neg (by omega)).trans (if_neg (by omega))
  case strays =>
    rintro s m b e o lock good up hb port domain slave plain hl ho hg rfl hs hout
    have taken : s.dev.TakesSync m b o lock good := ⟨up, hb, port, domain, slave, plain, by omega, hl, ho, hg⟩
    refine done_eq (taken.ptpSync.trans ?_)
    exact (if_neg (by omega)).trans (if_pos ⟨hs, hout⟩)
  case locks =>
    rintro s m b e o lock good up hb port domain slave plain hl ho hg rfl hs h8
    have taken : s.dev.TakesSync m b o lock good := ⟨up, hb, port, domain, slave, plain, by omega, hl, ho, hg⟩
    refine done_eq (taken.ptpSync.trans ?_)
    exact if_pos ⟨by omega, h8⟩
  case pdelayReq =>
    rintro s m b up rfl port domain
    exact done_eq ((if_neg (by simp [up])).trans (if_neg (by simp [port, domain])))
  case pdelayResp =>
    rintro s m b d up rfl port domain rfl
    exact done_eq ((if_neg (by simp [up])).trans (if_neg (by simp [port, domain])))
  case announce =>
    rintro s m b up rfl port domain
    exact done_eq ((if_neg (by simp [up])).trans (if_neg (by simp [port, domain])))
  case interval =>
    rintro s b on rfl
    exact done_eq (if_neg (by simp [on]))
  case timeout => exact fun s h => done_eq (if_pos h)
  case lost =>
    rintro s t b h rfl hs
    refine done_eq ?_
    rw [Dev.taiHoldExpire, h]
    exact if_pos hs
  case expired =>
    rintro s t b h rfl hs
    refine done_eq ?_
    rw [Dev.taiHoldExpire, h]
    exact if_neg (by rw [Bool.not_eq_true]; exact hs)

end Sys2Proof.Machine

/-! ## Signal, alignment and training of chain lanes (R418 to R426) -/

namespace Sys2Proof.Machine

/-! ### Fields of a lane -/

/-- A write of a lane's field leaves its fields apart from it. -/
theorem gf_sf_lane (s : Dev) {n o lo len o' lo' len' : Nat} (v : Nat)
    (h : o' ≠ o ∨ lo + len ≤ 32 ∧ (lo' + len' ≤ lo ∨ lo + len ≤ lo')) :
    (s.sf ⟨.lane n, o, lo, len⟩ v).gf ⟨.lane n, o', lo', len'⟩ = s.gf ⟨.lane n, o', lo', len'⟩ := by
  have key : ∀ o, Reg.key ⟨.lane n, o⟩ = (Page.lane n).num * 4096 + o := fun _ => rfl
  refine gf_sf_of_apart s v (h.imp (fun h => ?_) id)
  simp only [Fld.reg, key]
  omega

/-- A lane out of TEST does not hear itself. -/
theorem nearEnd_untested {s : Dev} {n : Nat} (h : s.laneState n ≠ 7) : s.nearEnd n = false := by
  rw [Dev.nearEnd, Dev.loopback, if_neg h]
  rfl

theorem krylink_chain {n : Nat} (h : 6 ≤ n) : krylink n = true := decide_eq_true h

/-! ### The signal (R423, R425, R426) -/

/-- What a lost signal shows. -/
def Dev.losShown (s : Dev) (n : Nat) : Dev :=
  ((s.sf (F.LANE_LINK_STATUS_LOS n) 1).inc (F.LANE_LOS_COUNT_COUNT n)).sf (F.LANE_LINK_STATUS_BLOCK_LOCK n) 0

theorem losShown_state (s : Dev) (n : Nat) : (s.losShown n).laneState n = s.laneState n := by
  unfold Dev.losShown Dev.inc Dev.laneState
  rw [gf_sf_lane _ _ (by decide), gf_sf_lane _ _ (by decide), gf_sf_lane _ _ (by decide)]

section
variable {s : Dev} {n : Fin 12}

theorem losDetect_active (hk : 6 ≤ n.val) (hon : s.isOn (.lane n) = true) (hl : s.on (F.LANE_LINK_STATUS_LOS n) = false)
    (hr : s.on (F.LANE_LINK_STATUS_RX_ASLEEP n) = false) (hn : (s.laneX n).notice = false) (hs : s.laneState n = 4) :
    s.losDetect n = (
      let d := s.losShown n
      ((((d.setLaneState n 1).raise (C.LANE_LOSS_OF_SIGNAL n)).sf (F.LANE_LINK_STATUS_ATTEMPTS n) 0).startWait n 1).widthSync (portOf n)) := by
  have far := nearEnd_untested (s := s) (n := n) (by omega)
  have state : (s.losShown n).laneState n = 4 := (losShown_state s n).trans hs
  have quiet : ((s.losShown n).laneX n).notice = false := hn
  have shown : ((s.sb (F.LANE_LINK_STATUS_LOS n) true).inc (F.LANE_LOS_COUNT_COUNT n)).sb (F.LANE_LINK_STATUS_BLOCK_LOCK n) false =
    s.losShown n := rfl
  rw [Dev.losDetect, if_neg (by simp [hon, hl, hr, far])]
  simp only [shown, state, krylink_chain hk, quiet, Bool.not_true, Bool.false_eq_true, if_false, if_true, Nat.reduceEqDiff]

theorem signalDetect_detect (hk : 6 ≤ n.val) (hon : s.isOn (.lane n) = true) (hl : s.on (F.LANE_LINK_STATUS_LOS n) = true)
    (hr : s.on (F.LANE_LINK_STATUS_RX_ASLEEP n) = false) (hm : s.on (F.LANE_LINK_STATUS_REMOTE_SLEEP n) = false)
    (hs : s.laneState n = 1 ∨ s.laneState n = 5) (ha : (s.laneX n).attempt = none) :
    s.signalDetect n = (s.sf (F.LANE_LINK_STATUS_LOS n) 0).startAttempt n := by
  have far := nearEnd_untested (s := s) (n := n) (by omega)
  have state : (s.sb (F.LANE_LINK_STATUS_LOS n) false).laneState n = s.laneState n := gf_sf_lane _ _ (by decide)
  have awake : (s.sb (F.LANE_LINK_STATUS_LOS n) false).on (F.LANE_LINK_STATUS_REMOTE_SLEEP n) = false :=
    (congrArg (· == 1) (gf_sf_lane _ _ (by decide))).trans hm
  have idle : ((s.sb (F.LANE_LINK_STATUS_LOS n) false).laneX n).attempt = none := ha
  rw [Dev.signalDetect, if_neg (by simp [hon, hl, hr, far])]
  simp only [state]
  rw [if_neg (by simp [krylink_chain hk]; omega), if_neg (by simp [awake]), if_pos hs, if_neg (by simp [idle])]
  rfl

/-! ### The block boundary (R420) -/

theorem slipPosition_search (bad : Nat) (hk : 6 ≤ n.val) (hs : s.laneState n = 2) :
    s.slipPosition n bad = (
      let d := s.inc (F.LANE_SYNC_HDR_ERR_COUNT n) (min 64 bad)
      if bad = 0 then ((d.setLaneX n { d.laneX n with trainRx := 0, ackRx := 0 }).sf (F.LANE_LINK_STATUS_BLOCK_LOCK n) 1).setLaneState n 3
      else if s.on (F.LANE_LANE_CTRL_MANUAL_ALIGN n) = true then d else d.slipBit n) := by
  have manual : (s.inc (F.LANE_SYNC_HDR_ERR_COUNT n) (min 64 bad)).on (F.LANE_LANE_CTRL_MANUAL_ALIGN n) =
      s.on (F.LANE_LANE_CTRL_MANUAL_ALIGN n) := congrArg (· == 1) (gf_sf_lane _ _ (by decide))
  rw [Dev.slipPosition, if_neg (by simp [krylink_chain hk, hs])]
  simp only [manual]
  rfl

theorem blockLockLost_leaves {b : Dev} (hl : s.on (F.LANE_LINK_STATUS_BLOCK_LOCK n) = true)
    (hb : b = (s.sf (F.LANE_LINK_STATUS_BLOCK_LOCK n) 0).inc (F.LANE_SYNC_HDR_ERR_COUNT n) 16) (hs : b.laneState n = 3 ∨ b.laneState n = 4) :
    s.blockLockLost n = (b.setLaneState n (if b.on (F.LANE_LINK_STATUS_LOS n) = true then 1 else 2)).widthSync (portOf n) := by
  subst hb
  exact (if_neg (by simp [hl])).trans (if_pos hs)

/-! ### Training and deskew (R418, R421) -/

/-- A TRAIN block that names the lane's own logical lane and the port that its others named. -/
theorem train_counts {m : TrainMsg} {l : LinkX} {x : LaneX} {rx ack : Nat} (hk : 6 ≤ n.val) (hs : s.laneState n = 3)
    (hl : l = s.link (portOf n)) (hx : x = s.laneX n) (hr : m.logical = s.role n) (hm : m.spare = (s.role n == 2))
    (hp : l.names = none ∨ l.names = some m.port) (hrx : rx = min 16 (x.trainRx + 1)) (hack : ack = if m.ack then min 16 (x.ackRx + 1) else 0) :
    s.train n m = (
      let d := (s.setLink (portOf n) { l with names := some m.port }).setLaneX n { x with trainRx := rx, ackRx := ack }
      if ack = 16 then d.laneActive n else d.sendTrain n (rx == 16)) := by
  subst hl hx hrx hack
  rw [Dev.train, if_neg (by simp [krylink_chain hk, hs])]
  refine (if_neg ?_).trans rfl
  rintro (h | h | h)
  · exact h hr
  · exact h hm
  · rcases hp with hp | hp <;> simp [hp] at h

theorem train_otherLane {m : TrainMsg} (hk : 6 ≤ n.val) (hs : s.laneState n = 3) (hr : m.logical ≠ s.role n) :
    s.train n m = (s.setLaneX n { s.laneX n with trainRx := 0, ackRx := 0 }).raise (C.LANE_DESKEW_FAIL n) := by
  rw [Dev.train, if_neg (by simp [krylink_chain hk, hs])]
  exact if_pos (.inl hr)

theorem laneMark_deskews {count : BitVec 16} {t u k : Nat} {b : Dev} (hk : 6 ≤ n.val) (hup : s.laneUp n = true)
    (hb : b = s.setLaneX n { s.laneX n with mark := some (count.toNat, t) })
    (ho : ((portLanes (portOf n)).filter (fun k => decide (k ≠ n.val) && b.laneUp k)).head? = some k)
    (hm : (b.laneX k).mark = some (count.toNat, u)) (hd : max t u - min t u ≤ 300) :
    s.laneMark n count t = (b.setLink (portOf n) { b.link (portOf n) with deskewed := true, deskFail := false }).widthSync (portOf n) := by
  subst hb
  rw [Dev.laneMark, if_neg (by simp [krylink_chain hk, hup])]
  simp only [ho, hm, ne_eq, not_true_eq_false, if_false, if_pos hd]

end

/-- Settles O39: a chain lane loses, finds, aligns, trains and deskews as its signal and blocks tell. -/
theorem laneAlign : Obligations.LaneAlign := by
  unfold Obligations.LaneAlign
  refine ⟨?lost, ?found, ?slips, ?manual, ?locks, ?fails, ?toAlign, ?toDetect, ?active, ?trains, ?otherLane, ?mark⟩
  case lost => exact fun s n hk hon hl hr hn hs => done_eq (losDetect_active hk hon hl hr hn hs)
  case found => exact fun s n hk hon hl hr hm hs ha => done_eq (signalDetect_detect hk hon hl hr hm hs ha)
  case slips =>
    intro s n bad hk hs hbad hm
    exact done_eq ((slipPosition_search bad hk hs).trans ((if_neg hbad).trans (if_neg (by simp [hm]))))
  case manual =>
    intro s n bad hk hs hbad hm
    exact done_eq ((slipPosition_search bad hk hs).trans ((if_neg hbad).trans (if_pos hm)))
  case locks =>
    rintro s n d hk hs rfl
    exact done_eq (slipPosition_search 0 hk hs)
  case fails => exact fun s n hs hm => done_eq (if_pos ⟨hs, by simp [hm]⟩)
  case toAlign =>
    intro s n b hl hb hs hlos
    exact done_eq ((blockLockLost_leaves hl hb hs).trans (by rw [if_neg (by simp [hlos])]))
  case toDetect =>
    intro s n b hl hb hs hlos
    exact done_eq ((blockLockLost_leaves hl hb hs).trans (by rw [if_pos hlos]))
  case active =>
    intro s n m l x rx ack hk hs hl hx hr hm hp hrx hack h16
    exact done_eq ((train_counts hk hs hl hx hr hm hp hrx hack).trans (if_pos h16))
  case trains =>
    intro s n m l x rx ack hk hs hl hx hr hm hp hrx hack h16
    exact done_eq ((train_counts hk hs hl hx hr hm hp hrx hack).trans (if_neg h16))
  case otherLane => exact fun s n m hk hs hr => done_eq (train_otherLane hk hs hr)
  case mark => exact fun s n count t u k b hk hup hb ho hm hd => done_eq (laneMark_deskews hk hup hb ho hm hd)

end Sys2Proof.Machine

/-! ## Nightwatch: reset edges, tests and protected writes (R482 to R508) -/

namespace Sys2Proof.Machine

/-! ### Bits of a mask -/

/-- A bit that is set or cleared reads so. -/
theorem bit_setBit_same (n i : Nat) (b : Bool) : bit (setBit n i b) i = b := by
  unfold setBit
  split
  next h => exact beq_iff_eq.1 h
  next h =>
    have off : bit n i = !b := by cases b <;> cases hb : bit n i <;> simp_all
    cases b with
    | true =>
      rw [if_pos rfl, bit_eq_testBit, Nat.add_comm, Nat.testBit_two_pow_add_eq, ← bit_eq_testBit, off]
      rfl
    | false =>
      have on : n.testBit i = true := (bit_eq_testBit n i).symm.trans off
      obtain ⟨m, rfl⟩ := Nat.exists_eq_add_of_le (Nat.ge_two_pow_of_testBit on)
      rw [Nat.testBit_two_pow_add_eq] at on
      rw [if_neg Bool.false_ne_true, Nat.add_sub_cancel_left, bit_eq_testBit]
      simpa using on

/-- The bits of one mask that another lacks. -/
theorem bit_xor_land (m f i : Nat) : bit (Nat.xor m (Nat.land m f)) i = (bit m i && !bit f i) := by
  simp only [bit_eq_testBit]
  change (m ^^^ (m &&& f)).testBit i = _
  rw [Nat.testBit_xor, Nat.testBit_and]
  cases m.testBit i <;> cases f.testBit i <;> rfl

/-! ### Writes of the NW page (R506) -/

/-- A register of the NW page with bits to write. -/
def nwWritable (o : Nat) : Bool := (regRow .nw o).any (fun r => !r.readOnly)

/-- The protected registers can be written. -/
theorem cfgOffsets_writable {o : Nat} (ho : o ∈ cfgOffsets) : nwWritable o = true := by
  have head : ∀ o ∈ [0x60, 0x68, 0x6C, 0x74, 0x78], nwWritable o = true := by decide
  have inputs : ∀ i : Fin 8, nwWritable (0x80 + 4 * i) = true := by decide
  have windows : ∀ i : Fin 4, nwWritable (0xC0 + 4 * i) = true := by decide
  have ports : ∀ i : Fin 48, nwWritable (0x100 + 4 * i) = true := by decide
  have ceilings : ∀ (i : Fin 48) (j : Fin 3), nwWritable (0x200 + 0x10 * i + 4 * j) = true := by decide
  have settings : ∀ i : Fin 32, nwWritable (0x500 + 4 * i) = true := by decide
  simp only [cfgOffsets, List.mem_append, List.mem_map, List.mem_range] at ho
  rcases ho with ((((ho | ⟨i, hi, rfl⟩) | ⟨i, hi, rfl⟩) | ⟨i, hi, rfl⟩) | ⟨i, hi, rfl⟩) | ⟨i, hi, rfl⟩
  · exact head o ho
  · exact inputs ⟨i, hi⟩
  · exact windows ⟨i, hi⟩
  · exact ports ⟨i, hi⟩
  · exact ceilings ⟨i / 3, by omega⟩ ⟨i % 3, by omega⟩
  · exact settings ⟨i, hi⟩

section
variable {s : Dev} {q : Requester} {off : Nat}

theorem regWrite_nw (w : Word) (h : s.takes q .nw) (ho : ¬off < 0x40) (hw : nwWritable off = true) :
    s.regWrite q .nw off w = s.nwWrite q off w := regWrite_effect w h ho hw (shadowedReg_nw off) rfl

/-- A requester that reaches the NW page is not the debug path (R506). -/
theorem ne_debug_of_nw (h : s.takes q .nw) : q ≠ .debug := fun e => h.1.2.2.1 ⟨e, .inr rfl⟩

/-- A write of a protected register goes through the sequence. -/
theorem regWrite_cfg (w : Word) (h : s.takes q .nw) (ho : off ∈ cfgOffsets) : s.regWrite q .nw off w = s.nwProtected q off w := by
  have bounds := cfgOffsets_bounds off ho
  have watchdog : off ≠ 0x64 := by
    rintro rfl
    exact absurd ho (by decide)
  rw [regWrite_nw w h (by omega) (cfgOffsets_writable ho), Dev.nwWrite, if_neg (by omega), if_neg (by omega), if_neg (by omega),
    if_neg watchdog, if_pos (show nwConfig off = true from List.contains_iff_mem.2 ho)]

theorem regWrite_seal (w : Word) (h : s.takes q .nw) : s.regWrite q .nw 0x58 w = s.nwProtected q 0x58 w := by
  rw [regWrite_nw w h (by decide) (by decide), Dev.nwWrite, if_neg (by decide), if_neg (by decide), if_pos rfl]

/-- A complete sequence in time is used up. -/
theorem takeUnlock_complete (h : s.takes q .nw) (hu : s.unlockStep q = 2) (ht : s.nwNow ≤ fget code0 s.nw.unlockAt q.code + 100000) :
    s.takeUnlock q = (true, s.setUnlock q 0) := by
  rw [Dev.takeUnlock, if_neg (ne_debug_of_nw h), if_neg (by simp [hu]), if_neg (by omega)]

theorem nwProtected_incomplete (w : Word) (h : s.takes q .nw) (hu : s.unlockStep q ≠ 2) :
    s.nwProtected q off w = (s.nwOtherWrite q).refuse .nw := by
  rw [Dev.nwProtected, Dev.takeUnlock, if_neg (ne_debug_of_nw h), if_pos hu]
  rfl

/-- What a complete sequence lets through: in PERMIT and RELEASING, only a reduction (R507). -/
theorem nwProtected_complete (w : Word) (h : s.takes q .nw) (hu : s.unlockStep q = 2)
    (ht : s.nwNow ≤ fget code0 s.nw.unlockAt q.code + 100000) :
    s.nwProtected q off w = (
      let b := s.setUnlock q 0
      if (b.releasing && !(b.onlyReduces off w)) = true then b.refuse .nw
      else if off = 0x58 then b.sealGo q w
      else if off = 0x54 then
        let d := b.record 0x0034 .info Page.nw.base off w.toNat q.code
        if d.on F.NW_CFG_SW_RESET_EN then d.resetEdgeCore else d
      else b.cfgWrite q off w) := by
  rw [Dev.nwProtected, takeUnlock_complete h hu ht]
  rfl

/-! ### CMD (R482, R509) -/

theorem putF_cmd {lo : Nat} (h : s.takes q .nw) : s.putF q ⟨.nw, 0x54, lo, 1⟩ 1 = s.nwWrite q 0x54 (setBits 0#32 lo 1 1) :=
  putF_wo (f := ⟨.nw, 0x54, lo, 1⟩) 1 h (show ¬0x54 < 0x40 by decide) (show nwWritable 0x54 = true by decide) (shadowedReg_nw 0x54) rfl
    (show rwMask .nw 0x54 = 0 by decide)

theorem cmdSwReset_eq (h : s.takes q .nw) : s.cmdSwReset q = s.nwProtected q 0x54 2#32 := by
  refine (putF_cmd h).trans ?_
  rw [Dev.nwWrite, if_neg (by decide), if_pos rfl]
  exact if_pos (by decide)

theorem cmdHostTrip_eq (h : s.takes q .nw) : s.cmdHostTrip q = s.hostTrip q := by
  refine (putF_cmd h).trans ?_
  rw [Dev.nwWrite, if_neg (by decide), if_pos rfl]
  exact (if_neg (by decide)).trans (if_pos (by decide))

/-- A software reset edge in a complete sequence (R485, R506). -/
theorem cmdSwReset_edge (h : s.takes q .nw) (hu : s.unlockStep q = 2) (ht : s.nwNow ≤ fget code0 s.nw.unlockAt q.code + 100000)
    (hr : s.releasing = false) :
    s.cmdSwReset q = (
      let c := (s.setUnlock q 0).record 0x0034 .info Page.nw.base 0x54 2 q.code
      if c.on F.NW_CFG_SW_RESET_EN then c.resetEdgeCore else c) := by
  have still : (s.setUnlock q 0).releasing = false := hr
  rw [cmdSwReset_eq h, nwProtected_complete 2#32 h hu ht]
  simp only [still, Bool.false_and, Bool.false_eq_true, if_false]
  rfl

end

/-! ### Reset edges (R485, R486) -/

theorem resetEdge_pulse {s : Dev} {n lo : Nat} (h50 : 50 ≤ n) (h3000 : n ≤ 3000) (hs : s.nw.stuck = false ∨ 50 ≤ lo) :
    s.resetEdge n lo = { s with nw := { s.nw with stuck := false } }.resetEdgeCore := by
  refine if_neg ?_
  rintro (h | h | ⟨hstuck, h⟩)
  · omega
  · omega
  · rcases hs with hs | hs
    · simp [hs] at hstuck
    · omega

/-- A feedback input that changes while a reset edge waits. -/
theorem feedbackOff_waiting {s b : Dev} {c : Fin 4} {off : Bool} {t : Nat}
    (hb : b = s.sf F.NW_PERMIT_STATUS_FEEDBACK (setBit (s.gf F.NW_PERMIT_STATUS_FEEDBACK) c (!off))) (ht : b.nw.edgeAt = some t) :
    s.feedbackOff c off = if (!b.fbOff) = true then b else if t + b.fbTime < b.nwNow ∨ (!b.edgeOk) = true then b.rejectEdge true
      else b.acceptEdge := by
  rw [Dev.feedbackOff]
  simp only [← hb, ht]

theorem feedbackOff_idle {s b : Dev} {c : Fin 4} {off : Bool}
    (hb : b = s.sf F.NW_PERMIT_STATUS_FEEDBACK (setBit (s.gf F.NW_PERMIT_STATUS_FEEDBACK) c (!off))) (ht : b.nw.edgeAt = none) :
    s.feedbackOff c off = b := by
  rw [Dev.feedbackOff]
  simp only [← hb, ht]

/-- The first enabled channel without feedback. -/
theorem find_missing (m f : Nat) :
    (List.range 4).find? (fun c => bit (Nat.xor m (Nat.land m f)) c) = (List.range 4).find? (fun k => bit m k && !bit f k) := by
  simp only [bit_xor_land]

/-- Settles O46: pulses, stuck pins, host trips and feedback lead where the state and the conditions of a reset edge say. -/
theorem nwEdges : Obligations.NwEdges := by
  unfold Obligations.NwEdges
  refine ⟨?accepted, ?waits, ?rejected, ?ignored, ?stuck, ?swEdge, ?swPlain, ?hostTrip, ?fbTimeout, ?fbStill, ?fbAccepts, ?relOn,
    ?relTimeout⟩
  case accepted =>
    rintro s n lo b h50 h3000 hs rfl hok hoff
    exact done_eq ((resetEdge_pulse h50 h3000 hs).trans ((if_neg (by simp [hok])).trans (if_pos hoff)))
  case waits =>
    rintro s n lo b h50 h3000 hs rfl hok hoff
    exact done_eq ((resetEdge_pulse h50 h3000 hs).trans ((if_neg (by simp [hok])).trans (if_neg (by simp [hoff]))))
  case rejected =>
    rintro s n lo b h50 h3000 hs rfl hok
    exact done_eq ((resetEdge_pulse h50 h3000 hs).trans (if_pos (by simp [hok])))
  case ignored => exact fun s n lo h => done_eq (if_pos h)
  case stuck => exact fun s => ⟨{ s.dev with nw := { s.dev.nw with stuck := true } }, rfl, rfl, rfl⟩
  case swEdge =>
    rintro s q b c h hu ht hr rfl rfl hen
    exact done_eq ((cmdSwReset_edge h hu ht hr).trans (if_pos hen))
  case swPlain =>
    rintro s q b c h hu ht hr rfl rfl hen
    exact done_eq ((cmdSwReset_edge h hu ht hr).trans (if_neg (by simp [hen])))
  case hostTrip => exact fun s q h => done_eq (cmdHostTrip_eq h)
  case fbTimeout =>
    intro s t ht
    refine done_eq ?_
    rw [Dev.resetEdgeFbTimeout, ht]
  case fbStill =>
    intro s c off b hb hidle
    refine done_eq ?_
    cases ht : b.nw.edgeAt with
    | none => exact feedbackOff_idle hb ht
    | some t =>
      have on : b.fbOff = false := hidle.resolve_left (by simp [ht])
      exact (feedbackOff_waiting hb ht).trans (if_pos (by simp [on]))
  case fbAccepts =>
    intro s c off b t hb ht hoff hin hok
    exact done_eq ((feedbackOff_waiting hb ht).trans ((if_neg (by simp [hoff])).trans (if_neg (by simp [hok, hin]))))
  case relOn => exact fun s h => done_eq (if_neg (by simp [h]))
  case relTimeout =>
    rintro s b c h rfl hc
    refine done_eq ((if_neg (by simp [h])).trans ?_)
    simp only [find_missing, hc]
    rfl

/-! ### Tests, readback and feedback (R492, R494) -/

theorem testPulse_turn {s : Dev} {c : Fin 4} (hs : s.nwState = 3) (ht : s.nw.test = none) (hn : s.nextTest = some c.val) :
    s.testPulse c = (
      let b := s.advanceNw (max (s.nw.testAt + testSteps s.nw.lastTest c * (min 60000 (max 100 (s.gf F.NW_TP_CFG_PERIOD)) * 1000000) / 4)
        s.nw.testEnd)
      let d : Dev := { b with nw := { b.nw with test := some (c.val, b.nwNow), lastTest := c.val, testAt := b.nwNow } }
      (d.setDrive (setBit (d.gf F.NW_PERMIT_STATUS_DRIVE) c false)).sb F.NW_STATUS_TEST_ACTIVE true) :=
  if_neg (by simp [hs, ht, hn])

theorem testPulseEnd_ends {s : Dev} {c : Fin 4} {t : Nat} (sawOff : Bool) (ht : s.nw.test = some (c.val, t)) :
    s.testPulseEnd c sawOff = (
      let b := s.advanceNw (t + s.testWidth)
      let d : Dev := { b with nw := { b.nw with test := none, testEnd := b.nwNow + 200000 } }
      let e := d.setDrive (setBit (d.gf F.NW_PERMIT_STATUS_DRIVE) c true)
      if sawOff then e.inc F.NW_TESTS_COUNT else e.readbackLatch c) := by
  rw [Dev.testPulseEnd, ht]
  exact if_neg (by simp)

theorem readbackFault_off {s : Dev} {c : Fin 4} (on : Bool) (hd : bit (s.gf F.NW_PERMIT_STATUS_DRIVE) c = false) (ht : s.nw.test = none) :
    s.readbackFault c on = if on = true then s.readbackLatch c
      else s.sf F.NW_PERMIT_STATUS_READBACK (setBit (s.gf F.NW_PERMIT_STATUS_READBACK) c false) := by
  rw [Dev.readbackFault, ht]
  exact if_neg (by simp [hd])

/-- A feedback input that shows the other than its channel's command. -/
def Dev.fbDisagrees (s : Dev) (c : Nat) : Dev :=
  let d := s.sf F.NW_PERMIT_STATUS_FEEDBACK (setBit (s.gf F.NW_PERMIT_STATUS_FEEDBACK) c (!(bit (s.gf F.NW_PERMIT_STATUS_DRIVE) c)))
  { d with nw := { d.nw with fbBad := setBit d.nw.fbBad c true } }

theorem feedbackFault_latches {s : Dev} {c : Fin 4} (hs : s.nwState ≠ 2) (hm : bit s.permitMask c = true)
    (ht : s.on F.NW_STATUS_TEST_ACTIVE = false ∨ s.nw.lastTest ≠ c.val) : s.feedbackFault c = (s.fbDisagrees c).feedbackLatch c := by
  refine if_neg ?_
  rintro (h | h | ⟨h, h'⟩)
  · exact hs h
  · simp [hm] at h
  · rcases ht with ht | ht
    · simp [ht] at h
    · exact ht h'

theorem fbDisagrees_shows (s : Dev) (c : Fin 4) :
    bit ((s.fbDisagrees c).gf F.NW_PERMIT_STATUS_FEEDBACK) c = !(bit (s.gf F.NW_PERMIT_STATUS_DRIVE) c) := by
  have stored : (s.fbDisagrees c).gf F.NW_PERMIT_STATUS_FEEDBACK =
      setBit (s.gf F.NW_PERMIT_STATUS_FEEDBACK) c (!(bit (s.gf F.NW_PERMIT_STATUS_DRIVE) c)) % 2^4 :=
    gf_sf_same _ _ _ (Fld.ok_of_le (by decide))
  rw [stored, bit_eq_testBit, Nat.testBit_mod_two_pow, decide_eq_true c.isLt, Bool.true_and, ← bit_eq_testBit, bit_setBit_same]

theorem fbDisagrees_regsBut (s : Dev) (c : Nat) : s.regsBut (s.fbDisagrees c) [R.NW_PERMIT_STATUS] :=
  regsBut_sf (f := F.NW_PERMIT_STATUS_FEEDBACK) (regsBut_refl s _) _ (by decide)

/-! ### The watchdog (R484) -/

theorem cmdWatchdog_eq {s : Dev} {q : Requester} (v : Word) (h : s.takes q .nw) : s.cmdWatchdog q v = s.watchdog q v := by
  refine (regWrite_nw v h (by decide) (by decide)).trans ?_
  rw [Dev.nwWrite, if_neg (by decide), if_neg (by decide), if_neg (by decide), if_pos rfl]

/-- Settles O47: test pulses, readback, feedback and watchdog values each renew, count or latch. -/
theorem nwTests : Obligations.NwTests := by
  unfold Obligations.NwTests
  refine ⟨?pulse, ?sawOff, ?missed, ?readsOn, ?readsOff, ?feedback, ?serviced, ?foreign, ?wrong, ?timeout⟩
  case pulse =>
    rintro s c b hs ht hn rfl
    exact ⟨_, _, done_eq (testPulse_turn hs ht hn), rfl, rfl, rfl, rfl, rfl⟩
  case sawOff =>
    rintro s c t b ht rfl
    exact done_eq (testPulseEnd_ends true ht)
  case missed =>
    rintro s c t b e ht rfl rfl
    exact done_eq (testPulseEnd_ends false ht)
  case readsOn => exact fun s c hd ht => done_eq (readbackFault_off true hd ht)
  case readsOff => exact fun s c hd ht => done_eq (readbackFault_off false hd ht)
  case feedback =>
    intro s c hs hm ht
    exact ⟨s.dev.fbDisagrees c, done_eq (feedbackFault_latches hs hm ht), bit_setBit_same _ _ _, _, _, rfl,
      fbDisagrees_regsBut _ _, fbDisagrees_shows _ _⟩
  case serviced =>
    rintro s v b h rfl hv hl
    exact done_eq ((cmdWatchdog_eq v h).trans (if_pos ⟨rfl, hv, hl⟩))
  case foreign =>
    intro s q v h hq
    exact done_eq ((cmdWatchdog_eq v h).trans (if_neg fun e => hq e.1))
  case wrong =>
    rintro s v b h rfl hv
    refine done_eq ((cmdWatchdog_eq v h).trans (if_neg ?_))
    rintro ⟨-, hval, hnew⟩
    rcases hv with ⟨h5, ha⟩ | hlast
    · exact hval.elim h5 ha
    · exact hnew hlast
  case timeout =>
    rintro s b rfl
    exact done_eq rfl

/-! ### UNLOCK, configuration writes and SEAL (R502, R506 to R508) -/

section
variable {s : Dev} {q : Requester}

theorem cmdUnlock_eq (v : Word) (h : s.takes q .nw) : s.cmdUnlock q v = s.unlock q v := by
  refine (regWrite_nw v h (by decide) (by decide)).trans ?_
  rw [Dev.nwWrite, if_pos rfl]

theorem unlock_first (v : Word) (h : s.takes q .nw) (h0 : s.unlockStep q = 0) :
    s.unlock q v = if v.toNat = 0xA5C3 then s.setUnlock q 1 else s.raise C.NW_PROTECT_VIOLATION := by
  simp only [Dev.unlock, if_neg (ne_debug_of_nw h), h0]

theorem unlock_second (v : Word) (h : s.takes q .nw) (h1 : s.unlockStep q = 1) :
    s.unlock q v = if v.toNat = 0x3C5A then s.setUnlock q 2 else s.cancelUnlock q := by
  simp only [Dev.unlock, if_neg (ne_debug_of_nw h), h1]

/-- A sequence that has begun is cancelled by any value but the second in its place. -/
theorem unlock_cancels {v : Word} (h : s.takes q .nw) (h1 : 1 ≤ s.unlockStep q) (hv : s.unlockStep q ≠ 1 ∨ v.toNat ≠ 0x3C5A) :
    s.unlock q v = s.cancelUnlock q := by
  by_cases hs : s.unlockStep q = 1
  · exact (unlock_second v h hs).trans (if_neg (hv.resolve_left (by simp [hs])))
  · obtain ⟨n, hn⟩ := Nat.exists_eq_add_of_le (show 2 ≤ s.unlockStep q by omega)
    simp only [Dev.unlock, if_neg (ne_debug_of_nw h), hn, Nat.add_comm 2 n]

/-- A protected write lets a configuration register through that is stored outside PERMIT and RELEASING or only reduces. -/
theorem nwProtected_cfg {off : Nat} (w : Word) (h : s.takes q .nw) (hu : s.unlockStep q = 2)
    (ht : s.nwNow ≤ fget code0 s.nw.unlockAt q.code + 100000) (ho : off ∈ cfgOffsets)
    (hr : (s.setUnlock q 0).releasing = false ∨ (s.setUnlock q 0).onlyReduces off w = true) :
    s.nwProtected q off w = (s.setUnlock q 0).cfgWrite q off w := by
  have bounds := cfgOffsets_bounds off ho
  rw [nwProtected_complete w h hu ht]
  dsimp only
  rw [if_neg (by rcases hr with hr | hr <;> simp [hr]), if_neg (by omega), if_neg (by omega)]

theorem cfgEffect_window (k : Fin 3) (old : Word) :
    s.cfgEffect (0xC0 + 4 * k.val) old = ((s.fillWindow k id).startBuckets k s.nwNow).allCells := by
  rw [Dev.cfgEffect, if_neg (by omega), if_neg (by omega), if_neg (by omega), if_pos (by omega)]
  simp only [show (0xC0 + 4 * k.val - 0xC0) / 4 = k.val by omega]

theorem nwProtected_seal (w : Word) (h : s.takes q .nw) (hu : s.unlockStep q = 2)
    (ht : s.nwNow ≤ fget code0 s.nw.unlockAt q.code + 100000) (hr : (s.setUnlock q 0).releasing = false) :
    s.nwProtected q 0x58 w = (s.setUnlock q 0).sealGo q w := by
  rw [nwProtected_complete w h hu ht]
  simp only [hr, Bool.false_and, Bool.false_eq_true, if_false, if_true]

/-- The seal as it is set and recorded. -/
def Dev.sealNoted (s : Dev) (q : Requester) (crc : Word) : Dev :=
  (s.sb F.NW_STATUS_SEALED true).record 0x0034 .info Page.nw.base 0x58 crc.toNat q.code

theorem sealNoted_nw (crc : Word) : (s.sealNoted q crc).nw = s.nw := by
  obtain ⟨m, st, l, al, h⟩ := record_form (s.sb F.NW_STATUS_SEALED true) 0x0034 .info Page.nw.base 0x58 crc.toNat q.code
  rw [Dev.sealNoted, h]
  rfl

theorem sealGo_right {crc : Word} (hc : crc.toNat = s.cfgCrc) :
    s.sealGo q crc = if s.nw.sealedOnce = true then s.sealNoted q crc else (
      let d := s.sealNoted q crc
      (forN 3 (fun k (e : Dev) => e.fillWindow k (fun c => c * e.gf (F.NW_WIN_CFG_PRELOAD k) / 256))
        { d with nw := { d.nw with sealedOnce := true }, ledger := { d.ledger with sums := [] } }).allCells) := by
  rw [Dev.sealGo, if_neg (by simp [hc]), ← sealNoted_nw (s := s) (q := q) crc]
  rfl

end

/-- Settles O48: the unlock sequence, and what a write in it and without it does. -/
theorem nwWrites : Obligations.NwWrites := by
  unfold Obligations.NwWrites
  refine ⟨?first, ?second, ?wrongFirst, ?cancels, ?timeout, ?increases, ?stored, ?window, ?wrongCrc, ?sealedAgain, ?sealedFirst, ?refused⟩
  case first =>
    intro s q v h h0 hv
    exact done_eq ((cmdUnlock_eq v h).trans ((unlock_first v h h0).trans (if_pos hv)))
  case second =>
    intro s q v h h1 hv
    exact done_eq ((cmdUnlock_eq v h).trans ((unlock_second v h h1).trans (if_pos hv)))
  case wrongFirst =>
    intro s q v h h0 hv
    exact done_eq ((cmdUnlock_eq v h).trans ((unlock_first v h h0).trans (if_neg hv)))
  case cancels => exact fun s q v h h1 hv => done_eq ((cmdUnlock_eq v h).trans (unlock_cancels h h1 hv))
  case timeout => exact fun s q h => done_eq (if_pos h)
  case increases =>
    rintro s q b off w h hu ht rfl ho hr hred
    refine done_eq ((regWrite_cfg w h ho).trans ((nwProtected_complete w h hu ht).trans ?_))
    exact if_pos (by simp [hr, hred])
  case stored =>
    rintro s q b off w h hu ht rfl ho hr
    exact done_eq ((regWrite_cfg w h ho).trans (nwProtected_cfg w h hu ht ho hr))
  case window =>
    rintro s q b k w h hu ht rfl hr
    have ho : 0xC0 + 4 * k.val ∈ cfgOffsets := by revert k; decide
    refine done_eq ((regWrite_cfg w h ho).trans ((nwProtected_cfg w h hu ht ho (.inl hr)).trans ?_))
    rw [Dev.cfgWrite, cfgEffect_window]
  case wrongCrc =>
    rintro s q b w h hu ht rfl hr hc
    exact done_eq ((regWrite_seal w h).trans ((nwProtected_seal w h hu ht hr).trans (if_pos hc)))
  case sealedAgain =>
    rintro s q b w h hu ht rfl hr hc ho
    exact done_eq ((regWrite_seal w h).trans ((nwProtected_seal w h hu ht hr).trans ((sealGo_right hc).trans (if_pos ho))))
  case sealedFirst =>
    rintro s q b w h hu ht rfl hr hc ho
    exact done_eq ((regWrite_seal w h).trans ((nwProtected_seal w h hu ht hr).trans ((sealGo_right hc).trans (if_neg (by simp [ho])))))
  case refused =>
    intro s q off w h hu ho
    exact done_eq ((regWrite_cfg w h ho).trans (nwProtected_incomplete w h hu))

end Sys2Proof.Machine

/-! ## Rounds of enumeration (R442 to R450) -/

namespace Sys2Proof.Machine

/-! ### What a message changes (R418, R441) -/

/-- Only messages were sent: their blocks scrambled, free values drawn, output appended. -/
def Dev.Sent (s d : Dev) : Prop := ∃ l c o, d = { s with lanes := l, freeCtr := c, out := s.out ++ o }

theorem Dev.Sent.refl (s : Dev) : s.Sent s := ⟨s.lanes, s.freeCtr, [], by rw [List.append_nil]⟩

theorem Dev.Sent.trans {s d e : Dev} (h : s.Sent d) (h' : d.Sent e) : s.Sent e := by
  obtain ⟨l, c, o, rfl⟩ := h
  obtain ⟨l', c', o', rfl⟩ := h'
  exact ⟨l', c', o ++ o', by rw [List.append_assoc]⟩

/-- What was sent before stays sent. -/
theorem Dev.Sent.out {s d : Dev} (h : s.Sent d) {o : Out} (ho : o ∈ s.out) : o ∈ d.out := by
  obtain ⟨l, c, o', rfl⟩ := h
  exact List.mem_append_left _ ho

theorem Dev.Sent.regs {s d : Dev} (h : s.Sent d) : d.regs = s.regs := by
  obtain ⟨l, c, o, rfl⟩ := h
  rfl

theorem Dev.Sent.now {s d : Dev} (h : s.Sent d) : d.now = s.now := by
  obtain ⟨l, c, o, rfl⟩ := h
  rfl

theorem Dev.Sent.chain {s d : Dev} (h : s.Sent d) : d.chain = s.chain := by
  obtain ⟨l, c, o, rfl⟩ := h
  rfl

theorem Dev.Sent.gf {s d : Dev} (h : s.Sent d) (f : Fld) : d.gf f = s.gf f := gf_regs h.regs f

theorem sent_send (s : Dev) (o : Out) : s.Sent (s.send o) := ⟨s.lanes, s.freeCtr, [o], rfl⟩

theorem sent_free (s : Dev) : s.Sent s.free.2 := ⟨s.lanes, s.freeCtr + 1, [], by rw [List.append_nil]; rfl⟩

theorem sent_setLaneX (s : Dev) (n : Nat) (x : LaneX) : s.Sent (s.setLaneX n x) :=
  ⟨(s.setLaneX n x).lanes, s.freeCtr, [], by rw [List.append_nil]; rfl⟩

theorem sent_scrambler (s : Dev) (n : Nat) : s.Sent (s.scrambler n).2 := by
  unfold Dev.scrambler
  dsimp only
  split
  · exact .refl s
  · exact sent_free s

theorem sent_sendBlocks (s : Dev) (n : Nat) (bs : List KBlock) : s.Sent (s.sendBlocks n bs) :=
  ((sent_scrambler s n).trans (sent_setLaneX _ _ _)).trans (sent_send _ _)

/-- A message on a port, the first thing that the port sends. -/
theorem sendMsg_sends (s : Dev) (p : Nat) (m : List Nat) : (s.send (.krylink p m)).Sent (s.sendMsg p m) := by
  unfold Dev.sendMsg
  dsimp only
  split
  · split
    · exact sent_sendBlocks _ _ _
    · exact ((sent_free _).trans (sent_sendBlocks _ _ _)).trans (sent_sendBlocks _ _ _)
  · exact sent_sendBlocks _ _ _
  · exact sent_sendBlocks _ _ _
  · exact .refl _

theorem sendOn_sent (s : Dev) (p type : Nat) (bcast : Bool) (dest src : Nat) (pay : List Nat) :
    s.Sent (s.sendOn p type bcast dest src pay) := by
  unfold Dev.sendOn
  split
  · exact (sent_send s _).trans (sendMsg_sends s p _)
  · exact .refl s

/-- A port that carries messages sends the message. -/
theorem sendOn_out {s : Dev} {p : Nat} (type : Nat) (bcast : Bool) (dest src : Nat) (pay : List Nat) (h : s.carries p = true) :
    Out.krylink p (msgBytes type bcast dest src pay) ∈ (s.sendOn p type bcast dest src pay).out := by
  rw [Dev.sendOn, if_pos h]
  exact (sendMsg_sends s p _).out (List.mem_append_right _ List.mem_cons_self)

theorem relay_sent (s : Dev) (port type src : Nat) (pay : List Nat) : s.Sent (s.relay port type src pay) := sendOn_sent s _ _ _ _ _ _

/-! ### ALIGN_STATUS and the calendar's source follow (R455, R462) -/

/-- Registers, error notes and the servo's run counts changed, nothing else. -/
def Dev.Followed (s d : Dev) : Prop :=
  ∃ m f r e st l al g b, d = { s with
    regs := m, firstAt := f, reports := r, escalated := e, staging := st, lostSince := l, alm := al
    chain := { s.chain with good := g, bad := b } }

theorem followed_regs (s : Dev) (m : FMap Word) : s.Followed { s with regs := m } := ⟨m, _, _, _, _, _, _, _, _, rfl⟩

theorem followed_sf (s : Dev) (f : Fld) (v : Nat) : s.Followed (s.sf f v) := followed_regs s (s.sf f v).regs

theorem Dev.Followed.refl (s : Dev) : s.Followed s := followed_regs s s.regs

theorem Dev.Followed.trans {s d e : Dev} (h : s.Followed d) (h' : d.Followed e) : s.Followed e := by
  obtain ⟨m, f, r, x, st, l, al, g, b, rfl⟩ := h
  obtain ⟨m', f', r', x', st', l', al', g', b', rfl⟩ := h'
  exact ⟨m', f', r', x', st', l', al', g', b', rfl⟩

theorem followed_raise (s : Dev) (c : Cause) (src : Nat) : s.Followed (s.raise c src) := by
  obtain ⟨m, f, r, e, st, l, al, h⟩ := raiseBit_form s c.pg c.bit c.sev src
  exact ⟨m, f, r, e, st, l, al, s.chain.good, s.chain.bad, h⟩

theorem Dev.Followed.now {s d : Dev} (h : s.Followed d) : d.now = s.now := by
  obtain ⟨m, f, r, e, st, l, al, g, b, rfl⟩ := h
  rfl

theorem Dev.Followed.emit {s d : Dev} (h : s.Followed d) : d.emit = s.emit := by
  obtain ⟨m, f, r, e, st, l, al, g, b, rfl⟩ := h
  rfl

theorem Dev.Followed.out {s d : Dev} (h : s.Followed d) : d.out = s.out := by
  obtain ⟨m, f, r, e, st, l, al, g, b, rfl⟩ := h
  rfl

theorem Dev.Followed.link {s d : Dev} (h : s.Followed d) (p : Nat) : d.link p = s.link p := by
  obtain ⟨m, f, r, e, st, l, al, g, b, rfl⟩ := h
  rfl

/-- The registers in which the alignment state shows. -/
def alignRegs : List Reg := [R.CHAIN_ALIGN_STATUS, ⟨.chain, 0x20⟩, R.ERR_STATUS .chain, R.ERR_COUNT .chain, R.ERR_FIRST .chain]

theorem followed_inc (s : Dev) (f : Fld) : s.Followed (s.inc f) := followed_sf s f _

theorem raise_alignRegs (s : Dev) : s.regsBut (s.raise C.CHAIN_ALIGN_LOST) alignRegs := by
  have raised := raiseBit_regsBut s (g := .chain) C.CHAIN_ALIGN_LOST.bit C.CHAIN_ALIGN_LOST.sev 0 (by decide)
  exact regsBut_mono raised (by decide)

/-- The servo's runs of good and bad offsets start anew. -/
def Dev.noRuns (s : Dev) : Dev := { s with chain := { s.chain with good := 0, bad := 0 } }

theorem noRuns_follows (s : Dev) : s.Followed s.noRuns := ⟨_, _, _, _, _, _, _, 0, 0, rfl⟩

theorem noRuns_regsBut (s : Dev) (l : List Reg) : s.regsBut s.noRuns l := fun r _ => rd_regs rfl r

/-- A state of alignment is left for another. -/
def Dev.alignLeft (s : Dev) (v : Nat) : Dev := ((s.sf F.CHAIN_ALIGN_STATUS_STATE v).event E.CHAIN_ALIGN_CHANGE).noRuns

theorem setAlign_eq (s : Dev) (v : Nat) : s.setAlign v =
    if s.gf F.CHAIN_ALIGN_STATUS_STATE = v then s
    else if s.gf F.CHAIN_ALIGN_STATUS_STATE = 3 then ((s.alignLeft v).inc F.CHAIN_ALIGN_STATUS_LOSSES).raise C.CHAIN_ALIGN_LOST
    else s.alignLeft v := rfl

theorem alignLeft_follows (s : Dev) (v : Nat) : s.Followed (s.alignLeft v) ∧ s.regsBut (s.alignLeft v) alignRegs := by
  have shown : s.regsBut ((s.sf F.CHAIN_ALIGN_STATUS_STATE v).event E.CHAIN_ALIGN_CHANGE) alignRegs :=
    regsBut_sf (regsBut_sf (f := F.CHAIN_ALIGN_STATUS_STATE) (regsBut_refl s _) v (by decide)) 1 (by decide)
  exact ⟨((followed_sf s _ v).trans (followed_sf _ _ 1)).trans (noRuns_follows _), regsBut_trans shown (noRuns_regsBut _ _)⟩

theorem setAlign_follows (s : Dev) (v : Nat) : s.Followed (s.setAlign v) ∧ s.regsBut (s.setAlign v) alignRegs := by
  obtain ⟨left, shown⟩ := alignLeft_follows s v
  rw [setAlign_eq]
  split_ifs
  · exact ⟨.refl s, regsBut_refl s _⟩
  · have counted : s.regsBut ((s.alignLeft v).inc F.CHAIN_ALIGN_STATUS_LOSSES) alignRegs := regsBut_sf shown _ (by decide)
    exact ⟨(left.trans (followed_inc _ _)).trans (followed_raise _ _ _), regsBut_trans counted (raise_alignRegs _)⟩
  · exact ⟨left, shown⟩

theorem alignSync_follows (s : Dev) : s.Followed s.alignSync ∧ s.regsBut s.alignSync alignRegs := by
  have set (d : Dev) (b : Bool) (h : s.Followed d ∧ s.regsBut d alignRegs) :
      s.Followed (d.sb F.CHAIN_ALIGN_STATUS_QUALIFIED b) ∧ s.regsBut (d.sb F.CHAIN_ALIGN_STATUS_QUALIFIED b) alignRegs :=
    ⟨h.1.trans (followed_regs _ _), regsBut_sf (f := F.CHAIN_ALIGN_STATUS_QUALIFIED) h.2 _ (by decide)⟩
  unfold Dev.alignSync
  dsimp only
  refine set _ _ ?_
  split_ifs
  · exact setAlign_follows s 1
  · exact setAlign_follows s 0
  · exact setAlign_follows s 0
  · exact setAlign_follows s 4
  · exact ⟨.refl s, regsBut_refl s _⟩

/-- The registers in which the calendar's source shows. -/
def calRegs : List Reg := [R.TIME_CAL_CTRL, ⟨.time, 0x20⟩]

theorem setTaiValid_follows (s : Dev) (v : Bool) : s.Followed (s.setTaiValid v) ∧ s.regsBut (s.setTaiValid v) calRegs := by
  unfold Dev.setTaiValid
  split
  · exact ⟨.refl s, regsBut_refl s _⟩
  · exact ⟨followed_regs _ _, regsBut_sf (regsBut_sf (f := F.TIME_CAL_CTRL_TAI_VALID) (regsBut_refl s _) _ (by decide)) 1 (by decide)⟩

theorem calSource_follows (s : Dev) : s.Followed s.calSource ∧ s.regsBut s.calSource calRegs := by
  have off := setTaiValid_follows (s.sf F.TIME_CAL_CTRL_ACTIVE_SRC 0) false
  have source : s.regsBut (s.sf F.TIME_CAL_CTRL_ACTIVE_SRC 0) calRegs := regsBut_sf (regsBut_refl s _) 0 (by decide)
  unfold Dev.calSource
  dsimp only
  generalize (if s.pole then _ else _ : Bool) = stays
  cases stays
  · exact ⟨.trans (followed_regs _ _) off.1, regsBut_trans source off.2⟩
  · exact ⟨.refl s, regsBut_refl s _⟩

/-! ### ENUM_GO (R446) -/

/-- The word that ENUM_GO writes to CTRL: the enables as they are, with ENUM_GO set. -/
def goWord (x : Word) : Word := setBits (x &&& BitVec.ofNat 32 3) 4 1 1

theorem goWord_go (x : Word) : bits (goWord x) 4 1 = 1 := bits_setBits_same _ 1 (by decide)

theorem goWord_push (x : Word) : bits (goWord x) 5 1 = 0 :=
  (bits_setBits_above _ 1 (by decide) (by decide)).trans (bits_and_off x 3 5 1 (by decide))

theorem goWord_enables (x : Word) : goWord x &&& BitVec.ofNat 32 3 = x &&& BitVec.ofNat 32 3 :=
  setBits_and_mask (n := 2) x 1 (by decide) (by decide)

/-- The block once ENUM_GO has stored CTRL. -/
def Dev.goStored (s : Dev) : Dev := s.storeReg .chain 0x40 (goWord (s.rd R.CHAIN_CTRL))

theorem goStored_rewritten (s : Dev) : s.Rewritten s.goStored := by
  have same : mergeBits (s.rd R.CHAIN_CTRL) (goWord (s.rd R.CHAIN_CTRL)) (rwMask .chain 0x40) = s.rd R.CHAIN_CTRL :=
    mergeBits_of_and (goWord_enables _)
  have stored : s.goStored = s.wr R.CHAIN_CTRL (s.rd R.CHAIN_CTRL) := congrArg (s.wr R.CHAIN_CTRL) same
  rw [stored]
  exact rewritten_wr s _

/-- What ENUM_GO finds: CTRL as it was, and what follows a write of it. -/
def Dev.goReady (s : Dev) : Dev := s.goStored.alignSync.calSource

theorem cmdEnumGo_eq {s : Dev} {q : Requester} (h : s.takes q .chain) : s.cmdEnumGo q = s.goReady.enumGo := by
  have hput := putF_effect (f := F.CHAIN_CTRL_ENUM_GO) 1 h (by decide) (by decide) (by decide) rfl
  rw [regRead_chain q h.2 (by decide) (by decide) (by decide)] at hput
  refine hput.trans ?_
  have go : bits (goWord (s.rd R.CHAIN_CTRL)) 4 1 = 1 := goWord_go _
  have push : bits (goWord (s.rd R.CHAIN_CTRL)) 5 1 = 0 := goWord_push _
  change s.chainWrite q 0x40 (goWord (s.rd R.CHAIN_CTRL)) = _
  simp only [Dev.chainWrite, go, push, if_true, Nat.zero_ne_one, if_false]
  rfl

theorem goReady_follows (s : Dev) : s.Followed s.goReady ∧ s.regsBut s.goReady (alignRegs ++ calRegs) := by
  obtain ⟨m, hm⟩ := (goStored_rewritten s).only
  have stored : s.Followed s.goStored := hm ▸ followed_regs s m
  obtain ⟨followed, aligned⟩ := alignSync_follows s.goStored
  obtain ⟨followed', sourced⟩ := calSource_follows s.goStored.alignSync
  exact ⟨(stored.trans followed).trans followed',
    regsBut_trans (regsBut_trans (regsBut_mono (goStored_rewritten s).reads (by simp))
      (regsBut_mono aligned fun x hx => List.mem_append_left _ hx)) (regsBut_mono sourced fun x hx => List.mem_append_right _ hx)⟩

/-! #### A round begins -/

/-- The Pole unit's own address is 1. -/
def Dev.addressed (s : Dev) : Dev := if s.unit = 1 then s else s.takeAddr 1

/-- A round has a number, and the Pole unit its place in it; nothing is known of the ports. -/
def Dev.roundBegun (s : Dev) : Dev :=
  let s := (s.sf F.CHAIN_ROUND_ROUND (s.gf F.CHAIN_ROUND_ROUND + 1)).addressed
  let s := (s.sf F.CHAIN_STATUS_HOP 0).sf F.CHAIN_STATUS_ENUM_STATE 1
  let s : Dev := { s with chain := { s.chain with step := 1, stepAt := s.now, enumPort := none } }
  (s.setLink 0 { s.link 0 with partner := false }).setLink 1 { s.link 1 with partner := false }

theorem enumGo_pole {s : Dev} (h : s.pole = true) :
    s.enumGo = if s.roundBegun.carries 0 = true then s.roundBegun.sendEnum 0 2 0 s.roundBegun.codeVals else s.roundBegun.enumB 1 :=
  if_neg (by simp [h])

theorem enumGo_other {s : Dev} (h : s.pole = false) : s.enumGo = s.refuse .chain := if_pos (by simp [h])

theorem takeAddr_regs (s : Dev) (a : Nat) : (s.takeAddr a).regs = ((s.sf F.CHAIN_STATUS_ADDR a).sf F.CODE_CODE_STATUS_GEN_BUSY 1).regs := rfl

/-- The codes will be generated anew for the address, under the settings as they are. -/
theorem takeAddr_emit (s : Dev) (a : Nat) : (s.takeAddr a).emit = { s.emit with regenAt := some s.now } := rfl

/-- The registers that the begin of a round writes. -/
def roundRegs : List Reg := [R.CHAIN_ROUND, R.CHAIN_STATUS, R.CODE_CODE_STATUS]

theorem takeAddr_regsBut (s : Dev) (a : Nat) : s.regsBut (s.takeAddr a) [R.CHAIN_STATUS, R.CODE_CODE_STATUS] := by
  have written : s.regsBut ((s.sf F.CHAIN_STATUS_ADDR a).sf F.CODE_CODE_STATUS_GEN_BUSY 1) [R.CHAIN_STATUS, R.CODE_CODE_STATUS] :=
    regsBut_sf (f := F.CODE_CODE_STATUS_GEN_BUSY) (regsBut_sf (f := F.CHAIN_STATUS_ADDR) (regsBut_refl s _) a (by decide)) 1 (by decide)
  exact fun r hr => (rd_regs (takeAddr_regs s a) r).trans (written r hr)

theorem takeAddr_unit (s : Dev) {a : Nat} (h : a < 2048) : (s.takeAddr a).unit = a := by
  have shown : (s.sf F.CHAIN_STATUS_ADDR a).gf F.CHAIN_STATUS_ADDR = a % 2^11 := gf_sf_same _ _ _ (Fld.ok_of_le (by decide))
  rw [Dev.unit, gf_regs (takeAddr_regs s a), gf_sf_key (f := F.CODE_CODE_STATUS_GEN_BUSY) _ _ (by decide), shown]
  omega

/-- The settings that ENUM carries follow the generator's codes and the coordination registers. -/
theorem codeVals_eq {s d : Dev} {l : List Reg} (hr : s.regsBut d l) (hc : d.emit.codeCfg = s.emit.codeCfg) (hs : d.emit.codeSeed = s.emit.codeSeed)
    (hlo : ∀ x ∈ l, R.CHAIN_COORD_ANCHOR_LO.key ≠ x.key) (hhi : ∀ x ∈ l, R.CHAIN_COORD_ANCHOR_HI.key ≠ x.key)
    (hp : ∀ x ∈ l, R.CHAIN_COORD_PERIOD.key ≠ x.key) : d.codeVals = s.codeVals := by
  simp only [Dev.codeVals, Dev.g64, hc, hs]
  rw [regsBut_gf hr (f := F.CHAIN_COORD_ANCHOR_LO_NS) hlo, regsBut_gf hr (f := F.CHAIN_COORD_ANCHOR_HI_NS) hhi,
    regsBut_gf hr (f := F.CHAIN_COORD_PERIOD_PERIOD) hp]

theorem carries_eq {s d : Dev} {l : List Reg} (hr : s.regsBut d l) (p : Fin 2)
    (h0 : ∀ x ∈ l, (R.LANE_LINK_STATUS 6).key ≠ x.key) (h1 : ∀ x ∈ l, (R.LANE_LINK_STATUS 9).key ≠ x.key) : d.carries p = s.carries p := by
  rw [Dev.carries, Dev.carries, Dev.portWidth, Dev.portWidth]
  match p with
  | 0 => exact congrArg (fun w : Nat => decide (w ≠ 0)) (regsBut_gf hr (f := F.LANE_LINK_STATUS_PORT_WIDTH 6) h0)
  | 1 => exact congrArg (fun w : Nat => decide (w ≠ 0)) (regsBut_gf hr (f := F.LANE_LINK_STATUS_PORT_WIDTH 9) h1)

/-- What stands of the block when the Pole unit has taken its place. -/
structure Dev.Addressed (s d : Dev) : Prop where
  unit : d.unit = 1
  regs : s.regsBut d [R.CHAIN_STATUS, R.CODE_CODE_STATUS]
  cfg : d.emit.codeCfg = s.emit.codeCfg
  seed : d.emit.codeSeed = s.emit.codeSeed
  now : d.now = s.now

theorem addressed_addressed (s : Dev) : s.Addressed s.addressed := by
  unfold Dev.addressed
  split
  next h => exact ⟨h, regsBut_refl s _, rfl, rfl, rfl⟩
  next h =>
    refine ⟨takeAddr_unit s (by decide), takeAddr_regsBut s 1, ?_, ?_, rfl⟩
    · rw [takeAddr_emit]
    · rw [takeAddr_emit]

/-- What a round begins with on the Pole unit. -/
structure Dev.Begun (s d : Dev) : Prop where
  round : d.gf F.CHAIN_ROUND_ROUND = (s.gf F.CHAIN_ROUND_ROUND + 1) % 2^16
  unit : d.unit = 1
  hop : d.gf F.CHAIN_STATUS_HOP = 0
  state : d.gf F.CHAIN_STATUS_ENUM_STATE = 1
  step : d.chain.step = 1
  stepAt : d.chain.stepAt = s.now
  codes : d.codeVals = s.codeVals
  carries : ∀ p : Fin 2, d.carries p = s.carries p

theorem roundBegun_begun (s : Dev) : s.Begun s.roundBegun := by
  have numbered : s.regsBut (s.sf F.CHAIN_ROUND_ROUND (s.gf F.CHAIN_ROUND_ROUND + 1)) roundRegs := regsBut_sf (regsBut_refl s _) _ (by decide)
  obtain ⟨unit, regs, cfg, seed, now⟩ := addressed_addressed (s.sf F.CHAIN_ROUND_ROUND (s.gf F.CHAIN_ROUND_ROUND + 1))
  generalize hd : (s.sf F.CHAIN_ROUND_ROUND (s.gf F.CHAIN_ROUND_ROUND + 1)).addressed = d at unit regs cfg seed now
  have eq : s.roundBegun.regs = ((d.sf F.CHAIN_STATUS_HOP 0).sf F.CHAIN_STATUS_ENUM_STATE 1).regs := by rw [← hd]; rfl
  have all : s.regsBut ((d.sf F.CHAIN_STATUS_HOP 0).sf F.CHAIN_STATUS_ENUM_STATE 1) roundRegs :=
    regsBut_sf (f := F.CHAIN_STATUS_ENUM_STATE) (regsBut_sf (f := F.CHAIN_STATUS_HOP)
      (regsBut_trans numbered (regsBut_mono regs (by decide))) 0 (by decide)) 1 (by decide)
  have begun : s.regsBut s.roundBegun roundRegs := fun r hr => (rd_regs eq r).trans (all r hr)
  have number : d.gf F.CHAIN_ROUND_ROUND = (s.gf F.CHAIN_ROUND_ROUND + 1) % 2^16 :=
    (regsBut_gf regs (by decide)).trans (gf_sf_same _ _ _ (Fld.ok_of_le (by decide)))
  have hop : (d.sf F.CHAIN_STATUS_HOP 0).gf F.CHAIN_STATUS_HOP = 0 := gf_sf_same _ _ _ (Fld.ok_of_le (by decide))
  refine ⟨?round, ?unit, ?hop, ?state, ?step, ?stepAt, ?codes, ?carries⟩
  case round => rw [gf_regs eq, gf_sf_key _ _ (by decide), gf_sf_key _ _ (by decide), number]
  case unit =>
    rw [Dev.unit, gf_regs eq, gf_sf_of_apart _ _ (Or.inr (by decide)), gf_sf_of_apart _ _ (Or.inr (by decide))]
    exact unit
  case hop => rw [gf_regs eq, gf_sf_of_apart _ _ (Or.inr (by decide)), hop]
  case state =>
    rw [gf_regs eq]
    exact gf_sf_same _ _ _ (Fld.ok_of_le (by decide))
  case step => rfl
  case stepAt =>
    have same : s.roundBegun.chain.stepAt = d.now := by rw [← hd]; rfl
    exact same.trans now
  case codes =>
    have same : s.roundBegun.emit = d.emit := by rw [← hd]; rfl
    exact codeVals_eq begun ((congrArg _ same).trans cfg) ((congrArg _ same).trans seed) (by decide) (by decide) (by decide)
  case carries => exact fun p => carries_eq begun p (by decide) (by decide)

theorem sendEnum_sent (s : Dev) (port next hops : Nat) (vals : List Nat) : s.Sent (s.sendEnum port next hops vals) := sendOn_sent s _ _ _ _ _ _

/-- The ENUM that a port which carries messages sends. -/
theorem sendEnum_out {s : Dev} {port : Nat} (next hops : Nat) (vals : List Nat) (h : s.carries port = true) :
    Out.krylink port (msgBytes mEnum false 0 s.unit
      (payloadOf ([(2, s.gf F.CHAIN_ROUND_ROUND), (2, next), (2, hops)] ++ codeFields vals))) ∈ (s.sendEnum port next hops vals).out :=
  sendOn_out _ _ _ _ _ h

/-- Branch B's turn: branch A ended at `last`. -/
def Dev.branchB (s : Dev) (last : Nat) : Dev :=
  let d := s.sf F.CHAIN_UNITS_A_LAST last
  { d with chain := { d.chain with step := 2, stepAt := d.now } }

theorem branchB_regs (s : Dev) (last : Nat) : (s.branchB last).regs = (s.sf F.CHAIN_UNITS_A_LAST last).regs := rfl

theorem branchB_regsBut (s : Dev) (last : Nat) : s.regsBut (s.branchB last) [R.CHAIN_UNITS] := by
  have written : s.regsBut (s.sf F.CHAIN_UNITS_A_LAST last) [R.CHAIN_UNITS] := regsBut_sf (regsBut_refl s _) last (by decide)
  exact fun r hr => (rd_regs (branchB_regs s last) r).trans (written r hr)

theorem branchB_aLast (s : Dev) {last : Nat} (h : last < 2048) : (s.branchB last).aLast = last := by
  have shown : (s.sf F.CHAIN_UNITS_A_LAST last).gf F.CHAIN_UNITS_A_LAST = last % 2^11 := gf_sf_same _ _ _ (Fld.ok_of_le (by decide))
  rw [Dev.aLast, gf_regs (branchB_regs s last), shown]
  omega

theorem branchB_codeVals (s : Dev) (last : Nat) : (s.branchB last).codeVals = s.codeVals :=
  codeVals_eq (branchB_regsBut s last) rfl rfl (by decide) (by decide) (by decide)

theorem enumB_sends {s : Dev} (last : Nat) (h : s.carries 1 = true) :
    s.enumB last = (s.branchB last).sendEnum 1 (last + 1) 0 s.codeVals := by
  have written : s.regsBut (s.sf F.CHAIN_UNITS_A_LAST last) [R.CHAIN_UNITS] := regsBut_sf (regsBut_refl s _) last (by decide)
  have carries : (s.sf F.CHAIN_UNITS_A_LAST last).carries 1 = true := (carries_eq written 1 (by decide) (by decide)).trans h
  have codes : (s.sf F.CHAIN_UNITS_A_LAST last).codeVals = s.codeVals := codeVals_eq written rfl rfl (by decide) (by decide) (by decide)
  rw [← codes]
  exact if_pos carries

/-- What ENUM_GO finds, beside CTRL. -/
theorem goReady_begun (s : Dev) : s.Begun s.goReady.roundBegun := by
  obtain ⟨followed, regs⟩ := goReady_follows s
  obtain ⟨round, unit, hop, state, step, stepAt, codes, carries⟩ := roundBegun_begun s.goReady
  refine ⟨?_, unit, hop, state, step, stepAt.trans followed.now, codes.trans ?_, fun p => (carries p).trans ?_⟩
  · rw [round, regsBut_gf regs (by decide)]
  · exact codeVals_eq regs (by rw [followed.emit]) (by rw [followed.emit]) (by decide) (by decide) (by decide)
  · exact carries_eq regs p (by decide) (by decide)

theorem goReady_pole (s : Dev) : s.goReady.pole = s.pole := regsBut_on (goReady_follows s).2 (by decide)

/-! ### ENUM, ENUM_END and TOPOLOGY (R446, R447) -/

/-- A unit without an address takes part in the round. -/
theorem enum_joins {s : Dev} {p : Fin 2} {m : ChainMsg} {round next hops : Nat} {l : List Nat} (hp : s.pole = false) (hu : s.unit = 0)
    (hm : m.args = round :: next :: hops :: l) :
    s.enum p m = if 2047 < next then s.sendEnumEnd p round 2047 true else (
      let d := s.takeAddr next
      let d := (d.sf F.CHAIN_ROUND_ROUND round).sf F.CHAIN_STATUS_HOP (hops + 1)
      let d := d.sf F.CHAIN_STATUS_UPSTREAM (p.val + 1)
      let d := { d with chain := { d.chain with enumPort := some p.val, alt := false } }
      let d := (d.setLink p { d.link p with partner := true }).setLink (1 - p.val) { d.link (1 - p.val) with partner := false }
      let d := d.latchCode false l d.now
      if d.carries (1 - p.val) then d.sendEnum (1 - p.val) (next + 1) (hops + 1) l else d.sendEnumEnd p round next false) := by
  rw [Dev.enum, hm]
  exact (if_neg (by simp [hp])).trans (if_neg (by simp [hu]))

/-- ENUM_END of the round in progress, without an overflow, on the Pole unit. -/
theorem enumEnd_pole {s : Dev} {p : Fin 2} {m : ChainMsg} (hr : m.args.getD 0 0 = s.gf F.CHAIN_ROUND_ROUND) (hp : s.pole = true)
    (ho : m.args.getD 2 0 % 2 = 0) :
    s.enumEnd p m = (
      let b := s.setLink p { s.link p with partner := true }
      if b.chain.step = 1 ∧ p.val = 0 then b.enumB (m.args.getD 1 0)
      else if b.chain.step = 2 ∧ p.val = 1 then b.endRound (m.args.getD 1 0) b.aLast false 2 else b) := by
  have pole : (s.setLink p { s.link p with partner := true }).pole = true := hp
  rw [Dev.enumEnd, if_neg (not_not_intro hr)]
  dsimp only
  rw [if_pos pole, ho]
  rfl

theorem enumEnd_passes {s b : Dev} {p : Fin 2} {m : ChainMsg} {round last u : Nat} (hm : m.args = [round, last, 0])
    (hr : round = s.gf F.CHAIN_ROUND_ROUND) (hp : s.pole = false) (hu : s.chain.enumPort = some u) (hne : u ≠ p.val)
    (hb : b = s.setLink p { s.link p with partner := true }) :
    s.enumEnd p m = { b with chain := { b.chain with downEnd := last } }.sendEnumEnd u round last false := by
  have pole : b.pole = false := by rw [hb]; exact hp
  have port : b.chain.enumPort = some u := by rw [hb]; exact hu
  rw [Dev.enumEnd, hm, if_neg (by simp [hr])]
  simp only [← hb, pole, Bool.false_eq_true, if_false, port, if_neg hne]
  rfl

theorem enumTimeout_ends {s : Dev} (h : s.chain.step ≠ 0) :
    s.enumTimeout = (
      let b := s.advanceTo (s.chain.stepAt + max 1 (s.gf F.CHAIN_ENUM_CFG_TIMEOUT) * 1000000)
      if b.chain.step = 1 then b.endRound 1 1 false 3 else b.endRound b.aLast b.aLast false 3) := if_neg h

theorem topology_adopted {s b : Dev} {p : Fin 2} {m : ChainMsg} {round n a r : Nat} (hp : s.pole = false) (hs : m.src ≠ s.unit)
    (hm : m.args = [round, n, a, r]) (hr : round = s.gf F.CHAIN_ROUND_ROUND)
    (hb : b = s.relay p mTopology m.src (payloadOf [(2, round), (2, n), (2, a), (1, r)])) :
    s.topology p m = (
      let d := { b with chain := { b.chain with ring := r % 2 == 1, lostLinks := [], alt := false } }
      let d := (d.sf F.CHAIN_UNITS_N n).sf F.CHAIN_UNITS_A_LAST a
      let down := 1 - d.enumSide
      (d.setLink down { d.link down with partner := d.chain.ring || decide (d.unit ≠ d.aLast ∧ d.unit ≠ d.units) }).topoSync) := by
  have same : b.gf F.CHAIN_ROUND_ROUND = round := by
    rw [hb, hr]
    exact (relay_sent s _ _ _ _).gf _
  rw [Dev.topology, if_neg (by simp [hp, hs])]
  simp only [hm, List.getD_cons_zero, List.getD_cons_succ, ← hb, same, ne_eq, not_true_eq_false, if_false]

theorem linkEvent_passed {s b : Dev} {p : Fin 2} {m : ChainMsg} (hs : m.src ≠ s.unit) (hu : s.unit ≠ 0)
    (hb : b = s.relay p mLinkEvent m.src (payloadOf [(1, m.args.getD 0 0), (1, b2n (m.args.getD 1 0 == 1))])) :
    s.linkEvent p m = b.linkChange (b.linkOf m.src (m.args.getD 0 0)) (m.args.getD 1 0 == 1) := by
  have unit : b.unit = s.unit := by
    rw [hb]
    exact (relay_sent s _ _ _ _).gf _
  rw [Dev.linkEvent, if_neg fun h => hs h.1]
  simp only [← hb, unit, if_neg hu]

/-- Settles O42: rounds begin, pass on and end, joins and losses are told, and a bad message is counted. -/
theorem chainRound : Obligations.ChainRound := by
  unfold Obligations.ChainRound
  refine ⟨?goA, ?goB, ?goOther, ?enumTaken, ?enumFull, ?endA, ?endB, ?endPassed, ?timeoutA, ?timeoutB, ?topology, ?joins, ?joinPassed,
    ?linkEvent, ?crc⟩
  case goA =>
    intro s q h hp hc
    obtain ⟨round, unit, hop, state, step, stepAt, codes, carries⟩ := goReady_begun s.dev
    generalize hd : s.dev.goReady.roundBegun = d at round unit hop state step stepAt codes carries
    have hc' : d.carries 0 = true := (carries 0).trans hc
    have sent := sendEnum_sent d 0 2 0 s.dev.codeVals
    have go : s.dev.cmdEnumGo q = d.sendEnum 0 2 0 s.dev.codeVals := by
      rw [cmdEnumGo_eq h, enumGo_pole ((goReady_pole _).trans hp), hd, if_pos hc', codes]
    refine ⟨_, done_eq go, (sent.gf _).trans round, (sent.gf _).trans unit, (sent.gf _).trans hop, (sent.gf _).trans state, ?_, ?_, ?_⟩
    · rw [sent.chain, step]
    · rw [sent.chain, stepAt]
    · have out := sendEnum_out 2 0 s.dev.codeVals hc'
      rwa [unit, round] at out
  case goB =>
    intro s q h hp h0 h1
    obtain ⟨round, unit, hop, state, step, stepAt, codes, carries⟩ := goReady_begun s.dev
    generalize hd : s.dev.goReady.roundBegun = d at round unit hop state step stepAt codes carries
    have branch := branchB_regsBut d 1
    have silent : ¬d.carries 0 = true := Bool.eq_false_iff.1 ((carries 0).trans h0)
    have hc : d.carries 1 = true := (carries 1).trans h1
    have hc' : (d.branchB 1).carries 1 = true := (carries_eq branch 1 (by decide) (by decide)).trans hc
    have sent := sendEnum_sent (d.branchB 1) 1 2 0 s.dev.codeVals
    have unit' : (d.branchB 1).unit = 1 := (regsBut_gf branch (by decide)).trans unit
    have round' : (d.branchB 1).gf F.CHAIN_ROUND_ROUND = _ := (regsBut_gf branch (by decide)).trans round
    have state' : (d.branchB 1).gf F.CHAIN_STATUS_ENUM_STATE = 1 := (regsBut_gf branch (by decide)).trans state
    have go : s.dev.cmdEnumGo q = (d.branchB 1).sendEnum 1 2 0 s.dev.codeVals := by
      rw [cmdEnumGo_eq h, enumGo_pole ((goReady_pole _).trans hp), hd, if_neg silent, enumB_sends 1 hc, codes]
    refine ⟨_, done_eq go, (sent.gf _).trans round', (sent.gf _).trans unit', (sent.gf _).trans (branchB_aLast d (by decide)),
      (sent.gf _).trans state', ?_, ?_⟩
    · rw [sent.chain]
      rfl
    · have out := sendEnum_out 2 0 s.dev.codeVals hc'
      rwa [unit', round'] at out
  case goOther =>
    intro s q h hp
    refine ⟨s.dev.goStored, ⟨(goStored_rewritten _).only, (goStored_rewritten _).reads⟩, ?_⟩
    exact done_eq ((cmdEnumGo_eq h).trans (enumGo_other ((goReady_pole _).trans hp)))
  case enumTaken =>
    intro s p m round next hops l hp hu hm hn
    exact done_eq ((enum_joins hp hu hm).trans (if_neg (by omega)))
  case enumFull =>
    intro s p m round next hops l hp hu hm hn
    exact done_eq ((enum_joins hp hu hm).trans (if_pos hn))
  case endA =>
    rintro s m b hr hp ho hs rfl
    exact done_eq ((enumEnd_pole (p := 0) hr hp ho).trans (if_pos ⟨hs, rfl⟩))
  case endB =>
    rintro s m b hr hp ho hs rfl
    have step : (s.dev.setLink 1 { s.dev.link 1 with partner := true }).chain.step = 2 := hs
    exact done_eq ((enumEnd_pole (p := 1) hr hp ho).trans ((if_neg (by simp)).trans (if_pos ⟨step, rfl⟩)))
  case endPassed => exact fun s p m round last u b hm hr hp hu hne hb => done_eq (enumEnd_passes hm hr hp hu hne hb)
  case timeoutA =>
    rintro s b hs rfl
    have step : (s.dev.advanceTo (s.dev.chain.stepAt + max 1 (s.dev.gf F.CHAIN_ENUM_CFG_TIMEOUT) * 1000000)).chain.step = 1 := by
      obtain ⟨n, -, h⟩ := advanceTo_form s.dev (s.dev.chain.stepAt + max 1 (s.dev.gf F.CHAIN_ENUM_CFG_TIMEOUT) * 1000000)
      rw [h]
      exact hs
    exact done_eq ((enumTimeout_ends (by omega)).trans (if_pos step))
  case timeoutB =>
    rintro s b hs rfl
    have step : (s.dev.advanceTo (s.dev.chain.stepAt + max 1 (s.dev.gf F.CHAIN_ENUM_CFG_TIMEOUT) * 1000000)).chain.step = 2 := by
      obtain ⟨n, -, h⟩ := advanceTo_form s.dev (s.dev.chain.stepAt + max 1 (s.dev.gf F.CHAIN_ENUM_CFG_TIMEOUT) * 1000000)
      rw [h]
      exact hs
    exact done_eq ((enumTimeout_ends (by omega)).trans (if_neg (by omega)))
  case topology => exact fun s p m round n a r b hp hs hm hr hb => done_eq (topology_adopted hp hs hm hr hb)
  case joins => exact fun s p m hu hd => done_eq (if_pos ⟨hd, hu⟩)
  case joinPassed => exact fun s p m hd => done_eq (if_neg fun h => hd h.1)
  case linkEvent => exact fun s p m b hs hu hb => done_eq (linkEvent_passed hs hu hb)
  case crc => exact fun s p => done_eq rfl

end Sys2Proof.Machine

/-! ## Meridian and calendar time over the chain (R453 to R455, R462, R463, R466) -/

namespace Sys2Proof.Machine

/-! ### SYNC_INTERVAL (R453) -/

theorem Dev.Followed.syncAt {s d : Dev} (h : s.Followed d) : d.chain.syncAt = s.chain.syncAt := by
  obtain ⟨m, f, r, e, st, l, al, g, b, rfl⟩ := h
  rfl

/-- A port counts an answer that has not come. -/
def Dev.missCounted (s : Dev) (p : Nat) : Dev :=
  let x := s.link p
  s.setLink p { x with missed := if x.t1.isSome ∨ !(s.carries p) then min 8 (x.missed + 1) else 0 }

/-- A port sends DELAY_REQ. -/
def Dev.delayAsked (s : Dev) (p : Nat) : Dev :=
  let x := s.link p
  (s.setLink p { x with seq := (x.seq + 1) % 65536, t1 := some s.tick, lane := s.timingLane p }).sendOn p mDelayReq false 0 s.unit
    (payloadOf [(2, (x.seq + 1) % 65536)])

/-- What one port does at SYNC_INTERVAL. -/
def Dev.askDelay (s : Dev) (p : Nat) : Dev :=
  let d := s.missCounted p
  if d.carries p then d.delayAsked p else d.setLink p { d.link p with t1 := none }

/-- A port changes its own record and sends. -/
structure Dev.Asked (s d : Dev) (p : Nat) : Prop where
  regs : d.regs = s.regs
  now : d.now = s.now
  syncAt : d.chain.syncAt = s.chain.syncAt
  out : ∀ o ∈ s.out, o ∈ d.out
  others : ∀ k, k ≠ p → d.link k = s.link k

theorem asked_setLink (s : Dev) (p : Nat) (x : LinkX) : s.Asked (s.setLink p x) p :=
  ⟨rfl, rfl, rfl, fun _ h => h, fun k h => setLink_other s p x k h⟩

theorem Dev.Sent.asked {s d : Dev} (h : s.Sent d) (p : Nat) : s.Asked d p :=
  ⟨h.regs, h.now, congrArg _ h.chain, fun _ => h.out, fun k _ => congrArg (fun c : ChainX => fget link0 c.links k) h.chain⟩

theorem Dev.Asked.trans {s d e : Dev} {p : Nat} (h : s.Asked d p) (h' : d.Asked e p) : s.Asked e p :=
  ⟨h'.regs.trans h.regs, h'.now.trans h.now, h'.syncAt.trans h.syncAt, fun o ho => h'.out o (h.out o ho),
    fun k hk => (h'.others k hk).trans (h.others k hk)⟩

theorem delayAsked_asked (s : Dev) (p : Nat) : s.Asked (s.delayAsked p) p :=
  (asked_setLink s p _).trans ((sendOn_sent _ _ _ _ _ _ _).asked p)

theorem askDelay_asked (s : Dev) (p : Nat) : s.Asked (s.askDelay p) p := by
  have counted : s.Asked (s.missCounted p) p := asked_setLink s p _
  rw [Dev.askDelay]
  split
  · exact counted.trans (delayAsked_asked _ p)
  · exact counted.trans (asked_setLink _ p _)

/-- The registers decide whether a port carries messages, and in which unit. -/
theorem carries_regs {s d : Dev} (h : d.regs = s.regs) (p : Nat) : d.carries p = s.carries p := by
  rw [Dev.carries, Dev.carries, Dev.portWidth, Dev.portWidth, gf_regs h]

/-- A port that carries messages has asked. -/
structure Dev.HasAsked (s d : Dev) (p : Nat) : Prop where
  seq : (d.link p).seq = ((s.link p).seq + 1) % 65536
  t1 : (d.link p).t1 = some s.tick
  out : Out.krylink p (msgBytes mDelayReq false 0 s.unit (payloadOf [(2, ((s.link p).seq + 1) % 65536)])) ∈ d.out

theorem delayAsked_hasAsked {s : Dev} {p : Nat} (h : s.carries p = true) : s.HasAsked (s.delayAsked p) p := by
  have link : (s.delayAsked p).link p = { s.link p with seq := ((s.link p).seq + 1) % 65536, t1 := some s.tick, lane := s.timingLane p } := by
    refine (congrArg (fun c : ChainX => fget link0 c.links p) (sendOn_sent _ _ _ _ _ _ _).chain).trans ?_
    exact setLink_same s p _
  exact ⟨by rw [link], by rw [link], sendOn_out _ _ _ _ _ ((carries_regs rfl p).trans h)⟩

theorem askDelay_hasAsked {s : Dev} {p : Nat} (h : s.carries p = true) : s.HasAsked (s.askDelay p) p := by
  have carries : (s.missCounted p).carries p = true := (carries_regs rfl p).trans h
  obtain ⟨seq, t1, out⟩ := delayAsked_hasAsked carries
  have same : ((s.missCounted p).link p).seq = (s.link p).seq := by rw [Dev.missCounted, setLink_same]
  rw [Dev.askDelay, if_pos carries]
  rw [same] at seq out
  exact ⟨seq, t1, out⟩

/-- What others do afterwards leaves it so. -/
theorem Dev.HasAsked.later {s d e : Dev} {p : Nat} (h : s.HasAsked d p) (hl : e.link p = d.link p) (ho : ∀ o ∈ d.out, o ∈ e.out) :
    s.HasAsked e p := ⟨by rw [hl, h.seq], by rw [hl, h.t1], ho _ h.out⟩

/-- A port that has not been the other's concern has asked as it would have at first. -/
theorem Dev.HasAsked.earlier {s s' d : Dev} {p k : Nat} (h : s'.HasAsked d p) (hs : s.Asked s' k) (hk : p ≠ k) : s.HasAsked d p := by
  obtain ⟨seq, t1, out⟩ := h
  have unit : s'.unit = s.unit := gf_regs hs.regs _
  have tick : s'.tick = s.tick := congrArg (· * 256) hs.now
  rw [hs.others p hk] at seq out
  rw [tick] at t1
  rw [unit] at out
  exact ⟨seq, t1, out⟩

theorem askDelay_first {s : Dev} (h : s.carries 0 = true) : s.HasAsked ((s.askDelay 0).askDelay 1) 0 := by
  have second := askDelay_asked (s.askDelay 0) 1
  exact (askDelay_hasAsked h).later (second.others 0 (by decide)) second.out

theorem askDelay_second {s : Dev} (h : s.carries 1 = true) : s.HasAsked ((s.askDelay 0).askDelay 1) 1 := by
  have first := askDelay_asked s 0
  exact (askDelay_hasAsked ((carries_regs first.regs 1).trans h)).earlier first (by decide)

/-- Both ports ask in turn. -/
theorem askDelay_both {s : Dev} : ∀ p : Fin 2, s.carries p = true → s.HasAsked ((s.askDelay 0).askDelay 1) p
  | ⟨0, _⟩ => askDelay_first
  | ⟨1, _⟩ => askDelay_second

/-- Eight intervals without an answer of the upstream port are HOLD (R455). -/
def Dev.holdUnanswered (s : Dev) : Dev :=
  match s.upstream with
  | some u =>
    if !s.pole ∧ (s.link u).missed = 8 ∧ s.on F.CHAIN_CTRL_ALIGN_EN ∧ s.gf F.CHAIN_ALIGN_STATUS_STATE ≠ 4 then (s.setAlign 4).alignSync else s
  | none => s

theorem holdUnanswered_follows (s : Dev) : s.Followed s.holdUnanswered := by
  rw [Dev.holdUnanswered]
  split
  · split
    · exact (setAlign_follows s 4).1.trans (alignSync_follows _).1
    · exact .refl s
  · exact .refl s

/-- The interval has come. -/
def Dev.syncBegun (s : Dev) : Dev :=
  let b := s.advanceTo (s.chain.syncAt + s.syncUs * 1000)
  { b with chain := { b.chain with syncAt := b.now } }

theorem syncInterval_eq (s : Dev) : s.syncInterval = ((s.syncBegun.alignSync.askDelay 0).askDelay 1).holdUnanswered := rfl

theorem syncBegun_chain (s : Dev) : s.syncBegun.chain = { s.chain with syncAt := s.syncBegun.now } := by
  obtain ⟨n, -, h⟩ := advanceTo_form s (s.chain.syncAt + s.syncUs * 1000)
  rw [Dev.syncBegun, h]

theorem syncBegun_regs (s : Dev) : s.syncBegun.regs = s.regs := advanceTo_regs s _

/-- The interval of a port that carries messages. -/
theorem syncInterval_asks {s : Dev} {p : Fin 2} (h : s.carries p = true) :
    s.syncInterval.chain.syncAt = s.syncBegun.now ∧ (s.syncInterval.link p).seq = ((s.link p).seq + 1) % 65536
      ∧ (s.syncInterval.link p).t1 = some s.syncBegun.tick
      ∧ Out.krylink p (msgBytes mDelayReq false 0 s.unit (payloadOf [(2, ((s.link p).seq + 1) % 65536)])) ∈ s.syncInterval.out := by
  obtain ⟨followed, regs⟩ := alignSync_follows s.syncBegun
  have carries : s.syncBegun.alignSync.carries p = true :=
    (carries_eq regs p (by decide) (by decide)).trans ((carries_regs (syncBegun_regs s) p).trans h)
  have first := askDelay_asked s.syncBegun.alignSync 0
  have second := askDelay_asked (s.syncBegun.alignSync.askDelay 0) 1
  have last := holdUnanswered_follows ((s.syncBegun.alignSync.askDelay 0).askDelay 1)
  obtain ⟨seq, t1, out⟩ := (askDelay_both p carries).later (last.link p) (fun o ho => by rw [last.out]; exact ho)
  have link : s.syncBegun.alignSync.link p = s.link p := by
    refine (followed.link p).trans ?_
    rw [Dev.link, syncBegun_chain]
    rfl
  have unit : s.syncBegun.alignSync.unit = s.unit := (regsBut_gf regs (by decide)).trans (gf_regs (syncBegun_regs s) _)
  have tick : s.syncBegun.alignSync.tick = s.syncBegun.tick := congrArg (· * 256) followed.now
  rw [syncInterval_eq]
  refine ⟨?_, ?_, ?_, ?_⟩
  · rw [last.syncAt, second.syncAt, first.syncAt, followed.syncAt, syncBegun_chain]
  · rw [seq, link]
  · rw [t1, tick]
  · rwa [link, unit] at out

/-! ### DELAY_RESP (R453 to R455) -/

/-- The port's question is answered. -/
def Dev.answeredOn (s : Dev) (p : Nat) : Dev := s.setLink p { s.link p with t1 := none, missed := 0 }

/-- An exchange on the upstream port shows in OFFSET and DELAY. -/
def Dev.measured (s : Dev) (p : Nat) (e : Int × Int) : Dev := ((s.answeredOn p).si F.CHAIN_OFFSET_O (sat32 e.1)).si F.CHAIN_DELAY_D e.2

theorem measured_regsBut (s : Dev) (p : Nat) (e : Int × Int) : s.regsBut (s.measured p e) [R.CHAIN_OFFSET, R.CHAIN_DELAY] := by
  have answered : s.regsBut (s.answeredOn p) [R.CHAIN_OFFSET, R.CHAIN_DELAY] := fun r _ => rd_regs rfl r
  have offset : s.regsBut ((s.answeredOn p).si F.CHAIN_OFFSET_O (sat32 e.1)) [R.CHAIN_OFFSET, R.CHAIN_DELAY] :=
    regsBut_sf answered _ (by decide)
  exact regsBut_sf offset _ (by decide)

/-- What the servo makes of an exchange. -/
def Dev.servo (s : Dev) (good : Bool) (e : Int × Int) : Dev :=
  if s.pole ∨ !(s.on F.CHAIN_CTRL_ALIGN_EN) then s
  else if !good ∨ s.on F.TIME_STATUS_HOLDOVER then (s.setAlign 4).alignSync
  else
    let st := s.gf F.CHAIN_ALIGN_STATUS_STATE
    let s := if st = 2 ∨ st = 3 then s else s.setAlign 2
    if s.gf F.CHAIN_ALIGN_STATUS_STATE = 2 ∧ s.gf F.CHAIN_STEP_LIMIT_NS * 256 < e.1.natAbs ∧ s.gf F.SCAN_STATUS_STATE ≠ 3 then
      (s.stepTime e.1).discipline (e.1 - 256 * ((2 * e.1 + 256) / 512))
    else s.discipline e.1

/-- In HOLD a qualified answer on the other side of a full ring turns the upstream port round (R455). -/
def Dev.sideTurned (s : Dev) (p : Nat) (good : Bool) : Dev :=
  if s.upstream = some (1 - p) ∧ s.fullRing ∧ decide (s.gf F.CHAIN_ALIGN_STATUS_STATE = 4) ∧ good then
    { s with chain := { s.chain with alt := !s.chain.alt } }.topoSync else s

/-- What an answer does once its port's question is taken back. -/
def Dev.judged (s : Dev) (p : Nat) (good : Bool) (e : Int × Int) : Dev :=
  let d := s.sideTurned p good
  if d.upstream ≠ some p then d else ((d.si F.CHAIN_OFFSET_O (sat32 e.1)).si F.CHAIN_DELAY_D e.2).servo good e

theorem judged_upstream {s : Dev} {p : Fin 2} {good : Bool} {e : Int × Int} (hu : s.upstream = some p.val) :
    s.judged p good e = ((s.si F.CHAIN_OFFSET_O (sat32 e.1)).si F.CHAIN_DELAY_D e.2).servo good e := by
  have stays : s.sideTurned p good = s := by
    refine if_neg fun h => ?_
    have other := h.1
    rw [hu, Option.some_inj] at other
    omega
  rw [Dev.judged, stays]
  exact if_neg (not_not_intro hu)

/-- The answer of the upstream port. -/
theorem delayRespCore_upstream {s : Dev} {p : Fin 2} {m : ChainMsg} {q t1 t2 t3 t4 g : Nat} (ht : (s.link p).t1 = some t1)
    (hm : m.args = [q, t2, t3, g]) (hq : (s.link p).seq = q) (hl : (s.link p).lane = s.timingLane p) (hu : s.upstream = some p.val) :
    s.delayRespCore p m t4 = (s.measured p (s.exchange p t1 t2 t3 t4)).servo (g == 1) (s.exchange p t1 t2 t3 t4) := by
  have upstream : (s.answeredOn p).upstream = some p.val := hu
  have judged : s.delayRespCore p m t4 = (s.answeredOn p).judged p (g == 1) (s.exchange p t1 t2 t3 t4) := by
    rw [Dev.delayRespCore, ht]
    simp only [hm, List.getD_cons_zero, List.getD_cons_succ]
    rw [if_neg (by simp [hq, hl])]
    rfl
  rw [judged, judged_upstream upstream]
  rfl

/-- An instant that has not moved makes no action late. -/
theorem delayResp_core {s : Dev} {p : Fin 2} {m : ChainMsg} {t4 : Nat} {d : Dev} (h : s.delayRespCore p m t4 = d) (hn : d.now = s.now) :
    s.delayResp p m t4 = d := by
  rw [Dev.delayResp, h]
  exact if_pos hn.le

section
variable {s : Dev} {p : Fin 2} {e : Int × Int}

/-- The servo of a unit that follows its upstream port looks at nothing that the measurement wrote. -/
theorem measured_reads (hp : s.pole = false) (ha : s.on F.CHAIN_CTRL_ALIGN_EN = true) :
    (s.measured p e).pole = false ∧ (s.measured p e).on F.CHAIN_CTRL_ALIGN_EN = true
      ∧ (s.measured p e).on F.TIME_STATUS_HOLDOVER = s.on F.TIME_STATUS_HOLDOVER
      ∧ (s.measured p e).gf F.CHAIN_ALIGN_STATUS_STATE = s.gf F.CHAIN_ALIGN_STATUS_STATE := by
  have regs := measured_regsBut s p e
  exact ⟨(regsBut_on regs (by decide)).trans hp, (regsBut_on regs (by decide)).trans ha, regsBut_on regs (by decide), regsBut_gf regs (by decide)⟩

theorem servo_aligned (hp : s.pole = false) (ha : s.on F.CHAIN_CTRL_ALIGN_EN = true) (hh : s.on F.TIME_STATUS_HOLDOVER = false)
    (hs : s.gf F.CHAIN_ALIGN_STATUS_STATE = 3) : (s.measured p e).servo true e = (s.measured p e).discipline e.1 := by
  obtain ⟨pole, en, hold, state⟩ := measured_reads (p := p) (e := e) hp ha
  rw [Dev.servo, if_neg (by simp [pole, en]), if_neg (by simp [hold, hh])]
  simp only [state, hs, or_true, if_true]
  exact if_neg fun h => absurd h.1 (by simp)

theorem servo_unqualified (hp : s.pole = false) (ha : s.on F.CHAIN_CTRL_ALIGN_EN = true) :
    (s.measured p e).servo false e = ((s.measured p e).setAlign 4).alignSync := by
  obtain ⟨pole, en, -, -⟩ := measured_reads (p := p) (e := e) hp ha
  rw [Dev.servo, if_neg (by simp [pole, en]), if_pos (by simp)]

end

/-! ### Calendar time (R462, R463, R466) -/

theorem sendCalTime_pole {s : Dev} (hp : s.pole = true) (hu : s.unit ≠ 0) :
    s.sendCalTime = { s with chain := { s.chain with calSent := s.now } }.broadcast mCalTime
      (payloadOf [(8, s.g64 F.TIME_TAI_BASE_LO_NS F.TIME_TAI_BASE_HI_NS), (8, s.g64 F.TIME_M_BASE_LO_NS F.TIME_M_BASE_HI_NS),
        (4, s.gf F.TIME_RATE_RATE), (2, s.utcOffset), (1, b2n (s.on F.TIME_CAL_CTRL_TAI_VALID))]) :=
  if_neg (by simp [hp, hu])

theorem calTimeBroadcast_pole {s : Dev} (hp : s.pole = true) (hu : s.unit ≠ 0) :
    s.calTimeBroadcast = (s.advanceTo (s.chain.calSent + 125000000)).sendCalTime := if_neg (by simp [hp, hu])

theorem calTime_adopted {s b : Dev} {p : Fin 2} {m : ChainMsg} {a0 a1 a2 a3 a4 : Nat} (hp : s.pole = false) (hs : m.src ≠ s.unit)
    (hm : m.args = [a0, a1, a2, a3, a4]) (hb : b = s.relay p mCalTime m.src (payloadOf [(8, a0), (8, a1), (4, a2), (2, a3), (1, a4)])) :
    s.calTime p m = (
      let d := (b.setMapping a0 a1 (toSigned 32 (a2 % 2^32))).sf F.TIME_UTC_OFFSET_OFFSET a3
      let d := { d with chain := { d.chain with calAt := d.now } }
      (d.sf F.TIME_CAL_CTRL_ACTIVE_SRC (if a4 % 2 = 1 then 3 else 0)).setTaiValid (a4 % 2 == 1)) := by
  have pole : b.pole = false := by
    rw [hb]
    exact (on_regs (relay_sent s _ _ _ _).regs _).trans hp
  rw [Dev.calTime, if_neg fun h => hs h.1]
  simp only [hm, List.getD_cons_zero, List.getD_cons_succ, ← hb, pole, Bool.false_eq_true, if_false]

theorem cmdSetCtrlGo_eq {s : Dev} {q : Requester} (h : s.takes q .time) : s.cmdSetCtrlGo q = s.setCtrlGo q := by
  refine (putF_wo (f := F.TIME_SET_CTRL_GO) 1 h (by decide) (by decide) (by decide) rfl (by decide)).trans ?_
  simp only [Dev.effect, Dev.timeWrite]
  exact (if_neg (by decide)).trans ((if_pos (by decide)).trans (if_pos (by decide)))

/-- Settles O43: intervals, answers and mappings, and how each changes alignment and the calendar. -/
theorem chainTime : Obligations.ChainTime := by
  unfold Obligations.ChainTime
  refine ⟨?interval, ?request, ?aligned, ?unqualified, ?broadcast, ?adopted, ?absent, ?set, ?refused⟩
  case interval =>
    rintro s p b h rfl
    obtain ⟨at_, seq, t1, out⟩ := syncInterval_asks h
    exact ⟨_, done_eq rfl, at_, seq, t1, out⟩
  case request =>
    rintro s p m t2 b rfl
    exact done_eq rfl
  case aligned =>
    rintro s p m q t1 t2 t3 t4 e b ht hm hq hl hu hp ha hh hs rfl rfl hn
    exact done_eq (delayResp_core ((delayRespCore_upstream ht hm hq hl hu).trans (servo_aligned hp ha hh hs)) hn)
  case unqualified =>
    rintro s p m q t1 t2 t3 t4 e b ht hm hq hl hu hp ha rfl rfl
    refine done_eq (delayResp_core ((delayRespCore_upstream ht hm hq hl hu).trans (servo_unqualified hp ha)) ?_)
    exact (alignSync_follows _).1.now.trans (setAlign_follows _ 4).1.now
  case broadcast =>
    rintro s b hp hu rfl
    obtain ⟨n, -, h⟩ := advanceTo_form s.dev (s.dev.chain.calSent + 125000000)
    refine done_eq ((calTimeBroadcast_pole hp hu).trans ?_)
    rw [h]
    exact sendCalTime_pole hp hu
  case adopted => exact fun s p m b a0 a1 a2 a3 a4 hp hs hm hb => done_eq (calTime_adopted hp hs hm hb)
  case absent => exact fun s hp hv => done_eq (if_neg (by simp [hp, hv]))
  case set => exact fun s q h hp hs => done_eq ((cmdSetCtrlGo_eq h).trans (if_neg (by simp [hp, hs])))
  case refused =>
    intro s q h hr
    exact done_eq ((cmdSetCtrlGo_eq h).trans (if_pos (by simpa using hr)))

end Sys2Proof.Machine

/-! ## What a settling leaves of the lanes and the monitor, and three statements that fail (R424, R426, R433, R522) -/

namespace Sys2Proof.Machine

/-! ### A calm block settles with its lanes and its monitor as they were -/

/-- The lanes, the monitor and Nightwatch but for what it senses are as before. -/
structure Dev.Aside (s d : Dev) : Prop where
  lanes : d.lanes = s.lanes
  mon : d.mon = s.mon
  nw : d.nw = s.nw
  state : d.nwState = s.nwState

theorem aside_refl (s : Dev) : s.Aside s := ⟨rfl, rfl, rfl, rfl⟩

theorem Dev.Aside.trans {s d e : Dev} (h : s.Aside d) (h' : d.Aside e) : s.Aside e :=
  ⟨h'.lanes.trans h.lanes, h'.mon.trans h.mon, h'.nw.trans h.nw, h'.state.trans h.state⟩

/-- A write of another register than Nightwatch's STATUS. -/
theorem aside_sf (s : Dev) (f : Fld) (v : Nat) (h : f.reg.key ≠ R.NW_STATUS.key) : s.Aside (s.sf f v) :=
  ⟨rfl, rfl, rfl, gf_sf_key s v (Ne.symm h)⟩

theorem aside_startFlush (s : Dev) : s.Aside s.startFlush := by
  have state : s.startFlush.nwState = s.nwState := regsBut_gf (startFlush_regsBut s) (by decide)
  obtain ⟨m, a, h⟩ := startFlush_form s
  exact ⟨by rw [h], by rw [h], by rw [h], state⟩

theorem aside_enter (s : Dev) (r : AlmRec) : s.Aside (s.enter r) := by
  have state : (s.enter r).nwState = s.nwState := regsBut_gf (enter_regsBut s r) (by decide)
  obtain ⟨m, st, a, h⟩ := enter_form s r
  exact ⟨by rw [h], by rw [h], by rw [h], state⟩

theorem aside_raiseLost (s : Dev) : s.Aside (s.raise C.ALM_RECORDS_LOST) := by
  have state : (s.raise C.ALM_RECORDS_LOST).nwState = s.nwState :=
    regsBut_gf (raiseBit_regsBut s (g := .alm) C.ALM_RECORDS_LOST.bit C.ALM_RECORDS_LOST.sev 0 (by decide)) (by decide)
  obtain ⟨m, f, r, e, st, l, al, h⟩ := raiseBit_form s C.ALM_RECORDS_LOST.pg C.ALM_RECORDS_LOST.bit C.ALM_RECORDS_LOST.sev 0
  have raised : s.raise C.ALM_RECORDS_LOST = _ := h
  exact ⟨by rw [raised], by rw [raised], by rw [raised], state⟩

theorem aside_alm (s : Dev) (l : Nat) (a : AlmX) : s.Aside { s with lostSince := l, alm := a } := ⟨rfl, rfl, rfl, rfl⟩

theorem aside_lostSync (s : Dev) : s.Aside s.lostSync := by
  have raised : s.Aside (if s.alm.lossRaised then s else { s with alm := { s.alm with lossRaised := true } }.raise C.ALM_RECORDS_LOST) := by
    split
    · exact aside_refl s
    · exact (aside_alm s s.lostSince _).trans (aside_raiseLost _)
  have found (d : Dev) : d.Aside (if d.almRoom .info then
      { d with lostSince := 0, alm := { d.alm with lossRaised := false } }.stage 0x0005 .degraded Page.alm.base d.lostSince 0 0 else d) := by
    split
    · exact (aside_alm d 0 _).trans (aside_enter _ _)
    · exact aside_refl d
  unfold Dev.lostSync
  split
  · exact aside_refl s
  · exact raised.trans (found _)

theorem aside_pfwSync (s : Dev) : s.Aside s.pfwSync := by
  unfold Dev.pfwSync
  split
  · exact (aside_alm s s.lostSince _).trans (aside_startFlush _)
  · exact aside_refl s

theorem aside_dropClosed (s : Dev) : s.Aside s.dropClosed := by
  unfold Dev.dropClosed
  split
  · exact ⟨rfl, rfl, rfl, rfl⟩
  · exact aside_refl s

theorem aside_alignSync (s : Dev) : s.Aside s.alignSync := by
  obtain ⟨⟨m, f, r, e, st, l, al, g, b, h⟩, regs⟩ := alignSync_follows s
  exact ⟨by rw [h], by rw [h], by rw [h], regsBut_gf regs (by decide)⟩

/-- What the thermal model has seen is noted. -/
def Dev.modeSeen (s : Dev) : Dev :=
  let hold := s.on F.TIME_STATUS_HOLDOVER
  let quar := s.quarMask
  let t := s.therm
  let ended := (t.sawHold && !hold) || decide (Nat.land t.sawQuar quar ≠ t.sawQuar)
  if t.sawHold = hold ∧ t.sawQuar = quar then s
  else { s with therm := { t with sawHold := hold, sawQuar := quar, guardTo := if ended then s.now + 1000000000 else t.guardTo } }

/-- STATUS.MODE follows. -/
def Dev.modeShown (s : Dev) : Dev :=
  if s.guarded = s.on F.THERM_STATUS_MODE then s
  else
    let d := s.sb F.THERM_STATUS_MODE s.guarded
    if !s.guarded ∧ d.therm.graceEnd.isSome then d.endGrace else d

theorem modeSync_eq (s : Dev) : s.modeSync = s.modeSeen.modeShown := rfl

theorem aside_therm (s : Dev) (x : ThermX) : s.Aside { s with therm := x } := ⟨rfl, rfl, rfl, rfl⟩

theorem aside_endGrace (s : Dev) : s.Aside s.endGrace :=
  (aside_therm s _).trans (aside_sf _ F.THERM_STATUS_REQUESTED _ (by decide))

theorem aside_modeSync (s : Dev) : s.Aside s.modeSync := by
  have seen : s.Aside s.modeSeen := by
    unfold Dev.modeSeen
    dsimp only
    split
    · exact aside_refl s
    · exact ⟨rfl, rfl, rfl, rfl⟩
  have shown (d : Dev) : d.Aside d.modeShown := by
    have set : d.Aside (d.sb F.THERM_STATUS_MODE d.guarded) := aside_sf d F.THERM_STATUS_MODE _ (by decide)
    unfold Dev.modeShown
    dsimp only
    split_ifs
    · exact aside_refl d
    · exact set.trans (aside_endGrace _)
    · exact set
  rw [modeSync_eq]
  exact seen.trans (shown _)

/-- No page drains late or quiesces, nothing of the calibration waits, no CONFIG is due, and Nightwatch has not been tested. -/
structure Dev.Calm (s : Dev) : Prop where
  pages : s.pages = []
  convs : s.convs = []
  slices : s.slices = []
  rz : s.rz = []
  taskRun : s.taskRun = []
  config : s.chain.config = []
  bist : s.res.bist = []
  tested : s.nw.tested = none
  edge : s.nw.edgeAt = none
  state : s.nwState = 0

section
variable {s : Dev}

theorem Dev.Calm.idleSync (h : s.Calm) : s.idleSync = s := by
  have convs : s.idleConvs = s := by rw [Dev.idleConvs, h.convs]; rfl
  have slices : s.idleSlices = s := by rw [Dev.idleSlices, h.slices]; rfl
  have rz : s.idleRz = s := by rw [Dev.idleRz, h.rz]; rfl
  have switch : s.idleSwitch = s := by rw [Dev.idleSwitch, h.taskRun]; rfl
  rw [Dev.idleSync, convs, slices, rz, switch, ite_self]

theorem Dev.Calm.pagesStay (h : s.Calm) : s.lateDrains = s ∧ s.clusterDrains = s ∧ s.quietSync = s := by
  have px (g : Page) : s.px g = {} := by rw [Dev.px, h.pages]; rfl
  refine ⟨by rw [Dev.lateDrains, h.pages]; rfl, ?_, by rw [Dev.quietSync, h.pages]; rfl⟩
  unfold Dev.clusterDrains
  refine forN_ind (P := fun d => d = s) 4 rfl fun q d _ hd => ?_
  subst hd
  exact if_neg fun hq => by simp [px] at hq

theorem Dev.Calm.configDue (h : s.Calm) (t : Nat) : s.configDue t = s := by
  rw [Dev.configDue, h.config]
  rfl

theorem Dev.Calm.bistPump (h : s.Calm) : s.bistPump = s := by
  rw [Dev.bistPump, h.bist]
  rfl

theorem Dev.Calm.settleFirst (h : s.Calm) : s.settleFirst = s.modeSync.alignSync.dropClosed.pfwSync.lostSync := by
  obtain ⟨late, clusters, quiet⟩ := h.pagesStay
  rw [Dev.settleFirst, h.idleSync, late, clusters, quiet]
  simp only [h.configDue, h.bistPump]

theorem Dev.Calm.aside_settleFirst (h : s.Calm) : s.Aside s.settleFirst := by
  rw [h.settleFirst]
  exact ((((aside_modeSync s).trans (aside_alignSync _)).trans (aside_dropClosed _)).trans (aside_pfwSync _)).trans (aside_lostSync _)

end

/-- Nightwatch's sensing leaves the lanes and the monitor. -/
theorem sensed_keeps (s : Dev) : s.sensed.lanes = s.lanes ∧ s.sensed.mon = s.mon := by
  have osc (d : Dev) : d.senseOsc.lanes = d.lanes ∧ d.senseOsc.mon = d.mon := by unfold Dev.senseOsc; split <;> exact ⟨rfl, rfl⟩
  have test (d : Dev) : d.testSync.lanes = d.lanes ∧ d.testSync.mon = d.mon := by unfold Dev.testSync; split <;> exact ⟨rfl, rfl⟩
  have feedback (d : Dev) : d.fbSync.lanes = d.lanes ∧ d.fbSync.mon = d.mon := by unfold Dev.fbSync; dsimp only; split <;> exact ⟨rfl, rfl⟩
  have sources (d : Dev) : d.senseSources.lanes = d.lanes ∧ d.senseSources.mon = d.mon := by
    unfold Dev.senseSources
    split <;> exact ⟨rfl, rfl⟩
  have fresh (d : Dev) : d.clearFresh.lanes = d.lanes ∧ d.clearFresh.mon = d.mon := by unfold Dev.clearFresh; split <;> exact ⟨rfl, rfl⟩
  constructor
  · exact ((((fresh _).1.trans (sources _).1).trans (feedback _).1).trans (test _).1).trans (osc s).1
  · exact ((((fresh _).2.trans (sources _).2).trans (feedback _).2).trans (test _).2).trans (osc s).2

theorem readySync_form (s : Dev) : ∃ m, s.readySync = { s with regs := m } := by
  unfold Dev.readySync
  dsimp only
  split <;> exact ⟨_, rfl⟩

theorem irqSync_keeps (s : Dev) : s.irqSync.lanes = s.lanes ∧ s.irqSync.mon = s.mon := by
  rw [irqSync_eq]
  obtain ⟨m, n, h, o, hd⟩ := (driveVectors_notified s).form
  obtain ⟨m', n', h', o', hp⟩ := (pbaSync_notified { s.driveVectors with
    int0 := s.driveVectors.pinLevel 0, int1 := s.driveVectors.pinLevel 1 }).form
  constructor <;> rw [hp, hd]

/-- A calm block settles with its lanes and its monitor as they were. -/
theorem Dev.Calm.settle {s : Dev} (h : s.Calm) : s.settle.lanes = s.lanes ∧ s.settle.mon = s.mon := by
  obtain ⟨lanes, mon, nw, state⟩ := h.aside_settleFirst
  have sensed : s.presettle = s.settleFirst.sensed :=
    nwSync_untested (state.trans h.state) ((congrArg NwX.tested nw).trans h.tested) ((congrArg NwX.edgeAt nw).trans h.edge)
  obtain ⟨sensedLanes, sensedMon⟩ := sensed_keeps s.settleFirst
  obtain ⟨m, hr⟩ := readySync_form s.presettle
  obtain ⟨irqLanes, irqMon⟩ := irqSync_keeps s.presettle.readySync
  rw [settle_eq, irqLanes, irqMon, hr, sensed]
  exact ⟨sensedLanes.trans lanes, sensedMon.trans mon⟩

/-! ### CH_EXC of the pair and the dwell's source (R522) -/

/-- The pair runs and channel 0 is enabled; the dwell of channel 5 has source 0. -/
def pairDev : Dev := { wit [(F.PAGE_STATE_POWER .mon, 2), (F.MON_CTRL_PAIR_RUN, 1), (F.MON_CH_CFG_EN 0, 1)] with
  mon := { dwell := some 5, exc := [(5, 0x80000000#32)] } }

/-- What the clause says of a write that gives source 0 to channel 0. -/
def pairStated : Dev :=
  let e := pairDev.storeReg .mon 0x104 0x80000000#32
  (e.putExc 0 (e.rd (R.MON_CH_EXC 0))).disturb 0

theorem pairDev_written_calm : (pairDev.cmdChExcWrite 0 .firmware 0x80000000#32).Calm :=
  ⟨rfl, rfl, rfl, rfl, rfl, rfl, rfl, rfl, rfl, by decide⟩

theorem pairStated_calm : pairStated.Calm := ⟨rfl, rfl, rfl, rfl, rfl, rfl, rfl, rfl, rfl, by decide⟩

/-- The source is dedicated to the pair, and the dwell's channel loses it. -/
theorem pairDev_dedicates : (pairDev.cmdChExcWrite 0 .firmware 0x80000000#32).mon.exc ≠ pairStated.mon.exc := by decide

/-- Refutes O50: a CH_EXC of the running pair that takes the source of the present dwell leaves the dwell's channel without excitation
(R522), which the clause on CH_EXC leaves out. -/
theorem not_monRun : ¬ Obligations.MonRun := by
  unfold Obligations.MonRun
  rintro ⟨-, -, -, -, -, -, -, h, -⟩
  have same : (pairDev.cmdChExcWrite 0 .firmware 0x80000000#32).settle = pairStated.settle :=
    after_inj (s := ⟨pairDev, []⟩) (h ⟨pairDev, []⟩ .firmware 0 0x80000000#32 _ (by decide) (by decide) (by decide) rfl)
  have mon := pairDev_written_calm.settle.2.symm.trans ((congrArg Dev.mon same).trans pairStated_calm.settle.2)
  exact pairDev_dedicates (congrArg MonX.exc mon)

/-! ### The eye of an ACTIVE lane (R433) -/

/-- Lane 0 is ACTIVE since 5 ns, as the clock was set back to 0; the lanes' store lists it after lane 1. -/
def eyeDev : Dev := { wit [(F.LANE_LINK_STATUS_STATE 0, 4), (F.LANE_MARGIN_MIN_WIDTH 0, 9), (F.RES_WEAR_CFG_MARGIN_SECS, 5)] with
  lanes := [(1, { eyeAt := 5 }), (0, { eyeAt := 5 })] }

/-- What the clause says of a narrow eye. -/
def eyeStated : Dev :=
  let b := eyeDev.advanceTo ((eyeDev.laneX 0).eyeAt + 1000000000)
  (((b.setLaneX 0 { b.laneX 0 with eyeAt := b.now, lowRun := 1 }).sf (F.LANE_MARGIN_EYE_WIDTH 0) (min 255 3)).sf
    (F.LANE_MARGIN_EYE_HEIGHT 0) (min 65535 0)).raise (C.LANE_MARGIN_LOW 0)

theorem eyeDev_measured_calm : (eyeDev.eyeMeasure 0 3 0).Calm := ⟨rfl, rfl, rfl, rfl, rfl, rfl, rfl, rfl, rfl, by decide⟩

theorem eyeStated_calm : eyeStated.Calm := ⟨rfl, rfl, rfl, rfl, rfl, rfl, rfl, rfl, rfl, by decide⟩

/-- The lane's record reads as at reset once the time is noted, and goes from the store before its count of narrow eyes enters it. -/
theorem eyeDev_stores : (eyeDev.eyeMeasure 0 3 0).lanes.length ≠ eyeStated.lanes.length := by decide

/-- Refutes O40: the time of a measurement and the count of narrow eyes are noted one after the other. In a block whose store of lanes is
not in order, the clause's single note leaves another store. -/
theorem not_laneAttempts : ¬ Obligations.LaneAttempts := by
  unfold Obligations.LaneAttempts
  rintro ⟨-, -, -, -, -, -, -, -, -, -, h, -⟩
  have same : (eyeDev.eyeMeasure 0 3 0).settle = eyeStated.settle :=
    after_inj (s := ⟨eyeDev, []⟩) (h ⟨eyeDev, []⟩ 0 3 0 1 _ (by decide) (by decide) (by decide) (by decide) rfl)
  have lanes := eyeDev_measured_calm.settle.1.symm.trans ((congrArg Dev.lanes same).trans eyeStated_calm.settle.1)
  exact eyeDev_stores (congrArg List.length lanes)

end Sys2Proof.Machine

/-! ## The end of a lane's TEST while TX_SLEEP asks for sleep (R426, R430): a statement that fails -/

namespace Sys2Proof.Machine

/-! ### A calm block in which lane 6 has begun an attempt -/

section
variable {s : Dev}

theorem Dev.Calm.sf (h : s.Calm) (f : Fld) (v : Nat) (hf : F.NW_STATUS_STATE.reg.key ≠ f.reg.key) : (s.sf f v).Calm :=
  { h with state := (gf_sf_key s v hf).trans h.state }

theorem Dev.Calm.setLaneX (h : s.Calm) (n : Nat) (x : LaneX) : (s.setLaneX n x).Calm := { h with }

theorem Dev.Calm.setLink (h : s.Calm) (p : Nat) (x : LinkX) : (s.setLink p x).Calm := { h with }

theorem Dev.Calm.onlyRegs {d : Dev} (h : s.Calm) (only : s.onlyRegs d) (regs : s.regsBut d []) : d.Calm := by
  have state : d.nwState = s.nwState := regsBut_gf regs (by simp)
  obtain ⟨m, rfl⟩ := only
  exact { h with state := state.trans h.state }

end

theorem onlyRegs_link {s d : Dev} (only : s.onlyRegs d) (p : Nat) : d.link p = s.link p := by
  obtain ⟨m, rfl⟩ := only
  rfl

/-- The block is calm, its port A is not lost, and lane 6 has begun an attempt. -/
structure Dev.Attempting (s : Dev) : Prop where
  calm : s.Calm
  found : (s.link 0).lost = false
  begun : (s.laneX 6).attempt.isSome = true

theorem Dev.Attempting.sf {s : Dev} (h : s.Attempting) (f : Fld) (v : Nat) (hf : F.NW_STATUS_STATE.reg.key ≠ f.reg.key) :
    (s.sf f v).Attempting :=
  ⟨h.calm.sf f v hf, h.found, h.begun⟩

/-- A lane that does not become ACTIVE changes registers alone. -/
theorem setLaneState_inactive (s : Dev) {v : Nat} (hv : v ≠ 4) (n : Nat) :
    s.setLaneState n v = s ∨ s.setLaneState n v = (s.sf (F.LANE_LINK_STATUS_STATE n) v).event (E.LANE_LINK_STATE n) := by
  unfold Dev.setLaneState
  rw [if_neg hv]
  exact ite_eq_or_eq _ _ _

theorem Dev.Calm.setLaneState {s : Dev} (h : s.Calm) {v : Nat} (hv : v ≠ 4) : (s.setLaneState 6 v).Calm := by
  rcases setLaneState_inactive s hv 6 with same | shown
  · rwa [same]
  · rw [shown]
    exact (h.sf _ v (by decide)).sf _ 1 (by decide)

theorem setLaneState_link (s : Dev) {v : Nat} (hv : v ≠ 4) (n p : Nat) : (s.setLaneState n v).link p = s.link p := by
  rcases setLaneState_inactive s hv n with same | shown
  · rw [same]
  · rw [shown]; rfl

theorem Dev.Attempting.setLaneState {s : Dev} (h : s.Attempting) {v : Nat} (hv : v ≠ 4) : (s.setLaneState 6 v).Attempting := by
  rcases setLaneState_inactive s hv 6 with same | shown
  · rwa [same]
  · rw [shown]
    exact (h.sf _ v (by decide)).sf _ 1 (by decide)

/-- A calm block with port A found. -/
theorem attempting_startAttempt {s : Dev} (calm : s.Calm) (found : (s.link 0).lost = false) : (s.startAttempt 6).Attempting := by
  have begun : (s.setLaneX 6 { s.laneX 6 with attempt := some s.now, trainRx := 0, ackRx := 0 }).Attempting :=
    ⟨calm.setLaneX 6 _, found, by rw [setLaneX_same]; rfl⟩
  have woken := (begun.sf (F.LANE_LINK_STATUS_TX_ASLEEP 6) 0 (by decide)).sf (F.LANE_LINK_TIMING_WAIT_NOW 6) 0 (by decide)
  unfold Dev.startAttempt
  dsimp only
  split_ifs
  · exact woken.setLaneState (by decide)
  · exact woken
  · exact woken.setLaneState (by decide)

/-- A port that was not lost only shows its width. -/
theorem Dev.Attempting.widthSync {s : Dev} (h : s.Attempting) : (s.widthSync 0).Attempting := by
  have narrowed : (if ((portLanes 0).filter s.laneUp).length < 2 then
      s.setLink 0 { s.link 0 with deskewed := false, deskFail := false } else s).Attempting := by
    split
    · exact ⟨h.calm.setLink 0 _, by rw [setLink_same]; exact h.found, h.begun⟩
    · exact h
  have shown (d : Dev) (hd : d.Attempting) (w : Nat) :
      ((portLanes 0).foldl (fun (e : Dev) n => e.sf (F.LANE_LINK_STATUS_PORT_WIDTH n) w) d).Attempting :=
    ((hd.sf _ w (by decide)).sf _ w (by decide)).sf _ w (by decide)
  unfold Dev.widthSync
  dsimp only
  rw [if_neg fun lost => Bool.false_ne_true ((shown _ narrowed _).found.symm.trans lost.2)]
  exact shown _ narrowed _

/-! ### TEST cleared under TX_SLEEP (R426, R430) -/

/-- Lane 6 is in TEST, LANE_CTRL.TX_SLEEP asks for its transmitter's sleep; lane 7 is ACTIVE and port A is not lost. -/
def testDev : Dev := (wit [(F.PAGE_STATE_POWER (.lane 6), 2), (F.LANE_LANE_CTRL_TEST 6, 1), (F.LANE_LINK_STATUS_STATE 6, 7),
  (F.LANE_LANE_CTRL_TX_SLEEP 6, 1), (F.LANE_LINK_STATUS_STATE 7, 4)]).setLink 0 { lost := false }

theorem testDev_calm : testDev.Calm := ⟨rfl, rfl, rfl, rfl, rfl, rfl, rfl, rfl, rfl, by decide⟩

theorem testDev_found : (testDev.link 0).lost = false := by decide

theorem testDev_ended_calm : (testDev.cmdTest 6 .firmware false).Calm := ⟨rfl, rfl, rfl, rfl, rfl, rfl, rfl, rfl, rfl, by decide⟩

/-- The lane sleeps and begins no attempt. -/
theorem testDev_ended_sleeps : ((testDev.cmdTest 6 .firmware false).laneX 6).attempt = none := by decide

/-- A lane whose checker is off does not lock. -/
theorem prbsSync_unchecked {s : Dev} {n : Nat} (h : s.on (F.LANE_PRBS_CTRL_CHK_EN n) = false) : s.prbsSync n = s := by
  unfold Dev.prbsSync
  rw [if_neg fun checked => by simp [h] at checked]

/-- What the clause says of the end of a lane's TEST. -/
def Dev.testEndStated (b : Dev) : Dev :=
  ((((b.sf (F.LANE_LANE_CTRL_TEST 6) 0).sf (F.LANE_PRBS_STATUS_LOCK 6) 0).setLaneState 6 1).startAttempt 6).widthSync 0

theorem attempting_testEndStated {b : Dev} (calm : b.Calm) (found : (b.link 0).lost = false) : b.testEndStated.Attempting := by
  have cleared : ((b.sf (F.LANE_LANE_CTRL_TEST 6) 0).sf (F.LANE_PRBS_STATUS_LOCK 6) 0).Calm :=
    (calm.sf _ 0 (by decide)).sf _ 0 (by decide)
  have detecting : (((b.sf (F.LANE_LANE_CTRL_TEST 6) 0).sf (F.LANE_PRBS_STATUS_LOCK 6) 0).setLaneState 6 1).link 0 = b.link 0 :=
    setLaneState_link _ (by decide) 6 0
  exact (attempting_startAttempt (cleared.setLaneState (by decide)) ((congrArg LinkX.lost detecting).trans found)).widthSync

/-- Refutes O41: a lane that leaves TEST while LANE_CTRL.TX_SLEEP is set goes to sleep (R426), and begins no attempt. -/
theorem not_laneControls : ¬ Obligations.LaneControls := by
  unfold Obligations.LaneControls
  rintro ⟨-, -, -, -, -, -, -, -, h, -⟩
  obtain ⟨b, only, regs, hb⟩ := h ⟨testDev, []⟩ 6 .firmware (by decide) (by decide) (by decide)
  rw [prbsSync_unchecked (by decide)] at only regs
  have same : (testDev.cmdTest 6 .firmware false).settle = b.testEndStated.settle := after_inj (s := ⟨testDev, []⟩) hb
  have found : (b.link 0).lost = false := by
    rw [onlyRegs_link only]
    exact testDev_found
  have stated := attempting_testEndStated (testDev_calm.onlyRegs only regs) found
  have lanes : (testDev.cmdTest 6 .firmware false).lanes = b.testEndStated.lanes :=
    testDev_ended_calm.settle.1.symm.trans ((congrArg Dev.lanes same).trans stated.calm.settle.1)
  have begun := stated.begun
  rw [Dev.laneX, ← lanes, ← Dev.laneX, testDev_ended_sleeps] at begun
  exact absurd begun (by decide)

end Sys2Proof.Machine
